-- ==== Sys2Proof/Word.lean ====
section
/-! DEFINITION. Octets, words and the plainest arithmetic the PX5120's manual uses: little-endian octet strings
(R50), saturation and the rounding `rnd` of the manual's conventions (round half to even), floor division on
integers, and the sparse table in one canonical form in which the model keeps everything the manual numbers. -/

namespace Sys2Proof

/-- One octet. -/
abbrev Octet := BitVec 8

/-- An octet string, lowest address first. -/
abbrev Octets := List Octet

/-- A 32-bit word of the word fabric, the log or an image. -/
abbrev Word32 := BitVec 32

/-- `n` octets of a natural number, little-endian (R50). -/
def leBytes : Nat → Nat → Octets
  | 0, _ => []
  | n + 1, v => BitVec.ofNat 8 v :: leBytes n (v / 256)

/-- The natural number of a little-endian octet string (R50). -/
def leNat : Octets → Nat
  | [] => 0
  | b :: bs => b.toNat + 256 * leNat bs

/-- The natural number of a big-endian octet string. -/
def beNat (bs : Octets) : Nat := bs.foldl (fun a b => 256 * a + b.toNat) 0

/-- `n` octets of a natural number, big-endian. -/
def beBytes (n v : Nat) : Octets := (leBytes n v).reverse

/-- An integer in `n` octets of two's complement, little-endian. -/
def leInt (n : Nat) (v : Int) : Octets := leBytes n (v % (2 ^ (8 * n) : Int)).toNat

/-- The two's complement reading of the low `w` bits of a natural number. -/
def signed (w v : Nat) : Int :=
  let u := v % 2 ^ w
  if 2 * u < 2 ^ w then (u : Int) else (u : Int) - (2 ^ w : Int)

/-- The unsigned reading of an integer in `w` bits. -/
def unsigned (w : Nat) (v : Int) : Nat := (v % (2 ^ w : Int)).toNat

/-- `v` limited to `lo … hi`. -/
def clampI (lo hi v : Int) : Int := if v < lo then lo else if hi < v then hi else v

/-- Saturation to `w` bits of two's complement. -/
def satW (w : Nat) (v : Int) : Int := clampI (-(2 ^ (w - 1) : Int)) ((2 ^ (w - 1) : Int) - 1) v

/-- Saturation to 16 bits. -/
def sat16 (v : Int) : Int := satW 16 v

/-- Saturation to 32 bits. -/
def sat32 (v : Int) : Int := satW 32 v

/-- Saturation to 64 bits. -/
def sat64 (v : Int) : Int := satW 64 v

/-- `x / d` rounded half to even, for a positive `d`. -/
def divHalfEven (x d : Int) : Int :=
  let q := x.fdiv d
  let r := x - q * d
  if 2 * r < d then q else if d < 2 * r then q + 1 else if q % 2 = 0 then q else q + 1

/-- `rnd(x, n)`: `x · 2⁻ⁿ` rounded half to even. -/
def rnd (x : Int) (n : Nat) : Int := divHalfEven x (2 ^ n : Int)

/-- `x · 2ᵏ` for an integer exponent, rounded half to even where `k` is negative. -/
def scaleBy (x : Int) (k : Int) : Int :=
  if 0 ≤ k then x * (2 ^ k.toNat : Int) else rnd x (-k).toNat

/-- The integer square root (largest `r` with `r² ≤ n`), by bisection on the bits. -/
def isqrtAux : Nat → Nat → Nat → Nat
  | 0, _, r => r
  | k + 1, n, r =>
    let c := r + 2 ^ k
    isqrtAux k n (if c * c ≤ n then c else r)

/-- The integer square root of `n`. -/
def isqrt (n : Nat) : Nat := isqrtAux (n.log2 / 2 + 1) n 0

/-- Bit `i` of a natural number. -/
def bitOf (v i : Nat) : Bool := v.testBit i

/-- The field `[hi:lo]` of a natural number. -/
def field (v hi lo : Nat) : Nat := v / 2 ^ lo % 2 ^ (hi + 1 - lo)

/-- `v` with bit `i` set or cleared. -/
def putBit (v i : Nat) (b : Bool) : Nat :=
  if b then v ||| 2 ^ i else v - (v &&& 2 ^ i)

/-- A Boolean as a bit. -/
def b2n (b : Bool) : Nat := if b then 1 else 0

/-- The octets `[off, off + len)` of a string; octets past the end are left out. -/
def slice (bs : Octets) (off len : Nat) : Octets := (bs.drop off).take len

/-- Little-endian unsigned field of an octet string. -/
def u8At (bs : Octets) (off : Nat) : Nat := leNat (slice bs off 1)
/-- U16 at an offset. -/
def u16At (bs : Octets) (off : Nat) : Nat := leNat (slice bs off 2)
/-- U32 at an offset. -/
def u32At (bs : Octets) (off : Nat) : Nat := leNat (slice bs off 4)
/-- U64 at an offset. -/
def u64At (bs : Octets) (off : Nat) : Nat := leNat (slice bs off 8)
/-- I8 at an offset. -/
def i8At (bs : Octets) (off : Nat) : Int := signed 8 (u8At bs off)
/-- I16 at an offset. -/
def i16At (bs : Octets) (off : Nat) : Int := signed 16 (u16At bs off)
/-- I32 at an offset. -/
def i32At (bs : Octets) (off : Nat) : Int := signed 32 (u32At bs off)
/-- I64 at an offset. -/
def i64At (bs : Octets) (off : Nat) : Int := signed 64 (u64At bs off)

/-- An ASCII or UTF-8 text as octets. -/
def textOctets (t : String) : Octets := t.toList.map (fun c => BitVec.ofNat 8 c.toNat)

/-- `n` zero octets. -/
def zeros (n : Nat) : Octets := List.replicate n 0

/-- A sparse table: the listed numbers with their values, in strictly rising order. What an unlisted number holds is
the table's default, which every operation names; no listed value equals it. -/
abbrev Tab (α : Type) := List (Nat × α)

/-- The value at `k`, `d` where `k` is not listed. -/
def Tab.get {α : Type} (d : α) : Tab α → Nat → α
  | [], _ => d
  | (j, v) :: r, k => if j = k then v else Tab.get d r k

/-- The value at `k`, none where `k` is not listed. -/
def Tab.find {α : Type} : Tab α → Nat → Option α
  | [], _ => none
  | (j, v) :: r, k => if j = k then some v else Tab.find r k

/-- The table with `k` no longer listed. -/
def Tab.erase {α : Type} : Tab α → Nat → Tab α
  | [], _ => []
  | (j, v) :: r, k => if j = k then Tab.erase r k else (j, v) :: Tab.erase r k

/-- The table with `v` listed at `k`, in its place of the order. -/
def Tab.insert {α : Type} : Tab α → Nat → α → Tab α
  | [], k, v => [(k, v)]
  | (j, w) :: r, k, v =>
    if k < j then (k, v) :: (j, w) :: r
    else if k = j then (k, v) :: r
    else (j, w) :: Tab.insert r k v

/-- The table holding `v` at `k`: listed, or removed where `v` is the default `d`. -/
def Tab.put {α : Type} [DecidableEq α] (d : α) (m : Tab α) (k : Nat) (v : α) : Tab α :=
  if v = d then Tab.erase m k else Tab.insert m k v

/-- Every listed number is above `lo`, strictly rising. -/
def Tab.risingFrom {α : Type} : Nat → Tab α → Bool
  | _, [] => true
  | lo, (j, _) :: r => decide (lo ≤ j) && Tab.risingFrom (j + 1) r

/-- The canonical form over the default `d`: strictly rising, and no entry equal to the default. -/
def Tab.wf {α : Type} [DecidableEq α] (d : α) (m : Tab α) : Bool :=
  Tab.risingFrom 0 m && m.all (fun e => decide (e.2 ≠ d))

/-- Replace the `i`-th element of a list; a list too short is unchanged. -/
def setAt {α : Type} : List α → Nat → α → List α
  | [], _, _ => []
  | _ :: r, 0, v => v :: r
  | x :: r, i + 1, v => x :: setAt r i v

/-- The `i`-th element of a list, `d` past its end. -/
def nth {α : Type} (d : α) : List α → Nat → α
  | [], _ => d
  | x :: _, 0 => x
  | _ :: r, i + 1 => nth d r i

/-- The octet string with `v` written at `off`; octets past the end are not written. -/
def patch : Octets → Nat → Octets → Octets
  | bs, _, [] => bs
  | bs, off, v :: vs => patch (setAt bs off v) (off + 1) vs

/-- The sum of a list of integers. -/
def sumI (l : List Int) : Int := l.foldl (· + ·) 0

end Sys2Proof
end

