-- ==== Sys2Proof/Machine/Parts/Base.lean ====
section
/-! DEFINITION. The parts of State that chapters 01 (islands, fabric, order of events, device states), 02 (dictionary),
19 (sediment log, alarms, export) and 20 (power, boot, restart) give the device. Plain data; each field's default is its
value at reset. -/

namespace Sys2Proof

/-- The nine clock islands (R13), in the numbering of R510. -/
inductive Island where
  | solv | ctrl | logic | metr | comm | house | mem | tbase | backup
  deriving DecidableEq, Repr

/-- The number of an island in `SOURCE` (R510). -/
def Island.num : Island → Nat
  | .solv => 0 | .ctrl => 1 | .logic => 2 | .metr => 3 | .comm => 4 | .house => 5 | .mem => 6 | .tbase => 7 | .backup => 8

/-- The island of a number of R510; numbers above 8 name none. -/
def Island.ofNum? : Nat → Option Island
  | 0 => some .solv | 1 => some .ctrl | 2 => some .logic | 3 => some .metr | 4 => some .comm
  | 5 => some .house | 6 => some .mem | 7 => some .tbase | 8 => some .backup | _ => none

/-- The fixed rank that settles ties of one slot (R27, step 4): lower is admitted first. -/
def Island.rank : Island → Nat
  | .backup => 0 | .metr => 1 | .ctrl => 2 | .solv => 3 | .comm => 4 | .logic => 5 | .mem => 6 | .tbase => 7 | .house => 8

/-- The clock period of an island in picoseconds (R13), rounded down. -/
def Island.periodPs : Island → Nat
  | .solv => 2000 | .ctrl => 2500 | .logic => 3333 | .metr => 10173 | .comm => 4000 | .house => 3333
  | .mem => 2500 | .tbase => 8000 | .backup => 30517578

namespace Machine

/-- Time: the moment of the last command (raw ns), device time (R33) and the rate at which the discipline of R429 makes
device time run against the raw clock. `acc` is the part of a TBASE cycle (in 10⁻⁹) not yet given or taken. -/
structure Clk where
  raw : Nat := 0
  dev : Nat := 0
  rate : Int := 0
  acc : Int := 0
  /-- R16: REFCLK present; the generators hold open loop while it is absent. -/
  refclk : Bool := true
  /-- R16: device time marked unsynchronised. -/
  unsync : Bool := false
  deriving DecidableEq, Repr

/-- The device states (R42). -/
inductive DevState where
  | off | boot | selftest | coldInit | warmInit | run | degraded | safeHold | service | parked
  deriving DecidableEq, Repr

/-- The code of a device state (R42). -/
def DevState.code : DevState → Nat
  | .off => 0 | .boot => 1 | .selftest => 2 | .coldInit => 3 | .warmInit => 4 | .run => 5 | .degraded => 6
  | .safeHold => 7 | .service => 8 | .parked => 9

/-- Device state, its causes and its entries (R42–R47). -/
structure Dev where
  state : DevState := .boot
  prev : DevState := .off
  stateTime : Nat := 0
  /-- `DEGRADED_CAUSE` (R46), bits [6:0]. -/
  degraded : Nat := 0
  /-- `HOLD_CAUSE` (R45), bit c for cause c. -/
  hold : Nat := 0
  lastRequest : Nat := 0
  bootCount : Nat := 0
  /-- R46: end of the 60 s window of FABRIC_FAULT and of CRITICAL_REBUILT (device time). -/
  fabricUntil : Nat := 0
  rebuiltUntil : Nat := 0
  /-- R14: islands whose spare generator is in service, by number. -/
  onSpare : List Nat := []
  /-- R14: islands whose clock is stopped, with the raw time by which it resumes. -/
  stopped : Tab Nat := []
  /-- R492: islands whose generator failed with no free spare; their clock stays stopped. -/
  dead : List Nat := []
  deriving DecidableEq, Repr

/-- The kinds of fabric words (R18). -/
inductive FabTag where
  | head | body | tail | sole | evhead | poison | ack | replay | fault | reserved
  deriving DecidableEq, Repr

/-- The kind that a 4-bit tag names (R18). -/
def FabTag.ofCode (t : BitVec 4) : FabTag :=
  match t.toNat with
  | 1 => .head | 2 => .body | 3 => .tail | 4 => .sole | 5 => .evhead | 6 => .poison | 7 => .ack | 8 => .replay | 9 => .fault
  | _ => .reserved

/-- A kind that travels in the forward direction (R18). -/
def FabTag.forward : FabTag → Bool
  | .head | .body | .tail | .sole | .evhead | .poison => true
  | _ => false

/-- What a fabric word says (R17): `TAG` [35:32] and `DATA` [31:0]; `PAR` follows from them. -/
structure FabWord where
  tag : BitVec 4 := 4
  data : BitVec 32 := 0
  deriving DecidableEq, Repr

/-- Whether the number of ones in the low `n` bits of `v` is odd. -/
def oddOnes (v : Nat) : Nat → Bool
  | 0 => false
  | n + 1 => xor (v.testBit n) (oddOnes v n)

/-- The kind of a word. -/
def FabWord.kind (w : FabWord) : FabTag := FabTag.ofCode w.tag

/-- Bits [35:0] of a word. -/
def FabWord.body (w : FabWord) : BitVec 36 := w.tag ++ w.data

/-- A fabric word as it crosses (R17): 37 bits, `PAR` [36] making the number of ones even. -/
def FabWord.bits (w : FabWord) : BitVec 37 := BitVec.ofBool (oddOnes w.body.toNat 36) ++ w.body

/-- What 37 received bits say. -/
def FabWord.ofBits (v : BitVec 37) : FabWord := { tag := v.extractLsb' 32 4, data := v.extractLsb' 0 32 }

/-- The parity of 37 received bits holds (R17). -/
def parityHolds (v : BitVec 37) : Bool := !oddOnes v.toNat 37

/-- The message kind, bits [23:16] of `DATA`, and the destination unit, bits [31:24] (R19). -/
def FabWord.msgKind (w : FabWord) : Nat := (w.data.extractLsb' 16 8).toNat
/-- See `FabWord.msgKind`. -/
def FabWord.unit (w : FabWord) : Nat := (w.data.extractLsb' 24 8).toNat

/-- A reverse word (R18): acknowledgement, replay request or fault report with its 5-bit sequence. -/
inductive RevWord where
  | ack (seq : Nat) | replay (seq : Nat) | fault (seq : Nat)
  deriving DecidableEq, Repr

/-- The fabric word of a reverse word (R18): its tag, the sequence in `DATA[4:0]`. -/
def RevWord.word : RevWord → FabWord
  | .ack q => { tag := 7, data := BitVec.ofNat 32 (q % 32) }
  | .replay q => { tag := 8, data := BitVec.ofNat 32 (q % 32) }
  | .fault q => { tag := 9, data := BitVec.ofNat 32 (q % 32) }

/-- One crossing (R17–R23): the sender's replay window and counters, the receiver's expected word, its open replay
request and what it has handed to the consumer. -/
structure Crossing where
  /-- Sender: position of the next word to send for the first time (modulo 32). -/
  sent : Nat := 0
  /-- Sender: the unacknowledged words, oldest first, at most 16. -/
  window : List FabWord := []
  /-- Sender: words to be sent again, counted from the window's start, after a REPLAY. -/
  resend : Option Nat := none
  /-- Sender: discarding the rest of a faulted message up to the next message. -/
  flushing : Bool := false
  /-- Receiver: sequence of the next word it accepts. -/
  expect : Nat := 0
  /-- Receiver: a REPLAY is open for the expected word: failed deliveries so far, repeated requests unanswered, raw time of
  the last request. -/
  waiting : Bool := false
  failed : Nat := 0
  repeats : Nat := 0
  askedAt : Nat := 0
  /-- Receiver: words of the message being received (first word first), and whether its rest is discarded. -/
  partialMsg : List FabWord := []
  discard : Bool := false
  /-- Receiver: the sequence of the word it declared faulted, until the sender has taken the `FAULT` (R22, R23). -/
  faultAt : Option Nat := none
  /-- Forward words waiting in the crossing while the receiving island's clock is stopped (R15): sequence, the word as sent, the bits
  received. -/
  fifo : List (Nat × FabWord × BitVec 37) := []
  /-- The words and messages handed to the consumer, POISON included, newest last. -/
  delivered : List FabWord := []
  /-- Reverse words sent by the receiver, newest last. -/
  reverse : List RevWord := []
  deriving DecidableEq, Repr

/-- One argument of an event (R511), at its natural width. -/
inductive EvArg where
  | u8 (v : Nat) | u16 (v : Nat) | u32 (v : Nat) | u64 (v : Nat)
  | i16 (v : Int) | i32 (v : Int) | i64 (v : Int)
  /-- a TIME64, packed as I32 µs relative to `ADMIT` -/
  | time (v : Nat)
  /-- a calendar time, packed as U32 s of calendar count modulo 2³² -/
  | cal (v : Int)
  | oct (v : Octets)
  deriving DecidableEq, Repr

/-- Whether an event carries a start or an end argument (R515). -/
inductive EvEdge where
  | plain | start | stop
  deriving DecidableEq, Repr

/-- An event waiting in its island's queue (R27–R31). -/
structure Ev where
  code : Nat
  unit : Nat
  args : List EvArg
  edge : EvEdge
  /-- capture timestamp (R29); for BACKUP the time at which HOUSE first sees it (R30) -/
  capture : Nat
  /-- an event of BACKUP that HOUSE has not seen yet: its capture timestamp is still to be filled in (R30) -/
  unseen : Bool := false
  /-- raw time of the slot at which its head is eligible (R27) -/
  eligible : Nat
  deriving DecidableEq, Repr

/-- A sediment-log entry (R510). -/
structure LogEnt where
  admitTime : Nat
  seq : Nat
  lag : Nat
  source : Nat
  unit : Nat
  code : Nat
  args : Octets
  deriving DecidableEq, Repr

/-- An alarm row (R515); `seq` is the sequence number of the latest raising event (R518). -/
structure AlmRow where
  sticky : Bool := false
  active : Bool := false
  count : Nat := 0
  first : Nat := 0
  last : Nat := 0
  seq : Nat := 0
  deriving DecidableEq, Repr

/-- The one-entry hold of a subscription's log path (R522). -/
structure LogHold where
  ent : LogEnt
  repeats : Nat
  lastSeq : Nat
  filled : Nat
  deriving DecidableEq, Repr

/-- A subscription (R517–R525). -/
structure Sub where
  path : Nat := 0
  content : Nat := 0
  islands : Nat := 0
  dest : Nat := 0
  port : Nat := 0
  almRate : Nat := 50
  burst : Nat := 32
  coalesce : Nat := 10
  pathRate : Nat := 1000000
  /-- dirty sources, rising; the last source served -/
  dirty : List Nat := []
  served : Nat := 4095
  /-- alarm tokens in 10⁻⁹, whether an alarm waits for one, with the raw time of their last reckoning; raw time at which the path's rate lets the next item go -/
  tokens : Nat := 0
  waiting : Bool := false
  credit : Nat := 0
  since : Nat := 0
  hold : Option LogHold := none
  logLost : Nat := 0
  logFirstLost : Nat := 0
  /-- trace records gathered per probe, with the raw time of the first (R523) -/
  gather : Tab (Nat × List Octets) := []
  traceLost : Nat := 0
  datagram : Nat := 0
  item : Nat := 0
  /-- SHED_COUNTS of this subscription (R525): alarm items, coalesced updates, token waits, coalesced log entries, lost log
  entries, lost trace records, gap items -/
  sentAlarms : Nat := 0
  coalesced : Nat := 0
  waits : Nat := 0
  logCoalesced : Nat := 0
  lostLog : Nat := 0
  lostTrace : Nat := 0
  gaps : Nat := 0
  deriving DecidableEq, Repr

/-- The event arbiter, the sediment log, the alarm table and the export (R27–R31, R510–R529). -/
structure Ledger where
  /-- events lost per island since its last gap event, by island number (R31); the queues themselves are in `Net` -/
  evLostBy : Tab Nat := []
  /-- raw time of the slot of the last admission -/
  lastSlot : Option Nat := none
  /-- events admitted since the boot event; `SEQ` is this count modulo 2³² -/
  count : Nat := 0
  log : Tab LogEnt := []
  alarms : Tab AlmRow := []
  lastAck : Octets := []
  subs : Tab Sub := []
  /-- device counters of SHED_COUNTS: events lost in island queues, gap entries returned -/
  evLost : Nat := 0
  gapReads : Nat := 0
  deriving DecidableEq, Repr

/-- The straps (R535), as they stand at their balls or as sampled at a boot instant. -/
structure Straps where
  pos : Nat := 0
  lane : Nat := 0
  cfg : Nat := 0
  hostRole : Bool := false
  hTrust : Bool := false
  deriving DecidableEq, Repr

/-- A value of a dictionary entry (R50): a number, an FX32 with its scale code, or octets. -/
inductive Val where
  | num (v : Int)
  | fx (raw sc : Int)
  | oct (v : Octets)
  deriving DecidableEq, Repr

end Machine
end Sys2Proof
end

