-- ==== Sys2Proof/Machine/Parts/Bus.lean ====
section
/-! DEFINITION. The parts of State that chapters 12 (CAN FD ports, Ethernet), 13 (sessions and keys), 14 (the queue
primitive) and the access paths of chapter 02 give the device, and the operand types of the commands that drive them. -/

namespace Sys2Proof
namespace Machine

/-- Where a dictionary request comes from and where its response goes (R389): a CAN port and node, a MAC with the IPv4
address and UDP port, or the host port. -/
inductive Peer where
  | can (port node : Nat)
  | udp (mac ip port : Nat)
  | host
  deriving DecidableEq, Repr

/-- A critical trailer (R391). -/
structure Trailer where
  counter : Nat
  tag : Octets
  deriving DecidableEq, Repr

/-- A DAP protocol data unit (R64). Octets 4 to 7 are `index`, `sub` and `resv`; in SEGMENT they hold the offset. -/
structure Pdu where
  cs : Nat
  session : Nat
  tag : Nat
  flags : Nat
  index : Nat
  sub : Nat
  resv : Nat
  length : Nat
  data : Octets
  trailer : Option Trailer
  deriving DecidableEq, Repr

/-- A request as the dictionary server holds it: its source, its CAN class (0 off CAN) and its PDU. -/
structure Req where
  src : Peer
  cls : Nat
  pdu : Pdu
  deriving DecidableEq, Repr

/-- Who makes an access and how (operand of the access commands): source, session, transaction tag, trailer. -/
structure Acc where
  src : Peer
  session : Nat
  tag : Nat
  crit : Option Trailer
  deriving DecidableEq, Repr

/-- A CAN frame (R356, R370): format, flags, identifier, data. -/
structure CanFrame where
  ext : Bool
  fd : Bool
  brs : Bool
  id : Nat
  data : Octets
  deriving DecidableEq, Repr

/-- A received CAN entry (R370). -/
structure CanRx where
  time : Nat
  frame : CanFrame
  esi : Bool
  filter : Nat
  lostBefore : Bool
  monitor : Bool
  deriving DecidableEq, Repr

/-- An entry of an instance of the queue primitive (R413, R524). -/
inductive QItem where
  | ev (e : Ev)
  | req (r : Req)
  | rx (e : CanRx)
  | word (w : FabWord)
  | log (h : LogHold)
  | trace (probe : Nat) (recs : List Octets)
  | raw (o : Octets)
  deriving DecidableEq, Repr

/-- The instances of the queue primitive (R413, R524). -/
inductive QId where
  | island (i : Nat)
  | request
  | canA (p : Nat)
  | canB (p : Nat)
  | capture
  | logq (n : Nat)
  | traceq (n : Nat)
  | fabFwd (src dst : Nat)
  | fabRev (src dst : Nat)
  deriving DecidableEq, Repr

/-- The number under which State keeps an instance. -/
def QId.num : QId → Nat
  | .island i => i
  | .request => 9
  | .canA p => 10 + p
  | .canB p => 18 + p
  | .capture => 26
  | .logq n => 27 + n
  | .traceq n => 35 + n
  | .fabFwd a b => 64 + 9 * a + b
  | .fabRev a b => 160 + 9 * a + b

/-- A queue instance (R401–R412): pointers, the pointer values on their way through the synchronisers (visible from the
picosecond given), the three parts, and the sticky bits and counts. -/
structure Queue where
  wp : Nat := 0
  rp : Nat := 0
  /-- values of wp not yet visible to the consumer, and of rp not yet visible to the producer: (visible from, value) -/
  wpWay : List (Nat × Nat) := []
  rpWay : List (Nat × Nat) := []
  /-- the synchronised copies -/
  wpS : Nat := 0
  rpS : Nat := 0
  tail : List (QItem × Bool) := []
  spill : List (QItem × Bool) := []
  head : List (QItem × Bool) := []
  overrun : Bool := false
  underrun : Bool := false
  overruns : Nat := 0
  underruns : Nat := 0
  peak : Nat := 0
  stalls : Nat := 0
  /-- reset of R411 running until QUEUE_RESET_DONE; the picosecond at which a running flush ends (R412) -/
  resetting : Bool := false
  flushTo : Option Nat := none
  deriving DecidableEq, Repr

/-- A transmit buffer (R362–R366). -/
structure TxBuf where
  /-- 0 free, 1 pending, 2 latched -/
  state : Nat := 0
  frame : Option CanFrame := none
  /-- the channel whose set-point or command frame it holds -/
  chan : Option Nat := none
  cancel : Bool := false
  /-- 0 none, 1 DONE, 2 ABORTED -/
  outcome : Nat := 0
  late : Bool := false
  submitted : Nat := 0
  deriving DecidableEq, Repr

/-- A tracked pair of identifier and position (R374). -/
structure DupPair where
  id : Nat
  pos : Nat
  count : Nat
  last : Nat
  own : Bool
  deriving DecidableEq, Repr

/-- The states of a CAN port (R360). -/
inductive PortState where
  | off | integrating | restricted | normal | listenOnly | heartbeatOnly | busOff
  deriving DecidableEq, Repr

/-- The code of a port state (R360). -/
def PortState.code : PortState → Nat
  | .off => 0 | .integrating => 1 | .restricted => 2 | .normal => 3 | .listenOnly => 4 | .heartbeatOnly => 5 | .busOff => 6

/-- A CAN port (R356–R383). -/
structure CanPort where
  state : PortState := .off
  tecErr : Nat := 0
  recErr : Nat := 0
  /-- 0 error-active, 1 error-passive, 2 bus-off -/
  err : Nat := 0
  takeoverGap : Bool := false
  dupId : Bool := false
  cancelLate : Bool := false
  overrunB : Bool := false
  overrunA : Bool := false
  rejoined : Bool := false
  protoExc : Bool := false
  busoffWait : Bool := false
  /-- the recovery of BUS_OFF has been let start (R373) -/
  recovering : Bool := false
  good : Nat := 0
  restrictSince : Nat := 0
  /-- PORT_COUNTS (R381) -/
  rxCount : Nat := 0
  txCount : Nat := 0
  errFrames : Nat := 0
  arbLost : Nat := 0
  busOffs : Nat := 0
  rxFiltered : Nat := 0
  remotes : Nat := 0
  malformed : Nat := 0
  unclaimed : Nat := 0
  ovrA : Nat := 0
  ovrB : Nat := 0
  lateCount : Nat := 0
  aborted : Nat := 0
  controller : Nat := 0
  /-- a takeover in progress: raw time of its step 1 -/
  takeover : Option Nat := none
  /-- the port was left OFF by a second controller failure (R375) -/
  lostCtl : Bool := false
  pairs : List DupPair := []
  dupRecId : Nat := 0
  dupRecPos : Nat := 0
  dupRecSusp : Bool := false
  dupEvents : Nat := 0
  suspended : List Nat := []
  bufs : Tab TxBuf := []
  /-- frames a producer holds back until a buffer of its own frees (R362): first buffer of the producer, frame, channel -/
  held : List (Nat × CanFrame × Option Nat) := []
  lostA : Bool := false
  lostB : Bool := false
  /-- the monitor ring: the latest 256 entries, oldest first, and the count copied (R371) -/
  monitor : List CanRx := []
  monCount : Nat := 0
  deriving DecidableEq, Repr

/-- An ARP cache entry (R377). -/
structure ArpEnt where
  ip : Nat
  mac : Nat
  until_ : Nat
  deriving DecidableEq, Repr

/-- A datagram the device sends or holds (R377, R378). -/
structure Datagram where
  mac : Nat
  srcPort : Nat
  ip : Nat
  port : Nat
  data : Octets
  deriving DecidableEq, Repr

/-- What an Ethernet frame that reached a MAC carries (operand of ETH_FRAME_RECEIVE; R376–R378). -/
inductive EthBody where
  /-- ARP: request or reply, sender's IPv4 and MAC, target IPv4 -/
  | arp (reply : Bool) (sip smac tip : Nat)
  /-- ICMP echo request with its payload -/
  | echo (sip : Nat) (data : Octets)
  /-- any other ICMP message -/
  | icmpOther
  /-- UDP: source and destination address and ports, checksum good -/
  | udp (sip sport dip dport : Nat) (sumOk : Bool) (data : Octets)
  /-- IPv4 with options, a fragment or a bad header checksum -/
  | badIp
  /-- any other Ethernet frame -/
  | other
  deriving DecidableEq, Repr

/-- An Ethernet MAC (R376–R379). -/
structure Mac where
  speed : Nat := 0
  duplex : Bool := false
  rx : Nat := 0
  tx : Nat := 0
  discarded : Nat := 0
  ipBad : Nat := 0
  arpFail : Nat := 0
  echoes : Nat := 0
  wrongPort : Nat := 0
  dapBad : Nat := 0
  reportBad : Nat := 0
  overruns : Nat := 0
  arp : List ArpEnt := []
  waiting : List (Nat × Nat × Datagram) := []
  deriving DecidableEq, Repr

/-- A message that has left the device. -/
inductive Sent where
  /-- a CAN frame with its error state indicator (R356) -/
  | can (port : Nat) (f : CanFrame) (esi : Bool)
  | udp (d : Datagram)
  | arpRequest (mac ip : Nat)
  | arpReply (mac ip : Nat)
  | echoReply (mac ip : Nat) (data : Octets)
  /-- a Jiest frame: port, kind and content -/
  | jiest (port kind : Nat) (data : Octets)
  /-- a PTP message: MAC, type, content -/
  | ptp (mac kind : Nat) (data : Octets)
  deriving DecidableEq, Repr

/-- A segmented transfer (R68, R69). -/
structure Transfer where
  write : Bool
  index : Nat
  sub : Nat
  total : Nat
  /-- the expected (write) or next (read) offset -/
  next : Nat
  /-- the offset of the previous segment and the response it got -/
  prev : Option Nat
  prevResp : Octets
  /-- staged data (write) or the snapshot (read) -/
  data : Octets
  inPlace : Bool
  tag : Nat
  since : Nat
  deriving DecidableEq, Repr

/-- The state of a session context (R389). -/
inductive SessState where
  | free | opening | opened
  deriving DecidableEq, Repr

/-- A session context (R387–R395). -/
structure Session where
  state : SessState := .free
  peer : Peer := .host
  partner : Nat := 0
  slot : Nat := 255
  role : Nat := 0
  nc : Octets := []
  nd : Octets := []
  key : Octets := []
  counter : Nat := 0
  fails : Nat := 0
  idleSince : Nat := 0
  openingSince : Nat := 0
  openedAt : Nat := 0
  confirm : Option Pdu := none
  /-- the last request and the response it got (R63) -/
  lastReq : Option Req := none
  lastResp : Octets := []
  /-- token bucket of R394 in 10⁻⁹, and the raw time of its last reckoning -/
  tokens : Nat := 0
  tokenAt : Nat := 0
  accepted : Nat := 0
  tagFails : Nat := 0
  stale : Nat := 0
  rateRefused : Nat := 0
  xfer : Option Transfer := none
  /-- tag and final response of the last completed transfer (R68) -/
  doneTag : Option Nat := none
  doneResp : Octets := []
  logCursor : Nat := 0
  almSelect : Nat := 0
  deriving DecidableEq, Repr

/-- A key slot (R384); `wrapped` is what the keep store holds of it (R385). -/
structure KeySlot where
  key : Octets
  role : Nat
  usage : Nat
  partner : Nat
  deriving DecidableEq, Repr

/-- The host port (R73–R76). -/
structure HostPort where
  booted : Bool := true
  busy : Bool := false
  resp : Option Octets := none
  /-- `HRDY` is low from the first moment and high by the second at the latest (raw time; R76, R533) -/
  hrdyFrom : Nat := 0
  hrdyBy : Nat := 20000000
  /-- the octets driven by the last READ_STATUS or READ_RESPONSE -/
  driven : Octets := []
  deriving DecidableEq, Repr

/-- Everything the access paths, the buses and the sessions hold. -/
structure Net where
  qs : Tab Queue := []
  /-- each island's local copy of device time as it last read it (R29), by island number -/
  localTime : Tab Nat := []
  ports : Tab CanPort := []
  /-- port served by the spare controller (R375) -/
  sparePort : Option Nat := none
  spareFailed : Bool := false
  macs : Tab Mac := []
  sess : Tab Session := []
  keys : Tab (Option KeySlot) := []
  host : HostPort := {}
  rngFailed : Bool := false
  /-- requests whose response is owed after a validation (R106, R349), by entry key -/
  owed : Tab Req := []
  sent : List Sent := []
  deriving DecidableEq, Repr

end Machine
end Sys2Proof
end

