-- ==== Sys2Proof/Machine/Parts/Control.lean ====
section
/-! DEFINITION. The parts of State that chapters 07 (control engine), 08 (repetitive control, trace probes) and 11 (cyclic
logic engine) give the device, and the operand descriptor of the logic instructions. -/

namespace Sys2Proof
namespace Machine

/-- An operand descriptor of the logic engine (R331), taken apart: area, type, INDEXED, index. -/
structure Opd where
  area : Nat
  type : Nat
  indexed : Bool
  index : Nat
  deriving DecidableEq, Repr

/-- A timer (R340): phase 0 IDLE, 1 RUNNING, 2 DONE. -/
structure Timer where
  phase : Nat := 0
  start : Nat := 0
  out : Bool := false
  prev : Bool := false
  elapsed : Nat := 0
  deriving DecidableEq, Repr

/-- A counter (R342): count, stored input, and whether its first execution since the start is still to come. -/
structure Counter where
  count : Int := 0
  input : Bool := false
  fresh : Bool := true
  deriving DecidableEq, Repr

/-- A detector (R343). -/
structure Detector where
  mem : Bool := false
  fresh : Bool := true
  deriving DecidableEq, Repr

/-- A force (R344): area, word, the bit it covers (none: the whole word), value. -/
structure Force where
  area : Nat
  word : Nat
  bit : Option Nat
  value : Word32
  deriving DecidableEq, Repr

/-- A force operation waiting for the next gap. -/
inductive ForceOp where
  | set (f : Force)
  | release (area word : Nat) (bit : Option Nat)
  | releaseAll
  deriving DecidableEq, Repr

/-- A declared timer of an image's timer table (R347): type, resolution code, preset K word. -/
structure TimerDecl where
  type : Nat := 0
  res : Nat := 0
  preset : Nat := 0
  deriving DecidableEq, Repr

/-- A program image as loaded (R347, R349). -/
structure Program where
  code : List Word32
  entry : Nat
  kInit : Tab Int
  timers : Tab TimerDecl
  /-- the retained M words, rising -/
  retain : List Nat
  mInit : Tab Word32
  dioOut : Nat
  stopClear : Bool
  retainHash : Nat
  crc : Nat
  deriving DecidableEq, Repr

/-- The program states (R328). -/
inductive ProgState where
  | empty | stop | run | halt
  deriving DecidableEq, Repr

/-- The code of a program state (R353). -/
def ProgState.code : ProgState → Nat
  | .empty => 0 | .stop => 1 | .run => 2 | .halt => 3

/-- One element of a change set (R345). -/
structure Change where
  opd : Opd
  value : Nat
  deriving DecidableEq, Repr

/-- The retained logic record (R351). -/
structure Retained where
  m : Tab Word32 := []
  k : Tab Int := []
  counts : Tab Int := []
  forces : List Force := []
  prog : Nat := 0
  cycle : Nat := 0
  dataHash : Nat := 0
  changeNo : Nat := 0
  deriving DecidableEq, Repr

/-- A staging area for an image (R106, R349): status 0 EMPTY, 1 VALID, 2 INVALID, 3 ACTIVATING, 4 FAILED. -/
structure Stage where
  status : Nat := 0
  fault : Nat := 0
  index : Nat := 0xFFFFFFFF
  image : Octets := []
  /-- the image submitted for validation, whose response is owed -/
  coming : Option Octets := none
  deriving DecidableEq, Repr

/-- The registers of the logic engine while a program cycle executes (R336). -/
structure LogicRegs where
  tb : Bool := false
  wa : Word32 := 0
  wb : Word32 := 0
  pc : Nat := 0
  stack : List Nat := []
  /-- LOGIC cycles the execution has taken -/
  cycles : Nat := 0
  /-- END reached -/
  ended : Bool := false
  /-- run-time fault (R339), 0 none -/
  fault : Nat := 0
  sat : Bool := false
  div0 : Bool := false
  /-- EVT instructions that posted in this program cycle, and the events to post: FIELD, WA -/
  evtCount : Nat := 0
  evts : List (Nat × Word32) := []
  evtDropped : Nat := 0
  deriving DecidableEq, Repr

/-- The logic engine (R324–R355). -/
structure Logic where
  prog : ProgState := .empty
  lastCmd : Nat := 0
  stage : Stage := {}
  loaded : Option Program := none
  i : Tab Word32 := []
  /-- working Q image, M and K as the program writes them; forces are laid over at every read (R344) -/
  q : Tab Word32 := []
  m : Tab Word32 := []
  k : Tab Int := []
  t : Tab Timer := []
  c : Tab Counter := []
  e : Tab Detector := []
  sys : List Word32 := []
  /-- the committed Q image and whether a commit was made since the restart -/
  qc : Tab Word32 := []
  committed : Bool := false
  regs : LogicRegs := {}
  forces : List Force := []
  forceOps : List ForceOp := []
  change : Option (List Change) := none
  changeNo : Nat := 0
  changeFirst : Nat := 0
  /-- numbers of change sets applied whose first program cycle is still to come -/
  changeOpen : List Nat := []
  firstCold : Bool := false
  firstWarm : Bool := false
  wdPrev : Bool := false
  varLost : Bool := false
  suppressed : Bool := false
  stopReq : Bool := false
  cycleNo : Nat := 0
  snap : Nat := 0
  cycleStart : Nat := 0
  prevDur : Nat := 0
  longest : Nat := 0
  shortest : Nat := 0
  nextStart : Nat := 0
  wdCount : Nat := 0
  faultCode : Nat := 0
  faultAddr : Nat := 0
  faultCycle : Nat := 0
  dataHash : Nat := 0
  lastRestart : Nat := 0
  retainedAt : Nat := 0
  retainDue : Bool := false
  /-- start of a program's run: no cycle measured yet -/
  fresh : Bool := true
  /-- channels whose command word changed and waits for its frame; raw time of the last frame and its number (R334) -/
  cmdDue : Tab Nat := []
  cmdSent : Tab Nat := []
  cmdNo : Tab Nat := []
  /-- per session, the descriptors of WIN_DESC and their values at the last commit (R353) -/
  winDesc : Tab Octets := []
  winVals : Tab Octets := []
  /-- what a retained record holds of the last gap, and the end of that program cycle's phases (R351, R355) -/
  gap : Option Retained := none
  busyUntil : Nat := 0
  deriving DecidableEq, Repr

/-- The states of a loop (R226). -/
inductive LoopState where
  | off | opened | closed | track | hold
  deriving DecidableEq, Repr

/-- The code of a loop state (R226). -/
def LoopState.code : LoopState → Nat
  | .off => 0 | .opened => 1 | .closed => 2 | .track => 3 | .hold => 4

/-- The loop state of a MODE_REQ value (R240). -/
def LoopState.ofReq : Nat → LoopState
  | 0 => .off | 1 => .opened | 2 => .closed | _ => .track

/-- The values of a loop's last evaluation (R243). -/
structure LoopVals where
  sp : Int := 0
  y : Int := 0
  ep : Int := 0
  ei : Int := 0
  ed : Int := 0
  p : Int := 0
  i : Int := 0
  d : Int := 0
  ff : Int := 0
  rep : Int := 0
  u : Int := 0
  deriving DecidableEq, Repr

/-- The repetitive controller's context of a loop (R247–R256). -/
structure RepCtx where
  table : Tab Int := []
  /-- positions whose word carries a poison mark -/
  poison : List Nat := []
  /-- x and ok of the last five samples, newest first -/
  x : List Int := []
  ok : List Bool := []
  /-- the prefetched words, each with its sample's number: REP word, t_k word, and their poison marks -/
  pre : List (Nat × Int × Int × Bool × Bool) := []
  lastRep : Int := 0
  pos : Nat := 0
  learned : Nat := 0
  frozenN : Nat := 0
  late : Nat := 0
  poisoned : Nat := 0
  kept : Bool := false
  poisonFlag : Bool := false
  lateFlag : Bool := false
  frozen : Bool := false
  learning : Bool := false
  deriving DecidableEq, Repr

/-- The checkpoint copy of a loop context (R237), as written at the end of its last evaluation. -/
structure LoopCopy where
  state : LoopState := .off
  acc : Int := 0
  d : Int := 0
  edPrev : Int := 0
  uPrev : Int := 0
  ovrCount : Nat := 0
  ovrConsec : Nat := 0
  deriving DecidableEq, Repr

/-- A loop's context and status (R212–R246). -/
structure Loop where
  state : LoopState := .off
  req : Nat := 0
  before : LoopState := .off
  holdCause : Nat := 0
  firstClose : Bool := false
  /-- first sample since the loop left OFF -/
  first : Bool := false
  /-- state at the last sample (the state-change event of R259) -/
  sampled : LoopState := .off
  uHeld : Int := 0
  /-- iacc in native mode, si in compatibility mode -/
  acc : Int := 0
  d : Int := 0
  edPrev : Int := 0
  uPrev : Int := 0
  admitRej : Bool := false
  reqRej : Bool := false
  coefRej : Bool := false
  satAtClose : Bool := false
  auxStale : Bool := false
  rateLimited : Bool := false
  satLo : Bool := false
  satHi : Bool := false
  forced : Bool := false
  evals : Nat := 0
  planVer : Nat := 0
  vals : LoopVals := {}
  /-- last fresh values of the sp, ff, pf and track sources (R213) -/
  auxSp : Int := 0
  auxFf : Int := 0
  auxPf : Int := 0
  auxTr : Int := 0
  ovrCount : Nat := 0
  ovrConsec : Nat := 0
  ovrSnap : Bool := false
  slot : Option Nat := none
  restores : Nat := 0
  copy : LoopCopy := {}
  /-- the tick of the last sample -/
  lastTick : Option Nat := none
  /-- the mode request word of the previous commit (R227) -/
  reqWord : Nat := 0
  rep : RepCtx := {}
  deriving DecidableEq, Repr

/-- A trace probe (R257–R266): state 0 IDLE, 1 ARMED, 2 TRIGGERED, 3 DONE, 4 ABORTED. Records are held oldest first. -/
structure Probe where
  state : Nat := 0
  pre : List Octets := []
  post : List Octets := []
  trigTime : Nat := 0
  trigSample : Nat := 0
  /-- triggered by a command, the group or the logic word; waiting for its trigger sample -/
  awaiting : Bool := false
  groupTrig : Bool := false
  late : Bool := false
  poison : Bool := false
  gap : Bool := false
  preShort : Bool := false
  loopOff : Bool := false
  lost : Nat := 0
  /-- records handed to the capture queue since the trigger, and before it -/
  taken : Nat := 0
  preTaken : Nat := 0
  /-- the value of TRIG_NODE at the previous evaluation since arming -/
  last : Option Int := none
  deriving DecidableEq, Repr

/-- A PWM output (R574): the period (0.1 µs) and high time (CTRL cycles) in force, the device time at which the running period began
(or from which the output waits for its first one), and whether a new period waits for its first start. -/
structure Pwm where
  period : Nat := 0
  high : Nat := 0
  start : Nat := 0
  waiting : Bool := false
  deriving DecidableEq, Repr

/-- The control engine beside its loops: outputs, converters, pipelines, probes (R214–R219, R238, R257). -/
structure Ctrl where
  loops : Tab Loop := []
  probes : Tab Probe := []
  /-- AO codes 0–7 -/
  ao : Tab Nat := []
  /-- period (0.1 µs) and high time (CTRL cycles) last commanded of each PW output -/
  pwPeriod : Tab Nat := []
  pwHigh : Tab Nat := []
  pwm : Tab Pwm := []
  /-- last code of each AI, and whether its converter converts (R219, R345 of the table) -/
  ai : Tab Nat := []
  /-- the pipelines serving the two slot tables; 3 where none serves (R217, R238, R492) -/
  pipe0 : Nat := 0
  pipe1 : Nat := 1
  pipeBad : Option (Nat × Nat) := none
  /-- SAR converters: the element serving converter 0 and 1; 3 where none serves -/
  conv0 : Nat := 0
  conv1 : Nat := 1
  deriving DecidableEq, Repr

end Machine
end Sys2Proof
end

