-- ==== Sys2Proof/Machine/Parts/Loam.lean ====
section
/-! DEFINITION. The Loam engine's state (chapter 06): vectors, matrices, factors and jobs; and the primitives of R192, the
steps of which an owner's iteration is made. The owners' chapters give what an iteration computes; the passes it is cut into, where
they do not, are the model's (log 78). -/

namespace Sys2Proof
namespace Machine

/-- A vector that has been written: its scale code and raw words (R185). -/
structure Vec where
  sc : Int := 0
  words : List Int := []
  deriving DecidableEq, Repr

/-- The lower triangle of a matrix by columns: the rows of each column from the diagonal down, and the column's words. -/
structure Mat where
  cols : List (List Nat × Vec) := []
  deriving DecidableEq, Repr

/-- A stored factor (R193): the columns below the diagonal, d and 1/d. -/
structure Factor where
  l : List (List Nat × Vec) := []
  d : List Vec := []
  dinv : List Vec := []
  /-- scale codes of the working vectors u and v of its factorisation and of y and w of its solves, once written -/
  uSc : Option Int := none
  vSc : Option Int := none
  ySc : Option Int := none
  wSc : Option Int := none
  deriving DecidableEq, Repr

/-- A destination: the vector's number; its fixed scale code if it is pinned; the scale code its owner declares for a first
write (R187, R188). -/
structure Dst where
  id : Nat
  pin : Option Int
  first : Int
  deriving DecidableEq, Repr

/-- The primitives of R192 over numbered vectors, matrices and factors; a scalar is a vector of one word. `load` is an input
written at an assigned scale (R187); `values` the words of a law of the owner, computed by elementwise passes; `pick` gathers words of
other vectors; `matrix` the lower triangle of a dense or staged matrix, column by column in its elimination order. -/
inductive Prim where
  | load (id : Nat) (sc : Int) (words : List Int)
  | values (d : Dst) (vs : List Rat)
  | pick (d : Dst) (src : List (Nat × Nat))
  | matrix (m : Nat) (cols : List (List Nat × List Rat)) (first : Int)
  | axpby (d : Dst) (a x b y : Nat)
  | mul (d : Dst) (x y : Nat)
  | clamp (d : Dst) (x lo hi : Nat)
  | select (d : Dst) (m x y : Nat)
  | maxOf (d : Dst) (x y : Nat)
  | minOf (d : Dst) (x y : Nat)
  | div (d : Dst) (x y : Nat)
  | rcp (d : Dst) (x : Nat)
  | sqrt (d : Dst) (x : Nat)
  | rsq (d : Dst) (x : Nat)
  | redMax (d : Dst) (x : Nat)
  | redDot (d : Dst) (x y : Nat)
  | redSum (d : Dst) (x : Nat)
  | redRatio (d : Dst) (t dt : Nat)
  /-- y := y₀ + A·x, A by columns: the rows of a column and the vector that holds it -/
  | mv (d : Dst) (y0 x : Nat) (cols : List (List Nat × Nat))
  /-- A·diag(g)·Aᵀ of an incidence matrix, scattered into a structure; an end at or above its size is left out -/
  | asm (m : Nat) (rows : List (List Nat)) (edges : List (Nat × Nat)) (g : Nat) (first : Int)
  /-- the factorisation of R193; `first` is the scale code declared for the first write of its working vectors -/
  | factor (f m : Nat) (first : Int)
  /-- the solve of R195; `y` and `w` are the scale codes declared for the first write of its working vectors -/
  | solve (d : Dst) (f b : Nat) (y w : Int)
  deriving DecidableEq, Repr

/-- The end reasons of a job (R203). -/
inductive JobEnd where
  | complete | deadlineIterate | deadlineEmpty | overflow | aborted
  deriving DecidableEq, Repr

/-- A job (R198–R206): state 0 none, 1 runnable or running, 2 ended and waiting for its owner; 3 handed over. -/
structure Job where
  no : Nat := 0
  state : Nat := 0
  deadline : Nat := 0
  /-- working vectors, matrices and factors of its region -/
  vecs : Tab Vec := []
  mats : Tab Mat := []
  facs : Tab Factor := []
  /-- the completed iterate: the vectors as the last completed iteration left them; and those of the iteration before it -/
  done : Option (Tab Vec) := none
  before : Option (Tab Vec) := none
  iters : Nat := 0
  /-- the owner's stopping rule held at the last completed iteration; the programme converged (R161); clamps of R162 -/
  met : Bool := false
  conv : Bool := false
  clamps : Nat := 0
  /-- the problem a job of two is at (R133), iterations completed in it, and whether the first one's result is published (R123) -/
  stage : Nat := 0
  stageIters : Nat := 0
  firstOk : Bool := false
  /-- pivots replaced in the factorisations of the completed iterations, and since the last one -/
  repl : Nat := 0
  replays : Nat := 0
  ovf : Bool := false
  reason : Option JobEnd := none
  /-- R207: computes nothing more -/
  inputLost : Bool := false
  deriving DecidableEq, Repr

/-- The Loam engine (R183–R211). -/
structure Loam where
  jobs : Tab Job := []
  /-- jobs submitted so far: the job number -/
  submits : Nat := 0
  /-- the class that runs -/
  running : Option Nat := none
  /-- classes pre-empted, the latest first -/
  preempted : List Nat := []
  /-- job numbers that ended DONE (R204) -/
  doneNos : List Nat := []
  /-- physical lanes out of service; divider in service; dividers out of service -/
  lanesOut : List Nat := []
  divider : Nat := 0
  dividersOut : List Nat := []
  deriving DecidableEq, Repr

end Machine
end Sys2Proof
end

