-- ==== Sys2Proof/Machine/Parts/Meter.lean ====
section
/-! DEFINITION. The parts of State that chapters 09 (electrical metering, power quality, calibration) and 10 (channel reports,
heat registers, pulse inputs, intervals, core samples, retention) give the device. Energies are held in the smallest unit the
manual counts: 2⁻³² mWh for the electrical registers, 10⁻⁹ mWh for heat. -/

namespace Sys2Proof
namespace Machine

/-! ## Electrical metering (chapter 09) -/

/-- The filter states of one input (R273). -/
structure InputState where
  x : Int := 0
  h : Int := 0
  w : Int := 0
  deriving DecidableEq, Repr

/-- The sums of one window of a connection point (R276, R277), phases 1 to 3; the neutral's Σi²; clips; the window's corrected
samples of the seven inputs, newest first, for the harmonics (R280). -/
structure Win where
  n : Nat := 0
  dP : List Int := [0, 0, 0]
  dQ : List Int := [0, 0, 0]
  v2 : List Nat := [0, 0, 0]
  i2 : List Nat := [0, 0, 0, 0]
  vClip : Bool := false
  iClip : Bool := false
  samples : List (List Int) := [[], [], [], [], [], [], []]
  /-- device time at which it ended, its measured frequency (mHz) -/
  endAt : Nat := 0
  fMeas : Nat := 0
  /-- the configuration the window was metered with -/
  cfg : Tab Val := []
  deriving DecidableEq, Repr

/-- One half-cycle boundary (R281): device time, samples of the cycle, Σv² per phase. -/
structure Half where
  time : Nat
  n : Nat
  v2 : List Nat
  deriving DecidableEq, Repr

/-- A power-quality detector (R282). -/
structure Detect where
  active : Bool := false
  start : Nat := 0
  halves : Nat := 0
  phases : Nat := 0
  worst : Nat := 1
  extreme : Nat := 0
  lost : Bool := false
  deriving DecidableEq, Repr

/-- A connection point's metering (R269–R292). -/
structure CpMeter where
  /-- the configuration in force, by sub-index; not listed: the default (R289) -/
  cfg : Tab Val := []
  /-- windows ended so far -/
  winNo : Nat := 0
  win : Win := {}
  /-- windows ended and not yet routed, oldest first -/
  ended : List Win := []
  /-- device time (ns, exact) of the window's first and the last positive crossing; periods between them -/
  firstX : Option Rat := none
  lastX : Option Rat := none
  periods : Nat := 0
  /-- previous sample of the reference voltage and its time -/
  prevV : Int := 0
  prevT : Nat := 0
  armPos : Bool := false
  armNeg : Bool := false
  fMeas : Nat := 0
  r : Int := 1073741824
  lost : Bool := false
  /-- positive crossings detected in this window; METR's time at which the detection began (R274) -/
  crossed : Nat := 0
  watch : Nat := 0
  /-- a write to `PHASES` or `F_NOMINAL` waits to restart the detection (R289) -/
  redo : Bool := false
  /-- the configuration and the mark as they stood before the writes of a METR cycle (R294) -/
  before : Option (Nat × Tab Val × Bool) := none
  /-- cycles in range in a row, and whether three such lie in this fixed window -/
  goodRun : Nat := 0
  goodWin : Bool := false
  /-- G, c, s of the currents L1–L3, N for this window (R275) -/
  corr : List (Int × Int × Int) := []
  /-- sums since the last positive and the last negative crossing, and of the fixed half-cycles; valid once a first boundary was
  seen -/
  accPos : Option (Nat × List Nat) := none
  accNeg : Option (Nat × List Nat) := none
  accFix : List (Nat × List Nat) := []
  fixNo : Nat := 0
  halves : List Half := []
  detect : List Detect := [{}, {}, {}]
  settleUntil : Nat := 0
  meas : Octets := zeros 100
  harm : Octets := zeros 438
  seqRev : Bool := false
  vClip : Bool := false
  iClip : Bool := false
  clearPending : Bool := false
  /-- windows that had ended before the clear was accepted and are not routed yet -/
  clearSkip : Nat := 0
  clearCount : Nat := 0
  clearTime : Nat := 0
  calAt : Nat := 0
  deriving DecidableEq, Repr

/-- A pulse output (R285, R286): configuration in force; residue × C in 2⁻³² mWh; backlog; emission of this window. -/
structure PulseOut where
  cfg : Octets := []
  residue : Nat := 0
  backlog : Nat := 0
  due : Nat := 0
  sent : Nat := 0
  gap : Nat := 8
  high : Nat := 0
  level : Bool := false
  /-- samples of the running pulse left -/
  left : Nat := 0
  count : Nat := 0
  lag : Bool := false
  deriving DecidableEq, Repr

/-- The calibration of an input (R287): step 1–4, its start (ns), the modulator taken off, the spare, the range they run at, the trims
found. -/
structure CalRun where
  input : Nat
  step : Nat
  t0 : Nat
  old : Nat
  spare : Nat
  range : Nat
  found : Option (Int × Nat) := none
  deriving DecidableEq, Repr

/-- `CAL_STATUS` of an input beside its step (R290). -/
structure CalStatus where
  outcome : Nat := 0
  late : Bool := false
  mismatch : Int := 0
  lastDone : Nat := 0
  deriving DecidableEq, Repr

/-- The waveform buffer (R284): state, connection point, record that triggered it, trigger time, samples per input; the detector
(connection point × 3 + number) whose record is to be written yet. -/
structure Wave where
  state : Nat := 0
  cp : Nat := 0
  record : Nat := 0xFFFFFFFF
  time : Nat := 0
  data : List (List Int) := []
  source : Option Nat := none
  deriving DecidableEq, Repr

/-- The METR island (R269–R294). -/
structure Metr where
  inputs : Tab InputState := []
  /-- the modulator that serves an input, where it is not modulator i itself -/
  serves : Tab Nat := []
  /-- last good sample of an input, trimmed (R493) -/
  lastGood : Tab Int := []
  /-- samples of an input still to be substituted after a modulator fault; inputs that deliver 0 (R492, R493) -/
  subst : Tab Nat := []
  dead : List Nat := []
  /-- trims of a modulator (number × 2 + range) -/
  trims : Tab (Int × Nat) := []
  cps : Tab CpMeter := []
  /-- registers by cp × 28 + phase × 7 + kind, in 2⁻³² m-units (R278, R292) -/
  regs : Tab Nat := []
  pos : Tab PulseOut := []
  calQueue : List Nat := []
  cal : Option CalRun := none
  calStatus : Tab CalStatus := []
  wave : Wave := {}
  /-- the power-quality ring, oldest first, and the counts of R283, R293 -/
  pq : List Octets := []
  pqCount : Nat := 0
  pqOver : Nat := 0
  deriving DecidableEq, Repr

/-! ## Channels, pulse inputs, intervals, core samples (chapter 10) -/

/-- A channel's baseline (R301, R315). -/
structure Baseline where
  vFwd : Nat
  vRev : Nat
  ownE : Nat
  seq : Nat
  deriving DecidableEq, Repr

/-- The five registers of a channel (R300, R302): energies in 10⁻⁹ mWh, volumes in mL. -/
structure ChanRegs where
  ePos : Nat := 0
  eNeg : Nat := 0
  vFwd : Nat := 0
  vRev : Nat := 0
  vT : Nat := 0
  deriving DecidableEq, Repr

/-- A channel's reports, registers and set-points (R295–R304, R298). -/
structure Chan where
  /-- a report was accepted since restart; its number, arrival (device time), values as raw and scale code -/
  got : Bool := false
  seq : Nat := 0
  arrival : Nat := 0
  vals : List (Int × Int) := []
  ownE : Nat := 0
  ownValid : Bool := false
  fresh : Bool := false
  /-- values 1 and 2 as reported (0.01 °C), and the store flow: ΔV in mL over Δt in ns -/
  flow : Int := 0
  flowDt : Nat := 0
  base : Option Baseline := none
  /-- the baseline comes from the energy record and no report has been applied since restart -/
  savedBase : Bool := false
  regs : ChanRegs := {}
  valueSat : Bool := false
  tFaultNow : Bool := false
  /-- marks of the interval in progress (R308) -/
  stale : Bool := false
  gap : Bool := false
  reverse : Bool := false
  tFault : Bool := false
  restarted : Bool := false
  recon : Bool := false
  /-- consecutive disagreeing intervals; Σ ΔOWN_E of the interval; OWN_VALID was clear in the interval (R303) -/
  disagree : Nat := 0
  ownSum : Nat := 0
  ownBad : Bool := false
  /-- set-point words 0–7 (R298): raw and scale code, which plan words are owned, first unsent change, frames -/
  sp : Tab (Int × Int) := []
  planOwned : Nat := 0
  spChanged : Option Nat := none
  spNo : Nat := 0
  spSent : Nat := 0
  deriving DecidableEq, Repr

/-- A pulse input (R305, R306): count; accepted level; the next accepted level is the first since the configuration changed; when the
level was accepted or the filter reset (ns). -/
structure PulseIn where
  count : Nat := 0
  since : Nat := 0
  level : Bool := false
  first : Bool := true
  deriving DecidableEq, Repr

/-- What a core sample latches (R313). -/
structure Shadow where
  epoch : Nat := 0
  cascade : Nat := 0
  latch : Nat := 0
  cause : Nat := 0
  elec : Tab Nat := []
  chans : Tab ChanRegs := []
  bases : Tab Baseline := []
  pulses : Tab Nat := []
  overruns : Nat := 0
  evals : Nat := 0
  cycleNo : Nat := 0
  /-- per controller: frames received, sent, error frames -/
  comm : List (Nat × Nat × Nat) := []
  logSeq : Nat := 0
  deriving DecidableEq, Repr

/-- A pending core sample: device time, cause bits (R313), cascade number. -/
structure CsReq where
  time : Nat
  cause : Nat
  cascade : Nat
  deriving DecidableEq, Repr

/-- Core samples (R311–R314). -/
structure CoreSample where
  reqs : List CsReq := []
  status : Nat := 0
  epoch : Nat := 0
  latched : Option Shadow := none
  shadow : Shadow := {}
  lastLatch : Option Nat := none
  cascadeNo : Nat := 0
  deriving DecidableEq, Repr

/-- An energy record (R315). -/
structure EnergyRec where
  cause : Nat
  latch : Nat
  epoch : Nat
  ivNo : Nat
  elec : Tab Nat
  chans : Tab ChanRegs
  bases : Tab Baseline
  pulses : Tab Nat
  deriving DecidableEq, Repr

/-- What a retention copy says (R317): generation, latch time, BASE_GEN, deltas by electrical register and pulse input. -/
structure RetCopy where
  gen : Nat := 0
  latch : Nat := 0
  baseGen : Nat := 0
  elec : Tab Nat := []
  pulses : Tab Nat := []
  deriving DecidableEq, Repr

/-- Intervals (R307–R310). -/
structure Interval where
  /-- INTERVAL_NO of the newest record; interval length in force; next boundary -/
  no : Nat := 0
  len : Nat := 15
  next : Nat := 0
  /-- the registers at the last closing shadow -/
  elec0 : Tab Nat := []
  chans0 : Tab ChanRegs := []
  pulses0 : Tab Nat := []
  /-- ⌊R/u⌋ accrued before a clear in this interval (R309): by register of Metr, channel, pulse input -/
  elecCl : Tab Nat := []
  chansCl : Tab ChanRegs := []
  pulsesCl : Tab Nat := []
  cleared : List Nat := []
  /-- FLAGS of the record in progress -/
  powerCut : Bool := true
  restored : Nat := 0
  clockSet : Bool := false
  rebuilt : Bool := false
  cpFlags : Tab Nat := []
  /-- ring: records by slot; the head in the keep store names the next slot and the newest number -/
  ring : Tab (Nat × Octets) := []
  nextSlot : Nat := 0
  newest : Option Nat := none
  /-- per session, IV_SELECT -/
  select : Tab Nat := []
  deriving DecidableEq, Repr

/-- Channels, pulse inputs, core samples and their protection. -/
structure Heat where
  chans : Tab Chan := []
  pulses : Tab PulseIn := []
  cs : CoreSample := {}
  iv : Interval := {}
  /-- generation and content of the A and B energy records are in the keep store; the retention copies in retention RAM, as
  32-bit words with their parity bits (R41, R317): the copies at octets 0 and 2048 -/
  retA : List (Nat × Bool) := []
  retB : List (Nat × Bool) := []
  /-- RESTORE_INFO: case, latch time -/
  restoreCase : Nat := 0
  restoreLatch : Nat := 0
  deriving DecidableEq, Repr

/-- Where a channel report comes from (operand of CHANNEL_REPORT; R295). -/
inductive RepSrc where
  | can (port node : Nat)
  | udp (mac chan ip port : Nat)
  deriving DecidableEq, Repr

end Machine
end Sys2Proof
end

