-- ==== Sys2Proof/Machine/Parts/Solve.lean ====
section
/-! DEFINITION. The parts of State that chapters 04 (hydraulics, thermal transport, estimation) and 05 (dispatch) give the
device. Quantities without a layout of their own are held as integers in the unit each field names (MODEL: the manual fixes
no internal format; their values are free roundings, `rounding`). -/

namespace Sys2Proof
namespace Machine

/-! ## Hydraulics (R113–R134) -/

/-- The inputs of a hydraulic period (R113 step 1 and 2). -/
structure HydSnap where
  start : Nat
  /-- the dictionary's values and the model at the period's start -/
  vals : Tab Val
  img : Octets
  /-- branch coefficient k per branch, supply and return copy; opening or speed per branch -/
  k : List (Rat × Rat)
  x : List Rat
  /-- the values whose recipes and assignments the DLI accumulation follows (R96, R99) -/
  light : Tab Val
  /-- the channels' live values and the converter codes at the period's start -/
  chans : Tab Chan
  ai : Tab Nat
  held : Nat
  deriving DecidableEq, Repr

/-- What a probe job works on beside the period's snapshot (R132): the consumer flow of each branch at α = 1, and F of each network
with its source. -/
structure DelivProbe where
  cons : List Rat
  f : List (Rat × Bool)
  deriving DecidableEq, Repr

/-- A deliverability record (R134). -/
structure Deliv where
  qMax : Nat := 0
  a : Int := 0
  b : Int := 0
  tS0 : Int := 0
  tR : Int := 0
  index : Nat := 65535
  alpha : Nat := 0
  margin : Int := 0
  probeFail : Bool := false
  derated : Bool := false
  short : Bool := false
  historic : Bool := false
  deriving DecidableEq, Repr

/-- The hydraulic engine. -/
structure Hyd where
  snap : Option HydSnap := none
  probe : Option DelivProbe := none
  status : Nat := 0
  seq : Nat := 0
  time : Nat := 0
  iters : Nat := 0
  resid : Nat := 0
  pivots : Nat := 0
  /-- published heads and flows: raw at class 1 and class 2, supply and return -/
  heads : List (Int × Int) := []
  flows : List (Int × Int) := []
  /-- the published domains (R142) beside HEADS and FLOWS -/
  headsO : Octets := []
  flowsO : Octets := []
  tempsO : Octets := []
  pumpsO : Octets := []
  storesO : Octets := []
  delivSeq : Nat := 0
  deliv : List Deliv := [{}, {}, {}, {}]
  consHeld : Nat := 0
  consSat : Nat := 0
  stale : Bool := false
  offCurve : Bool := false
  lastPub : Nat := 0
  /-- parcels of a pipe copy (branch × 2 + side), from the end of its positive direction to its start: volume in µL, temperature in µ°C -/
  parcels : Tab (List (Nat × Int)) := []
  parcelForced : Nat := 0
  cycles : Nat := 0
  /-- outflows cut on a cycle that enter their node at the next step: node × 2 + side, volume, temperature -/
  cut : List (Nat × Nat × Int) := []
  /-- layer temperatures of a store (µ°C), and the layers measured in the last step -/
  layers : Tab (List Int) := []
  measured : Tab Nat := []
  /-- temperature of the water that left each node end (node × 2 + side) in the last thermal step, µ°C -/
  nodeT : Tab Int := []
  /-- heat loss of each network's copies in the last step (W) -/
  lossW : Tab Int := []
  /-- the window sums of the last 7 days: end time, network, F (mL/s), flows by branch (mL/s) -/
  history : List (Nat × Nat × Nat × Tab Nat) := []
  deriving DecidableEq, Repr

/-! ## Estimation (R135–R141) -/

/-- The sums of an estimation window. -/
structure EstWin where
  start : Nat := 0
  periods : Nat := 0
  published : Nat := 0
  /-- per channel: samples, Σ (measured − profile forecast) in W -/
  chans : Tab (Nat × Int) := []
  /-- per plant: samples, Σ c·m and Σ c² in W² -/
  plants : Tab (Nat × Int × Int) := []
  /-- per channel, samples of a fresh temperature, Σ and Σ of squares of (measured − modelled) in mK -/
  temps : Tab (Nat × Int × Nat) := []
  /-- per branch copy (branch × 2 + side), Σ |flow| in mL/s and Σ mean temperature in mK -/
  flows : Tab Nat := []
  copyT : Tab Int := []
  deriving DecidableEq, Repr

/-- The inputs of a loss job (R135): its groups in rank order; per measured channel its samples, Σ r and Σ r² in K, and its row of J;
the settings of R135 and R136 as the run's period took them. -/
structure LossJob where
  groups : List Nat
  rows : List (Nat × Rat × Rat × List Rat)
  sigmaLambda : Nat
  tempSigma : Nat
  maxStep : Int
  lo : Int
  hi : Int
  deriving DecidableEq, Repr

/-- The estimator. -/
structure Estim where
  /-- per branch, the multiplier of its group in 0.001 -/
  loss : Tab Int := []
  /-- per channel, β in W; per plant, θ in 0.001 -/
  bias : Tab Int := []
  drift : Tab Int := []
  status : Nat := 0
  seq : Nat := 0
  time : Nat := 0
  updated : Nat := 0
  heldN : Nat := 0
  clamped : Nat := 0
  rms : Nat := 0
  reset : Bool := false
  win : EstWin := {}
  /-- the loss job of the last run that is out -/
  lossJob : Option LossJob := none
  deriving DecidableEq, Repr

/-! ## Dispatch (R144–R182) -/

/-- One step of a plan (R170): its length in ms, decisions and states as raw and scale code; and the signed electric power of each
plant (R154, R174). -/
structure PlanStep where
  ms : Nat
  dec : List (Int × Int)
  st : List (Int × Int)
  pel : List (Int × Int) := []
  deriving DecidableEq, Repr

/-- The plan in force (R169–R176). -/
structure Plan where
  version : Nat := 0
  status : Nat := 0
  cold : Bool := false
  time : Nat := 0
  start : Nat := 0
  first : Nat := 0
  stepLen : Nat := 15
  decs : Nat := 0
  states : Nat := 0
  objective : Int := 0
  steps : List PlanStep := []
  /-- device times at which the steps end; grid boundaries passed at publication (R169), and since -/
  ends : List Nat := []
  shifted : Nat := 0
  past : Nat := 0
  /-- `FLEX_CAP` of each network in the snapshot (R156) -/
  flexCap : List Nat := []
  /-- step in force -/
  step : Nat := 0
  inForce : Bool := false
  stale : Bool := false
  withdrawn : Bool := false
  exhausted : Bool := false
  /-- the plan values as last delivered, with their version; the hint words -/
  values : Tab (Int × Int) := []
  valVersion : Nat := 0
  hints : Tab Nat := []
  /-- what a warm start compares (R165): calendar offset, topology hash, horizon -/
  calOffset : Int := 0
  topo : Nat := 0
  horizon : Nat := 0
  /-- Z of each network at the end of step 0 -/
  z0 : Tab (Int × Int) := []
  deriving DecidableEq, Repr

/-- What a re-plan takes for a boundary node (R477, R481): prices (0.001 mu/MWh) and agreed exchange (kW) per step, and the exchange it
is fixed at. -/
structure BndPlan where
  price : List Int := []
  hat : List Int := []
  fixed : Option (List Int) := none
  deriving DecidableEq, Repr

/-- The snapshot a re-plan works on (R147). -/
structure ReSnap where
  ts : Nat
  cold : Bool
  warmRejected : Bool
  deadline : Nat
  n : Nat
  stepLen : Nat
  img : Octets
  vals : Tab Val
  /-- device times of the ends of the steps -/
  ends : List Nat
  calOffset : Int
  deliv : List Deliv
  bias : Tab Int
  drift : Tab Int
  loss : Tab Int
  /-- per network, mean loss of the last thermal step in W -/
  lossW : Tab Int
  /-- per store, energy in Wh and layer temperatures in µ°C; per battery, state of charge (fraction raw at −15) -/
  storeWh : Tab Int
  layers : Tab (List Int)
  soc : Tab Int
  status : Tab Nat
  rise : Tab Nat
  fall : Tab Nat
  dli : Tab Int
  /-- measured output per plant (W) -/
  out : Tab Int
  profB : Tab Int
  profS : Tab Int
  prev : Plan
  /-- forecast series where none was written: held outdoor temperature (0.01 °C), and quarter-hour means of the past 24 h -/
  outdoor : Int
  irr : List Nat
  par : List Nat
  /-- a cascade round's number; per boundary node, its terms -/
  round : Option Nat
  bnd : Tab BndPlan
  /-- today's `WEEKDAY`, and the device time it was read at -/
  weekday : Nat
  /-- μ₀ of R163 -/
  mu0 : Rat := 0
  deriving DecidableEq, Repr

/-- The demand statistics of a quarter-hour (R152). -/
structure Quarter where
  /-- start of the first period in it -/
  start : Nat := 0
  periods : Nat := 0
  /-- per channel: periods with fresh reports, Σ power in W; 512 is the residual electric load -/
  chans : Tab (Nat × Int) := []
  outdoor : Int := 0
  irr : Nat := 0
  par : Nat := 0
  deriving DecidableEq, Repr

/-- The dispatch optimiser. -/
structure Disp where
  nowPending : Bool := false
  forceCold : Bool := false
  run : Option ReSnap := none
  lastStatus : Nat := 0
  flags : Nat := 0
  iterations : Nat := 0
  solveUs : Nat := 0
  lastStart : Nat := 0
  pivots : Nat := 0
  slackMax : Nat := 0
  clamps : Nat := 0
  published : Nat := 0
  notPublished : Nat := 0
  colds : Nat := 0
  rejections : Nat := 0
  plan : Plan := {}
  /-- version, step and hint words as last delivered (R173) -/
  delVersion : Nat := 0
  delStep : Nat := 0
  delHints : Tab Nat := []
  /-- the values the last re-plan took: its recipes and assignments are in effect (R96) -/
  lightVals : Option (Tab Val) := none
  /-- profile slots by channel × 672 + slot (channel 512 the residual): b in mW, s in mW/K -/
  profB : Tab Int := []
  profS : Tab Int := []
  quarter : Quarter := {}
  irr24 : List Nat := []
  par24 : List Nat := []
  /-- accumulators by group × 4 + band, in 10⁻⁹ mol/m² -/
  dli : Tab Int := []
  /-- plant status words as last seen and the times at which RUNNING rose and fell -/
  pstatus : Tab Nat := []
  rise : Tab Nat := []
  fall : Tab Nat := []
  coldNext : Bool := false
  deriving DecidableEq, Repr

end Machine
end Sys2Proof
end

