-- ==== Sys2Proof/Machine/Parts/Cluster.lean ====
section
/-! DEFINITION. The parts of State that chapters 16 (lanes, lease, mirroring, voting) and 17 (Jiest ports, cascade rounds)
give the device, and the operands by which messages of both arrive. -/

namespace Sys2Proof
namespace Machine

/-! ## Redundancy (chapter 16) -/

/-- A redundancy message (R440). -/
structure RedMsg where
  type : Nat
  lane : Nat
  role : Nat
  flags : Nat
  boot : Nat
  cycle : Nat
  req : Nat
  grant : Nat
  grantTo : Nat
  exclude : Nat
  modelCrc : Nat
  progCrc : Nat
  fw : Nat
  tR : Nat
  l : Nat
  g : Nat
  tag : Octets
  deriving DecidableEq, Repr

/-- One item of mirror content (R453). The manual gives the content and not its layout on the link. -/
inductive MirrorItem where
  | loop (n : Nat) (state : LoopState) (cause : Nat) (acc d edPrev uPrev u : Int) (ovr : Nat) (rep : RepCtx)
  | logicWord (area word : Nat) (value : Int)
  | timer (i : Nat) (t : Timer)
  | detector (i : Nat) (d : Detector)
  | committed (q : Tab Word32) (cycle : Nat)
  | change (cs : List Change) (no : Nat)
  | forces (l : List Force)
  | plan (p : Plan)
  | input (idx sub : Nat) (value : Octets)
  | learned (loss bias drift profB profS : Tab Int)
  | counters (plan change : Nat)
  | finished
  deriving DecidableEq, Repr

/-- What a lane knows of another lane (R439–R446). -/
structure Peer16 where
  /-- a message was accepted since boot; the last one, and the identical ones of the same BOOT and CYCLE -/
  heard : Bool := false
  last : List RedMsg := []
  role : Nat := 0
  flags : Nat := 0
  exclude : Nat := 0
  msg : Option RedMsg := none
  /-- own cycle of the last message on the Jiest and the CAN path, and on either -/
  jiestAt : Nat := 0
  canAt : Nat := 0
  at_ : Nat := 0
  jiestHeard : Bool := false
  canHeard : Bool := false
  jiestLost : Bool := false
  canLost : Bool := false
  silent : Bool := false
  /-- raw time since which it is silent; own cycle at which it last announced holder -/
  silentSince : Nat := 0
  holderAt : Option Nat := none
  dissent : Nat := 0
  vector : List (Nat × Int) := []
  /-- own cycle of its last output vector; its resync content has been sent -/
  vectorAt : Nat := 0
  resync : Bool := false
  deriving DecidableEq, Repr

/-- The lease and its lane (R437–R461). -/
structure Lease where
  /-- 0 STANDBY, 1 CLAIMING, 2 HOLDER, 3 EXCLUDED (R460) -/
  state : Nat := 0
  /-- raw time at which the lease timer reaches 0 -/
  timer : Nat := 0
  own : Bool := false
  /-- cycle at whose boundary OWN rises -/
  ownAt : Option Nat := none
  cycle : Nat := 0
  /-- the last redundancy cycle boundary, in whole T_R of device time (R438) -/
  boundary : Nat := 0
  /-- per lane, the raw time until which this lane refrains for it -/
  refrain : Tab Nat := []
  req : Nat := 0
  /-- the last REQ sent with its raw time, and whether a grant for it was accepted -/
  reqAt : Nat := 0
  granted : Bool := false
  claim : Option (Nat × Nat × Nat) := none
  /-- raw time of the last grant received and sent; whether one was sent since the entry to RUN -/
  grantAt : Nat := 0
  sentGrant : Bool := false
  everHeld : Bool := false
  expired : Bool := false
  solo : Bool := false
  holderExpired : Bool := false
  voteSplit : Bool := false
  discarded : Bool := false
  resyncDone : Bool := false
  resyncAsked : Nat := 0
  excludeVotes : Nat := 0
  excluded : Nat := 0
  /-- planned switch-over: target and the cycle of its first boundary -/
  handover : Option (Nat × Nat) := none
  /-- a RELEASE naming this lane was accepted: its sender and the raw time -/
  released : Option (Nat × Nat) := none
  peers : Tab Peer16 := []
  taken : Nat := 0
  switches : Nat := 0
  expiries : Nat := 0
  solos : Nat := 0
  exclusions : Nat := 0
  tagFails : Nat := 0
  resyncs : Nat := 0
  /-- LAST_SWITCH -/
  rise : Nat := 0
  way : Nat := 0
  gap : Nat := 0
  load : Nat := 0
  peak : Nat := 0
  /-- mirror content received for the next boundary; content waiting to be sent -/
  inbox : List MirrorItem := []
  outbox : List MirrorItem := []
  mirrored : List MirrorItem := []
  /-- what the last deltas of M, K, counts, timers and detectors were taken against -/
  mirM : Tab Word32 := []
  mirK : Tab Int := []
  mirC : Tab Counter := []
  mirT : Tab Timer := []
  mirE : Tab Detector := []
  /-- the output vector of this cycle (R456) -/
  vector : List (Nat × Int) := []
  /-- the mismatches of R446 as last seen: 1 model, 2 program, 4 firmware, 8 parameters -/
  mism : Nat := 0
  /-- single operation by a wrong strap (R437) -/
  strapBad : Bool := false
  /-- configuration in force: CONFIG, T_R (µs), L, G, as taken at the last restart -/
  cfg : Nat := 0
  tR : Nat := 1000
  l : Nat := 32
  g : Nat := 4
  deriving DecidableEq, Repr

/-! ## Jiest and cascade (chapter 17) -/

/-- A Jiest frame as it arrives (R464); `good`: its CRC matches and it holds no code violation. -/
structure JFrame where
  ftype : Nat
  flags : Nat
  seq : Nat
  ack : Nat
  msg : Nat
  payload : Octets
  good : Bool
  deriving DecidableEq, Repr

/-- A Jiest port (R463–R470). -/
structure JPort where
  state : Nat := 0
  since : Nat := 0
  aligned : Bool := false
  nPos : Nat := 0
  nLane : Nat := 0
  nSerial : Nat := 0
  /-- lanes in use per direction (transmit, receive), of 0–2; lanes out of service -/
  tx : List Nat := [0, 1]
  rx : List Nat := [0, 1]
  txOut : List Nat := []
  rxOut : List Nat := []
  sent : Nat := 0
  recv : Nat := 0
  failed : Nat := 0
  retrains : Nat := 0
  unknown : Nat := 0
  /-- next SEQ to send; frames not yet covered by an ACKSEQ, oldest first; frames waiting -/
  txSeq : Nat := 0
  window : List JFrame := []
  waiting : List JFrame := []
  msgNo : Nat := 0
  /-- next SEQ expected; discarding up to its retransmission; failed deliveries of it -/
  rxSeq : Nat := 0
  discarding : Bool := false
  fails : Nat := 0
  /-- messages in pieces by MSG_ID -/
  pieces : Tab Octets := []
  /-- the neighbour's boundary table has arrived; the own table opened an exchange that is not answered yet (R475) -/
  tableHeard : Bool := false
  tableSent : Bool := false
  deriving DecidableEq, Repr

/-- One boundary of the cascade (R475–R481), by boundary index. -/
structure Bound where
  matched : Bool := false
  /-- prices per step (0.001 mu/MWh); own exchange; the other end's last FLOWS, and the round it belongs to -/
  price : List Int := []
  own : List Int := []
  other : List Int := []
  otherRound : Nat := 0
  /-- mismatch z per step of the last round -/
  z : List Int := []
  fixed : Bool := false
  missed : Nat := 0
  agreed : List Int := []
  deriving DecidableEq, Repr

/-- The parameters a START carries (R476). -/
structure RoundPar where
  ts : Nat := 0
  horizon : Nat := 0
  stepLen : Nat := 0
  period : Nat := 0
  roundMs : Nat := 80
  roundsMax : Nat := 16
  tol : Nat := 50
  deriving DecidableEq, Repr

/-- The cascade (R471–R483). -/
structure Cascade where
  ports : Tab JPort := []
  bounds : Tab Bound := []
  par : RoundPar := {}
  /-- a cascade re-plan runs; its round; rounds run; end; final largest |z| -/
  running : Bool := false
  round : Nat := 0
  rounds : Nat := 0
  ended : Nat := 0
  finalZ : Nat := 0
  /-- children's reports of this round by port: largest |z| and missed -/
  reports : Tab (Nat × Bool) := []
  reported : Bool := false
  ownZ : Nat := 0
  missedNow : Bool := false
  /-- the latest round whose U prices have arrived -/
  pricesRound : Nat := 0
  /-- the rounds that gave a publishable plan, latest first, and their plans -/
  best : List (Nat × Plan) := []
  mismatch : Bool := false
  parMismatch : Bool := false
  roundMissed : Bool := false
  topoBad : Bool := false
  laneDegraded : Bool := false
  /-- the last cascade core sample forwarded -/
  lastCore : Nat := 0
  /-- TIME frames: the parent's last send per port and the arrival of its echo -/
  t4 : Tab Nat := []
  t1 : Tab Nat := []
  /-- device time of the last TIME sends -/
  timeAt : Option Nat := none
  /-- the parameters of a START that a lane without the lease has relayed, until its COMMIT (R484) -/
  heard : Option RoundPar := none
  /-- a commanded cascade re-plan at this device time -/
  nowAt : Option Nat := none
  deriving DecidableEq, Repr

end Machine
end Sys2Proof
end

