-- ==== Sys2Proof/Machine/Parts/Operand.lean ====
section
/-! DEFINITION. Operand types of the commands that are not themselves parts of State. -/

namespace Sys2Proof
namespace Machine

/-- What befell one copy of a critical record before a read (R25): a bit of a word or its parity bit (bit 32) turned over, a bit
of the CRC turned over, or the write of the copy was cut, so that it still holds what it held before. -/
inductive CritHit where
  | word (w b : Nat)
  | crc (b : Nat)
  | cut (old : Octets)
  deriving DecidableEq, Repr

/-- A read of a critical record (R25): its kind in the order of R26's table from 0, its number, the generation of its last write, and
what befell copies 0 and 1. -/
structure CritRead where
  kind : Nat
  index : Nat
  gen : Nat
  hits0 : List CritHit
  hits1 : List CritHit
  deriving DecidableEq, Repr

/-- The words of a loop context (R237): its state, its state words, its counters, its configuration. -/
inductive CtxWord where
  | state | acc | d | edPrev | uPrev | counters | config
  deriving DecidableEq, Repr

/-- What CTRL finds at a loop's slot (operand of LOOP_EVALUATION; R219, R235, R237, R238): whether a y of kind 1 has landed and
its code, whether the residue check fails, the context words of which only the working copy fails, those of which only the checkpoint
fails, and whether both copies of a word fail. -/
structure EvalIn where
  landed : Bool
  code : Nat
  residueBad : Bool
  working : List CtxWord
  checkpoint : List CtxWord
  lost : Bool
  deriving DecidableEq, Repr

/-- What a CAN port's controller detects (operand of CAN_FRAME_ERROR; R361, R372, R374): an error as transmitter or receiver (a
receiver's REC step is 1 or 8 under the standard), with the identifier (laid out as `ID`) and data-bit index where it lies in a
data field; or a recessive res bit in an FD frame. -/
inductive BusErr where
  | asTx (dataField : Option (Nat × Nat))
  | asRx (step : Nat) (dataField : Option (Nat × Nat))
  | protocolException
  deriving DecidableEq, Repr

/-- What a program cycle finds in words that fail parity (operand of PROGRAM_CYCLE; R352): the stall, in LOGIC cycles, of each
program-store word that is read again, and each variable word by its area code (R331) and number. -/
structure LogicLoss where
  stalls : List Nat := []
  words : List (Nat × Nat) := []
  deriving DecidableEq, Repr

end Machine
end Sys2Proof
end

