-- ==== Sys2Proof/Syntax.lean ====
section
/-! DEFINITION. The commands of the PX5120, one constructor for each row of the spec's table of operations and events
(opcode_table.json). Every command but the logic instructions carries the moment `t` at which it happens, in nanoseconds
of raw time. -/

namespace Sys2Proof
open Sys2Proof.Machine

/-- A command of the block: an access, an event on a pin or a bus, the end of a job, or a logic instruction. -/
inductive Instr where
  /-- CLOCK_SWITCH (R14): The frequency monitor finds an island generator outside ±1 %, so the island's clock stops, switches to the spare generator and resumes within 20 µs. -/
  | clockSwitch (t : Nat) (isl : Nat) (dur : Nat)
  /-- REFCLK_LOST (R16): REFCLK shows no edge for 4 BACKUP cycles, so the generators hold open loop, device time is marked unsynchronised and the device enters SAFE_HOLD with hold cause 2. -/
  | refclkLost (t : Nat)
  /-- REFCLK_RELOCK (R16): Every generator relocks after REFCLK returns, which clears hold cause 2. -/
  | refclkRelock (t : Nat)
  /-- DEGRADED_CAUSE_TIMEOUT (R46): The 60 s window of a timed DEGRADED cause (FABRIC_FAULT, CRITICAL_REBUILT) ends and the bit clears, possibly returning the device to RUN. -/
  | degradedCauseTimeout (t : Nat)
  /-- ENTER_SAFE_HOLD (R47): Request 1 at STATE_REQUEST adds hold cause 1, and the device holds its outputs in SAFE_HOLD. -/
  | enterSafeHold (t : Nat) (a : Acc)
  /-- LEAVE_SAFE_HOLD (R47): Request 2 at STATE_REQUEST clears cause 1 and returns the device to RUN or DEGRADED if no other cause is present, and is refused otherwise. -/
  | leaveSafeHold (t : Nat) (a : Acc)
  /-- ENTER_SERVICE (R44): Request 3 from a service session holds the outputs and enters SERVICE. -/
  | enterService (t : Nat) (a : Acc)
  /-- FABRIC_WORD_RECEIVE (R21): A forward fabric word arrives and is accepted, or is discarded with a REPLAY request when its parity fails, or is faulted on its fourth failed delivery. -/
  | fabricWordReceive (t : Nat) (a : Nat) (b : Nat) (w : FabWord) (err : BitVec 37)
  /-- ACK (R20): A cumulative ACK arrives and frees words from the sender's replay window. -/
  | ackWord (t : Nat) (a : Nat) (b : Nat) (data : BitVec 32) (par : Bool)
  /-- REPLAY (R21): A REPLAY request arrives and the sender resends its window from the named word. -/
  | replayWord (t : Nat) (a : Nat) (b : Nat) (data : BitVec 32) (par : Bool)
  /-- FAULT (R23): A FAULT reverse word arrives, and the sender flushes the rest of the message and resumes at the next message. -/
  | faultWord (t : Nat) (a : Nat) (b : Nat) (data : BitVec 32) (par : Bool)
  /-- REPLAY_TIMEOUT (R21): A REPLAY goes unanswered for 32 receiver cycles and is sent again; after four such requests the word is faulted. -/
  | replayTimeout (t : Nat) (a : Nat) (b : Nat)
  /-- EVENT_POST (R27): An island posts an event into its event queue, or loses it and counts the loss when the queue is full. -/
  | eventPost (t : Nat) (isl : Nat) (code : Nat) (unit : Nat) (args : List EvArg) (edge : EvEdge)
  /-- EVENT_GAP (R31): Once room returns, an island posts a gap event that carries its count of lost events. -/
  | eventGap (t : Nat) (isl : Nat)
  /-- EVENT_ADMIT (R28): At a slot, the arbiter admits the earliest eligible event, stamps its sequence number and admission timestamp, logs it and updates its alarm row. -/
  | eventAdmit (t : Nat)
  /-- WRITE (R62): An expedited DAP WRITE to an entry with no behaviour of its own is checked under R62 and applied atomically. -/
  | writeEntry (t : Nat) (a : Acc) (index : Nat) (sub : Nat) (v : Octets) (crit : List CritRead)
  /-- READ_INIT (R68): A READ_INIT opens a segmented read, takes a snapshot or reads in place, and returns the total length. -/
  | readInit (t : Nat) (a : Acc) (index : Nat) (sub : Nat) (bad : List Nat)
  /-- WRITE_INIT (R68): A WRITE_INIT opens a segmented write and allocates staging. -/
  | writeInit (t : Nat) (a : Acc) (index : Nat) (sub : Nat) (total : Nat)
  /-- SEGMENT_WRITE (R68): A write SEGMENT is staged, and on LAST the trailer is checked and the value is applied atomically. -/
  | segmentWrite (t : Nat) (a : Acc) (offset : Nat) (last : Bool) (b : Octets)
  /-- SEGMENT_READ (R68): A read SEGMENT returns data from the given offset and closes the transfer when it reaches the end. -/
  | segmentRead (t : Nat) (a : Acc) (offset : Nat) (bad : List Nat)
  /-- DESCRIBE (R66): A DESCRIBE returns an entry's type, access, level, flags, size, range and unit. -/
  | describe (t : Nat) (a : Acc) (index : Nat) (sub : Nat)
  /-- ABORT (R68): A client ABORT discards the open transfer and is echoed, or resends the final response of the last completed transfer. -/
  | abortXfer (t : Nat) (a : Acc) (index : Nat) (sub : Nat) (code : Nat)
  /-- TRANSFER_TIMEOUT (R68): No SEGMENT arrives for 1 s, so the transfer is discarded and ABORT 0x0A0D is sent. -/
  | transferTimeout (t : Nat) (n : Nat)
  /-- STORE_ALL (R56): A write of 0x0000_5AFE snapshots every saveable entry and starts its keep-store write. -/
  | storeAll (t : Nat) (a : Acc)
  /-- STORE_DONE (R56): The keep-store write of a store completes or fails, and STORE_RESULT is set. -/
  | storeDone (t : Nat) (ok : Bool) (remaps : List Nat)
  /-- RESTORE_DEFAULTS (R57): A write of 0x0000_D3FA invalidates the saved-values record for the next restart. -/
  | restoreDefaults (t : Nat) (a : Acc)
  /-- WRITE_PDU (R74): A host-port WRITE_PDU transaction enqueues one DAP PDU of session 0 and raises HRDY again. -/
  | writePdu (t : Nat) (l : Nat) (b : Octets) (odd : Bool)
  /-- READ_STATUS (R75): A host-port READ_STATUS returns the status octets and clears BOOTED. -/
  | readStatus (t : Nat)
  /-- READ_RESPONSE (R74): A host-port READ_RESPONSE returns the pending response PDU. -/
  | readResponse (t : Nat)
  /-- MODEL_IMAGE_STAGE (R106): The final segment of a write to IMAGE_STAGE 0x2000.01 submits a model image for validation. -/
  | modelImageStage (t : Nat) (a : Acc) (offset : Nat) (b : Octets)
  /-- MODEL_IMAGE_VALIDATED (R104): Validation of a staged model image ends, leaving it VALID or INVALID, and the response or 0x0A10 is sent. -/
  | modelImageValidated (t : Nat)
  /-- MODEL_ACTIVATE (R106): A write of 0x0000_4D0D to ACTIVATE re-checks the staged image's CRC and starts its keep-store write, or is refused. -/
  | modelActivate (t : Nat) (a : Acc)
  /-- MODEL_WRITE_DONE (R106): The keep-store write of an activation completes or fails. -/
  | modelWriteDone (t : Nat) (ok : Bool)
  /-- MODEL_SWITCH (R107): At the next hydraulic period start the running model switches, aborting jobs and withdrawing the plan on a topology change. -/
  | modelSwitch (t : Nat)
  /-- RECIPE (R95): A write of a 536-octet recipe is checked and stored atomically. -/
  | recipe (t : Nat) (a : Acc) (r : Nat) (v : Octets)
  /-- RECIPE_ASSIGN (R96): A write of the 32 recipe assignments is checked against band counts and stored. -/
  | recipeAssign (t : Nat) (a : Acc) (v : Octets)
  /-- TARIFF_SERIES (R97): A write of one tariff series is checked for increasing starts and stored. -/
  | tariffSeries (t : Nat) (a : Acc) (j : Nat) (v : Octets)
  /-- TARIFF_ALL (R97): A write of TARIFF_ALL replaces all eight tariff series in one access. -/
  | tariffAll (t : Nat) (a : Acc) (v : Octets)
  /-- FC_SERIES (R98): A write of one forecast series replaces it, and an empty write clears PRESENT. -/
  | fcSeries (t : Nat) (a : Acc) (q : Nat) (v : Octets)
  /-- FC_ALL (R98): A write of FC_ALL replaces all three forecast series in one access. -/
  | fcAll (t : Nat) (a : Acc) (v : Octets)
  /-- LIGHT_DAY_START (R96): The light day starts, and the DLI accumulators reset. -/
  | lightDayStart (t : Nat)
  /-- HYD_PERIOD_START (R113): At a multiple of HYD_PERIOD, inputs are snapshotted, branch coefficients are refreshed and the Newton job is submitted. -/
  | hydPeriodStart (t : Nat)
  /-- HYD_JOB_END (R123): The hydraulic Newton job ends, its status is set and the result is published or refused, and then the thermal step runs. -/
  | hydJobEnd (t : Nat)
  /-- DELIV_PROBE_END (R133): The probe job ends, and the deliverability records are replaced or PROBE_FAIL is set. -/
  | delivProbeEnd (t : Nat)
  /-- HYD_STALE (R125): No result has been published for FAIL_HOLD s, so STALE is set and the deliverability records are derated. -/
  | hydStale (t : Nat)
  /-- ESTIM_RUN (R135): At a multiple of ESTIM_PERIOD, the estimator updates biases and drifts and submits the loss job. -/
  | estimRun (t : Nat)
  /-- ESTIM_LOSS_END (R139): The loss job ends, the multipliers are applied or skipped, the status is set and the learned record is written. -/
  | estimLossEnd (t : Nat)
  /-- ESTIM_RESET (R140): A write of 0x0000_E57A schedules every learned value to return to its initial value at the next run. -/
  | estimReset (t : Nat) (a : Acc)
  /-- PROFILE_UPDATE (R152): At each quarter-hour, the demand profile slots of fresh channels are updated. -/
  | profileUpdate (t : Nat) (lost : List (Nat × Nat)) (soft : Nat)
  /-- REPLAN_START (R146): At a re-plan instant, the snapshot, forecasts and initial point are taken and the dispatch job starts. -/
  | replanStart (t : Nat) (lost : List (Nat × Nat)) (soft : Nat)
  /-- REPLAN_NOW (R145): A write of 0x0000_9A1D makes one commanded re-plan pending. -/
  | replanNow (t : Nat) (a : Acc)
  /-- FORCE_COLD (R165): A write of 0x0000_C01D makes the next re-plan a cold start. -/
  | forceCold (t : Nat) (a : Acc)
  /-- HORIZON (R150): A write of HORIZON is checked against the storage rule, and the next re-plan then starts cold. -/
  | horizon (t : Nat) (a : Acc) (n : Nat)
  /-- STEP_LEN (R150): A write of STEP_LEN is checked for dividing 1440 and against the storage rule, and the next re-plan then starts cold. -/
  | stepLen (t : Nat) (a : Acc) (n : Nat)
  /-- DISPATCH_JOB_END (R167): The dispatch job ends, then the publication check, status, commitment rounding and publication with delivery follow. -/
  | dispatchJobEnd (t : Nat)
  /-- GRID_BOUNDARY (R175): At a grid boundary, the step in force advances, its values are delivered, and EXHAUSTED is set after the last step. -/
  | gridBoundary (t : Nat)
  /-- PLAN_STALE (R175): PLAN_MAX_AGE passes without a publication, so STALE is set and logged. -/
  | planStale (t : Nat)
  /-- LOAM_PREEMPT (R199): A runnable job of a lower class takes SOLV at the next panel boundary of the running job. -/
  | loamPreempt (t : Nat)
  /-- LOAM_ITERATION_COMPLETE (R201): A job completes an iteration, and the completed mark moves to the newly written iterate set. -/
  | loamIterationComplete (t : Nat) (c : Nat)
  /-- LOAM_DEADLINE (R202): A job's deadline takes effect, the iteration in progress is discarded, and the owner's final step runs on the last completed iterate. -/
  | loamDeadline (t : Nat) (c : Nat)
  /-- LOAM_ABORT_REQUEST (R204): An abort request for a job reaches the SOLV arbiter and gives ABORTED, or ABORT_LATE if the job is already DONE. -/
  | loamAbortRequest (t : Nat) (c : Nat) (no : Nat) (frm : Nat)
  /-- LOAM_PARITY_FAULT (R206): A working-store word fails parity, so the run is discarded, the inputs are reloaded from subsoil and the job is replayed. -/
  | loamParityFault (t : Nat) (addr : Nat) (again : Bool) (lost : Option Nat)
  /-- LOAM_RESIDUE_MISMATCH (R208): A lane or divider fails its residue check, so the element is replaced and the job is replayed. -/
  | loamResidueMismatch (t : Nat) (divider : Bool) (lane : Nat) (addr : Nat) (again : Bool) (lost : Option Nat)
  /-- LOOP_EVALUATION (R221): At a loop's sample tick and slot, the control law is evaluated and the output is handed to its destination. -/
  | loopEvaluation (t : Nat) (n : Nat) (x : EvalIn)
  /-- PIPELINE_TAKEOVER (R238): At the next tick boundary, the spare pipeline takes over the failing pipeline's slot table. -/
  | pipelineTakeover (t : Nat)
  /-- MODE_REQ_OFF (R226): A dictionary request OFF releases the loop's slot. -/
  | modeReqOff (t : Nat) (a : Acc) (n : Nat)
  /-- MODE_REQ_OPEN (R226): A dictionary request OPEN admits the loop or moves it to OPEN. -/
  | modeReqOpen (t : Nat) (a : Acc) (n : Nat)
  /-- MODE_REQ_CLOSED (R226): A dictionary request CLOSED admits the loop or closes it bumplessly at its next sample. -/
  | modeReqClosed (t : Nat) (a : Acc) (n : Nat)
  /-- MODE_REQ_TRACK (R226): A dictionary request TRACK moves the loop to TRACK. -/
  | modeReqTrack (t : Nat) (a : Acc) (n : Nat)
  /-- LOGIC_MODE_REQUEST (R227): A committed change of a loop mode request word reaches CTRL and is applied, or is ignored with REQ_REJ set. -/
  | logicModeRequest (t : Nat) (n : Nat) (w : Nat)
  /-- COEF_CLASS_WRITE (R229): A write of NUM_MODE, PERIOD, PRESCALE, PHASE, SOURCES, COEF or CASCADE is accepted in OFF or OPEN with readmission, and is refused otherwise. -/
  | coefClassWrite (t : Nat) (a : Acc) (n : Nat) (sub : Nat) (v : Octets)
  /-- LOOP_LIVE_WRITE (R230): A write of LIMITS, SP, MAN, SAFE_U or OVR_LIMIT takes effect at the next evaluation. -/
  | loopLiveWrite (t : Nat) (a : Acc) (n : Nat) (sub : Nat) (v : Octets)
  /-- LOOP_CLEAR_STICKY (R243): A write of 0x01 clears the loop's sticky flags and its REP sticky bits. -/
  | loopClearSticky (t : Nat) (a : Acc) (n : Nat)
  /-- PWM_PERIOD_START (R574): At a PWM period start, the output goes high for its latched high time, and a new high time or period is latched. -/
  | pwmPeriodStart (t : Nat) (k : Nat)
  /-- AI_BACKGROUND_CONVERSION (R219): Each AI is converted at least once per millisecond in a window that no loop uses. -/
  | aiBackgroundConversion (t : Nat) (k : Nat) (code : Nat)
  /-- REP_PREFETCH (R251): At the tick of sample s − 1, the two table words for sample s are prefetched from subsoil. -/
  | repPrefetch (t : Nat) (n : Nat) (bad1 : Bool) (bad2 : Bool) (soft : Nat)
  /-- REP_CLEAR (R254): A write of 0x01 clears the repetitive table and history between evaluations. -/
  | repClear (t : Nat) (a : Acc) (n : Nat)
  /-- REP_CONFIG (R248): A write of REP_CONFIG is checked, checked against the REP load and applied, clearing the table as R254 states. -/
  | repConfig (t : Nat) (a : Acc) (n : Nat) (v : Octets)
  /-- REP_TABLE (R255): A write of the repetitive table, in OFF or OPEN, replaces the table and clears the history. -/
  | repTable (t : Nat) (a : Acc) (n : Nat) (v : Octets)
  /-- PROBE_CONFIG (R259): A write of a probe's configuration is checked and stored while the probe is not armed. -/
  | probeConfig (t : Nat) (a : Acc) (p : Nat) (v : Octets)
  /-- ARM (R260): A write of ARM arms the named probes together and discards their earlier records. -/
  | armProbes (t : Nat) (a : Acc) (mask : Nat)
  /-- TRIGGER_NOW (R261): A write of TRIGGER_NOW triggers the named armed probes at one instant. -/
  | triggerNow (t : Nat) (a : Acc) (mask : Nat)
  /-- TRACE_ABORT (R263): A write of ABORT requests the abort of the named captures. -/
  | traceAbort (t : Nat) (a : Acc) (mask : Nat)
  /-- CLEAR_FLAGS (R267): A write of CLEAR_FLAGS clears ABORT_LATE of the named probes. -/
  | clearFlags (t : Nat) (a : Acc) (mask : Nat)
  /-- CAPTURE_DONE (R263): MEM acknowledges the POST-th record, and the probe becomes DONE. -/
  | captureDone (t : Nat) (p : Nat)
  /-- METERING_SAMPLE (R273): Every 125 µs, every enabled input is trimmed, filtered and corrected, its products are accumulated and pulse outputs are driven. -/
  | meteringSample (t : Nat) (d : (List Int))
  /-- WINDOW_END (R277): A metering window ends, and the energies are routed to registers, the measurements are reported and pulses are owed. -/
  | windowEnd (t : Nat) (c : Nat) (crit : List CritRead)
  /-- FREQ_LOST (R274): No positive crossing for 40 ms, or f out of range, sets FREQ_LOST and fixed windows. -/
  | freqLost (t : Nat) (cp : Nat)
  /-- HALF_CYCLE (R281): At a reference crossing, the half-cycle RMS is refreshed and the sag, swell and interruption detectors are evaluated. -/
  | halfCycle (t : Nat) (cp : Nat)
  /-- WAVE_ARM (R284): A write of cp arms the waveform buffer for the next event start at that connection point. -/
  | waveArm (t : Nat) (a : Acc) (c : Nat)
  /-- WAVE_TRIGGER (R284): A write of 0x10 + cp triggers the waveform capture at once. -/
  | waveTrigger (t : Nat) (a : Acc) (c : Nat)
  /-- WAVE_CAPTURE_DONE (R284): The last sample of a waveform capture is written. -/
  | waveCaptureDone (t : Nat) (samples : (List (List Int)))
  /-- ENERGY_CLEAR (R278): A write of 0x0000_C1EA clears all registers of a connection point at the next window boundary. -/
  | energyClear (t : Nat) (a : Acc) (c : Nat)
  /-- CP_CONFIG_WRITE (R289): A write to a connection point's configuration takes effect at its next window boundary. -/
  | cpConfigWrite (t : Nat) (a : Acc) (c : Nat) (sub : Nat) (v : Octets)
  /-- PO_CONFIG (R286): A write of a pulse output's configuration takes effect at the next window and clears its residue and backlog. -/
  | poConfig (t : Nat) (a : Acc) (j : Nat) (v : Octets)
  /-- CAL_REQUEST (R288): A write queues the calibration of one input or of all seven. -/
  | calRequest (t : Nat) (a : Acc) (c : Nat) (k : Nat)
  /-- CAL_ABORT (R288): A write requests the abort of an input's queued or running calibration. -/
  | calAbort (t : Nat) (a : Acc) (c : Nat) (k : Nat)
  /-- CP_CAL_CLEAR (R288): A write of 0x01 clears ABORT_LATE for all seven inputs. -/
  | cpCalClear (t : Nat) (a : Acc) (c : Nat)
  /-- CAL_INTERVAL_EXPIRY (R290): The background calibration interval of a connection point expires and queues its inputs. -/
  | calIntervalExpiry (t : Nat) (cp : Nat)
  /-- CAL_START (R287): A queued calibration starts once a spare is free, switching the spare onto the input alongside it. -/
  | calStart (t : Nat)
  /-- CAL_TAKEOVER (R287): After 1024 samples, the spare takes over the input, MISMATCH is recorded and the modulator goes to the reference. -/
  | calTakeover (t : Nat) (diff : Int)
  /-- CAL_REFERENCE_DONE (R287): The three reference levels are measured and the new trims are computed. -/
  | calReferenceDone (t : Nat) (zero : Int) (plus : Int) (minus : Int)
  /-- CAL_HANDBACK (R288): The modulator takes the input back with its new trims, which completes the calibration. -/
  | calHandback (t : Nat)
  /-- MODULATOR_FAULT (R493): A modulator bitstream fault substitutes the last good samples, and a spare takes the input. -/
  | modulatorFault (t : Nat) (m : Nat)
  /-- CHANNEL_REPORT (R296): A channel report is accepted or discarded, replaces the live values and adds heat and volume to the registers. -/
  | channelReport (t : Nat) (src : RepSrc) (b : Octets) (crit : List CritRead)
  /-- REPORT_TIMEOUT (R296): A channel report's freshness expires after REPORT_TIMEOUT. -/
  | reportTimeout (t : Nat) (c : Nat)
  /-- SETPOINT_FRAME (R298): At the first 10 ms boundary after an owned word changes, the channel's set-point frame is queued. -/
  | setpointFrame (t : Nat) (c : Nat)
  /-- SETPOINT_REFRESH (R298): SP_REFRESH after the last frame, the set-point frame is queued again. -/
  | setpointRefresh (t : Nat) (c : Nat)
  /-- COMMAND_FRAME (R334): At the first 10 ms boundary after a commit changes a command word, the command frame is queued. -/
  | commandFrame (t : Nat) (c : Nat)
  /-- COMMAND_REFRESH (R334): SP_REFRESH after the last command frame, it is queued again. -/
  | commandRefresh (t : Nat) (c : Nat)
  /-- PULSE_EDGE (R305): An accepted pulse-input edge counts a pulse in the forward or reverse count. -/
  | pulseEdge (t : Nat) (i : Nat) (level : Bool)
  /-- PI_CONFIG (R305): A write of a pulse input's configuration resets its filter state. -/
  | piConfig (t : Nat) (a : Acc) (i : Nat) (v : Octets)
  /-- PI_CLEAR (R306): A write of 0x0000_C1EA zeroes a pulse count. -/
  | piClear (t : Nat) (a : Acc) (i : Nat)
  /-- CH_CLEAR (R304): A write of 0x0000_C1EA zeroes a channel's five registers between two reports. -/
  | chClear (t : Nat) (a : Acc) (c : Nat)
  /-- INTERVAL_BOUNDARY (R307): At an interval boundary, a core sample is taken and the interval record, ring head and energy record are written. -/
  | intervalBoundary (t : Nat) (remaps : List Nat)
  /-- CS_NOW (R311): A write of 0x01 requests a core sample in the next slot. -/
  | csNow (t : Nat) (a : Acc)
  /-- CS_AT (R311): A write schedules a core sample at a device time, or a cascade core sample with CS_SCOPE 1. -/
  | csAt (t : Nat) (a : Acc) (time : Nat)
  /-- CS_AT_CANCEL (R323): A write of 0 to CS_AT cancels the pending core sample. -/
  | csAtCancel (t : Nat) (a : Acc)
  /-- CORE_SAMPLE_LATCH (R312): At the requested time, TBASE distributes the epoch tick and every island latches its shadows. -/
  | coreSampleLatch (t : Nat)
  /-- CS_SHADOW_COPY (R313): Once every island block carries the new epoch, HOUSE copies the shadows into CS_SHADOW. -/
  | csShadowCopy (t : Nat)
  /-- RETENTION_WRITE (R317): Every 500 ms, the registers are latched and a retention copy of the deltas is written. -/
  | retentionWrite (t : Nat)
  /-- PROGRAM_CYCLE (R324): A program cycle runs the gap, the input snapshot, the execution and the commit, then waits MIN_PAUSE. -/
  | programCycle (t : Nat) (dio : Nat) (x : LogicLoss)
  /-- LOGIC_WATCHDOG (R327): WD_TIME passes without a commit, so execution stops and WD_RESPONSE decides the outcome. -/
  | logicWatchdog (t : Nat)
  /-- STOP (R328): PROG_CMD 1 lets the running cycle commit and then stops the program. -/
  | stopProgram (t : Nat) (a : Acc)
  /-- START_WARM (R328): PROG_CMD 2 warm-starts the program if the hashes match. -/
  | startWarm (t : Nat) (a : Acc)
  /-- START_COLD (R328): PROG_CMD 3 cold-starts the loaded program. -/
  | startCold (t : Nat) (a : Acc)
  /-- PROG_ACTIVATE (R349): PROG_CMD 4 starts the keep-store write of the staged program image. -/
  | progActivate (t : Nat) (a : Acc)
  /-- RESET_FAULT (R328): PROG_CMD 5 moves a halted program to STOP and clears hold cause 5. -/
  | resetFault (t : Nat) (a : Acc)
  /-- PROG_IMAGE_STAGE (R349): The final segment of a write to the program IMAGE_STAGE submits an image for validation. -/
  | progImageStage (t : Nat) (a : Acc) (offset : Nat) (b : Octets)
  /-- PROG_IMAGE_VALIDATED (R348): Program image validation ends as VALID or INVALID, and 0x0A11 is sent on failure. -/
  | progImageValidated (t : Nat)
  /-- PROG_IMAGE_LOADED (R349): The program image's keep-store write completes, and the code is loaded. -/
  | progImageLoaded (t : Nat) (ok : Bool)
  /-- CHANGE_SET (R345): A change set is checked and made pending, or applied at once in STOP or HALT. -/
  | changeSet (t : Nat) (a : Acc) (v : Octets)
  /-- K_WORD (R346): A write of one K word is a one-entry change set. -/
  | kWord (t : Nat) (a : Acc) (w : Nat) (v : Nat)
  /-- FORCE_SET (R344): A force is set on a bit or word of I, Q or M from the next gap. -/
  | forceSet (t : Nat) (a : Acc) (d : Nat) (v : Nat)
  /-- FORCE_RELEASE (R344): A force is released in the next gap, and the word takes its shadow. -/
  | forceRelease (t : Nat) (a : Acc) (d : Nat)
  /-- FORCE_RELEASE_ALL (R353): A write of 0xFFFF_FFFF releases every force. -/
  | forceReleaseAll (t : Nat) (a : Acc)
  /-- RETAINED_RECORD_WRITE (R351): After RETAIN_PERIOD or a change set, the retained record is written in the next gap. -/
  | retainedRecordWrite (t : Nat)
  /-- WARM_RESTART_REQUEST (R545): RESTART_REQ 1 in SERVICE saves and then restarts the device, aiming warm. -/
  | warmRestartRequest (t : Nat) (a : Acc)
  /-- COLD_RESTART_REQUEST (R545): RESTART_REQ 2 in SERVICE saves and then restarts the device cold. -/
  | coldRestartRequest (t : Nat) (a : Acc)
  /-- NOP (R337): No operation. -/
  | nop
  /-- TSTB (R337): TB := bit. -/
  | tstb (d : Opd)
  /-- TSTN (R337): TB := not bit. -/
  | tstn (d : Opd)
  /-- ANDB (R337): TB := TB and bit. -/
  | andb (d : Opd)
  /-- ANDN (R337): TB := TB and not bit. -/
  | andn (d : Opd)
  /-- ORB (R337): TB := TB or bit. -/
  | orb (d : Opd)
  /-- ORN (R337): TB := TB or not bit. -/
  | orn (d : Opd)
  /-- XORB (R337): TB := TB xor bit. -/
  | xorb (d : Opd)
  /-- NOTB (R337): TB := not TB. -/
  | notb
  /-- SETB (R337): If TB, bit := 1. -/
  | setb (d : Opd)
  /-- CLRB (R337): If TB, bit := 0. -/
  | clrb (d : Opd)
  /-- STB (R337): bit := TB. -/
  | stb (d : Opd)
  /-- LDTB (R337): TB := FIELD[0]. -/
  | ldtb (n : Nat)
  /-- LDW (R337): WA := operand. -/
  | ldw (d : Opd)
  /-- LDWB (R337): WB := operand. -/
  | ldwb (d : Opd)
  /-- LDI (R337): WA := immediate. -/
  | ldi (i : Word32) (len : Nat)
  /-- STW (R337): operand := WA. -/
  | stw (d : Opd)
  /-- SWAP (R337): WA and WB are exchanged. -/
  | swap
  /-- MOVB (R337): WB := WA. -/
  | movb
  /-- ADD (R338): WA := sat32(WA + operand). -/
  | add (d : Opd)
  /-- SUB (R338): WA := sat32(WA − operand). -/
  | subOp (d : Opd)
  /-- MUL (R338): WA := sat32(WA × operand). -/
  | mul (d : Opd)
  /-- DIV (R338): WA := WA / operand, truncated, with the divide-by-zero rules. -/
  | div (d : Opd)
  /-- MOD (R338): WA := the remainder of WA / operand. -/
  | modOp (d : Opd)
  /-- MULQ (R337): WA := sat32(rnd(WA × operand, 15)). -/
  | mulq (d : Opd)
  /-- ABS (R337): WA := sat32(|WA|). -/
  | absOp
  /-- NEG (R337): WA := sat32(−WA). -/
  | negOp
  /-- LIM (R337): WA is clamped between two operands. -/
  | lim (d : Opd) (e : Opd)
  /-- MIN (R337): WA := min(WA, operand). -/
  | minOp (d : Opd)
  /-- MAX (R337): WA := max(WA, operand). -/
  | maxOp (d : Opd)
  /-- ANDW (R337): WA := WA and operand. -/
  | andw (d : Opd)
  /-- ORW (R337): WA := WA or operand. -/
  | orw (d : Opd)
  /-- XORW (R337): WA := WA xor operand. -/
  | xorw (d : Opd)
  /-- NOTW (R337): WA := not WA. -/
  | notw
  /-- SHL (R337): WA is shifted left. -/
  | shl (n : Nat)
  /-- SHR (R337): WA is shifted right, logically. -/
  | shr (n : Nat)
  /-- SAR (R337): WA is shifted right, arithmetically. -/
  | sar (n : Nat)
  /-- CMP (R337): TB := the comparison of WA with the operand. -/
  | cmp (n : Nat) (d : Opd)
  /-- BMOV (R337): WB words are copied between areas. -/
  | bmov (d : Opd) (e : Opd)
  /-- JMP (R337): Jump. -/
  | jmp (n : Nat)
  /-- JMPT (R337): Jump if TB is set. -/
  | jmpt (n : Nat)
  /-- JMPF (R337): Jump if TB is clear. -/
  | jmpf (n : Nat)
  /-- CALL (R337): Push the return address and jump. -/
  | callOp (n : Nat)
  /-- RET (R337): Pop the return address and jump. -/
  | ret
  /-- LOOP (R337): Decrement WB and jump while it is non-zero. -/
  | loopOp (n : Nat)
  /-- END (R337): End the execution of the program cycle. -/
  | endP
  /-- TMR (R340): A timer is executed with input TB, and TB takes its output. -/
  | tmr (n : Nat)
  /-- CTU (R342): A counter counts up on a rising TB. -/
  | ctu (n : Nat)
  /-- CTD (R342): A counter counts down on a rising TB. -/
  | ctd (n : Nat)
  /-- CRS (R342): A counter resets if TB is set. -/
  | crs (n : Nat)
  /-- EDR (R343): Rising-edge detection. -/
  | edr (n : Nat)
  /-- EDF (R343): Falling-edge detection. -/
  | edf (n : Nat)
  /-- EVT (R337): If TB is set, a LOGIC_EVENT is posted, limited to 16 per cycle. -/
  | evt (n : Nat)
  /-- PORT_ENABLE (R361): PORT_ENABLE := 1 checks the timing and the port starts integrating. -/
  | portEnable (t : Nat) (a : Acc) (p : Nat)
  /-- PORT_DISABLE (R361): PORT_ENABLE := 0 aborts the pending buffers and takes the port OFF. -/
  | portDisable (t : Nat) (a : Acc) (p : Nat)
  /-- PORT_INTEGRATED (R361): 11 recessive bits move an integrating port to the state of its role. -/
  | portIntegrated (t : Nat) (p : Nat)
  /-- RESTRICT_TIMEOUT (R361): RESTRICT_MAX without an error moves a RESTRICTED port to NORMAL. -/
  | restrictTimeout (t : Nat) (p : Nat)
  /-- PORT_MODE_CHANGE (R361): At the next bus idle after a lease change, the port's mode changes. -/
  | portModeChange (t : Nat) (p : Nat)
  /-- CAN_LATCH (R363): At a latch point, the pending buffer that would win arbitration is latched. -/
  | canLatch (t : Nat) (p : Nat)
  /-- CAN_ARBITRATION_LOST (R363): A latched frame loses arbitration and returns to pending, or is ABORTED if a cancel waits. -/
  | canArbitrationLost (t : Nat) (p : Nat)
  /-- CAN_TX_DONE (R364): A transmission completes as DONE and frees its buffer. -/
  | canTxDone (t : Nat) (p : Nat)
  /-- CAN_FRAME_ERROR (R372): A bus error updates TEC and REC, the error state and the duplicate-identifier tracking. -/
  | canFrameError (t : Nat) (p : Nat) (e : BusErr)
  /-- CAN_RECOVERED (R361): 128 occurrences of 11 recessive bits end bus-off recovery. -/
  | canRecovered (t : Nat) (p : Nat)
  /-- BUSOFF_RECOVER (R373): A write of 0x01 starts the manual bus-off recovery. -/
  | busoffRecover (t : Nat) (a : Acc) (p : Nat)
  /-- CAN_FRAME_RECEIVE (R369): A valid received frame is filtered into queue A or B, or discarded. -/
  | canFrameReceive (t : Nat) (p : Nat) (f : CanFrame) (esi : Bool) (remote : Bool)
  /-- CAN_DISPATCH (R371): COMM takes a queue head and hands it to its consumer, or discards it. -/
  | canDispatch (t : Nat) (p : Nat)
  /-- APP_TX (R366): A write loads an application transmit buffer. -/
  | appTx (t : Nat) (a : Acc) (p : Nat) (b : Nat) (v : Octets)
  /-- APP_CANCEL (R365): A write requests the cancel of the named application buffers. -/
  | appCancel (t : Nat) (a : Acc) (p : Nat) (mask : Nat)
  /-- DUP_PAIR_EXPIRY (R374): A tracked identifier pair is dropped after 10 s without recurrence. -/
  | dupPairExpiry (t : Nat) (p : Nat)
  /-- DUP_CLEAR (R374): A write of 0x01 ends the duplicate-identifier suspension. -/
  | dupClear (t : Nat) (a : Acc) (p : Nat)
  /-- PORT_CLEAR_STICKY (R381): A write of 0x01 clears the port's sticky bits. -/
  | portClearSticky (t : Nat) (a : Acc) (p : Nat)
  /-- FILTER (R369): A write replaces one filter pair for the frames that follow. -/
  | filterWrite (t : Nat) (a : Acc) (p : Nat) (k : Nat) (v : Octets)
  /-- FILTER_ALL (R369): A write replaces all 64 filter pairs in one step. -/
  | filterAll (t : Nat) (a : Acc) (p : Nat) (v : Octets)
  /-- SPARE_REQUEST (R375): A service write asks the spare controller to take over a port. -/
  | spareRequest (t : Nat) (a : Acc) (p : Nat)
  /-- CAN_CONTROLLER_FAULT (R375): A controller fails a parity or state check, and its takeover starts. -/
  | canControllerFault (t : Nat) (c : Nat)
  /-- CAN_TAKEOVER (R375): The failing controller releases the pins at bus idle, and the spare takes the port's state and integrates. -/
  | canTakeover (t : Nat) (p : Nat)
  /-- ETH_FRAME_RECEIVE (R376): An Ethernet frame is received and handled as ARP, ICMP or UDP, or discarded and counted. -/
  | ethFrameReceive (t : Nat) (m : Nat) (x : EthBody)
  /-- ARP_RESOLVE_TIMEOUT (R377): A datagram's next hop stays unresolved for 1 s, so it is discarded. -/
  | arpResolveTimeout (t : Nat) (m : Nat)
  /-- ARP_CACHE_EXPIRY (R377): An ARP cache entry expires after 300 s. -/
  | arpCacheExpiry (t : Nat) (m : Nat)
  /-- OPEN (R389): A session OPEN chooses or reclaims a context and answers with N_d and P_d. -/
  | openSession (t : Nat) (src : Peer) (tag : Nat) (slot : Nat) (partner : Nat) (nonce : Octets)
  /-- CONFIRM (R389): A CONFIRM with a correct P_c opens the session and derives K_s. -/
  | confirmSession (t : Nat) (a : Acc) (proof : Octets)
  /-- CLOSE (R389): A CLOSE with a valid trailer frees the context. -/
  | closeSession (t : Nat) (a : Acc)
  /-- SESSION_OPEN_TIMEOUT (R389): An OPENING context without a CONFIRM for 2 s returns to FREE. -/
  | sessionOpenTimeout (t : Nat) (n : Nat)
  /-- SESSION_KILL (R395): A service write closes context s. -/
  | sessionKill (t : Nat) (a : Acc) (n : Nat)
  /-- KEY_WRAPPED (R385): A wrapped key is unwrapped, checked and stored, and the sessions of that slot are closed. -/
  | keyWrapped (t : Nat) (a : Acc) (k : Nat) (v : Octets)
  /-- KEY_ERASE (R386): A write of 0x0000_E2A5 empties a key slot and closes its sessions. -/
  | keyErase (t : Nat) (a : Acc) (k : Nat)
  /-- RNG_FAULT (R388): The random-number health test fails, so OPEN is refused. -/
  | rngFault (t : Nat)
  /-- QUEUE_PUSH (R405): A producer pushes an entry, which is accepted, or discarded with OVERRUN while FULL. -/
  | queuePush (t : Nat) (q : QId) (x : QItem)
  /-- QUEUE_POP (R405): A consumer pops an entry, or UNDERRUN is set while EMPTY. -/
  | queuePop (t : Nat) (q : QId) (bad : Bool) (lost : List Nat)
  /-- SPILL_BURST_WRITE (R408): The spill mover writes a full tail stage of 16 entries to subsoil. -/
  | spillBurstWrite (t : Nat) (q : QId)
  /-- SPILL_BURST_READ (R408): The spill mover reads a burst of 16 entries into the head stage. -/
  | spillBurstRead (t : Nat) (q : QId) (bad : List Bool) (addr : Nat) (soft : Nat)
  /-- QUEUE_FAULT (R411): A pointer parity failure resets the queue in both domains and logs the loss. -/
  | queueFault (t : Nat) (q : QId)
  /-- QUEUE_RESET_DONE (R411): The reset handshake completes, and the pointers are 0. -/
  | queueResetDone (t : Nat) (q : QId)
  /-- QUEUE_FLUSH (R412): An owner flushes a queue, and rp advances to the target, discarding entries. -/
  | queueFlush (t : Nat) (q : QId)
  /-- CAL_SECOND (R421): At a rollover of SEC, the calendar advances, steering or a jump is applied, steps are applied and the alarm is compared. -/
  | calSecond (t : Nat)
  /-- CAL_HALT_SET (R417): Setting HALT holds the calendar and discards any pending step. -/
  | calHaltSet (t : Nat) (a : Acc)
  /-- CAL_HALT_CLEAR (R417): Clearing HALT restarts the calendar, sets CAL_OFFSET and compares the alarm. -/
  | calHaltClear (t : Nat) (a : Acc)
  /-- CAL_LATCH_READ (R416): A read of SEC latches the whole calendar block into the read shadow. -/
  | calLatchRead (t : Nat) (a : Acc)
  /-- CAL_BLOCK (R416): A read of CAL_BLOCK latches and returns the whole block. -/
  | calBlock (t : Nat) (a : Acc)
  /-- CAL_FIELD_WRITE (R419): A write of a calendar field is stored unchecked. -/
  | calFieldWrite (t : Nat) (a : Acc) (sub : Nat) (v : Nat)
  /-- OFFSET_STEP (R418): A write makes a whole-second calendar step pending for the next rollover. -/
  | offsetStep (t : Nat) (a : Acc) (v : Int)
  /-- ALARM (R423): A write of the alarm takes effect at the next rollover. -/
  | alarmWrite (t : Nat) (a : Acc) (v : Octets)
  /-- WAKE (R425): A write configures and restarts the periodic wake count. -/
  | wakeWrite (t : Nat) (a : Acc) (v : Octets)
  /-- WAKE_EXPIRY (R425): The wake interval expires, which raises WAKE_OUT in standby and otherwise logs CAL_WAKE. -/
  | wakeExpiry (t : Nat)
  /-- CAL_TEMP_READ (R426): Every 64 s, the BACKUP temperature is read and the crystal correction is updated. -/
  | calTempRead (t : Nat) (temp : Int)
  /-- CALENDAR_CLEAR (R433): A write of 0x01 clears the sticky calendar bits. -/
  | calendarClear (t : Nat) (a : Acc)
  /-- TIME_SOURCE (R428): A write selects the time source and resets the servo to FREE. -/
  | timeSource (t : Nat) (a : Acc) (v : Nat)
  /-- PTP_SYNC (R429): A PTP Sync yields a measurement θ that drives the servo, the lock state and any forward step. -/
  | ptpSync (t : Nat) (m : Nat) (b : Octets)
  /-- PTP_FOLLOW_UP (R431): A Follow_Up completes a two-step Sync timestamp. -/
  | ptpFollowUp (t : Nat) (m : Nat) (b : Octets)
  /-- PTP_DELAY_REQ (R431): At the master's interval, a Delay_Req is sent. -/
  | ptpDelayReq (t : Nat)
  /-- PTP_DELAY_RESP (R431): A Delay_Resp updates the path delay. -/
  | ptpDelayResp (t : Nat) (m : Nat) (b : Octets)
  /-- PTP_ANNOUNCE (R431): An Announce feeds the best master clock algorithm. -/
  | ptpAnnounce (t : Nat) (m : Nat) (b : Octets)
  /-- PTP_ANNOUNCE_TIMEOUT (R431): The Announce receipt timeout of a master expires. -/
  | ptpAnnounceTimeout (t : Nat)
  /-- SYNC_HOLDOVER (R428): No valid measurement for 3 intervals holds the rate and enters HOLDOVER. -/
  | syncHoldover (t : Nat)
  /-- LOCK_WAIT_EXPIRY (R430): During initialisation, LOCK_WAIT ends without a measurement. -/
  | lockWaitExpiry (t : Nat)
  /-- RED_CYCLE_BOUNDARY (R440): At a redundancy cycle boundary, a heartbeat is sent, mirror content is taken and applied, and claims or solo takes are made. -/
  | redCycleBoundary (t : Nat) (crit : List CritRead)
  /-- HEARTBEAT (R444): An accepted HEARTBEAT is processed, and a holder's REQ is granted under R444. -/
  | heartbeat (t : Nat) (path : Nat) (m : RedMsg)
  /-- GRANT (R443): A first accepted grant loads the lease timer, or completes a claim. -/
  | grant (t : Nat) (path : Nat) (m : RedMsg) (crit : List CritRead)
  /-- CLAIM (R444): A CLAIM is granted or refused under R444. -/
  | claim (t : Nat) (path : Nat) (m : RedMsg)
  /-- RELEASE (R443): An accepted RELEASE ends the refrain towards the releaser, and a named lane becomes holder. -/
  | release (t : Nat) (path : Nat) (m : RedMsg)
  /-- LEASE_EXPIRED (R447): The lease timer reaches 0, so OWN falls, class 0 and 3 buffers are cancelled and the lane becomes STANDBY. -/
  | leaseExpired (t : Nat)
  /-- REFRAIN_END (R443): A lane's refrain after a grant ends. -/
  | refrainEnd (t : Nat)
  /-- CLAIM_TIMEOUT (R447): A claim without a grant for 3 cycles returns the lane to STANDBY. -/
  | claimTimeout (t : Nat)
  /-- RED_PATH_LOST (R439): No message arrives on a path for 3 cycles, so the path is lost. -/
  | redPathLost (t : Nat) (x : Nat) (path : Nat)
  /-- RED_PARTNER_LOST (R439): No message arrives from a lane on either path for 3 cycles, so the lane is silent. -/
  | redPartnerLost (t : Nat) (x : Nat)
  /-- HANDOVER (R449): A write of lane x starts a planned switch-over to x. -/
  | handover (t : Nat) (a : Acc) (x : Nat)
  /-- READMIT (R458): A write of lane x readmits an excluded lane and starts its resync. -/
  | readmit (t : Nat) (a : Acc) (x : Nat)
  /-- RESYNC_DONE (R455): The full mirror content reaches the lane, and RESYNC_DONE is set. -/
  | resyncDone (t : Nat)
  /-- MIRROR (R453): A mirror frame from the holder is received for application at the next boundary. -/
  | mirror (t : Nat) (x : Nat) (items : List MirrorItem)
  /-- VOTE (R456): Another lane's output vector arrives and is voted, which can exclude a lane. -/
  | vote (t : Nat) (x : Nat) (vec : List (Nat × Int))
  /-- LEASE_CLEAR_STICKY (R460): A write of 0x01 clears the sticky lease flags. -/
  | leaseClearSticky (t : Nat) (a : Acc)
  /-- JIEST_FRAME_RECEIVE (R467): A Jiest frame is checked, delivered in order, or discarded with a NAK. -/
  | jiestFrameReceive (t : Nat) (p : Nat) (b : Octets) (viol : Bool)
  /-- NAK (R467): A NAK makes the sender resend from the frame after ACKSEQ. -/
  | nak (t : Nat) (p : Nat) (ack : Nat)
  /-- JIEST_SIGNAL_DETECTED (R468): An enabled port detects signal and starts training. -/
  | jiestSignalDetected (t : Nat) (p : Nat)
  /-- JIEST_ALIGNED (R468): Alignment holds for 1024 symbols, and identity frames are exchanged. -/
  | jiestAligned (t : Nat) (p : Nat)
  /-- JIEST_IDENTITY (R469): A neighbour's identity is received and the wiring checked, giving UP or MISWIRED. -/
  | jiestIdentity (t : Nat) (p : Nat) (b : Octets)
  /-- JIEST_TRAIN_TIMEOUT (R468): A port not UP within 100 ms enters FAULT. -/
  | jiestTrainTimeout (t : Nat) (p : Nat)
  /-- JIEST_RETRY (R468): Every 1 s, a port in FAULT retries training. -/
  | jiestRetry (t : Nat) (p : Nat)
  /-- JIEST_SIGNAL_LOST (R468): A fourth failed delivery or 10 µs without signal retrains the port. -/
  | jiestSignalLost (t : Nat) (p : Nat)
  /-- JIEST_LANE_SPARED (R470): A lane with 16 violations in 1 s, or worn, is replaced by the spare lane. -/
  | jiestLaneSpared (t : Nat) (p : Nat) (rx : Bool) (l : Nat) (n : Nat)
  /-- TIME_PERIOD (R473): Every 10 ms, the parent sends a TIME frame on each UP D port. -/
  | timePeriod (t : Nat)
  /-- TIME_SEND (R473): A child receives a TIME send, echoes it and forms its measurement θ. -/
  | timeSend (t : Nat) (b : Octets)
  /-- TIME_ECHO (R473): The parent receives an echo and records t4. -/
  | timeEcho (t : Nat) (p : Nat) (b : Octets)
  /-- CORE_FRAME (R474): A CORE frame is forwarded down the tree and schedules the local cascade core sample. -/
  | coreFrame (t : Nat) (p : Nat) (n : Nat) (time : Nat)
  /-- BOUNDARY_TABLE (R475): A boundary table is exchanged and boundaries are matched, or marked unmatched. -/
  | boundaryTable (t : Nat) (p : Nat) (b : Octets)
  /-- ROUND_START (R476): The master's START sets the re-plan instant and parameters of a cascade re-plan. -/
  | roundStart (t : Nat) (p : Nat) (b : Octets)
  /-- ROUND_PRICES (R477): U prices arrive, and the round job starts. -/
  | roundPrices (t : Nat) (p : Nat) (b : Octets)
  /-- ROUND_FLOWS (R476): A child's FLOWS arrive at the upper end. -/
  | roundFlows (t : Nat) (p : Nat) (b : Octets)
  /-- ROUND_REPORT (R476): A subtree REPORT arrives and is combined and forwarded up. -/
  | roundReport (t : Nat) (p : Nat) (b : Octets)
  /-- ROUND_REPORT_TIMEOUT (R476): At b_(r+1) + 1 ms, the REPORT is sent up without the missing children. -/
  | roundReportTimeout (t : Nat)
  /-- ROUND_BOUNDARY (R477): At b_(r+1), the upper end computes the mismatch and updates and sends its prices. -/
  | roundBoundary (t : Nat)
  /-- ROUND_DECISION (R476): At b_(r+1) + 2 ms, the master sends COMMIT or CONTINUE. -/
  | roundDecision (t : Nat)
  /-- ROUND_COMMIT (R480): COMMIT(r) publishes round r's plan, aborting a running round job. -/
  | roundCommit (t : Nat) (p : Nat) (b : Octets)
  /-- ROUND_CONTINUE (R476): CONTINUE leads to a further round. -/
  | roundContinue (t : Nat) (p : Nat) (b : Octets)
  /-- ROUND_JOB_END (R476): A round job ends, and its FLOWS are sent on U. -/
  | roundJobEnd (t : Nat)
  /-- CRC_START (R490): CRC_CMD 0x01 starts a scan on a channel. -/
  | crcStart (t : Nat) (a : Acc) (c : Nat)
  /-- CRC_ABORT (R490): CRC_CMD 0x02 requests the abort of a scan. -/
  | crcAbort (t : Nat) (a : Acc) (c : Nat)
  /-- CRC_SCAN_DONE (R490): A scan ends, and CRC_RESULT is latched. -/
  | crcScanDone (t : Nat) (c : Nat) (lost : List (Nat × Nat)) (softSub : Nat) (softKeep : Nat)
  /-- CRC_CONFIG (R485): A write of a channel's CRC configuration is checked and stored while it is idle. -/
  | crcConfig (t : Nat) (a : Acc) (c : Nat) (v : Octets)
  /-- CRC_CLEAR (R491): A write of 0x01 clears ABORT_LATE. -/
  | crcClear (t : Nat) (a : Acc) (c : Nat)
  /-- ST_REQUEST (R500): A self-test request is queued or refused. -/
  | stRequest (t : Nat) (a : Acc) (v : Octets)
  /-- ST_ABORT (R502): A write requests the abort of a pool's test. -/
  | stAbort (t : Nat) (a : Acc) (p : Nat)
  /-- ST_CLEAR (R502): A write of 0x01 clears every ABORT_LATE of the self-test status. -/
  | stClear (t : Nat) (a : Acc)
  /-- FULL_BIST (R497): A write of 0x0000_B157 in SERVICE schedules the full BIST for the next boot. -/
  | fullBist (t : Nat) (a : Acc)
  /-- SELFTEST_DONE (R502): A test ends with its verdict, and the element returns or is replaced. -/
  | selftestDone (t : Nat) (p : Nat) (pass : Bool) (age : Nat)
  /-- BG_TEST (R498): Background self-test starts the next element's test at its rotation slot. -/
  | bgTest (t : Nat) (p : Nat)
  /-- HOUSE_MISMATCH (R495): A lock-step mismatch restores the checkpoint, re-runs and retires the core, or holds the device. -/
  | houseMismatch (t : Nat) (core : Nat) (again : Bool)
  /-- AGE_READ (R503): An ageing monitor is read and compared with AGE_WARN and AGE_REPLACE. -/
  | ageRead (t : Nat) (i : Nat) (age : Nat)
  /-- WEAR_EM (R503): An electromigration canary opens. -/
  | wearEm (t : Nat) (isl : Nat)
  /-- SRAM_SCRUB (R496): The scrubber reads an SRAM word, counts soft errors and repairs hard ones. -/
  | sramScrub (t : Nat) (isl : Nat) (result : Nat)
  /-- THERMAL_SAMPLE (R504): Every second, the hottest junction is recorded into bands and the profile flags are set. -/
  | thermalSample (t : Nat) (temp : Int) (raised : Bool) (rows : List Nat)
  /-- THERMAL_HOURS_WRITE (R504): Every hour, THERMAL_HOURS is written to the keep store. -/
  | thermalHoursWrite (t : Nat) (remaps : List Nat) (wear : Nat)
  /-- ALARM_ACK (R516): A write clears STICKY of a source if COUNT matches. -/
  | alarmAck (t : Nat) (a : Acc) (src : Nat) (n : Nat)
  /-- ALARM_ACK_ALL (R516): Source 0xFFFF with count 0 clears every STICKY. -/
  | alarmAckAll (t : Nat) (a : Acc)
  /-- ALARM_RESET (R516): A write zeroes COUNT, FIRST and LAST of one source. -/
  | alarmReset (t : Nat) (a : Acc) (src : Nat)
  /-- ALARM_RESET_ALL (R516): A write of 0xFFFF zeroes COUNT, FIRST and LAST of every source. -/
  | alarmResetAll (t : Nat) (a : Acc)
  /-- LOG_READ (R513): A read returns up to 32 entries from the cursor, with a gap entry first if needed, and advances the cursor. -/
  | logRead (t : Nat) (a : Acc)
  /-- ALARM_ROWS (R528): A read returns up to 40 rows and advances the per-session selection. -/
  | alarmRows (t : Nat) (a : Acc)
  /-- SUBSCRIPTION (R517): A write of a subscription empties its queues and marks sticky sources dirty. -/
  | subscription (t : Nat) (a : Acc) (n : Nat) (v : Octets)
  /-- SHED_CLEAR (R527): A write of 0x01 zeroes SHED_COUNTS. -/
  | shedClear (t : Nat) (a : Acc)
  /-- EXPORT_SEND (R520): A subscription sends its next alarm, log or trace item within its path rate. -/
  | exportSend (t : Nat) (n : Nat)
  /-- COALESCE_EXPIRY (R522): COALESCE passes since the hold was filled, and the hold is pushed to the log queue. -/
  | coalesceExpiry (t : Nat) (n : Nat)
  /-- TRACE_PACK_EXPIRY (R523): 100 ms after the first gathered record, a trace item is packed. -/
  | tracePackExpiry (t : Nat) (n : Nat) (p : Nat)
  /-- POWER_ON (R530): The power-on detector releases reset at the boot instant, and BOOT begins with the straps and the boot event. -/
  | powerOn (t : Nat) (pos : Nat) (lane : Nat) (cfg : Nat) (hostRole : Bool) (hTrust : Bool)
  /-- RESET_ASSERT (R532): RESET_N low for 1 µs resets every island except BACKUP, without a save. -/
  | resetAssert (t : Nat) (done : Nat) (ring : Bool)
  /-- SUPPLY_LOSS (R531): A main supply leaves tolerance without a completed save, and the device resets. -/
  | supplyLoss (t : Nat) (done : Nat) (ring : Bool)
  /-- FIRMWARE_VERIFIED (R537): Firmware verification ends, and the device runs the chosen image, falls back, or halts. -/
  | firmwareVerified (t : Nat) (a : Octets) (b : Octets)
  /-- QUICK_BIST_DONE (R497): The quick or full BIST ends, and the pending replacements are applied. -/
  | quickBistDone (t : Nat) (fails : List (Nat × Nat)) (us : Nat) (rows : Nat)
  /-- SUBSOIL_TRAINED (R538): Subsoil training ends, and the warm or cold decision follows, or training retries or halts. -/
  | subsoilTrained (t : Nat) (ok : Bool) (temp : Int) (raised : Bool) (bad : List (Nat × Nat))
  /-- INIT_DONE (R536): Initialisation completes, READY rises and the device enters RUN or DEGRADED. -/
  | initDone (t : Nat) (ret : List (Nat × Nat × Nat)) (crit : List CritRead)
  /-- PFAIL (R542): PFAIL_N falls, and the power-fail save starts: latch, release, energy, retained, control and excerpt records. -/
  | pfail (t : Nat) (remaps : List Nat)
  /-- SAVE_COMPLETE (R542): The power-fail save completes, and the keep store is quiescent. -/
  | saveComplete (t : Nat) (straps : Straps)
  /-- PFAIL_RECOVERED (R544): PFAIL_N rises with the supplies present, and jobs and retention writes resume. -/
  | pfailRecovered (t : Nat)
  /-- CHECKPOINT_WRITE (R541): Every CHECKPOINT_PERIOD, the warm-restart control record is written. -/
  | checkpointWrite (t : Nat)
  /-- STANDBY_REQ (R546): A write of 0x0000_57B0 saves, and the device enters PARKED. -/
  | standbyReq (t : Nat) (a : Acc)
  /-- PARK_TIMEOUT (R546): The supplies are still present PARK_TIMEOUT after parking, so the device boots with cause 4. -/
  | parkTimeout (t : Nat) (straps : Straps)
  /-- TAP_RESET (R568): A TAP reset selects IDCODE. -/
  | tapReset (t : Nat)
  /-- EXTEST (R571): EXTEST drives the balls from the boundary-scan register while RESET_N is low. -/
  | extest (t : Nat) (pins : List Bool) (load : List Bool)
  /-- SAMPLE_PRELOAD (R568): SAMPLE/PRELOAD captures and preloads the boundary-scan register. -/
  | samplePreload (t : Nat) (pins : List Bool) (load : List Bool)
  /-- IDCODE (R569): IDCODE selects the identification register. -/
  | idcode (t : Nat)
  /-- CLAMP (R571): CLAMP holds the outputs and selects bypass while RESET_N is low. -/
  | clamp (t : Nat) (pins : List Bool) (load : List Bool) (bit : Bool)
  /-- HIGHZ (R571): HIGHZ releases the outputs while RESET_N is low. -/
  | highz (t : Nat) (pins : List Bool) (load : List Bool) (bit : Bool)
  /-- BYPASS (R568): BYPASS selects the one-bit bypass register. -/
  | bypass (t : Nat) (bit : Bool)
  /-- MAIN_SUPPLY_LOST (R44): The main supplies leave tolerance after a completed power-fail save, or while the device is PARKED, and the device enters OFF. -/
  | mainSupplyLost (t : Nat)
  /-- ETH_LINK_CHANGE (R376): A PHY signals link up, link down or a new speed and duplex in-band, and the MAC follows it and updates LINK. -/
  | ethLinkChange (t : Nat) (m : Nat) (speed : Nat) (duplex : Bool)
  /-- JIEST_PORTS (R468): A write of JIEST_PORTS enables or disables Jiest ports, and a disabled port goes DOWN with its lanes idle. -/
  | jiestPorts (t : Nat) (a : Acc) (v : Nat)
  /-- SAR_CONVERTER_FAULT (R492): A SAR converter faults, and the spare converter takes its place at the next tick boundary, or the converter's AIs stop converting when no spare is free. -/
  | sarConverterFault (t : Nat) (k : Nat)
  /-- BACKUP_DOMAIN_START (R415): The BACKUP domain powers up from VBAT or VIO33 after both were absent, and the calendar is reset with CAL_VALID clear when it starts without VBAT. -/
  | backupDomainStart (t : Nat) (without : Bool)
  /-- VBAT_LOST (R555): VBAT is removed while VIO33 is absent, so the BACKUP domain stops and the calendar, retention RAM and wake logic are lost. -/
  | vbatLost (t : Nat)
  deriving DecidableEq, Repr

end Sys2Proof
end

