-- ==== Sys2Proof/Decode.lean ====
section
/-! DEFINITION. The command a table word spells. The spec's table of operations and events gives no row any bits (every command comes
as an access, an event of a pin or a bus, or the end of a job), so no word spells one. The logic engine's own instruction words
(R336) are decoded where the engine runs them, in Machine/LogicIsa.lean. -/

namespace Sys2Proof

/-- The command a word spells by the table's bits: none, for no row of the table has bits. -/
def decodeTableWord (_nbits _w : Nat) : Option Instr := none

end Sys2Proof
end

