-- ==== Sys2Proof/Machine/Codes.lean ====
section
/-! DEFINITION. The event codes of R511 and R572 with their names (`CODE_TABLE`), and the alarm source of an event (R514). -/

namespace Sys2Proof
namespace Machine
namespace Code

def boot : Nat := 0x0001
def eventGap : Nat := 0x0002
def clockSwitch : Nat := 0x0101
def criticalLost : Nat := 0x0102
def fabricFault : Nat := 0x0180
def dataLoss : Nat := 0x0181
def subsoilReserveOut : Nat := 0x0182
def keepRecordLost : Nat := 0x0183
def stateChange : Nat := 0x0184
def causeChange : Nat := 0x0185
def savedValueDefaulted : Nat := 0x0280
def storeFailed : Nat := 0x0281
def modelActivationFailed : Nat := 0x0380
def loopOffByModel : Nat := 0x0381
def learnedReplaced : Nat := 0x0382
def hydStale : Nat := 0x0480
def profileLost : Nat := 0x0580
def planStale : Nat := 0x0581
def loamScaleFloor : Nat := 0x0601
def loamAbortLate : Nat := 0x0602
def loamReplay : Nat := 0x0603
def loamInputLost : Nat := 0x0604
def loamLaneRetired : Nat := 0x0605
def loamDividerSwitch : Nat := 0x0606
def loamOverflow : Nat := 0x0607
def ctrlOverrunHold : Nat := 0x0701
def ctrlContextRestored : Nat := 0x0702
def ctrlContextLost : Nat := 0x0703
def ctrlPipeSwitch : Nat := 0x0704
def ctrlAdmitRej : Nat := 0x0705
def pqSag : Nat := 0x0901
def pqSwell : Nat := 0x0902
def pqInterruption : Nat := 0x0903
def heatRecon : Nat := 0x0A01
def csMissed : Nat := 0x0A02
def channelBaseline : Nat := 0x0A80
def energyRestore : Nat := 0x0A81
def logicFault : Nat := 0x0B01
def logicChange : Nat := 0x0B02
def logicWarmRefused : Nat := 0x0B03
def logicCodeReload : Nat := 0x0B04
def logicVarLost : Nat := 0x0B05
def logicWatchdog : Nat := 0x0B80
def canBusOff : Nat := 0x0C01
def canRecovered : Nat := 0x0C02
def canErrorPassive : Nat := 0x0C03
def canErrorActive : Nat := 0x0C04
def dupId : Nat := 0x0C05
def canTakeover : Nat := 0x0C06
/-- DEDUCED: `CAN_PORT_LOST` is named only in R514; it takes the code after the chapter's own events. -/
def canPortLost : Nat := 0x0C07
def sessionClosed : Nat := 0x0D01
def rngFault : Nat := 0x0D02
def sessionAuthFail : Nat := 0x0D03
def queueFault : Nat := 0x0E01
def calSet : Nat := 0x0F01
def calJump : Nat := 0x0F02
def calAlarm : Nat := 0x0F03
def calAlarmSkipped : Nat := 0x0F04
def calWake : Nat := 0x0F05
def timeStep : Nat := 0x0F06
def calStepDiscarded : Nat := 0x0F80
def syncStateChange : Nat := 0x0F81
def redStrapInvalid : Nat := 0x1001
def redPathLost : Nat := 0x1002
def redPartnerLost : Nat := 0x1003
def redTagFail : Nat := 0x1004
def redMismatch : Nat := 0x1005
def redLeaseExpired : Nat := 0x1006
def redTwoHolders : Nat := 0x1007
def redLaneExcluded : Nat := 0x1008
def jiestLinkUp : Nat := 0x1101
def cascadeMiswired : Nat := 0x1102
def jiestLinkDown : Nat := 0x1103
def jiestLaneSpared : Nat := 0x1104
def metrInputLost : Nat := 0x1201
def keepSparesOut : Nat := 0x1202
def wearWarn : Nat := 0x1203
def wearEm : Nat := 0x1204
def profileHot : Nat := 0x1205
def profile125 : Nat := 0x1206
def over150 : Nat := 0x1207
def pendingDropped : Nat := 0x1280
def stRefused : Nat := 0x1281
def bootFallback : Nat := 0x1401
def subsoilTrainFail : Nat := 0x1402
def pfail : Nat := 0x1403
def pfailRecovered : Nat := 0x1404

/-- Every code with its name (`CODE_TABLE`, R511), the application's LOGIC_EVENT codes 0x8000 to 0x8BFF aside. -/
def table : List (Nat × String) :=
  [(boot, "BOOT"), (eventGap, "EVENT_GAP"), (clockSwitch, "CLOCK_SWITCH"), (criticalLost, "CRITICAL_LOST"),
   (fabricFault, "FABRIC_FAULT"), (dataLoss, "DATA_LOSS"), (subsoilReserveOut, "SUBSOIL_RESERVE_OUT"),
   (keepRecordLost, "KEEP_RECORD_LOST"), (stateChange, "STATE_CHANGE"), (causeChange, "CAUSE_CHANGE"),
   (savedValueDefaulted, "SAVED_VALUE_DEFAULTED"), (storeFailed, "STORE_FAILED"),
   (modelActivationFailed, "MODEL_ACTIVATION_FAILED"), (loopOffByModel, "LOOP_OFF_BY_MODEL"),
   (learnedReplaced, "LEARNED_REPLACED"), (hydStale, "HYD_STALE"), (profileLost, "PROFILE_LOST"),
   (planStale, "PLAN_STALE"), (loamScaleFloor, "LOAM_SCALE_FLOOR"), (loamAbortLate, "LOAM_ABORT_LATE"),
   (loamReplay, "LOAM_REPLAY"), (loamInputLost, "LOAM_INPUT_LOST"), (loamLaneRetired, "LOAM_LANE_RETIRED"),
   (loamDividerSwitch, "LOAM_DIVIDER_SWITCH"), (loamOverflow, "LOAM_OVERFLOW")] ++
  [(ctrlOverrunHold, "CTRL_OVERRUN_HOLD"), (ctrlContextRestored, "CTRL_CONTEXT_RESTORED"),
   (ctrlContextLost, "CTRL_CONTEXT_LOST"), (ctrlPipeSwitch, "CTRL_PIPE_SWITCH"), (ctrlAdmitRej, "CTRL_ADMIT_REJ"),
   (pqSag, "PQ_SAG"), (pqSwell, "PQ_SWELL"), (pqInterruption, "PQ_INTERRUPTION"), (heatRecon, "HEAT_RECON"),
   (csMissed, "CS_MISSED"), (channelBaseline, "CHANNEL_BASELINE"), (energyRestore, "ENERGY_RESTORE"),
   (logicFault, "LOGIC_FAULT"), (logicChange, "LOGIC_CHANGE"), (logicWarmRefused, "LOGIC_WARM_REFUSED"),
   (logicCodeReload, "LOGIC_CODE_RELOAD"), (logicVarLost, "LOGIC_VAR_LOST"), (logicWatchdog, "LOGIC_WATCHDOG"),
   (canBusOff, "CAN_BUS_OFF"), (canRecovered, "CAN_RECOVERED"), (canErrorPassive, "CAN_ERROR_PASSIVE"),
   (canErrorActive, "CAN_ERROR_ACTIVE"), (dupId, "DUP_ID"), (canTakeover, "CAN_TAKEOVER"),
   (canPortLost, "CAN_PORT_LOST"), (sessionClosed, "SESSION_CLOSED"), (rngFault, "RNG_FAULT"),
   (sessionAuthFail, "SESSION_AUTH_FAIL"), (queueFault, "QUEUE_FAULT")] ++
  [(calSet, "CAL_SET"), (calJump, "CAL_JUMP"), (calAlarm, "CAL_ALARM"), (calAlarmSkipped, "CAL_ALARM_SKIPPED"),
   (calWake, "CAL_WAKE"), (timeStep, "TIME_STEP"), (calStepDiscarded, "CAL_STEP_DISCARDED"),
   (syncStateChange, "SYNC_STATE_CHANGE"), (redStrapInvalid, "RED_STRAP_INVALID"), (redPathLost, "RED_PATH_LOST"),
   (redPartnerLost, "RED_PARTNER_LOST"), (redTagFail, "RED_TAG_FAIL"), (redMismatch, "RED_MISMATCH"),
   (redLeaseExpired, "RED_LEASE_EXPIRED"), (redTwoHolders, "RED_TWO_HOLDERS"),
   (redLaneExcluded, "RED_LANE_EXCLUDED"), (jiestLinkUp, "JIEST_LINK_UP"), (cascadeMiswired, "CASCADE_MISWIRED"),
   (jiestLinkDown, "JIEST_LINK_DOWN"), (jiestLaneSpared, "JIEST_LANE_SPARED"), (metrInputLost, "METR_INPUT_LOST"),
   (keepSparesOut, "KEEP_SPARES_OUT"), (wearWarn, "WEAR_WARN"), (wearEm, "WEAR_EM"), (profileHot, "PROFILE_HOT"),
   (profile125, "PROFILE_125"), (over150, "OVER_150"), (pendingDropped, "PENDING_DROPPED"), (stRefused, "ST_REFUSED"),
   (bootFallback, "BOOT_FALLBACK"), (subsoilTrainFail, "SUBSOIL_TRAIN_FAIL"), (pfail, "PFAIL"),
   (pfailRecovered, "PFAIL_RECOVERED")]

end Code

/-- The alarm sources of one instance each, 0x000 to 0x009 (R514). -/
def singleAlarms : List Nat :=
  [Code.loamAbortLate, Code.rngFault, Code.keepSparesOut, Code.wearEm, Code.profileHot, Code.profile125, Code.over150,
   Code.redMismatch, Code.eventGap, Code.canPortLost]

/-- The place of a number in a list. -/
def indexIn (x : Nat) : List Nat → Option Nat
  | [] => none
  | y :: r => if x = y then some 0 else (indexIn x r).map (· + 1)

/-- `base + u` where `u` is below `n`. -/
def inRange (base u n : Nat) : Option Nat := if u < n then some (base + u) else none

/-- The value of an event's first argument where it is an unsigned number, else 0. -/
def firstArg : List EvArg → Nat
  | .u8 v :: _ => v
  | .u16 v :: _ => v
  | .u32 v :: _ => v
  | _ => 0

/-- The alarm source an event raises or clears (R514, R515). The instance is the event's UNIT (`HEAT_RECON` and `WEAR_WARN`:
its first argument, a channel or an element; `RED_PATH_LOST`: lane in UNIT, path in the first argument). -/
def alarmSource (code unit : Nat) (args : List EvArg) : Option Nat :=
  if 0x8000 ≤ code ∧ code ≤ 0x8BFF then some (code - 0x8000 + 0x400)
  else if code = Code.pqSag then inRange 0x080 (3 * unit) 12
  else if code = Code.pqSwell then inRange 0x081 (3 * unit) 11
  else if code = Code.pqInterruption then inRange 0x082 (3 * unit) 10
  else if code = Code.canBusOff then inRange 0x090 unit 8
  else if code = Code.canRecovered then inRange 0x090 unit 8
  else if code = Code.dupId then inRange 0x098 unit 8
  else if code = Code.jiestLinkDown then inRange 0x0A0 unit 5
  else if code = Code.cascadeMiswired then inRange 0x0A8 unit 5
  else if code = Code.redPartnerLost then inRange 0x0B0 unit 3
  else if code = Code.redPathLost then inRange 0x0B4 (2 * unit + firstArg args) 6
  else if code = Code.heatRecon then inRange 0x100 (firstArg args) 512
  else if code = Code.wearWarn then inRange 0x300 (firstArg args) 164
  else indexIn code singleAlarms

end Machine
end Sys2Proof
end

