-- ==== Sys2Proof/Config.lean ====
section
/-! DEFINITION. What one PX5120 is given at manufacture and the values the manual leaves open. Every open value is an opaque
constant: nothing proves what it is, so a statement about it holds whatever it is. -/

namespace Sys2Proof
namespace Config

/-- FREE VALUE. The point of the synchroniser-delay window of R403 (in steps of the window) that the `k`-th crossing of a
pointer takes. -/
opaque freeDelay : Nat → Nat

/-- FREE VALUE. How far an island's local copy of device time lags TBASE at the `k`-th reading, in ns; at most 40 (R29). -/
opaque freeLag : Nat → Nat

/-- FREE VALUE. The client-invisible random numbers of HOUSE (R388): octet `i` of the `k`-th nonce drawn. -/
opaque freeNonce : Nat → Nat → Octet

/-- FREE VALUE. The octets a host error puts into a PDU or onto the port (R77): octet `i` of the `k`-th host error. -/
opaque freeHostOctet : Nat → Nat → Octet

/-- FREE VALUE. Which of the outcomes of the host-errors table the `k`-th host error takes. -/
opaque freeHostChoice : Nat → Nat

/-- FREE VALUE. How long after the given moment `HRDY` stays low, in ns, within the bound the manual states (R76, R533). -/
opaque freeHrdy : Nat → Nat

/-- FREE VALUE. The octets of staging beyond the largest entry's (R68 refuses for a lack of it and gives no size). -/
opaque freeStaging : Nat

/-- GIVEN AT MANUFACTURE. The device root key (R385), 32 octets from the fuses. -/
opaque rootKey : Octets

/-- GIVEN AT MANUFACTURE. `SERIAL`, `STEPPING` (R569, 0x1000) and the MAC addresses (R376). -/
opaque serial : Nat
/-- GIVEN AT MANUFACTURE. The silicon stepping, [15:8] major and [7:0] minor. -/
opaque stepping : Nat
/-- GIVEN AT MANUFACTURE. The address of MAC m; its octets are sent most significant first. -/
opaque macAddress : Nat → BitVec 48

/-- GIVEN AT MANUFACTURE. Vendor public key 0 to 3 of the boot ROM, a point of P-256 (R398): the keys are not in the manual. -/
opaque vendorKey : Nat → Nat × Nat

/-- FREE VALUE. The outcome of CMP with a condition the manual does not list (6 and 7 of R337): condition, WA, operand. -/
opaque freeCompare : Nat → Int → Int → Bool

/-- FREE VALUE. What a BIT load of a counter with this count gives (R330, R331 state none). -/
opaque freeCounterBit : Int → Bool

/-- FREE VALUE. The count after a BIT store of `b` to a counter holding `c` (R331 states none). -/
opaque freeCounterStore : Int → Bool → Int

/-- FREE VALUE. What a BIT load of the immediate area gives for an INDEX field (R330, R331 state none). -/
opaque freeImmBit : Nat → Bool

/-- FREE VALUE. What a WORD load of a detector gives (R330 gives it a BIT only), by its memory. -/
opaque freeDetectorWord : Bool → BitVec 32

/-- FREE VALUE. Whether the integer kept for a real value that is not one itself is the one above it (which quantity, its real value
in the unit kept); the manual gives the formula and not its rounding. -/
opaque roundsUp : Nat → Rat → Bool

/-- FREE VALUE. The error of the device's value of a transcendental function (0 exp, 1 log₁₀, 2 square root, 3 power x^y), in units of
2⁻²⁸ of the value: function, x, y. -/
opaque fnError : Nat → Rat → Rat → Int

/-- FREE VALUE. The heat coefficient grids of EN 1434-1 at 1.6 MPa (R299), which the manual does not print: volume side, θ_f and
θ_r in whole °C; in 10⁻⁷ kWh/(m³·K). -/
opaque heatCoef : Bool → Nat → Nat → Nat

/-- FREE VALUE. The harmonic share of order `h` (1 for THD) of a window whose samples hold no fundamental (R280 divides by it): its
frequency in mHz, its samples; in 0.01 %. -/
opaque harmonic : Nat → Nat → List Int → Nat

/-- FREE VALUE. The gain found by a calibration whose reference readings at +½ and −½ full scale give no slope (R287): the two sums. -/
opaque freeGain : Int → Int → Nat

/-- GIVEN AT MANUFACTURE. The subsoil row of a word address, and the rows of the spare-row reserve (R36 gives its size in octets,
not in rows). -/
opaque subsoilRow : Nat → Nat
/-- GIVEN AT MANUFACTURE. See `subsoilRow`. -/
opaque reserveRows : Nat

/-- GIVEN AT MANUFACTURE. The on-die SRAM spare rows provided (R507). -/
opaque sramSpares : Nat

/-- FREE VALUE. The coefficient k_v of a valve whose flow coefficient is 0 (R117 divides by it). -/
opaque closedValve : Rat

/-- FREE VALUE. The opening of a valve whose `POS_SRC` says that the channel of its branch sets it, where that branch has no channel that
reports an opening (R86, R297): branch. -/
opaque freeOpening : Nat → Rat

/-- FREE VALUE. How many pivots the block-tridiagonal factorisation of an iteration replaces (R161 says that the KKT system is reduced
stage by stage and does not give the reduced matrix): job number, iterations completed before it. -/
opaque freePivots : Nat → Nat → Nat

/-- FREE VALUE. The solution of an iteration's KKT system in whose factorisation a pivot was replaced: job number, iterations completed
before it, 0 the predictor and 1 the corrector, word. -/
opaque freeStep : Nat → Nat → Nat → Nat → Rat

/-- FREE VALUE. The mean temperature, in µ°C, of a pipe copy that holds no water (R116, R142 give none): copy, solve number. -/
opaque dryTemp : Nat → Nat → Int

/-- FREE VALUE. A forecast before the start of its series (R98 gives none): series, whole hours of device time. -/
opaque earlyForecast : Nat → Nat → Int

/-- FREE VALUE. The result of the smallest-ratio reduction of R192 where no Δt_i is negative: raw word at scale code 0. -/
opaque emptyRatio : Int

/-- FREE VALUE. The error of the `k`-th measurement of the calendar's deviation, in ns (R421: at most 1 µs). -/
opaque freeDeviation : Nat → Int

/-- FREE VALUE. What a host error of the calendar (R419), or the loss of the BACKUP domain's supply, leaves: the `k`-th such
happening, item 0–8 the nine fields, 9 `CAL_OFFSET`, 10 `ALMF`, 11 `WAKE_OUT`, 12 `CAL_VALID`. -/
opaque freeCalendar : Nat → Nat → Int

/-- FREE VALUE. The octets of an item of mirror content on the link (R453, R454 give only those of a loop): its kind, its elements. -/
opaque mirrorOctets : Nat → Nat → Nat

/-- FREE VALUE. The 32 octets of the `LINK` frame that names a lane to be replaced (R470 does not lay them out): port, lane, as a number. -/
opaque laneNaming : Nat → Nat → Nat

/-- FREE VALUE. The exchange of the upper end that a lower end takes for ê (R477 says (e_own − e_other)/2 from each end's own side, and
no message carries e_u down): the `k`-th taken, step. -/
opaque upperExchange : Nat → Nat → Int

/-- FREE VALUE. The content of a repetitive-table word that carries a poison mark, as a read of the table returns it (R37 delivers the
word with its mark; its content is not stated): loop, position. -/
opaque poisonWord : Nat → Nat → Int

/-- FREE VALUE. `ADMIT` (item 0) and `CAPTURE_LAG` (item 1) of the gap entry of a log read (R513 gives its other fields): item, cursor. -/
opaque gapEntryField : Nat → Nat → Nat

/-- FREE VALUE. How many octets a scan has fed at a device time, before it is DONE (R489 gives minimum rates only). -/
opaque scanFed : Nat → Nat

/-- FREE VALUE. What a scan of the CRC unit reads at an address whose stored form the manual does not give (keep-store records, subsoil
data, the dictionary image, program words no image loaded; R487): the `k`-th scan, address. -/
opaque scanOctet : Nat → Nat → Octet

end Config
end Sys2Proof
end

