-- ==== Sys2Proof/Machine/Elementary.lean ====
section
/-! DEFINITION. The real functions that the manual's formulae name (exp, logarithm, power, square root, π), computed with 96 fraction
bits, and the rounding of a real value to the integer kept. The manual states neither the device's accuracy nor its rounding there:
the last unit of each is free (DESIGN CHOICE, log 14). -/

namespace Sys2Proof
namespace Machine

/-- The integer kept for a real value (log 14): one of the two that enclose it, the choice free. -/
def rounding (k : Nat) (q : Rat) : Int :=
  if (q.floor : Rat) = q then q.floor else if Config.roundsUp k q then q.floor + 1 else q.floor

/-- 2ᵏ. -/
def pow2 (k : Int) : Rat := if 0 ≤ k then ((2 ^ k.toNat : Nat) : Rat) else 1 / ((2 ^ (-k).toNat : Nat) : Rat)

/-- ⌊log₂ q⌋ of a positive q. -/
def floorLog2 (q : Rat) : Int :=
  let a := q.num.natAbs
  let b := q.den
  let e : Int := (a.log2 : Int) - b.log2
  if pow2 e ≤ q then e else e - 1

/-- A rational rounded half to even. -/
def roundRat (q : Rat) : Int := divHalfEven q.num q.den

/-- The larger, the smaller, the magnitude of rationals. -/
def maxQ (a b : Rat) : Rat := if a < b then b else a
def minQ (a b : Rat) : Rat := if b < a then b else a
def absQ (a : Rat) : Rat := if a < 0 then -a else a
/-- ℕ to ℚ, ℤ to ℚ with a divisor. -/
def ratN (n : Nat) : Rat := (n : Rat)
def ratI (n : Int) (d : Nat) : Rat := (n : Rat) / (d : Rat)
/-- A sum of rationals. -/
def sumQ (l : List Rat) : Rat := l.foldl (· + ·) 0

/-! ## Fixed point with 96 fraction bits -/

/-- 1 in fixed point. -/
def fxOne : Int := 2 ^ 96
/-- A rational in fixed point, and back. -/
def fxOf (q : Rat) : Int := q.num * fxOne / q.den
def fxVal (a : Int) : Rat := (a : Rat) / (fxOne : Rat)
/-- A product in fixed point. -/
def fxMul (a b : Int) : Int := a * b / fxOne

/-- Σ rᵏ/k! from term `k` on. -/
def expSum (r : Int) : Nat → Int → Int → Int → Int
  | 0, _, _, s => s
  | n + 1, k, t, s => let t := fxMul t r / k; expSum r n (k + 1) t (s + t)

/-- Σ zᵏ/k over odd k from `k` on, the power `p` = zᵏ in hand. -/
def atanhSum (z2 : Int) : Nat → Int → Int → Int → Int
  | 0, _, _, s => s
  | n + 1, k, p, s => atanhSum z2 n (k + 2) (fxMul p z2) (s + p / k)

/-- ln m of an m in [1, 2]: 2·artanh((m − 1)/(m + 1)). -/
def lnUnit (m : Rat) : Int := let z := fxOf ((m - 1) / (m + 1)); 2 * atanhSum (fxMul z z) 40 1 z 0

/-- ln 2. -/
def ln2 : Rat := fxVal (lnUnit 2)

/-- ln x of a positive x; 0 elsewhere. -/
def lnQ (x : Rat) : Rat := if x ≤ 0 then 0 else let e := floorLog2 x; (e : Rat) * ln2 + fxVal (lnUnit (x * pow2 (-e)))

/-- eˣ; a power of two beyond ±65536, far outside every scale code (R189), is taken there. -/
def expQ (x : Rat) : Rat :=
  let n := (x / ln2).floor
  let r := fxOf (x - (n : Rat) * ln2)
  pow2 (clampI (-65536) 65536 n) * fxVal (expSum r 32 1 fxOne fxOne)

/-- Σ (−1)ᵏ xⁿ/n! over n of one parity from `k` on, the term `t` in hand, x² given: cosine from 1, sine from x. -/
def trigSum (x2 : Int) : Nat → Int → Int → Int → Int
  | 0, _, _, s => s
  | n + 1, k, t, s => let t := -(fxMul t x2) / ((k + 1) * (k + 2)); trigSum x2 n (k + 2) t (s + t)

/-- 2π in fixed point. -/
def twoPi : Int := fxOf (2 * (314159265358979323846264338327950288 / 100000000000000000000000000000000000))
/-- An angle in turns, brought to within half a turn and to radians. -/
def radians (u : Rat) : Int := fxMul (fxOf (u - ((u + 1 / 2).floor : Rat))) twoPi
/-- cos and sin of an angle in turns. -/
def cosTurns (u : Rat) : Int := let x := radians u; trigSum (fxMul x x) 24 0 fxOne fxOne
def sinTurns (u : Rat) : Int := let x := radians u; trigSum (fxMul x x) 24 1 x x

/-- √x of a non-negative x, 97 significant bits. -/
def sqrtQ (x : Rat) : Rat :=
  if x ≤ 0 then 0
  else
    let s := (floorLog2 x).fdiv 2 - 96
    ((isqrt (x * pow2 (-2 * s)).floor.toNat : Nat) : Rat) * pow2 s

/-- A real function as the device computes it: its last of 29 bits is free (log 14). -/
def devReal (k : Nat) (x y v : Rat) : Rat := v + v * (clampI (-1) 1 (Config.fnError k x y) : Rat) * pow2 (-28)

/-! ## The functions of the formulae -/

/-- π. -/
def piDev : Rat := 314159265358979323846264338327950288 / 100000000000000000000000000000000000
/-- xʸ of a positive x. -/
def powDev (x y : Rat) : Rat := devReal 3 x y (expQ (y * lnQ x))
/-- log₁₀ x. -/
def log10Dev (x : Rat) : Rat := devReal 1 x 0 (lnQ x / lnQ 10)
/-- √x. -/
def sqrtDev (x : Rat) : Rat := devReal 2 x 0 (sqrtQ x)
/-- eˣ. -/
def expDev (x : Rat) : Rat := devReal 0 x 0 (expQ x)

end Machine
end Sys2Proof
end

