-- ==== Sys2Proof/Machine/Parts/Health.lean ====
section
/-! DEFINITION. The part of State that chapter 18 (CRC unit, spare pools, self-test, wear, thermal record) gives the device.
Pool numbers are R492's; a pool that exists per port and direction or per island has one instance each (`poolKey`). -/

namespace Sys2Proof
namespace Machine

/-- A channel of the CRC unit (R485–R491). -/
structure CrcChan where
  state : Nat := 0
  cause : Nat := 0
  poisoned : Bool := false
  late : Bool := false
  fed : Nat := 0
  endAt : Nat := 0
  result : Nat := 0
  deriving DecidableEq, Repr

/-- The counts of a pool (R507). -/
structure PoolStat where
  faults : Nat := 0
  wear : Nat := 0
  subst : Nat := 0
  lastChange : Nat := 0
  deriving DecidableEq, Repr

/-- A requested test (R500). -/
structure StReq where
  pool : Nat
  elem : Nat
  force : Bool
  deriving DecidableEq, Repr

/-- The test of a pool (R500–R502): the element under test and the spare that covers it. -/
structure TestRun where
  elem : Nat
  cover : Option Nat
  forced : Bool
  background : Bool
  start : Nat
  deriving DecidableEq, Repr

/-- `ST_STATUS` of a pool (R506). -/
structure TestStat where
  run : Option TestRun := none
  elem : Nat := 0
  outcome : Nat := 0
  late : Bool := false
  forced : Bool := false
  tests : Nat := 0
  endAt : Nat := 0
  deriving DecidableEq, Repr

/-- Integrity, self-test and spares (R485–R509). -/
structure Health where
  crc : Tab CrcChan := []
  stat : Tab PoolStat := []
  tests : Tab TestStat := []
  queue : List StReq := []
  lastReq : Octets := zeros 4
  /-- elements out of service for good, by pool instance; positions served by another element -/
  out : Tab (List Nat) := []
  fullBist : Bool := false
  bistKind : Nat := 0
  bistOutcome : Nat := 0
  bistReplaced : Nat := 0
  bistUs : Nat := 0
  bistRows : Nat := 0
  /-- R495: time of the last mismatch without a spare -/
  mismatchAt : Option Nat := none
  /-- replacements due at the next warm restart: (pool instance, element) -/
  pending : List (Nat × Nat) := []
  sramRows : Nat := 0
  sramCols : Nat := 0
  subsoilRows : Nat := 0
  keepRemaps : Nat := 0
  softSram : Nat := 0
  softSubsoil : Nat := 0
  softKeep : Nat := 0
  /-- ageing by the place in `AGEING` (R508), and the elements whose WEAR_WARN is raised -/
  ageing : Tab Nat := []
  canaries : Tab Nat := []
  wearMax : Nat := 0
  wearSector : Nat := 0
  refreshBand : Nat := 0
  bandRaised : Bool := false
  marginRows : Nat := 0
  /-- background self-test, by pool: the element whose turn is next, and the beginning of the present pass (R498) -/
  turn : Tab Nat := []
  passAt : Tab Nat := []
  /-- seconds powered and per band since the last hourly write, on top of what the keep store holds (R504) -/
  seconds : Nat := 0
  thermAt : Option Nat := none
  bands : Tab Nat := []
  hottest : Int := -32768
  thermFlags : Nat := 0
  /-- `THERMAL_HOURS` as last written to the keep store: seconds, bands, highest -/
  keptSeconds : Nat := 0
  keptBands : Tab Nat := []
  keptHottest : Int := -32768
  deriving DecidableEq, Repr

/-- The instance of a pool: pools 6 and 7 exist per port and direction, and per island. -/
def poolKey (pool unit : Nat) : Nat := if pool = 6 then 100 + unit else if pool = 7 then 200 + unit else pool

end Machine
end Sys2Proof
end

