-- ==== Sys2Proof/Machine/Parts/Model.lean ====
section
/-! DEFINITION. The part of State that chapter 03 (model image, channel map, operating inputs) gives the device beside the
dictionary's values. -/

namespace Sys2Proof
namespace Machine

/-- The model image's staging and the active image (R106–R109). -/
structure Model where
  /-- staging of `0x2000.01` -/
  stage : Stage := {}
  active : Option Octets := none
  gen : Nat := 0
  switched : Nat := 0
  /-- an image written to the keep store whose switch waits for the next hydraulic period (R107), with its generation -/
  next : Option (Nat × Octets) := none
  deriving DecidableEq, Repr

end Machine
end Sys2Proof
end

