-- ==== Sys2Proof/Machine/Parts/System.lean ====
section
/-! DEFINITION. The parts of State that chapters 02 (stored values), 20 (power, boot, restart) and 21 (boundary scan) give the
device, and the keep store's A/B record form (R40). -/

namespace Sys2Proof
namespace Machine

/-- A keep-store record with its A and B slots (R40): the 32-bit generation and the content of each valid slot, one whose length and
CRC-32C hold; none for a slot never written, cut while it was written, or failing its check. -/
structure KRec (α : Type) where
  a : Option (Nat × α) := none
  b : Option (Nat × α) := none
  deriving DecidableEq, Repr

/-- The checkpointed state of one loop (R453's state words, R541): n, state, hold cause, accumulator, d, e_d_prev,
u_prev, u, overruns, last request, and the REP context's history. -/
structure LoopCkpt where
  n : Nat
  state : LoopState
  cause : Nat
  acc : Int
  d : Int
  edPrev : Int
  uPrev : Int
  u : Int
  ovr : Nat
  req : Nat
  x : List Int
  ok : List Bool
  deriving DecidableEq, Repr

/-- The control record (R541). -/
structure ControlRec where
  topo : Nat
  fw : Nat
  boot : Nat
  taken : Nat
  planVer : Nat
  loops : List LoopCkpt
  plan : Plan
  deriving DecidableEq, Repr

/-- The learned record (R541). -/
structure LearnedRec where
  topo : Nat
  taken : Nat
  loss : Tab Int
  bias : Tab Int
  drift : Tab Int
  profB : Tab Int
  profS : Tab Int
  deriving DecidableEq, Repr

/-- The head of the interval ring (R310): the next slot and the newest `INTERVAL_NO`; the ring's capacity, 4085 records, and the record
size, 7956 octets with the header of R40, stand in it as constants. -/
structure RingHead where
  nextSlot : Nat
  newest : Nat
  deriving DecidableEq, Repr

/-- A firmware slot of the keep store (R39, R398): the octets of its image, empty where none was ever written. -/
structure FwSlot where
  image : Octets := []
  deriving DecidableEq, Repr

/-- Power, reset, boot and restart (R530–R548). -/
structure Power where
  supplies : Bool := true
  vbat : Bool := true
  resetN : Bool := true
  pfailN : Bool := true
  straps : Straps := {}
  bootAt : Nat := 0
  /-- halted in BOOT or SELFTEST (R537, R538) -/
  halted : Bool := false
  /-- in the reset of R531 that follows a supply loss -/
  lossReset : Bool := false
  /-- RESTART_INFO (R548) -/
  cause : Nat := 0
  decision : Nat := 0
  reason : Nat := 0
  fallback : Bool := false
  readyUs : Nat := 0
  takenUsed : Nat := 0
  fwSlot : Nat := 0
  fwVersion : Nat := 0
  trainTries : Nat := 0
  trained : Bool := false
  /-- the last accepted RESTART_REQ, 0 none (R539) -/
  restartReq : Nat := 0
  /-- save: running since, trigger (1 PFAIL_N, 2 RESTART_REQ, 3 STANDBY_REQ), its t₀, steps complete; and what the next
  state is when it ends (0 none, 1 BOOT, 2 PARKED) -/
  saving : Bool := false
  saveTrigger : Nat := 0
  saveT0 : Nat := 0
  saveRaw : Nat := 0
  saveThen : Nat := 0
  /-- a completed power-fail save stands: the supplies may go (R542) -/
  saved : Bool := false
  /-- SAVE_INFO of the last save before this boot (R548): trigger, records, duration, t₀ -/
  infoTrigger : Nat := 0
  infoRecords : Nat := 0
  infoDuration : Nat := 0
  infoT0 : Nat := 0
  parkedAt : Nat := 0
  checkpointAt : Nat := 0
  /-- the BACKUP domain has a supply -/
  backupOn : Bool := true
  /-- the first POWER_ON has come -/
  started : Bool := false
  /-- the BIST of this boot has ended -/
  bisted : Bool := false
  /-- the registers latched at a save's t₀ (R542), its records complete so far, its duration once complete, in µs -/
  saveLatch : Option Shadow := none
  saveRecords : Nat := 0
  /-- the loops as they stood at the first tick boundary after t₀ (R542) -/
  saveLoops : Option (List LoopCkpt) := none
  saveDur : Nat := 0
  /-- no job starts and no retention copy is written (R542, R544) -/
  jobsHeld : Bool := false
  /-- interval boundaries and a clear whose records wait for the end of a save (R544) -/
  deferIv : List Shadow := []
  deferClear : Bool := false
  deriving DecidableEq, Repr

/-- The dictionary's stored values and its commands in progress (R48–R58). The value of an entry not listed is its default;
the key is index × 256 + sub-index. -/
structure Dict where
  vals : Tab Val := []
  storing : Option (Tab Val) := none
  storeResult : Nat := 0
  restorePending : Bool := false
  deriving DecidableEq, Repr

/-- The keep store's records (R39, R40): saved values, program and model images, retained logic variables, the two records
of the checkpoint, the excerpt, the energy record, the ring head, the wrapped keys, and the copies in the system area of the device
counters (R25). The interval ring is held by the part that writes it. -/
structure Keep where
  saved : KRec (Tab Val) := {}
  prog : KRec Octets := {}
  model : KRec Octets := {}
  retained : KRec Retained := {}
  control : KRec ControlRec := {}
  learned : KRec LearnedRec := {}
  excerpt : KRec Octets := {}
  energy : KRec EnergyRec := {}
  head : KRec RingHead := {}
  /-- the 48 wrapped octets of each slot that holds a key (R385) -/
  keys : KRec (Tab Octets) := {}
  bootCount : Nat := 0
  /-- the copies in the system area of `CLEAR_COUNT` by connection point (R25) -/
  clearCounts : Tab Nat := []
  fw : List FwSlot := [{}, {}]
  deriving DecidableEq, Repr

/-- The boundary-scan logic (R568–R571). -/
inductive TapReg where
  | extest | samplePreload | idcode | clamp | highz | bypass
  deriving DecidableEq, Repr

/-- The TAP (R568): instruction, boundary-scan register, bypass bit, what drives the balls. -/
structure Tap where
  ir : TapReg := .idcode
  bsr : List Bool := []
  bypassBit : Bool := false
  /-- the bits the last scan shifted out of TDO, first bit first -/
  tdo : List Bool := []
  /-- the bits the last load of the instruction register shifted out -/
  irOut : List Bool := []
  /-- 0 the device, 1 the boundary-scan register, 2 held, 3 released -/
  drive : Nat := 0
  held : List Bool := []
  deriving DecidableEq, Repr

end Machine
end Sys2Proof
end

