-- ==== Sys2Proof/Machine/Parts/Time.lean ====
section
/-! DEFINITION. The parts of State that chapter 15 (calendar, alarm, wake, synchronisation) gives the device. -/

namespace Sys2Proof
namespace Machine

/-- The nine calendar fields as they stand (R414): BCD octets as written, WEEKDAY, SUBSEC. -/
structure CalFields where
  sec : Nat := 0
  min : Nat := 0
  hour : Nat := 0
  day : Nat := 1
  month : Nat := 1
  year : Nat := 0
  century : Nat := 32
  weekday : Nat := 0
  subsec : Nat := 0
  deriving DecidableEq, Repr

/-- The calendar, its alarm and its wake (R414–R427). -/
structure Cal where
  f : CalFields := {}
  /-- raw time at which the present second was entered (SUBSEC counts from it) -/
  since : Nat := 0
  /-- raw time of the last reading of the temperature sensor (R426) -/
  tempAt : Option Nat := none
  /-- the read shadow of R416; the paths on which a read of SEC came before -/
  shadow : CalFields := {}
  latched : List Nat := []
  valid : Bool := false
  halt : Bool := false
  /-- calendar count (s) and raw time at which HALT was set -/
  haltAt : Int := 0
  haltRaw : Nat := 0
  offset : Int := 0
  step : Option Int := none
  jump : Bool := false
  jumped : Bool := false
  steering : Bool := false
  almf : Bool := false
  almskip : Bool := false
  alarm : Octets := zeros 7
  alarmNew : Option Octets := none
  /-- wake: raw time from which the running interval counts, moved on by every halt -/
  wakeStart : Nat := 0
  wakeOut : Bool := false
  dev : Int := 0
  temp : Int := 2500
  deriving DecidableEq, Repr

/-- A foreign master (R431): clockIdentity and port, the octets its comparison is made over, the time of its last Announce and
its announce interval, and whether two Announces came within four intervals. -/
structure Foreign where
  id : Octets
  rank : Octets
  last : Nat
  interval : Nat
  ready : Bool
  deriving DecidableEq, Repr

/-- Synchronisation of device time (R428–R435). -/
structure Sync where
  state : Nat := 0
  theta : Int := 0
  /-- f of R429 in 2⁻¹⁶ ppb; r in ppb -/
  f : Int := 0
  rate : Int := 0
  good : Nat := 0
  lastMeas : Nat := 0
  interval : Nat := 1000000000
  stepped : Bool := false
  slewing : Bool := false
  measurements : Nat := 0
  losses : Nat := 0
  steps : Nat := 0
  lockWaitEnd : Option Nat := none
  measured : Bool := false
  master : Octets := zeros 12
  foreign : List Foreign := []
  pathDelay : Int := 0
  /-- a two-step Sync waiting for its Follow_Up: sequence and arrival; the last Sync's t1 and t2 -/
  pend : Option (Nat × Nat) := none
  t1 : Nat := 0
  t2 : Nat := 0
  /-- the last Delay_Req: sequence and departure -/
  req : Option (Nat × Nat) := none
  reqNo : Nat := 0
  /-- raw time of the last Delay_Req -/
  reqAt : Option Nat := none
  /-- log of the master's minimum Delay_Req interval -/
  reqLog : Int := 0
  syncs : Nat := 0
  follows : Nat := 0
  resps : Nat := 0
  announces : Nat := 0
  /-- Jiest time exchanges (R473): t1, t2, t3 of the last echo sent; the last eight delays -/
  jt1 : Nat := 0
  jt2 : Nat := 0
  jt3 : Nat := 0
  jdelays : List Int := []
  deriving DecidableEq, Repr

end Machine
end Sys2Proof
end

