-- ==== Sys2Proof/Machine/State.lean ====
section
/-! DEFINITION. The state of one PX5120 as plain data, the reasons a step can stop, and the state after reset. -/

namespace Sys2Proof
namespace Machine

/-- Why a step stops with a fault. -/
inductive Fault where
  /-- Raised by a command whose operand names a unit, or an entry of the command, that the manual says does not exist (a loop above 1023, a channel above 511,
  a port above 7 …; R2 and the ranges of the chapters). SAFE: the hardware has no such unit, so no run of it is cut short. -/
  | noSuchUnit
  deriving DecidableEq, Repr

/-- Why a step is refused. -/
inductive Refusal where
  /-- Raised by an arm of the dispatch whose command has no meaning yet, by its mnemonic. SAFE. -/
  | notModelled (mnemonic : String)
  deriving DecidableEq, Repr

/-- The state of the block. -/
structure State where
  /-- the commands that are waiting, first in first out -/
  pending : List Instr := []
  clk : Clk := {}
  dev : Dev := {}
  ledger : Ledger := {}
  fabric : Tab Crossing := []
  dict : Dict := {}
  model : Model := {}
  loam : Loam := {}
  hyd : Hyd := {}
  estim : Estim := {}
  disp : Disp := {}
  metr : Metr := {}
  heat : Heat := {}
  health : Health := {}
  cal : Cal := {}
  sync : Sync := {}
  lease : Lease := {}
  casc : Cascade := {}
  net : Net := {}
  logic : Logic := {}
  ctrl : Ctrl := {}
  power : Power := {}
  keep : Keep := {}
  tap : Tap := {}
  /-- MODEL FIELD: how many free values the run has drawn (the argument of the next one) -/
  draws : Nat := 0
  deriving DecidableEq, Repr

/-- The block right after reset: BOOT at its first boot instant. -/
def State.reset : State := {}

end Machine
end Sys2Proof
end

