-- ==== Sys2Proof/Machine/Queue.lean ====
section
/-! DEFINITION. The queue primitive of chapter 14: pointers, Gray-code crossings, the three parts of an instance, its flags
and what a forbidden push or pop does. Times are in picoseconds of raw time. -/

namespace Sys2Proof
namespace Machine

/-- The island of a number, HOUSE for a number that names none. -/
def islandOf (i : Nat) : Island := (Island.ofNum? i).getD .house

/-- The producer's and the consumer's island of an instance (R413, R524). -/
def QId.ends : QId → Island × Island
  | .island i => (islandOf i, .house)
  | .request => (.comm, .house)
  | .canA _ => (.comm, .comm)
  | .canB _ => (.comm, .comm)
  | .capture => (.ctrl, .mem)
  | .logq _ => (.house, .comm)
  | .traceq _ => (.ctrl, .comm)
  | .fabFwd a b => (islandOf a, islandOf b)
  | .fabRev a b => (islandOf b, islandOf a)

/-- The spill allocation S of an instance (R413, R524). -/
def QId.spillSize : QId → Nat
  | .island _ => 224 | .request => 224 | .canA _ => 8160 | .canB _ => 8160 | .capture => 4064
  | .logq _ => 32736 | .traceq _ => 8160 | .fabFwd _ _ => 0 | .fabRev _ _ => 0

/-- The capacity of an instance: 32 + S, and 32 until subsoil training is complete (R401, R409). -/
def QId.cap (id : QId) (trained : Bool) : Nat := if trained then 32 + id.spillSize else 32

/-- The synchroniser delay of one pointer change (R403): 3 cycles of a shared clock; else between one destination cycle and
two destination cycles plus one source cycle, the point of that window being a free value. -/
def syncDelay (src dst : Island) (k : Nat) : Nat :=
  if src = dst then 3 * src.periodPs
  else dst.periodPs + Config.freeDelay k % (dst.periodPs + src.periodPs + 1)

/-- The last value of a way that is visible at `ps`. -/
def wayNow (cur : Nat) : List (Nat × Nat) → Nat → Nat
  | [], _ => cur
  | (v, x) :: r, ps => if v ≤ ps then wayNow x r ps else cur

/-- The part of a way that is not visible yet at `ps`. -/
def wayLeft : List (Nat × Nat) → Nat → List (Nat × Nat)
  | [], _ => []
  | (v, x) :: r, ps => if v ≤ ps then wayLeft r ps else (v, x) :: r

/-- Both domains' synchronised copies brought up to `ps`. -/
def Queue.see (q : Queue) (ps : Nat) : Queue :=
  { q with flushTo := q.flushTo.filter (fun u => decide (ps < u)),
           wpS := wayNow q.wpS q.wpWay ps, wpWay := wayLeft q.wpWay ps,
           rpS := wayNow q.rpS q.rpWay ps, rpWay := wayLeft q.rpWay ps }

/-- The true depth (R402). -/
def Queue.depth (q : Queue) : Nat := (q.wp + 65536 - q.rp) % 65536

/-- The producer's depth d_p (R404). -/
def Queue.depthP (q : Queue) : Nat := (q.wp + 65536 - q.rpS) % 65536

/-- The consumer's depth d_c (R404). -/
def Queue.depthC (q : Queue) : Nat := (q.wpS + 65536 - q.rp) % 65536

/-- `FULL` (R404, R411). -/
def Queue.full (q : Queue) (cap : Nat) : Bool :=
  q.resetting || decide (cap ≤ q.depthP) || decide (16 ≤ q.tail.length)

/-- `EMPTY` (R404, R411, R412). -/
def Queue.empty (q : Queue) : Bool :=
  q.resetting || q.flushTo.isSome || decide (q.depthC = 0) || q.head.isEmpty

/-- Entries pass from the tail to the head while the spill is empty and the head has room (R407, step 1). -/
def Queue.settle (q : Queue) : Queue :=
  if q.spill.isEmpty then
    let k := 16 - q.head.length
    { q with head := q.head ++ q.tail.take k, tail := q.tail.drop k }
  else q

/-- A push (R402, R405), with the delay its pointer change takes to cross. -/
def Queue.push (q : Queue) (cap ps delay : Nat) (x : QItem) : Queue :=
  let q := q.see ps
  if q.full cap then { q with overrun := true, overruns := q.overruns + 1 }
  else
    let wp := (q.wp + 1) % 65536
    Queue.settle { q with wp := wp, wpWay := q.wpWay ++ [(ps + delay, wp)], tail := q.tail ++ [(x, false)],
                          peak := max q.peak (q.depthP + 1) }

/-- The entry a pop delivers, with its poison mark; none while `EMPTY`. -/
def Queue.front (q : Queue) (ps : Nat) : Option (QItem × Bool) :=
  if (q.see ps).empty then none else q.head.head?

/-- A pop (R402, R405). -/
def Queue.pop (q : Queue) (ps delay : Nat) : Queue :=
  let q := q.see ps
  if q.empty then { q with underrun := true, underruns := q.underruns + 1 }
  else
    let rp := (q.rp + 1) % 65536
    Queue.settle { q with rp := rp, rpWay := q.rpWay ++ [(ps + delay, rp)], head := q.head.drop 1 }

/-- The spill mover writes a full tail stage to the spill (R407 step 2, R408). -/
def Queue.burstWrite (q : Queue) (size : Nat) : Queue :=
  if 16 ≤ q.tail.length ∧ q.spill.length + 16 ≤ size then
    Queue.settle { q with spill := q.spill ++ q.tail.take 16, tail := q.tail.drop 16, stalls := q.stalls + 1 }
  else q

/-- Mark the entries whose word stayed bad after three re-reads (R37, R410). -/
def poisonMarks : List (QItem × Bool) → List Bool → List (QItem × Bool)
  | [], _ => []
  | e :: r, [] => e :: r
  | (x, p) :: r, b :: bs => (x, p || b) :: poisonMarks r bs

/-- The spill mover reads a burst into the head stage (R407 step 3); `bad` marks the poisoned entries. -/
def Queue.burstRead (q : Queue) (bad : List Bool) : Queue :=
  if q.head.isEmpty ∧ 16 ≤ q.spill.length then
    Queue.settle { q with head := poisonMarks (q.spill.take 16) bad, spill := q.spill.drop 16, stalls := q.stalls + 1 }
  else q

/-- A parity failure of a pointer (R411): both flags held, every entry discarded; the loss counted as overruns. -/
def Queue.break (q : Queue) (ps : Nat) : Queue :=
  let q := q.see ps
  { q with resetting := true, tail := [], spill := [], head := [], overrun := true, overruns := q.overruns + q.depthP }

/-- The end of the reset handshake (R411): pointers and copies 0. -/
def Queue.restart (q : Queue) : Queue :=
  if q.resetting then
    { q with resetting := false, wp := 0, rp := 0, wpS := 0, rpS := 0, wpWay := [], rpWay := [], flushTo := none }
  else q

/-- The rp values of a flush on their way to the producer, one per consumer cycle. -/
def flushWay (rp ps period delay : Nat) : Nat → List (Nat × Nat)
  | 0 => []
  | n + 1 => flushWay rp ps period delay n ++ [(ps + (n + 1) * period + delay, (rp + n + 1) % 65536)]

/-- A flush (R412): every entry visible to the consumer is discarded, one per consumer cycle; entries beyond the target survive. While it
runs the consumer sees `EMPTY`; a flush asked for meanwhile goes on after it. -/
def Queue.flush (q : Queue) (ps period delay : Nat) : Queue :=
  let q := q.see ps
  if q.resetting then q
  else
    let n := q.depthC
    let from_ := q.flushTo.getD ps
    let all := (q.head ++ q.spill ++ q.tail).drop n
    Queue.settle { q with rp := q.wpS, rpWay := q.rpWay ++ flushWay q.rp from_ period delay n,
                          head := all.take 16, spill := [], tail := all.drop 16,
                          flushTo := if n = 0 then q.flushTo else some (from_ + n * period) }

end Machine
end Sys2Proof
end

