-- ==== Sys2Proof/Machine/Schema.lean ====
section
/-! DEFINITION. The object dictionary (R48, R49): every entry with its type, access right, level, saveable flag, default and
range, as the dictionary tables of the chapters give them. Groups of indices of one layout share one table. -/

namespace Sys2Proof.Machine
open Sys2Proof

/-- The data types (R50). -/
inductive DTy where
  | bool | u8 | u16 | u32 | u64 | i8 | i16 | i32 | i64 | q15 | q31 | fx32 | bcd8 | time64 | octets | string
  deriving DecidableEq, Repr

/-- The access rights (R53). -/
inductive Right where
  | ro | rw | wo | rwc
  deriving DecidableEq, Repr

/-- An entry of a group (R49). `n` consecutive sub-indices from `sub` on share the row. For a numeric entry `lo` and `hi` are its range;
for OCTETS `lo` is the least length the table gives. -/
structure Ent where
  sub : Nat
  n : Nat
  ty : DTy
  right : Right
  expert : Bool
  save : Bool
  service : Bool
  maxLen : Nat
  dflt : Val
  lo : Int
  hi : Int
  unit : String
  deriving DecidableEq, Repr

/-- Index 0x1000: VENDOR_CODE, PART_CODE, STEPPING, SERIAL, FW_VERSION, FW_SLOT, STRAPS. -/
def ents1000 : List Ent :=
  [ ⟨0x01, 1, .u32, .ro, false, false, false, 0, .num 23306, 0, 4294967295, ""⟩,
    ⟨0x02, 1, .u32, .ro, false, false, false, 0, .num 20768, 0, 4294967295, ""⟩,
    ⟨0x03, 1, .u16, .ro, false, false, false, 0, .num 0, 0, 65535, ""⟩,
    ⟨0x04, 1, .u64, .ro, false, false, false, 0, .num 0, 0, 18446744073709551615, ""⟩,
    ⟨0x05, 1, .u32, .ro, false, false, false, 0, .num 0, 0, 4294967295, ""⟩,
    ⟨0x06, 1, .u8, .ro, false, false, false, 0, .num 0, 0, 1, ""⟩,
    ⟨0x07, 1, .u16, .ro, false, false, false, 0, .num 0, 0, 65535, ""⟩ ]

/-- Index 0x1001: STATE…, STATE_TIME, DEGRADED_CAUSE, HOLD_CAUSE, STATE_REQUEST, BOOT_COUNT. -/
def ents1001 : List Ent :=
  [ ⟨0x01, 1, .u8, .ro, false, false, false, 0, .num 0, 1, 9, ""⟩,
    ⟨0x02, 1, .u8, .ro, false, false, false, 0, .num 0, 0, 9, ""⟩,
    ⟨0x03, 1, .time64, .ro, false, false, false, 0, .num 0, 0, 18446744073709551615, "ns"⟩,
    ⟨0x04, 1, .u32, .ro, false, false, false, 0, .num 0, 0, 127, ""⟩,
    ⟨0x05, 1, .u16, .ro, false, false, false, 0, .num 0, 0, 62, ""⟩,
    ⟨0x06, 1, .u8, .rwc, false, false, false, 0, .num 0, 0, 3, ""⟩,
    ⟨0x07, 1, .u32, .ro, false, false, false, 0, .num 0, 0, 4294967295, ""⟩ ]

/-- Index 0x1010: STORE_ALL, STORE_RESULT. -/
def ents1010 : List Ent :=
  [ ⟨0x01, 1, .u32, .rwc, false, false, false, 0, .num 0, 23294, 23294, ""⟩,
    ⟨0x02, 1, .u8, .ro, false, false, false, 0, .num 0, 0, 2, ""⟩ ]

/-- Index 0x1011: RESTORE_DEFAULTS. -/
def ents1011 : List Ent :=
  [ ⟨0x01, 1, .u32, .rwc, false, false, false, 0, .num 0, 54266, 54266, ""⟩ ]

/-- Index 0x1100 to 0x1101: ETH_ENABLE, IPV4_CONFIG, MAC_ADDRESS, LINK, ETH_COUNTS. -/
def ents1100 : List Ent :=
  [ ⟨0x01, 1, .bool, .rw, false, true, false, 0, .num 0, 0, 1, ""⟩,
    ⟨0x02, 1, .octets, .rw, false, true, false, 12, .oct (zeros 12), 0, 0, ""⟩,
    ⟨0x03, 1, .octets, .ro, false, false, false, 6, .oct [], 0, 0, ""⟩,
    ⟨0x04, 1, .u8, .ro, false, false, false, 0, .num 0, 0, 7, ""⟩,
    ⟨0x05, 1, .octets, .ro, false, false, false, 40, .oct [], 0, 0, ""⟩ ]

/-- Index 0x1102: PTP_MAC. -/
def ents1102 : List Ent :=
  [ ⟨0x01, 1, .u8, .rw, false, true, false, 0, .num 255, 0, 255, ""⟩ ]

/-- Index 0x1200 to 0x1207: PORT_ENABLE, NOMINAL_TIMING, DATA_TIMING, TDC, PORT_OPTIONS, RESTRICT_MAX. -/
def ents1200 : List Ent :=
  [ ⟨0x01, 1, .bool, .rw, false, true, false, 0, .num 0, 0, 1, ""⟩,
    ⟨0x02, 1, .octets, .rw, true, true, false, 8, .oct [0x02, 0x00, 0x3F, 0x00, 0x10, 0x10, 0x00, 0x00], 0, 0, ""⟩,
    ⟨0x03, 1, .octets, .rw, true, true, false, 4, .oct [0x01, 0x1F, 0x08, 0x08], 0, 0, ""⟩,
    ⟨0x04, 1, .octets, .rw, true, true, false, 4, .oct [0x01, 0x20, 0x00, 0x00], 0, 0, ""⟩,
    ⟨0x05, 1, .u8, .rw, true, true, false, 0, .num 3, 0, 7, ""⟩,
    ⟨0x06, 1, .u16, .rw, true, true, false, 0, .num 2000, 100, 60000, "ms"⟩ ]

/-- Index 0x1208: SPARE_PORT, SPARE_REQUEST. -/
def ents1208 : List Ent :=
  [ ⟨0x01, 1, .u8, .ro, false, false, false, 0, .num 255, 0, 255, ""⟩,
    ⟨0x02, 1, .u8, .rwc, true, false, true, 0, .num 255, 0, 7, ""⟩ ]

/-- Index 0x1400 to 0x14FF: SESSION_STATE, PARTNER, KEY_SLOT, ROLE, LAST_COUNTER, RATE, IDLE_TIMEOUT, IDLE_TIME, OPENED_AT, SESSION_COUNTS, SESSION_KILL. -/
def ents1400 : List Ent :=
  [ ⟨0x01, 1, .u8, .ro, false, false, false, 0, .num 0, 0, 2, ""⟩,
    ⟨0x02, 1, .octets, .ro, false, false, false, 16, .oct [], 0, 0, ""⟩,
    ⟨0x03, 1, .u8, .ro, false, false, false, 0, .num 255, 0, 255, ""⟩,
    ⟨0x04, 1, .u8, .ro, false, false, false, 0, .num 0, 0, 3, ""⟩,
    ⟨0x05, 1, .u64, .ro, true, false, false, 0, .num 0, 0, 18446744073709551615, ""⟩,
    ⟨0x06, 1, .u16, .rw, true, true, false, 0, .num 200, 1, 10000, "requests/s"⟩,
    ⟨0x07, 1, .u16, .rw, true, true, false, 0, .num 600, 10, 65535, "s"⟩,
    ⟨0x08, 1, .u32, .ro, false, false, false, 0, .num 0, 0, 4294967295, "s"⟩,
    ⟨0x09, 1, .time64, .ro, false, false, false, 0, .num 0, 0, 18446744073709551615, "ns"⟩,
    ⟨0x0A, 1, .octets, .ro, true, false, false, 16, .oct [], 0, 0, ""⟩,
    ⟨0x0B, 1, .u32, .rwc, true, false, true, 0, .num 0, 49413, 49413, ""⟩ ]

/-- Index 0x1800 to 0x183F: KEY_WRAPPED, KEY_ERASE, KEY_INFO. -/
def ents1800 : List Ent :=
  [ ⟨0x01, 1, .octets, .wo, true, false, false, 48, .oct [], 0, 0, ""⟩,
    ⟨0x02, 1, .u32, .wo, true, false, false, 0, .num 0, 58021, 58021, ""⟩,
    ⟨0x03, 1, .octets, .ro, false, false, false, 12, .oct [], 0, 0, ""⟩ ]

/-- Index 0x2000: IMAGE_STAGE, IMAGE_ACTIVE, ACTIVATE, STAGE_STATUS, STAGE_FAULT, FAULT_INDEX, ACTIVE_GEN…, ACTIVE_TOPO_HASH…, ACTIVE_TIME, NETWORKS, COUNTS. -/
def ents2000 : List Ent :=
  [ ⟨0x01, 1, .octets, .rwc, true, false, false, 16777216, .oct [], 256, 0, ""⟩,
    ⟨0x02, 1, .octets, .ro, true, false, false, 16777216, .oct [], 0, 0, ""⟩,
    ⟨0x03, 1, .u32, .rwc, true, false, false, 0, .num 0, 19725, 19725, ""⟩,
    ⟨0x04, 1, .u8, .ro, true, false, false, 0, .num 0, 0, 4, ""⟩,
    ⟨0x05, 1, .u16, .ro, true, false, false, 0, .num 0, 0, 17, ""⟩,
    ⟨0x06, 1, .u32, .ro, true, false, false, 0, .num 4294967295, 0, 4294967295, ""⟩,
    ⟨0x07, 2, .u32, .ro, false, false, false, 0, .num 0, 0, 4294967295, ""⟩,
    ⟨0x09, 2, .u32, .ro, true, false, false, 0, .num 0, 0, 4294967295, ""⟩,
    ⟨0x0B, 1, .time64, .ro, false, false, false, 0, .num 0, 0, 18446744073709551615, "ns"⟩,
    ⟨0x0C, 1, .octets, .ro, true, false, false, 128, .oct [], 0, 0, ""⟩,
    ⟨0x0D, 1, .octets, .ro, false, false, false, 28, .oct [], 0, 0, ""⟩ ]

/-- Index 0x2001: NODES. -/
def ents2001 : List Ent :=
  [ ⟨0x01, 1, .octets, .ro, true, false, false, 16777216, .oct [], 0, 0, ""⟩ ]

/-- Index 0x2002: BRANCHES…. -/
def ents2002 : List Ent :=
  [ ⟨0x01, 4, .octets, .ro, true, false, false, 16777216, .oct [], 0, 0, ""⟩ ]

/-- Index 0x2003: PLANTS. -/
def ents2003 : List Ent :=
  [ ⟨0x01, 1, .octets, .ro, true, false, false, 16777216, .oct [], 0, 0, ""⟩ ]

/-- Index 0x2004: STORES…. -/
def ents2004 : List Ent :=
  [ ⟨0x01, 2, .octets, .ro, true, false, false, 16777216, .oct [], 0, 0, ""⟩ ]

/-- Index 0x2005: CHANNEL_MAP. -/
def ents2005 : List Ent :=
  [ ⟨0x01, 1, .octets, .ro, false, false, false, 8192, .oct [], 0, 0, ""⟩ ]

/-- Index 0x2006: LIGHT_GROUPS, RECIPE_ASSIGN, LIGHT_DAY_START. -/
def ents2006 : List Ent :=
  [ ⟨0x01, 1, .octets, .ro, true, false, false, 16777216, .oct [], 0, 0, ""⟩,
    ⟨0x02, 1, .octets, .rw, false, true, false, 64, .oct (List.replicate 64 0xFF), 0, 0, ""⟩,
    ⟨0x03, 1, .u16, .rw, false, true, false, 0, .num 0, 0, 1439, "min"⟩ ]

/-- Index 0x2007: TARIFF_0…, TARIFF_ALL, TARIFF_STATE. -/
def ents2007 : List Ent :=
  [ ⟨0x01, 8, .octets, .rw, false, true, false, 6148, .oct (zeros 4), 0, 0, ""⟩,
    ⟨0x09, 1, .octets, .rw, false, false, false, 49184, .oct [], 0, 0, ""⟩,
    ⟨0x0A, 1, .u16, .ro, false, false, false, 0, .num 0, 0, 65535, ""⟩ ]

/-- Index 0x2008: FC_TEMP…, FC_ALL, FC_STATE. -/
def ents2008 : List Ent :=
  [ ⟨0x01, 3, .octets, .rw, false, false, false, 784, .oct (zeros 16), 0, 0, ""⟩,
    ⟨0x04, 1, .octets, .rw, false, false, false, 2352, .oct [], 0, 0, ""⟩,
    ⟨0x05, 1, .u16, .ro, false, false, false, 0, .num 0, 0, 511, ""⟩ ]

/-- Index 0x2009: SCALE_TABLE. -/
def ents2009 : List Ent :=
  [ ⟨0x01, 1, .octets, .ro, true, false, false, 16777216, .oct [], 0, 0, ""⟩ ]

/-- Index 0x2800: CO2_WEIGHT, CO2_REF, TS_BAND, COMFORT_BAND, FLEX_CAP, FLEX_TAU, FLEX_MASK, DLI_TOL, STORE_RESERVE, T_REF, PROFILE_MEMORY. -/
def ents2800 : List Ent :=
  [ ⟨0x01, 1, .q15, .rw, false, true, false, 0, .num 0, 0, 32767, ""⟩,
    ⟨0x02, 1, .u32, .rw, false, true, false, 0, .num 100000, 0, 100000000, "0.001 mu/t"⟩,
    ⟨0x03, 1, .octets, .rw, false, true, false, 16, .oct [], 0, 0, ""⟩,
    ⟨0x04, 1, .octets, .rw, false, true, false, 8, .oct (zeros 8), 0, 0, ""⟩,
    ⟨0x05, 1, .octets, .rw, false, true, false, 16, .oct (zeros 16), 0, 0, ""⟩,
    ⟨0x06, 1, .octets, .rw, false, true, false, 8, .oct [0xE0, 0x01, 0xE0, 0x01, 0xE0, 0x01, 0xE0, 0x01], 0, 0, ""⟩,
    ⟨0x07, 1, .octets, .rw, false, true, false, 64, .oct (zeros 64), 0, 0, ""⟩,
    ⟨0x08, 1, .u16, .rw, false, true, false, 0, .num 50, 0, 500, "0.001"⟩,
    ⟨0x09, 1, .q15, .rw, false, true, false, 0, .num 0, 0, 29491, ""⟩,
    ⟨0x0A, 1, .i16, .rw, false, true, false, 0, .num 1500, -2000, 3000, "0.01 °C"⟩,
    ⟨0x0B, 1, .u8, .rw, false, true, false, 0, .num 4, 1, 52, "weeks"⟩ ]

/-- Index 0x2801: W_UNMET, W_SURPLUS, W_DELIV…, W_DLI, W_QUAD, MOVE_W, FRAC_TO_BOUND, EPS_P…, EPS_MU, WARM_MU, ITER_MAX, DELTA_EXP, DEADLINE_COLD, DEADLINE_WARM, ON_THRESH, OFF_THRESH, SLACK_TOL, PLAN_MAX_AGE, SIGMA_SPAN. -/
def ents2801 : List Ent :=
  [ ⟨0x01, 1, .u32, .rw, true, true, false, 0, .num 10000000, 0, 4294967295, "0.001 mu/MWh"⟩,
    ⟨0x02, 1, .u32, .rw, true, true, false, 0, .num 100000, 0, 4294967295, "0.001 mu/MWh"⟩,
    ⟨0x03, 2, .u32, .rw, true, true, false, 0, .num 10000000, 0, 4294967295, "0.001 mu/MWh"⟩,
    ⟨0x05, 1, .u32, .rw, true, true, false, 0, .num 1000000, 0, 4294967295, "0.001 mu per mol/m² per m² lit"⟩,
    ⟨0x06, 1, .u16, .rw, true, true, false, 0, .num 100, 0, 10000, "0.001"⟩,
    ⟨0x07, 1, .u32, .rw, true, true, false, 0, .num 500, 0, 4294967295, "0.001 mu/MW²"⟩,
    ⟨0x08, 1, .q15, .rw, true, true, false, 0, .num 32604, 29492, 32764, ""⟩,
    ⟨0x09, 2, .u8, .rw, true, true, false, 0, .num 20, 10, 28, "exponent"⟩,
    ⟨0x0B, 1, .u8, .rw, true, true, false, 0, .num 24, 10, 28, "exponent"⟩,
    ⟨0x0C, 1, .u8, .rw, true, true, false, 0, .num 7, 1, 20, "exponent"⟩,
    ⟨0x0D, 1, .u8, .rw, true, true, false, 0, .num 40, 5, 60, ""⟩,
    ⟨0x0E, 1, .u8, .rw, true, true, false, 0, .num 20, 12, 28, "exponent"⟩ ] ++
  [ ⟨0x0F, 1, .u32, .rw, true, true, false, 0, .num 5000, 100, 810000, "ms"⟩,
    ⟨0x10, 1, .u32, .rw, true, true, false, 0, .num 1500, 100, 810000, "ms"⟩,
    ⟨0x11, 1, .q15, .rw, true, true, false, 0, .num 19661, 0, 32767, ""⟩,
    ⟨0x12, 1, .q15, .rw, true, true, false, 0, .num 13107, 0, 32767, ""⟩,
    ⟨0x13, 1, .u32, .rw, true, true, false, 0, .num 10, 0, 100000, "kW"⟩,
    ⟨0x14, 1, .u32, .rw, true, true, false, 0, .num 1800, 60, 86400, "s"⟩,
    ⟨0x15, 1, .u8, .rw, true, true, false, 0, .num 24, 12, 28, ""⟩ ]

/-- Index 0x2810: DISPATCH_ENABLE, REPLAN_PERIOD, HORIZON, STEP_LEN, REPLAN_NOW, FORCE_COLD. -/
def ents2810 : List Ent :=
  [ ⟨0x01, 1, .bool, .rw, false, true, false, 0, .num 1, 0, 1, ""⟩,
    ⟨0x02, 1, .u32, .rw, false, true, false, 0, .num 60, 10, 900, "s"⟩,
    ⟨0x03, 1, .u16, .rw, true, true, false, 0, .num 96, 2, 192, "steps"⟩,
    ⟨0x04, 1, .u8, .rw, true, true, false, 0, .num 15, 1, 60, "min"⟩,
    ⟨0x05, 1, .u32, .rw, false, false, false, 0, .num 0, 39453, 39453, ""⟩,
    ⟨0x06, 1, .u32, .rw, true, false, false, 0, .num 0, 49181, 49181, ""⟩ ]

/-- Index 0x2811: LAST_STATUS, STATUS_FLAGS, ITERATIONS, SOLVE_TIME, LAST_START, PIVOT_REPL, SLACK_MAX, SIGMA_CLAMPS, COUNTS. -/
def ents2811 : List Ent :=
  [ ⟨0x01, 1, .u8, .ro, false, false, false, 0, .num 0, 0, 7, ""⟩,
    ⟨0x02, 1, .u16, .ro, false, false, false, 0, .num 0, 0, 511, ""⟩,
    ⟨0x03, 1, .u8, .ro, true, false, false, 0, .num 0, 0, 255, ""⟩,
    ⟨0x04, 1, .u32, .ro, true, false, false, 0, .num 0, 0, 4294967295, "µs"⟩,
    ⟨0x05, 1, .time64, .ro, false, false, false, 0, .num 0, 0, 18446744073709551615, "ns"⟩,
    ⟨0x06, 1, .u32, .ro, true, false, false, 0, .num 0, 0, 4294967295, ""⟩,
    ⟨0x07, 1, .u32, .ro, false, false, false, 0, .num 0, 0, 4294967295, "kW"⟩,
    ⟨0x08, 1, .u32, .ro, true, false, false, 0, .num 0, 0, 4294967295, ""⟩,
    ⟨0x09, 1, .octets, .ro, false, false, false, 16, .oct [], 0, 0, ""⟩ ]

/-- Index 0x2820: PLAN_VERSION, PLAN_STATUS, PLAN_TIME…, STEP_IN_FORCE, PLAN_VALUES, PLAN_BODY, HINTS, PLAN_FLAGS. -/
def ents2820 : List Ent :=
  [ ⟨0x01, 1, .u32, .ro, false, false, false, 0, .num 0, 0, 4294967295, ""⟩,
    ⟨0x02, 1, .u8, .ro, false, false, false, 0, .num 0, 0, 5, ""⟩,
    ⟨0x03, 2, .time64, .ro, false, false, false, 0, .num 0, 0, 18446744073709551615, "ns"⟩,
    ⟨0x05, 1, .u16, .ro, false, false, false, 0, .num 0, 0, 191, ""⟩,
    ⟨0x06, 1, .octets, .ro, false, false, false, 2564, .oct [], 0, 0, ""⟩,
    ⟨0x07, 1, .octets, .ro, true, false, false, 246592, .oct [], 0, 0, ""⟩,
    ⟨0x08, 1, .octets, .ro, false, false, false, 132, .oct [], 0, 0, ""⟩,
    ⟨0x09, 1, .u16, .ro, false, false, false, 0, .num 0, 0, 7, ""⟩ ]

/-- `STORE_INPUTS` with no source (R131, R142). -/
def noSources : Octets := (List.replicate 288 ([0xFF, 0xFF, 0, 0, 0, 0, 0, 0] : Octets)).flatten

/-- Index 0x2830: HYD_PERIOD, HEAD_TOL, MAX_ITER, HYD_DEADLINE, Q_LIN, K_BLOCK, RE_MIN, PARCEL_MERGE, DP_MIN_0…, DELIV_ALPHA_T, STALE_DERATE, FAIL_HOLD, STORE_INPUTS, RESID_FALLBACK, DELIV_F_MIN, DELIV_PERIOD, HYD_STATUS, HYD_SEQ, HYD_TIME, ITERATIONS, RESID_MAX…, HEADS…, PUMPS…, CONS_HELD…, PARCELS…, HYD_FLAGS. -/
def ents2830 : List Ent :=
  [ ⟨0x01, 1, .u32, .rw, true, true, false, 0, .num 1000, 100, 60000, "ms"⟩,
    ⟨0x02, 1, .u32, .rw, true, true, false, 0, .num 1000, 100, 1000000, "µm"⟩,
    ⟨0x03, 1, .u8, .rw, true, true, false, 0, .num 12, 1, 12, ""⟩,
    ⟨0x04, 1, .u32, .rw, true, true, false, 0, .num 400, 10, 54000, "ms"⟩,
    ⟨0x05, 1, .u32, .rw, true, true, false, 0, .num 10, 1, 10000, "mL/s"⟩,
    ⟨0x06, 1, .u32, .rw, true, true, false, 0, .num 100000000, 1000000, 2000000000, "m/(m³/s)"⟩,
    ⟨0x07, 1, .u32, .rw, true, true, false, 0, .num 4000, 2300, 100000, ""⟩,
    ⟨0x08, 1, .u16, .rw, true, true, false, 0, .num 50, 0, 1000, "mK"⟩,
    ⟨0x09, 4, .u32, .rw, false, true, false, 0, .num 5000, 0, 100000, "mm"⟩,
    ⟨0x0D, 1, .u16, .rw, true, true, false, 0, .num 125, 105, 200, "0.01"⟩,
    ⟨0x0E, 1, .q15, .rw, true, true, false, 0, .num 29491, 16384, 32767, ""⟩,
    ⟨0x0F, 1, .u16, .rw, true, true, false, 0, .num 60, 5, 3600, "s"⟩ ] ++
  [ ⟨0x10, 1, .octets, .rw, true, true, false, 2304, .oct noSources, 0, 0, ""⟩,
    ⟨0x11, 1, .u32, .rw, true, true, false, 0, .num 500000, 1000, 10000000, "µm"⟩,
    ⟨0x12, 1, .u32, .rw, true, true, false, 0, .num 10000, 0, 1000000, "mL/s"⟩,
    ⟨0x13, 1, .u32, .rw, true, true, false, 0, .num 60, 10, 900, "s"⟩,
    ⟨0x20, 1, .u8, .ro, false, false, false, 0, .num 0, 0, 7, ""⟩,
    ⟨0x21, 1, .u32, .ro, false, false, false, 0, .num 0, 0, 4294967295, ""⟩,
    ⟨0x22, 1, .time64, .ro, false, false, false, 0, .num 0, 0, 18446744073709551615, "ns"⟩,
    ⟨0x23, 1, .u8, .ro, true, false, false, 0, .num 0, 0, 12, ""⟩,
    ⟨0x24, 1, .u32, .ro, true, false, false, 0, .num 0, 0, 4294967295, "µm"⟩,
    ⟨0x25, 1, .u32, .ro, true, false, false, 0, .num 0, 0, 4294967295, ""⟩,
    ⟨0x26, 1, .octets, .ro, true, false, false, 32772, .oct [], 0, 0, ""⟩,
    ⟨0x27, 1, .octets, .ro, true, false, false, 49156, .oct [], 0, 0, ""⟩,
    ⟨0x28, 1, .octets, .ro, true, false, false, 24580, .oct [], 0, 0, ""⟩,
    ⟨0x29, 1, .octets, .ro, false, false, false, 1028, .oct [], 0, 0, ""⟩,
    ⟨0x2A, 1, .octets, .ro, false, false, false, 132, .oct [], 0, 0, ""⟩,
    ⟨0x2B, 1, .octets, .ro, false, false, false, 772, .oct [], 0, 0, ""⟩,
    ⟨0x2C, 2, .u16, .ro, false, false, false, 0, .num 0, 0, 65535, ""⟩ ] ++
  [ ⟨0x2E, 1, .u32, .ro, true, false, false, 0, .num 0, 0, 65536, ""⟩,
    ⟨0x2F, 2, .u32, .ro, true, false, false, 0, .num 0, 0, 4294967295, ""⟩,
    ⟨0x31, 1, .u16, .ro, false, false, false, 0, .num 0, 0, 3, ""⟩ ]

/-- Index 0x2840: ESTIM_PERIOD, ESTIM_ENABLE, SIGMA_LAMBDA, TEMP_SIGMA, MAX_STEP_LOSS, LOSS_MIN, BIAS_MEMORY, DRIFT_MEMORY, MAX_STEP_DRIFT, DRIFT_MIN, MIN_SAMPLES, ESTIM_DEADLINE, ESTIM_RESET, ESTIM_STATUS, ESTIM_SEQ, ESTIM_TIME, LOSS_MULT, DEMAND_BIAS…, ESTIM_COUNTS, RESID_RMS. -/
def ents2840 : List Ent :=
  [ ⟨0x01, 1, .u32, .rw, true, true, false, 0, .num 900, 300, 3600, "s"⟩,
    ⟨0x02, 1, .u8, .rw, false, true, false, 0, .num 7, 0, 7, ""⟩,
    ⟨0x03, 1, .u16, .rw, true, true, false, 0, .num 200, 10, 1000, "0.001"⟩,
    ⟨0x04, 1, .u16, .rw, true, true, false, 0, .num 20, 1, 500, "0.01 K"⟩,
    ⟨0x05, 1, .u16, .rw, true, true, false, 0, .num 50, 1, 500, "0.001"⟩,
    ⟨0x06, 1, .octets, .rw, true, true, false, 4, .oct [0xF4, 0x01, 0xD0, 0x07], 0, 0, ""⟩,
    ⟨0x07, 1, .u16, .rw, true, true, false, 0, .num 7, 0, 1000, "windows"⟩,
    ⟨0x08, 1, .u16, .rw, true, true, false, 0, .num 15, 0, 1000, "windows"⟩,
    ⟨0x09, 1, .u16, .rw, true, true, false, 0, .num 20, 1, 200, "0.001"⟩,
    ⟨0x0A, 1, .octets, .rw, true, true, false, 4, .oct [0xBC, 0x02, 0x14, 0x05], 0, 0, ""⟩,
    ⟨0x0B, 1, .u16, .rw, true, true, false, 0, .num 30, 1, 3600, ""⟩,
    ⟨0x0C, 1, .u32, .rw, true, true, false, 0, .num 60, 1, 600, "s"⟩ ] ++
  [ ⟨0x0D, 1, .u32, .rwc, true, false, false, 0, .num 0, 58746, 58746, ""⟩,
    ⟨0x20, 1, .u8, .ro, false, false, false, 0, .num 0, 0, 4, ""⟩,
    ⟨0x21, 1, .u32, .ro, false, false, false, 0, .num 0, 0, 4294967295, ""⟩,
    ⟨0x22, 1, .time64, .ro, false, false, false, 0, .num 0, 0, 18446744073709551615, "ns"⟩,
    ⟨0x23, 1, .octets, .ro, true, false, false, 12292, .oct [], 0, 0, ""⟩,
    ⟨0x24, 1, .octets, .ro, false, false, false, 2052, .oct [], 0, 0, ""⟩,
    ⟨0x25, 1, .octets, .ro, false, false, false, 132, .oct [], 0, 0, ""⟩,
    ⟨0x26, 1, .octets, .ro, true, false, false, 12, .oct [], 0, 0, ""⟩,
    ⟨0x27, 1, .u16, .ro, true, false, false, 0, .num 0, 0, 65535, "0.001 K"⟩ ]

/-- Index 0x3000 to 0x33FF: NUM_MODE, PERIOD, PRESCALE, PHASE, SOURCES, COEF, LIMITS, SP…, SAFE_U, OVR_LIMIT, CASCADE, MODE_REQ. -/
def ents3000 : List Ent :=
  [ ⟨0x01, 1, .u8, .rw, true, true, false, 0, .num 0, 0, 1, ""⟩,
    ⟨0x02, 1, .u32, .rw, false, true, false, 0, .num 10000, 1, 16777215, "ticks of 10 µs"⟩,
    ⟨0x03, 1, .u8, .rw, true, true, false, 0, .num 0, 0, 3, ""⟩,
    ⟨0x04, 1, .u32, .rw, true, true, false, 0, .num 0, 0, 4294967295, "ticks"⟩,
    ⟨0x05, 1, .octets, .rw, true, true, false, 72, .oct (zeros 72), 0, 0, ""⟩,
    ⟨0x06, 1, .octets, .rw, true, true, false, 24, .oct ([0x00, 0x00, 0x00, 0x00, 0x00, 0x00, 0x00, 0x00, 0x00, 0x80] ++ zeros 14), 0, 0, ""⟩,
    ⟨0x07, 1, .octets, .rw, true, true, false, 10, .oct [0x00, 0x80, 0xFF, 0x7F, 0x00, 0x00, 0xFF, 0x7F, 0x00, 0x00], 0, 0, ""⟩,
    ⟨0x08, 2, .i16, .rw, false, true, false, 0, .num 0, -32768, 32767, ""⟩,
    ⟨0x0A, 1, .i16, .rw, true, true, false, 0, .num 0, -32768, 32767, ""⟩,
    ⟨0x0B, 1, .u8, .rw, true, true, false, 0, .num 4, 1, 255, ""⟩,
    ⟨0x0C, 1, .octets, .rw, true, true, false, 4, .oct [0xFF, 0xFF, 0x01, 0x00], 0, 0, ""⟩,
    ⟨0x0D, 1, .u8, .rw, false, false, false, 0, .num 0, 0, 3, ""⟩ ]

/-- Index 0x3400 to 0x37FF: STATE…, FLAGS, VALUES, OVR_COUNT, OVR_CONSEC, SLOT, CTX_RESTORES, CLEAR_STICKY, LOAD. -/
def ents3400 : List Ent :=
  [ ⟨0x01, 2, .u8, .ro, false, false, false, 0, .num 0, 0, 4, ""⟩,
    ⟨0x03, 1, .u16, .ro, false, false, false, 0, .num 0, 0, 1022, ""⟩,
    ⟨0x04, 1, .octets, .ro, false, false, false, 32, .oct [], 0, 0, ""⟩,
    ⟨0x05, 1, .u32, .ro, false, false, false, 0, .num 0, 0, 4294967295, ""⟩,
    ⟨0x06, 1, .u8, .ro, true, false, false, 0, .num 0, 0, 255, ""⟩,
    ⟨0x07, 1, .u16, .ro, true, false, false, 0, .num 65535, 0, 65535, ""⟩,
    ⟨0x08, 1, .u32, .ro, true, false, false, 0, .num 0, 0, 4294967295, ""⟩,
    ⟨0x09, 1, .u8, .wo, false, false, false, 0, .num 0, 1, 1, ""⟩,
    ⟨0x0A, 1, .u32, .ro, true, false, false, 0, .num 0, 0, 200000, "0.001 evaluations per tick"⟩ ]

/-- Index 0x3800 to 0x3BFF: REP_CONFIG, REP_CLEAR, REP_STATUS, REP_COUNTS, REP_TABLE, REP_POS. -/
def ents3800 : List Ent :=
  [ ⟨0x01, 1, .octets, .rw, true, true, false, 16, .oct ([0x02] ++ zeros 15), 0, 0, ""⟩,
    ⟨0x02, 1, .u8, .wo, false, false, false, 0, .num 0, 1, 1, ""⟩,
    ⟨0x03, 1, .u16, .ro, false, false, false, 0, .num 0, 0, 63, ""⟩,
    ⟨0x04, 1, .octets, .ro, true, false, false, 16, .oct [], 0, 0, ""⟩,
    ⟨0x05, 1, .octets, .rw, true, false, false, 131072, .oct [], 0, 0, ""⟩,
    ⟨0x06, 1, .u32, .ro, true, false, false, 0, .num 0, 0, 65535, ""⟩ ]

/-- Index 0x3C00 to 0x3C1F: PROBE_CONFIG, PROBE_STATE, PROBE_INFO, TRACE_DATA. -/
def ents3C00 : List Ent :=
  [ ⟨0x01, 1, .octets, .rw, true, true, false, 32, .oct ([0x00, 0x00, 0x00, 0x00, 0x00, 0x00, 0x00, 0x00, 0x00, 0x00, 0x00, 0x00, 0x01, 0x00, 0x00, 0x00, 0x01] ++ zeros 15), 0, 0, ""⟩,
    ⟨0x02, 1, .u8, .ro, false, false, false, 0, .num 0, 0, 4, ""⟩,
    ⟨0x03, 1, .octets, .ro, true, false, false, 24, .oct [], 0, 0, ""⟩,
    ⟨0x04, 1, .octets, .ro, true, false, false, 4194304, .oct [], 0, 0, ""⟩ ]

/-- Index 0x3C80: ARM…, ACTIVE, CLEAR_FLAGS. -/
def ents3C80 : List Ent :=
  [ ⟨0x01, 3, .u32, .wo, true, false, false, 0, .num 0, 0, 4294967295, ""⟩,
    ⟨0x04, 1, .u32, .ro, false, false, false, 0, .num 0, 0, 4294967295, ""⟩,
    ⟨0x05, 1, .u32, .wo, true, false, false, 0, .num 0, 0, 4294967295, ""⟩ ]

/-- Index 0x4000 to 0x41FF: REPORT_TIMEOUT, HEAT_CONFIG, RECON, UDP_ADDR, SP_REFRESH. -/
def ents4000 : List Ent :=
  [ ⟨0x01, 1, .u16, .rw, false, true, false, 0, .num 5000, 100, 60000, "ms"⟩,
    ⟨0x02, 1, .u8, .rw, false, true, false, 0, .num 1, 0, 7, ""⟩,
    ⟨0x03, 1, .octets, .rw, true, true, false, 5, .oct [0xC8, 0x00, 0xE8, 0x03, 0x04], 0, 0, ""⟩,
    ⟨0x04, 1, .octets, .rw, true, true, false, 6, .oct (zeros 6), 0, 0, ""⟩,
    ⟨0x05, 1, .u16, .rw, true, true, false, 0, .num 1000, 100, 60000, "ms"⟩ ]

/-- Index 0x4200 to 0x43FF: VALUES, REGISTERS, SETPOINTS, CH_FLAGS, OWN_E, CH_CLEAR. -/
def ents4200 : List Ent :=
  [ ⟨0x01, 1, .octets, .ro, false, false, false, 50, .oct [], 0, 0, ""⟩,
    ⟨0x02, 1, .octets, .ro, false, false, false, 60, .oct [], 0, 0, ""⟩,
    ⟨0x03, 1, .octets, .ro, false, false, false, 41, .oct [], 0, 0, ""⟩,
    ⟨0x04, 1, .u16, .ro, false, false, false, 0, .num 0, 0, 127, ""⟩,
    ⟨0x05, 1, .u32, .ro, false, false, false, 0, .num 0, 0, 4294967295, "Wh"⟩,
    ⟨0x06, 1, .u32, .rwc, false, false, false, 0, .num 0, 49642, 49642, ""⟩ ]

/-- Index 0x4800 to 0x4803: PHASES, F_NOMINAL, U_DIN, REF_PHASE, V_SCALE, I_INPUT_L1…, PQ_THRESH, CAL_INTERVAL, MEAS, HARMONICS, CP_FLAGS, PQ_ACTIVE, CAL_REQUEST, CAL_ABORT, CAL_STATUS, CAL_CLEAR. -/
def ents4800 : List Ent :=
  [ ⟨0x01, 1, .u8, .rwc, false, true, false, 0, .num 0, 0, 15, ""⟩,
    ⟨0x02, 1, .u8, .rwc, false, true, false, 0, .num 50, 50, 60, "Hz"⟩,
    ⟨0x03, 1, .u32, .rwc, false, true, false, 0, .num 230000, 1000, 500000000, "mV"⟩,
    ⟨0x04, 1, .u8, .rwc, true, true, false, 0, .num 1, 1, 3, ""⟩,
    ⟨0x05, 1, .octets, .rwc, true, true, false, 27, .oct [0x00, 0x40, 0x1F, 0x00, 0xF4, 0x00, 0x00, 0x00, 0x40, 0x00, 0x40, 0x1F, 0x00, 0xF4, 0x00, 0x00, 0x00, 0x40, 0x00, 0x40, 0x1F, 0x00, 0xF4, 0x00, 0x00, 0x00, 0x40], 0, 0, ""⟩,
    ⟨0x06, 4, .octets, .rwc, true, true, false, 108, .oct ([0x00, 0x00, 0x00, 0x00, 0x00, 0x40, 0x06, 0x00, 0xF4] ++ zeros 99), 0, 0, ""⟩,
    ⟨0x0A, 1, .octets, .rwc, false, true, false, 8, .oct [0x28, 0x23, 0xF8, 0x2A, 0xF4, 0x01, 0xC8, 0x00], 0, 0, ""⟩,
    ⟨0x0B, 1, .u16, .rw, true, true, false, 0, .num 24, 0, 8760, "h"⟩,
    ⟨0x20, 1, .octets, .ro, false, false, false, 100, .oct [], 0, 0, ""⟩,
    ⟨0x21, 1, .octets, .ro, true, false, false, 438, .oct [], 0, 0, ""⟩,
    ⟨0x22, 1, .u16, .ro, false, false, false, 0, .num 0, 0, 63, ""⟩,
    ⟨0x23, 1, .u8, .ro, false, false, false, 0, .num 0, 0, 7, ""⟩ ] ++
  [ ⟨0x30, 1, .u8, .wo, true, false, false, 0, .num 0, 0, 7, ""⟩,
    ⟨0x31, 1, .u8, .wo, true, false, false, 0, .num 0, 0, 6, ""⟩,
    ⟨0x32, 1, .octets, .ro, true, false, false, 112, .oct [], 0, 0, ""⟩,
    ⟨0x33, 1, .u8, .wo, true, false, false, 0, .num 0, 1, 1, ""⟩ ]

/-- Index 0x4810 to 0x4813: REG_ph_r…, REG_ALL, ENERGY_CLEAR, CLEAR_COUNT, CLEAR_TIME. -/
def ents4810 : List Ent :=
  [ ⟨0x01, 28, .octets, .ro, false, false, false, 12, .oct [], 0, 0, ""⟩,
    ⟨0x1D, 1, .octets, .ro, false, false, false, 340, .oct [], 0, 0, ""⟩,
    ⟨0x1E, 1, .u32, .rwc, false, false, false, 0, .num 0, 49642, 49642, ""⟩,
    ⟨0x1F, 1, .u32, .ro, false, false, false, 0, .num 0, 0, 4294967295, ""⟩,
    ⟨0x20, 1, .time64, .ro, false, false, false, 0, .num 0, 0, 18446744073709551615, "ns"⟩ ]

/-- Index 0x4820: PO_CONFIG_0…, PO_COUNTS, PO_LAG. -/
def ents4820 : List Ent :=
  [ ⟨0x01, 8, .octets, .rw, true, true, false, 8, .oct [0x00, 0x00, 0xFF, 0x02, 0x01, 0x00, 0x00, 0x00], 0, 0, ""⟩,
    ⟨0x09, 1, .octets, .ro, false, false, false, 96, .oct [], 0, 0, ""⟩,
    ⟨0x0A, 1, .u8, .ro, false, false, false, 0, .num 0, 0, 255, ""⟩ ]

/-- Index 0x4830 to 0x484F: PI_CONFIG, PI_COUNT, PI_LEVEL, PI_CLEAR. -/
def ents4830 : List Ent :=
  [ ⟨0x01, 1, .octets, .rw, false, true, false, 4, .oct [0x00, 0x01, 0x00, 0x00], 0, 0, ""⟩,
    ⟨0x02, 1, .u64, .ro, false, false, false, 0, .num 0, 0, 18446744073709551615, "pulses"⟩,
    ⟨0x03, 1, .u8, .ro, true, false, false, 0, .num 0, 0, 1, ""⟩,
    ⟨0x04, 1, .u32, .rwc, false, false, false, 0, .num 0, 49642, 49642, ""⟩ ]

/-- Index 0x4880: PQ_RECORDS, PQ_OVERWRITTEN, WAVE_ARM, WAVE_INFO, WAVE_DATA. -/
def ents4880 : List Ent :=
  [ ⟨0x01, 1, .octets, .ro, false, false, false, 8196, .oct [], 0, 0, ""⟩,
    ⟨0x02, 1, .u32, .ro, false, false, false, 0, .num 0, 0, 4294967295, ""⟩,
    ⟨0x03, 1, .u8, .wo, true, false, false, 0, .num 0, 0, 19, ""⟩,
    ⟨0x04, 1, .octets, .ro, true, false, false, 16, .oct [], 0, 0, ""⟩,
    ⟨0x05, 1, .octets, .ro, true, false, false, 114688, .oct [], 0, 0, ""⟩ ]

/-- Index 0x48F0: CS_NOW, CS_AT, CS_SCOPE, CS_STATUS, CS_EPOCH, CS_SHADOW, INTERVAL_LEN, IV_SELECT, IV_RECORD, IV_RANGE, RESTORE_INFO. -/
def ents48F0 : List Ent :=
  [ ⟨0x01, 1, .u8, .wo, false, false, false, 0, .num 0, 1, 1, ""⟩,
    ⟨0x02, 1, .time64, .rw, false, false, false, 0, .num 0, 0, 18446744073709551615, "ns"⟩,
    ⟨0x03, 1, .u8, .rw, true, true, false, 0, .num 0, 0, 1, ""⟩,
    ⟨0x04, 1, .u8, .ro, false, false, false, 0, .num 0, 0, 3, ""⟩,
    ⟨0x05, 1, .u32, .ro, false, false, false, 0, .num 0, 0, 4294967295, ""⟩,
    ⟨0x06, 1, .octets, .ro, false, false, false, 26408, .oct [], 0, 0, ""⟩,
    ⟨0x10, 1, .u8, .rw, false, true, false, 0, .num 15, 1, 60, "min"⟩,
    ⟨0x11, 1, .u32, .rw, false, false, false, 0, .num 0, 0, 4294967295, ""⟩,
    ⟨0x12, 1, .octets, .ro, false, false, false, 7944, .oct [], 0, 0, ""⟩,
    ⟨0x13, 1, .octets, .ro, false, false, false, 8, .oct [], 0, 0, ""⟩,
    ⟨0x14, 1, .octets, .ro, false, false, false, 12, .oct [], 0, 0, ""⟩ ]

/-- Index 0x5000: PROG_STATE, PROG_CMD, IMAGE_STAGE, STAGE_STATUS, STAGE_FAULT, FAULT_ADDR, ACTIVE_CRC, RETAIN_HASH…, WD_TIME, WD_RESPONSE, MIN_PAUSE, CYCLE_STATS, RUN_FAULT, RETAIN_PERIOD, EVT_DROPPED. -/
def ents5000 : List Ent :=
  [ ⟨0x01, 1, .u8, .ro, false, false, false, 0, .num 0, 0, 3, ""⟩,
    ⟨0x02, 1, .u8, .rwc, false, false, false, 0, .num 0, 1, 5, ""⟩,
    ⟨0x03, 1, .octets, .rwc, true, false, false, 1048576, .oct [], 77928, 0, ""⟩,
    ⟨0x04, 1, .u8, .ro, true, false, false, 0, .num 0, 0, 4, ""⟩,
    ⟨0x05, 1, .u16, .ro, true, false, false, 0, .num 0, 0, 11, ""⟩,
    ⟨0x06, 1, .u32, .ro, true, false, false, 0, .num 4294967295, 0, 4294967295, ""⟩,
    ⟨0x07, 1, .u32, .ro, false, false, false, 0, .num 0, 0, 4294967295, ""⟩,
    ⟨0x08, 2, .u32, .ro, true, false, false, 0, .num 0, 0, 4294967295, ""⟩,
    ⟨0x0A, 1, .u16, .rw, true, true, false, 0, .num 100, 1, 1000, "ms"⟩,
    ⟨0x0B, 1, .u8, .rw, true, true, false, 0, .num 0, 0, 2, ""⟩,
    ⟨0x0C, 1, .u32, .rw, true, true, false, 0, .num 0, 0, 1000000, "µs"⟩,
    ⟨0x0D, 1, .octets, .ro, false, false, false, 24, .oct [], 0, 0, ""⟩ ] ++
  [ ⟨0x0E, 1, .octets, .ro, false, false, false, 16, .oct [], 0, 0, ""⟩,
    ⟨0x0F, 1, .u16, .rw, true, true, false, 0, .num 60, 1, 3600, "s"⟩,
    ⟨0x10, 1, .u32, .ro, true, false, false, 0, .num 0, 0, 4294967295, ""⟩ ]

/-- Index 0x5001: RESTART_REQ, FORCE_RETAIN, AUTO_RUN, LAST_RESTART, RESTART_MODE, WARM_MAX_AGE, CHECKPOINT_PERIOD, RESTART_INFO, SAVE_INFO, STANDBY_REQ, STANDBY_STATE, PARK_TIMEOUT. -/
def ents5001 : List Ent :=
  [ ⟨0x01, 1, .u8, .rwc, false, false, false, 0, .num 0, 1, 2, ""⟩,
    ⟨0x02, 1, .bool, .rw, true, true, false, 0, .num 0, 0, 1, ""⟩,
    ⟨0x03, 1, .bool, .rw, false, true, false, 0, .num 1, 0, 1, ""⟩,
    ⟨0x04, 1, .u8, .ro, false, false, false, 0, .num 0, 0, 2, ""⟩,
    ⟨0x05, 1, .u8, .rw, false, true, false, 0, .num 0, 0, 1, ""⟩,
    ⟨0x06, 1, .u32, .rw, true, true, false, 0, .num 300, 1, 604800, "s"⟩,
    ⟨0x07, 1, .u16, .rw, true, true, false, 0, .num 10, 1, 3600, "s"⟩,
    ⟨0x08, 1, .octets, .ro, false, false, false, 24, .oct [], 0, 0, ""⟩,
    ⟨0x09, 1, .octets, .ro, false, false, false, 16, .oct [], 0, 0, ""⟩,
    ⟨0x0A, 1, .u32, .rwc, false, false, false, 0, .num 0, 22448, 22448, ""⟩,
    ⟨0x0B, 1, .u8, .ro, false, false, false, 0, .num 0, 0, 2, ""⟩,
    ⟨0x0C, 1, .u16, .rw, true, true, false, 0, .num 60, 5, 3600, "s"⟩ ]

/-- Index 0x5010: CHANGE_SET, CHANGE_STATUS. -/
def ents5010 : List Ent :=
  [ ⟨0x01, 1, .octets, .rw, true, false, false, 516, .oct [], 0, 0, ""⟩,
    ⟨0x02, 1, .octets, .ro, false, false, false, 16, .oct [], 0, 0, ""⟩ ]

/-- Index 0x5100 to 0x51FF: K_w…. -/
def ents5100 : List Ent :=
  [ ⟨0x01, 64, .i32, .rw, true, false, false, 0, .num 0, -2147483648, 2147483647, ""⟩ ]

/-- Index 0x5200: FORCE_SET, FORCE_RELEASE, FORCE_LIST, FORCE_COUNT. -/
def ents5200 : List Ent :=
  [ ⟨0x01, 1, .octets, .rwc, true, false, false, 8, .oct (zeros 8), 0, 0, ""⟩,
    ⟨0x02, 1, .u32, .rwc, true, false, false, 0, .num 0, 0, 4294967295, ""⟩,
    ⟨0x03, 1, .octets, .ro, false, false, false, 3076, .oct [], 0, 0, ""⟩,
    ⟨0x04, 1, .u16, .ro, false, false, false, 0, .num 0, 0, 256, ""⟩ ]

/-- Index 0x5300: WIN_DESC, WIN_VALUES. -/
def ents5300 : List Ent :=
  [ ⟨0x01, 1, .octets, .rw, true, false, false, 256, .oct [], 0, 0, ""⟩,
    ⟨0x02, 1, .octets, .ro, true, false, false, 520, .oct [], 0, 0, ""⟩ ]

/-- Index 0x5800 to 0x5807: PORT_STATE…, ERR_COUNTERS, PORT_FLAGS, PORT_COUNTS, CONTROLLER, DUP_RECORD, DUP_CLEAR, BUSOFF_RECOVER…, APP_TX_0…, APP_CANCEL, APP_TX_STATUS. -/
def ents5800 : List Ent :=
  [ ⟨0x01, 1, .u8, .ro, false, false, false, 0, .num 0, 0, 6, ""⟩,
    ⟨0x02, 1, .u8, .ro, false, false, false, 0, .num 0, 0, 2, ""⟩,
    ⟨0x03, 1, .octets, .ro, true, false, false, 4, .oct [], 0, 0, ""⟩,
    ⟨0x04, 1, .u16, .ro, false, false, false, 0, .num 0, 0, 255, ""⟩,
    ⟨0x05, 1, .octets, .ro, false, false, false, 52, .oct [], 0, 0, ""⟩,
    ⟨0x06, 1, .u8, .ro, true, false, false, 0, .num 0, 0, 8, ""⟩,
    ⟨0x07, 1, .octets, .ro, false, false, false, 12, .oct [], 0, 0, ""⟩,
    ⟨0x08, 1, .u8, .wo, true, false, false, 0, .num 0, 1, 1, ""⟩,
    ⟨0x09, 2, .u8, .wo, false, false, false, 0, .num 0, 1, 1, ""⟩,
    ⟨0x0B, 4, .octets, .rwc, true, false, false, 72, .oct [], 0, 0, ""⟩,
    ⟨0x0F, 1, .u8, .wo, true, false, false, 0, .num 0, 0, 15, ""⟩,
    ⟨0x10, 1, .octets, .ro, true, false, false, 32, .oct [], 0, 0, ""⟩ ]

/-- Index 0x5840 to 0x5847: FILTER_0, FILTER_1, FILTER_2, FILTER_3…, FILTER_ALL. -/
def ents5840 : List Ent :=
  [ ⟨0x01, 1, .octets, .rw, true, true, false, 12, .oct [0x00, 0x00, 0x00, 0x18, 0x00, 0x00, 0x00, 0x00, 0x03, 0x00, 0x00, 0x00], 0, 0, ""⟩,
    ⟨0x02, 1, .octets, .rw, true, true, false, 12, .oct [0x00, 0x00, 0x00, 0x1C, 0x00, 0x00, 0x00, 0x08, 0x03, 0x00, 0x00, 0x00], 0, 0, ""⟩,
    ⟨0x03, 1, .octets, .rw, true, true, false, 12, .oct [0x00, 0x00, 0x00, 0x00, 0x00, 0x00, 0x00, 0x00, 0x07, 0x00, 0x00, 0x00], 0, 0, ""⟩,
    ⟨0x04, 61, .octets, .rw, true, true, false, 12, .oct (zeros 12), 0, 0, ""⟩,
    ⟨0x41, 1, .octets, .rw, true, true, false, 768, .oct [], 0, 0, ""⟩ ]

/-- Index 0x5880 to 0x5887: QUEUE_DEPTH, QUEUE_PEAK, MONITOR. -/
def ents5880 : List Ent :=
  [ ⟨0x01, 1, .octets, .ro, false, false, false, 8, .oct [], 0, 0, ""⟩,
    ⟨0x02, 1, .octets, .ro, true, false, false, 8, .oct [], 0, 0, ""⟩,
    ⟨0x03, 1, .octets, .ro, true, false, false, 20484, .oct [], 0, 0, ""⟩ ]

/-- Index 0x6000: SEC…, WEEKDAY, SUBSEC, CAL_BLOCK. -/
def ents6000 : List Ent :=
  [ ⟨0x01, 7, .bcd8, .rwc, false, false, false, 0, .num 0, 0, 255, ""⟩,
    ⟨0x08, 1, .u8, .rwc, false, false, false, 0, .num 0, 0, 255, ""⟩,
    ⟨0x09, 1, .u16, .ro, false, false, false, 0, .num 0, 0, 1023, "1/1024 s"⟩,
    ⟨0x0A, 1, .octets, .ro, false, false, false, 10, .oct [], 0, 0, ""⟩ ]

/-- Index 0x6001: HALT, CAL_STATUS, CAL_CLEAR, ALARM, WAKE, TRIM, TEMP_COMP, CAL_OFFSET, OFFSET_STEP, CAL_DEVIATION, CAL_TEMP…. -/
def ents6001 : List Ent :=
  [ ⟨0x01, 1, .bool, .rwc, false, false, false, 0, .num 0, 0, 1, ""⟩,
    ⟨0x02, 1, .u16, .ro, false, false, false, 0, .num 0, 0, 127, ""⟩,
    ⟨0x03, 1, .u8, .wo, false, false, false, 0, .num 0, 1, 1, ""⟩,
    ⟨0x04, 1, .octets, .rw, false, true, false, 7, .oct (zeros 7), 0, 0, ""⟩,
    ⟨0x05, 1, .octets, .rw, false, true, false, 4, .oct (zeros 4), 0, 0, ""⟩,
    ⟨0x06, 1, .i16, .rw, true, true, false, 0, .num 0, -4295, 4295, "2⁻²³"⟩,
    ⟨0x07, 1, .octets, .rw, true, true, false, 6, .oct [0x01, 0x00, 0xC4, 0x09, 0x54, 0x01], 0, 0, ""⟩,
    ⟨0x08, 1, .i64, .ro, false, false, false, 0, .num 0, -9223372036854775808, 9223372036854775807, "ns"⟩,
    ⟨0x09, 1, .i32, .rwc, false, false, false, 0, .num 0, -86400, 86400, "s"⟩,
    ⟨0x0A, 1, .i32, .ro, true, false, false, 0, .num 0, -2147483648, 2147483647, "µs"⟩,
    ⟨0x0B, 1, .i16, .ro, true, false, false, 0, .num 0, -32768, 32767, "0.01 °C"⟩,
    ⟨0x0C, 1, .i16, .ro, true, false, false, 0, .num 0, -32768, 32767, "2⁻²³"⟩ ]

/-- Index 0x6010: DEVICE_TIME, TIME_SOURCE, SYNC_STATE, THETA, RATE, LOCK_WAIT, STEP_LIMIT, TIME_FLAGS, SYNC_COUNTS. -/
def ents6010 : List Ent :=
  [ ⟨0x01, 1, .time64, .ro, false, false, false, 0, .num 0, 0, 18446744073709551615, "ns"⟩,
    ⟨0x02, 1, .u8, .rw, false, true, false, 0, .num 0, 0, 2, ""⟩,
    ⟨0x03, 1, .u8, .ro, false, false, false, 0, .num 0, 0, 4, ""⟩,
    ⟨0x04, 1, .i64, .ro, true, false, false, 0, .num 0, -9223372036854775808, 9223372036854775807, "ns"⟩,
    ⟨0x05, 1, .i32, .ro, true, false, false, 0, .num 0, -2147483648, 2147483647, "ppb"⟩,
    ⟨0x06, 1, .u16, .rw, true, true, false, 0, .num 0, 0, 600, "s"⟩,
    ⟨0x07, 1, .u32, .rw, true, true, false, 0, .num 1000000, 1000, 1000000000, "ns"⟩,
    ⟨0x08, 1, .u16, .ro, false, false, false, 0, .num 0, 0, 7, ""⟩,
    ⟨0x09, 1, .octets, .ro, true, false, false, 12, .oct [], 0, 0, ""⟩ ]

/-- Index 0x6020: PTP_DOMAIN, PTP_MASTER, PTP_PATH_DELAY, PTP_COUNTS. -/
def ents6020 : List Ent :=
  [ ⟨0x01, 1, .u8, .rw, true, true, false, 0, .num 0, 0, 127, ""⟩,
    ⟨0x02, 1, .octets, .ro, false, false, false, 12, .oct [], 0, 0, ""⟩,
    ⟨0x03, 1, .u32, .ro, true, false, false, 0, .num 0, 0, 4294967295, "ns"⟩,
    ⟨0x04, 1, .octets, .ro, true, false, false, 16, .oct [], 0, 0, ""⟩ ]

/-- Index 0x6400: CONFIG, T_R, L, G, HB_PORT…, EXCLUDE_AFTER, VOTE_TOL, SOLO_START, RETAKE_WAIT, HANDOVER, READMIT. -/
def ents6400 : List Ent :=
  [ ⟨0x01, 1, .u8, .rwc, true, true, false, 0, .num 0, 0, 2, ""⟩,
    ⟨0x02, 1, .u16, .rwc, true, true, false, 0, .num 1000, 250, 10000, "µs"⟩,
    ⟨0x03, 1, .u8, .rwc, true, true, false, 0, .num 32, 4, 255, "cycles"⟩,
    ⟨0x04, 1, .u8, .rwc, true, true, false, 0, .num 4, 1, 63, "cycles"⟩,
    ⟨0x05, 2, .u8, .rwc, true, true, false, 0, .num 255, 0, 255, ""⟩,
    ⟨0x07, 1, .u8, .rwc, true, true, false, 0, .num 8, 1, 255, "cycles"⟩,
    ⟨0x08, 1, .u16, .rwc, true, true, false, 0, .num 655, 0, 32767, "Q15"⟩,
    ⟨0x09, 1, .bool, .rwc, true, true, false, 0, .num 0, 0, 1, ""⟩,
    ⟨0x0A, 1, .u16, .rwc, true, true, false, 0, .num 0, 0, 3600, "s"⟩,
    ⟨0x0B, 1, .u8, .rwc, false, false, false, 0, .num 255, 0, 2, ""⟩,
    ⟨0x0C, 1, .u8, .rwc, true, false, false, 0, .num 255, 0, 2, ""⟩ ]

/-- Index 0x6401: LEASE_STATE, HOLDER_LANE, LEASE_FLAGS, LEASE_LEFT, PEERS, LEASE_COUNTS, LAST_SWITCH, MIRROR_LOAD, CLEAR_STICKY. -/
def ents6401 : List Ent :=
  [ ⟨0x01, 1, .u8, .ro, false, false, false, 0, .num 0, 0, 3, ""⟩,
    ⟨0x02, 1, .u8, .ro, false, false, false, 0, .num 255, 0, 255, ""⟩,
    ⟨0x03, 1, .u16, .ro, false, false, false, 0, .num 0, 0, 8191, ""⟩,
    ⟨0x04, 1, .u32, .ro, true, false, false, 0, .num 0, 0, 4294967295, "µs"⟩,
    ⟨0x05, 1, .octets, .ro, false, false, false, 24, .oct [], 0, 0, ""⟩,
    ⟨0x06, 1, .octets, .ro, true, false, false, 28, .oct [], 0, 0, ""⟩,
    ⟨0x07, 1, .octets, .ro, false, false, false, 16, .oct [], 0, 0, ""⟩,
    ⟨0x08, 1, .octets, .ro, true, false, false, 8, .oct [], 0, 0, ""⟩,
    ⟨0x09, 1, .u8, .wo, false, false, false, 0, .num 0, 1, 1, ""⟩ ]

/-- Index 0x6410: CASCADE_ENABLE, JIEST_PORTS, ROUND_TIME, ROUNDS_MAX, MISMATCH_TOL, PRICE_STEP, PROX_W, PRICE_LIMITS, COMMIT_MARGIN. -/
def ents6410 : List Ent :=
  [ ⟨0x01, 1, .bool, .rwc, true, true, false, 0, .num 0, 0, 1, ""⟩,
    ⟨0x02, 1, .u8, .rwc, true, true, false, 0, .num 31, 0, 31, ""⟩,
    ⟨0x03, 1, .u16, .rw, true, true, false, 0, .num 80, 10, 1000, "ms"⟩,
    ⟨0x04, 1, .u8, .rw, true, true, false, 0, .num 16, 1, 16, ""⟩,
    ⟨0x05, 1, .u32, .rw, true, true, false, 0, .num 50, 0, 100000, "kW"⟩,
    ⟨0x06, 1, .u32, .rw, true, true, false, 0, .num 20, 1, 1000000, "0.001 mu/MWh per kW"⟩,
    ⟨0x07, 1, .u32, .rw, true, true, false, 0, .num 2000, 0, 4294967295, "0.001 mu/MW²"⟩,
    ⟨0x08, 1, .octets, .rw, true, true, false, 8, .oct [0xC0, 0xBD, 0xF0, 0xFF, 0x40, 0x42, 0x0F, 0x00], 0, 0, ""⟩,
    ⟨0x09, 1, .u16, .rw, true, true, false, 0, .num 100, 10, 10000, "ms"⟩ ]

/-- Index 0x6411: PORT_STATE, PORT_INFO, LINK_COUNTS, ROUND_STATUS, BOUNDARY_STATE, CASCADE_FLAGS. -/
def ents6411 : List Ent :=
  [ ⟨0x01, 1, .octets, .ro, false, false, false, 5, .oct [], 0, 0, ""⟩,
    ⟨0x02, 1, .octets, .ro, true, false, false, 40, .oct [], 0, 0, ""⟩,
    ⟨0x03, 1, .octets, .ro, true, false, false, 80, .oct [], 0, 0, ""⟩,
    ⟨0x04, 1, .octets, .ro, false, false, false, 16, .oct [], 0, 0, ""⟩,
    ⟨0x05, 1, .octets, .ro, true, false, false, 1024, .oct [], 0, 0, ""⟩,
    ⟨0x06, 1, .u16, .ro, false, false, false, 0, .num 0, 0, 127, ""⟩ ]

/-- Index 0x6800 to 0x6803: CRC_CONFIG, CRC_CMD, CRC_STATUS, CRC_RESULT, CRC_CLEAR. -/
def ents6800 : List Ent :=
  [ ⟨0x01, 1, .octets, .rw, true, true, false, 40, .oct (leBytes 8 0 ++ leBytes 8 0x1EDC6F41 ++ leBytes 8 0xFFFFFFFF ++ leBytes 8 0xFFFFFFFF ++ leBytes 1 32 ++ leBytes 1 3 ++ leBytes 1 6 ++ zeros 5), 0, 0, ""⟩,
    ⟨0x02, 1, .u8, .wo, true, false, false, 0, .num 0, 1, 2, ""⟩,
    ⟨0x03, 1, .octets, .ro, true, false, false, 16, .oct [], 0, 0, ""⟩,
    ⟨0x04, 1, .u64, .ro, true, false, false, 0, .num 0, 0, 18446744073709551615, ""⟩,
    ⟨0x05, 1, .u8, .wo, true, false, false, 0, .num 0, 1, 1, ""⟩ ]

/-- Index 0x6810: ST_REQUEST, ST_ABORT, ST_STATUS, BG_PERIOD, BG_ENABLE, ST_CLEAR, FULL_BIST, BIST_RESULT. -/
def ents6810 : List Ent :=
  [ ⟨0x01, 1, .octets, .rwc, true, false, false, 4, .oct (zeros 4), 0, 0, ""⟩,
    ⟨0x02, 1, .u8, .wo, true, false, false, 0, .num 0, 0, 8, ""⟩,
    ⟨0x03, 1, .octets, .ro, false, false, false, 144, .oct [], 0, 0, ""⟩,
    ⟨0x04, 1, .u16, .rw, true, true, false, 0, .num 24, 1, 720, "h"⟩,
    ⟨0x05, 1, .bool, .rw, true, true, false, 0, .num 1, 0, 1, ""⟩,
    ⟨0x06, 1, .u8, .wo, true, false, false, 0, .num 0, 1, 1, ""⟩,
    ⟨0x07, 1, .u32, .rwc, true, false, false, 0, .num 0, 45399, 45399, ""⟩,
    ⟨0x08, 1, .octets, .ro, false, false, false, 16, .oct [], 0, 0, ""⟩ ]

/-- Index 0x6820: POOL_0…, SOFT_ERRORS, PENDING. -/
def ents6820 : List Ent :=
  [ ⟨0x01, 10, .octets, .ro, false, false, false, 24, .oct [], 0, 0, ""⟩,
    ⟨0x0B, 1, .octets, .ro, true, false, false, 12, .oct [], 0, 0, ""⟩,
    ⟨0x0C, 1, .octets, .ro, false, false, false, 16, .oct [], 0, 0, ""⟩ ]

/-- Index 0x6830: AGE_LIMITS, AGEING, EM_CANARIES, KEEP_WEAR, SUBSOIL_MARGIN, THERMAL_HOURS. -/
def ents6830 : List Ent :=
  [ ⟨0x01, 1, .octets, .rw, true, true, false, 4, .oct [0xFA, 0x00, 0x90, 0x01], 0, 0, ""⟩,
    ⟨0x02, 1, .octets, .ro, true, false, false, 328, .oct [], 0, 0, ""⟩,
    ⟨0x03, 1, .octets, .ro, false, false, false, 9, .oct [], 0, 0, ""⟩,
    ⟨0x04, 1, .octets, .ro, true, false, false, 16, .oct [], 0, 0, ""⟩,
    ⟨0x05, 1, .octets, .ro, true, false, false, 8, .oct [], 0, 0, ""⟩,
    ⟨0x06, 1, .octets, .ro, false, false, false, 32, .oct [], 0, 0, ""⟩ ]

/-- Index 0x6C00: LOG_RANGE, LOG_CURSOR, LOG_READ, POSTMORTEM, CODE_TABLE, SUBSCRIPTION_0…. -/
def ents6C00 : List Ent :=
  [ ⟨0x01, 1, .octets, .ro, false, false, false, 8, .oct [], 0, 0, ""⟩,
    ⟨0x02, 1, .u32, .rw, false, false, false, 0, .num 0, 0, 4294967295, ""⟩,
    ⟨0x03, 1, .octets, .ro, false, false, false, 1024, .oct [], 0, 0, ""⟩,
    ⟨0x04, 1, .octets, .ro, false, false, false, 65512, .oct [], 0, 0, ""⟩,
    ⟨0x05, 1, .octets, .ro, true, false, false, 65536, .oct [], 0, 0, ""⟩,
    ⟨0x10, 8, .octets, .rw, true, true, false, 20, .oct [0x00, 0x00, 0x00, 0x00, 0x00, 0x00, 0x00, 0x00, 0x00, 0x00, 0x32, 0x00, 0x20, 0x0A, 0x40, 0x42, 0x0F, 0x00, 0x00, 0x00], 0, 0, ""⟩ ]

/-- Index 0x6C10: ALARM_SELECT, ALARM_ROWS, ALARM_STICKY, ALARM_ACK, ALARM_RESET. -/
def ents6C10 : List Ent :=
  [ ⟨0x01, 1, .u16, .rw, false, false, false, 0, .num 0, 0, 4095, ""⟩,
    ⟨0x02, 1, .octets, .ro, false, false, false, 960, .oct [], 0, 0, ""⟩,
    ⟨0x03, 1, .octets, .ro, false, false, false, 512, .oct [], 0, 0, ""⟩,
    ⟨0x04, 1, .octets, .rw, false, false, false, 6, .oct (zeros 6), 0, 0, ""⟩,
    ⟨0x05, 1, .u16, .rwc, true, false, false, 0, .num 0, 0, 65535, ""⟩ ]

/-- Index 0x6C20: SHED_COUNTS, SHED_CLEAR. -/
def ents6C20 : List Ent :=
  [ ⟨0x01, 1, .octets, .ro, false, false, false, 232, .oct [], 0, 0, ""⟩,
    ⟨0x02, 1, .u8, .wo, true, false, false, 0, .num 0, 1, 1, ""⟩ ]

/-- Index 0x7000 to 0x70FF: RECIPE, RECIPE_NAME, RECIPE_USERS. -/
def ents7000 : List Ent :=
  [ ⟨0x01, 1, .octets, .rw, false, true, false, 536, .oct (zeros 536), 0, 0, ""⟩,
    ⟨0x02, 1, .string, .rw, false, true, false, 32, .oct [], 0, 0, ""⟩,
    ⟨0x03, 1, .u32, .ro, false, false, false, 0, .num 0, 0, 4294967295, ""⟩ ]

/-- The groups of R59: first index, number of indices, rows. -/
def groups : List (Nat × Nat × List Ent) :=
  [ (0x1000, 1, ents1000), (0x1001, 1, ents1001), (0x1010, 1, ents1010), (0x1011, 1, ents1011), (0x1100, 2, ents1100), (0x1102, 1, ents1102), (0x1200, 8, ents1200), (0x1208, 1, ents1208), (0x1400, 256, ents1400), (0x1800, 64, ents1800), (0x2000, 1, ents2000), (0x2001, 1, ents2001) ] ++
  [ (0x2002, 1, ents2002), (0x2003, 1, ents2003), (0x2004, 1, ents2004), (0x2005, 1, ents2005), (0x2006, 1, ents2006), (0x2007, 1, ents2007), (0x2008, 1, ents2008), (0x2009, 1, ents2009), (0x2800, 1, ents2800), (0x2801, 1, ents2801), (0x2810, 1, ents2810), (0x2811, 1, ents2811) ] ++
  [ (0x2820, 1, ents2820), (0x2830, 1, ents2830), (0x2840, 1, ents2840), (0x3000, 1024, ents3000), (0x3400, 1024, ents3400), (0x3800, 1024, ents3800), (0x3C00, 32, ents3C00), (0x3C80, 1, ents3C80), (0x4000, 512, ents4000), (0x4200, 512, ents4200), (0x4800, 4, ents4800), (0x4810, 4, ents4810) ] ++
  [ (0x4820, 1, ents4820), (0x4830, 32, ents4830), (0x4880, 1, ents4880), (0x48F0, 1, ents48F0), (0x5000, 1, ents5000), (0x5001, 1, ents5001), (0x5010, 1, ents5010), (0x5100, 256, ents5100), (0x5200, 1, ents5200), (0x5300, 1, ents5300), (0x5800, 8, ents5800), (0x5840, 8, ents5840) ] ++
  [ (0x5880, 8, ents5880), (0x6000, 1, ents6000), (0x6001, 1, ents6001), (0x6010, 1, ents6010), (0x6020, 1, ents6020), (0x6400, 1, ents6400), (0x6401, 1, ents6401), (0x6410, 1, ents6410), (0x6411, 1, ents6411), (0x6800, 4, ents6800), (0x6810, 1, ents6810), (0x6820, 1, ents6820) ] ++
  [ (0x6830, 1, ents6830), (0x6C00, 1, ents6C00), (0x6C10, 1, ents6C10), (0x6C20, 1, ents6C20), (0x7000, 256, ents7000) ]

/-- The first index and the rows of the group that holds an index. -/
def groupOf (idx : Nat) : Option (Nat × List Ent) :=
  (groups.find? (fun g => decide (g.1 ≤ idx) && decide (idx < g.1 + g.2.1))).map (fun g => (g.1, g.2.2))

/-- The row of an entry, sub-index 0 excepted; none where the entry is absent (R48). `0x5808` holds only `.01` to `.03`
(R381), and the types of 0x0001 to 0x0010 are R52's. -/
def entOf (idx sub : Nat) : Option Ent :=
  if 1 ≤ idx ∧ idx ≤ 16 ∧ sub = 1 then some ⟨1, 1, .u32, .ro, false, false, false, 0, .num 0, 0, 4294967295, ""⟩
  else if idx = 0x5808 then (if sub ≤ 3 then ents5800.find? (fun e => decide (e.sub = sub)) else none)
  else match groupOf idx with
  | none => none
  | some (_, l) => l.find? (fun e => decide (e.sub ≤ sub) && decide (sub < e.sub + e.n))

end Sys2Proof.Machine
end

