-- ==== Sys2Proof/Machine/Ops.lean ====
section
/-! DEFINITION. The operations every command shares: time, free values, the stored values of the dictionary, the queue
instances, posting and admitting events, the log, the alarm table and the export's intake, device states and causes. -/

namespace Sys2Proof
namespace Machine

/-- The answer of a meaning. -/
abbrev Out := Host.Outcome State Fault Refusal

/-! ## Time (R33) -/

/-- Whole TBASE cycles that device time gains or loses against `n` raw cycles at a rate of `rate` 10⁻⁹ (R33, R429): each
cycle advances device time by 8 ns, and the discipline makes selected cycles 0 or 16 ns. -/
def Clk.extra (c : Clk) (n : Nat) : Int := (c.acc + n * c.rate).fdiv 1000000000

/-- The clock at raw time `t`, TBASE standing still until raw time `hold`; a moment before the present one is the present one (device
time never decreases, R33). -/
def Clk.advance (c : Clk) (hold t : Nat) : Clk :=
  let r := max c.raw t
  let n := r / 8 - min r (max c.raw hold) / 8
  let x := c.extra n
  { c with raw := r, dev := c.dev + 8 * ((n : Int) + x).toNat, acc := c.acc + n * c.rate - x * 1000000000 }

/-- The raw time from which TBASE counts on the way to raw time `t`: from `t` only in OFF and PARKED, where TBASE does not run (R42),
while `RESET_N` is low (R532) and after a failure of its generator without a spare (R492); from its resumption where its clock is stopped
(R14); else at once. -/
def State.tbaseHold (s : State) (t : Nat) : Nat :=
  if s.dev.state = .off ∨ s.dev.state = .parked ∨ ¬ s.power.resetN ∨ s.dev.dead.contains 7 then t
  else (Tab.find s.dev.stopped 7).getD 0

/-- The state at the moment of a command. -/
def State.advance (s : State) (t : Nat) : State := { s with clk := s.clk.advance (s.tbaseHold t) t }

/-- Raw time, ns. -/
def State.now (s : State) : Nat := s.clk.raw

/-- Raw time, ps. -/
def State.ps (s : State) : Nat := s.clk.raw * 1000

/-- Whether the device state lets an island run (R42): in OFF only BACKUP, in PARKED only HOUSE, MEM and BACKUP; while `RESET_N`
is low only BACKUP (R532); an island whose clock is stopped (R14) runs again at its resumption, and never where no spare generator took
over (R492). BACKUP runs while its domain has a
supply (R415). -/
def State.runs (s : State) (i : Island) : Bool :=
  (decide (i = .backup) && s.power.backupOn) || decide (i ≠ .backup) && s.power.resetN &&
  (match s.dev.state with
   | .off => false
   | .parked => decide (i = .house) || decide (i = .mem)
   | _ => true) && !s.dev.dead.contains i.num && (match Tab.find s.dev.stopped i.num with
                    | some u => decide (u ≤ s.now)
                    | none => true)

/-- The answer of a command that found the block as `s` and leaves it as `u`: the queue of waiting commands and the raw clock are as
the command found them, for no command takes another off the queue (`step` does that) and none moves raw time, which is its own
moment. -/
def State.became (s u : State) : Out := .next { u with pending := s.pending, clk := { u.clk with raw := s.clk.raw } }

/-- A command that acts at a moment whatever runs: a pin, a supply. -/
def atMoment (t : Nat) (s : State) (f : State → State) : Out := (s.advance t).became (f (s.advance t))

/-- What an island does where it runs; the passing of time alone where it does not (R15, R42). -/
def State.ifRuns (s : State) (i : Island) (f : State → State) : State := if s.runs i then f s else s

/-- A command of an island at a moment. -/
def onIsland (i : Island) (t : Nat) (s : State) (f : State → State) : Out := atMoment t s (fun s => s.ifRuns i f)

/-- As `onIsland`, for a command that names a unit: a unit that does not exist is a fault. -/
def onUnit (ok : Bool) (i : Island) (t : Nat) (s : State) (f : State → State) : Out :=
  if ok then onIsland i t s f else .fault .noSuchUnit

/-- The state after one free value has been drawn. -/
def State.draw (s : State) : State := { s with draws := s.draws + 1 }

/-! ## Stored values of the dictionary -/

/-- The key of an entry. -/
def key (idx sub : Nat) : Nat := idx * 256 + sub

/-- The default of an entry (R49). -/
def dfltOf (k : Nat) : Val :=
  match entOf (k / 256) (k % 256) with
  | some e => e.dflt
  | none => .num 0

/-- The stored value of an entry. -/
def State.val (s : State) (idx sub : Nat) : Val :=
  match Tab.find s.dict.vals (key idx sub) with
  | some v => v
  | none => dfltOf (key idx sub)

/-- Store a value; the value equal to the default is not listed. -/
def State.setVal (s : State) (idx sub : Nat) (v : Val) : State :=
  { s with dict := { s.dict with vals := Tab.put (dfltOf (key idx sub)) s.dict.vals (key idx sub) v } }

/-- The number of a numeric value; an FX32's raw, 0 for octets. -/
def Val.toInt : Val → Int
  | .num v => v
  | .fx r _ => r
  | .oct _ => 0

/-- The octets of an octet value. -/
def Val.octs : Val → Octets
  | .oct b => b
  | _ => []

/-- The stored number of an entry. -/
def State.num (s : State) (idx sub : Nat) : Int := (s.val idx sub).toInt

/-- The stored number of an entry, as a natural number. -/
def State.nat (s : State) (idx sub : Nat) : Nat := (s.num idx sub).toNat

/-- The stored octets of an entry. -/
def State.oct (s : State) (idx sub : Nat) : Octets := (s.val idx sub).octs

/-! ## Queue instances -/

/-- The instance of a queue. -/
def State.queue (s : State) (q : QId) : Queue := Tab.get {} s.net.qs q.num

/-- Replace an instance. -/
def State.setQueue (s : State) (q : QId) (v : Queue) : State :=
  { s with net := { s.net with qs := Tab.put {} s.net.qs q.num v } }

/-- The capacity of an instance in the present state (R409). -/
def State.cap (s : State) (q : QId) : Nat := q.cap s.power.trained

/-- Whether a producer that tests `FULL` now would find room. -/
def State.hasRoom (s : State) (q : QId) : Bool := !((s.queue q).see s.ps).full (s.cap q)

/-- The producer's delay of the next crossing, a free value of its window. -/
def State.delayTo (s : State) (q : QId) : Nat := syncDelay q.ends.1 q.ends.2 s.draws

/-- The consumer's delay of the next crossing. -/
def State.delayBack (s : State) (q : QId) : Nat := syncDelay q.ends.2 q.ends.1 s.draws

/-- Push an entry (R402, R405). -/
def State.pushQ (s : State) (q : QId) (x : QItem) : State :=
  (s.setQueue q ((s.queue q).push (s.cap q) s.ps (s.delayTo q) x)).draw

/-- Pop an entry (R402, R405). -/
def State.popQ (s : State) (q : QId) : State :=
  (s.setQueue q ((s.queue q).pop s.ps (s.delayBack q))).draw

/-- The entry the next pop would deliver. -/
def State.frontQ (s : State) (q : QId) : Option (QItem × Bool) := (s.queue q).front s.ps

/-! ## Alarm table and export intake (R514–R523) -/

/-- The row of an alarm source. -/
def State.almRow (s : State) (src : Nat) : AlmRow := Tab.get {} s.ledger.alarms src

/-- Replace a row. -/
def State.setAlmRow (s : State) (src : Nat) (r : AlmRow) : State :=
  { s with ledger := { s.ledger with alarms := Tab.put {} s.ledger.alarms src r } }

/-- A subscription. -/
def State.sub (s : State) (n : Nat) : Sub := Tab.get {} s.ledger.subs n

/-- Replace a subscription. -/
def State.setSub (s : State) (n : Nat) (v : Sub) : State :=
  { s with ledger := { s.ledger with subs := Tab.put {} s.ledger.subs n v } }

/-- Insert a number into a rising list without repeats. -/
def insRising (x : Nat) : List Nat → List Nat
  | [] => [x]
  | y :: r => if x < y then x :: y :: r else if x = y then y :: r else y :: insRising x r

/-- A subscription whose source's row was updated (R521): the dirty bit is set, and a bit already set counts as coalesced. -/
def Sub.dirtied (u : Sub) (src : Nat) : Sub :=
  if u.path = 0 ∨ u.content % 2 = 0 then u
  else if u.dirty.contains src then { u with coalesced := u.coalesced + 1 }
  else { u with dirty := insRising src u.dirty }

/-- A row update reaches every subscription. -/
def State.dirtyAll (s : State) (src : Nat) : State :=
  (List.range 8).foldl (fun s n =>
    let u := s.sub n
    if u.dirtied src = u then s else s.setSub n (u.dirtied src)) s

/-- A raise (R515). -/
def AlmRow.raised (r : AlmRow) (admitTime seq : Nat) (start : Bool) : AlmRow :=
  { r with sticky := true, active := r.active || start, count := min 4294967295 (r.count + 1),
           first := if r.count = 0 then admitTime else r.first, last := admitTime, seq := seq }

/-- The alarm table takes an admitted event (R515). -/
def State.alarmOf (s : State) (e : Ev) (admitTime seq : Nat) : State :=
  match alarmSource e.code e.unit e.args with
  | none => s
  | some src =>
    let r := s.almRow src
    let ends := decide (e.edge = .stop) || decide (e.code = Code.canRecovered)
    let r' := if ends then { r with active := false }
      else r.raised admitTime seq (decide (e.edge = .start) || decide (e.code = Code.canBusOff))
    (s.setAlmRow src r').dirtyAll src

/-- Push the hold of a subscription to its log queue (R522): a push while the queue is FULL is lost and counted. -/
def State.pushHold (s : State) (n : Nat) : State :=
  let u := s.sub n
  match u.hold with
  | none => s
  | some h =>
    let s := if s.hasRoom (.logq n) then s.setSub n { u with hold := none }
      else s.setSub n { u with hold := none, logLost := u.logLost + 1, lostLog := u.lostLog + 1,
                               logFirstLost := if u.logLost = 0 then h.ent.seq else u.logFirstLost }
    s.pushQ (.logq n) (.log h)

/-- A log entry reaches a subscription (R522). -/
def State.subLog (s : State) (e : LogEnt) (n : Nat) : State :=
  let u := s.sub n
  if u.path = 0 ∨ ¬ bitOf u.content 1 ∨ ¬ bitOf u.islands (e.source % 16) then s
  else
    match u.hold with
    | some h =>
      if h.ent.source % 16 = e.source % 16 ∧ h.ent.unit = e.unit ∧ h.ent.code = e.code ∧ h.ent.args = e.args then
        let s := s.setSub n { u with hold := some { h with repeats := h.repeats + 1, lastSeq := e.seq },
                                     logCoalesced := u.logCoalesced + 1 }
        if 65535 ≤ h.repeats + 1 then s.pushHold n else s
      else
        let s := s.pushHold n
        s.setSub n { s.sub n with hold := some ⟨e, 0, e.seq, s.now⟩ }
    | none => s.setSub n { u with hold := some ⟨e, 0, e.seq, s.now⟩ }

/-! ## Events (R27–R31, R510–R512) -/

/-- One argument packed at its natural width (R511); a TIME64 becomes I32 µs relative to ADMIT, saturating, a calendar time
U32 s modulo 2³². -/
def EvArg.pack (admitTime : Nat) : EvArg → Octets
  | .u8 v => leBytes 1 v
  | .u16 v => leBytes 2 v
  | .u32 v => leBytes 4 v
  | .u64 v => leBytes 8 v
  | .i16 v => leInt 2 v
  | .i32 v => leInt 4 v
  | .i64 v => leInt 8 v
  | .time v => leInt 4 (sat32 (((v : Int) - admitTime).tdiv 1000))
  | .cal v => leInt 4 v
  | .oct v => v

/-- The arguments packed in order; those that do not fit within 12 octets are dropped from the end (R511). -/
def packArgs (admitTime : Nat) : Octets → List EvArg → Octets × Bool
  | acc, [] => (acc ++ zeros (12 - acc.length), false)
  | acc, a :: r =>
    let b := a.pack admitTime
    if acc.length + b.length ≤ 12 then packArgs admitTime (acc ++ b) r else (acc ++ zeros (12 - acc.length), true)

/-- The log entry of an event admitted at `admitTime` with count `n` (R510). -/
def logEntOf (isl : Island) (e : Ev) (admitTime n : Nat) : LogEnt :=
  let lag := admitTime - e.capture
  let p := packArgs admitTime [] e.args
  { admitTime := admitTime, seq := n % 4294967296, lag := min lag 4294967295,
    source := isl.num + 16 * b2n (decide (isl = .backup)) + 32 * b2n (decide (4294967295 < lag)) + 64 * b2n p.2,
    unit := e.unit, code := e.code, args := p.1 }

/-- Admission of an event (R28): sequence number, admission timestamp, log slot SEQ mod 65 536 (R512), alarm row (R515) and
export (R521, R522). -/
def State.admitEvent (s : State) (isl : Island) (e : Ev) : State :=
  let n := s.ledger.count
  let ent := logEntOf isl e s.clk.dev n
  let s := { s with ledger := { s.ledger with count := n + 1, log := Tab.insert s.ledger.log (n % 65536) ent } }
  let s := s.alarmOf e s.clk.dev ent.seq
  (List.range 8).foldl (fun s k => s.subLog ent k) s

/-- Events the island has lost and not yet reported (R31). -/
def State.lostOf (s : State) (isl : Island) : Nat := Tab.get 0 s.ledger.evLostBy isl.num

/-- Set that count. -/
def State.setLost (s : State) (isl : Island) (n : Nat) : State :=
  { s with ledger := { s.ledger with evLostBy := Tab.put 0 s.ledger.evLostBy isl.num n } }

/-- Round up to a slot of 8 ns. -/
def slotUp (ps : Nat) : Nat := (ps + 7999) / 8000 * 8

/-- An island's local copy of device time as it reads it now (R29): behind device time by a free lag of at most 40 ns, and never behind
its last reading. -/
def State.localTime (s : State) (isl : Island) : Nat :=
  max (Tab.get 0 s.net.localTime isl.num) (s.clk.dev - Config.freeLag s.draws % 41)

/-- The island's reading of its copy is kept. -/
def State.readLocal (s : State) (isl : Island) : State :=
  { s with net := { s.net with localTime := Tab.put 0 s.net.localTime isl.num (s.localTime isl) } }

/-- Push an event into its island's queue, with its capture timestamp (R29; R30 for BACKUP, which has none) and the slot from which its
head is eligible (R27 step 2, R573). -/
def State.pushEv (s : State) (isl : Island) (code unit : Nat) (args : List EvArg) (edge : EvEdge) : State :=
  (s.readLocal isl).pushQ (.island isl.num)
    (.ev { code := code, unit := unit, args := args, edge := edge,
           capture := if isl = .backup then 0 else min s.clk.dev (s.localTime isl), unseen := decide (isl = .backup),
           eligible := slotUp (s.ps + s.delayTo (.island isl.num)) })

/-- Post the gap event an island owes, where its queue has room (R31). -/
def State.gapEv (s : State) (isl : Island) : State :=
  if s.lostOf isl ≠ 0 ∧ s.hasRoom (.island isl.num) then
    (s.pushEv isl Code.eventGap 0 [.u32 (s.lostOf isl)] .plain).setLost isl 0
  else s

/-- Post an event (R27, R29, R31): after the gap event owed; lost and counted while the queue is full. -/
def State.postE (s : State) (isl : Island) (code unit : Nat) (args : List EvArg) (edge : EvEdge) : State :=
  let s := s.gapEv isl
  if s.lostOf isl = 0 ∧ s.hasRoom (.island isl.num) then s.pushEv isl code unit args edge
  else
    { s.setLost isl (s.lostOf isl + 1) with
      ledger := { (s.setLost isl (s.lostOf isl + 1)).ledger with evLost := s.ledger.evLost + 1 } }

/-- Post an event without a start or end argument. -/
def State.post (s : State) (isl : Island) (code unit : Nat) (args : List EvArg) : State :=
  s.postE isl code unit args .plain

/-! ## Device states and causes (R42–R47) -/

/-- The STATE_CHANGE event (R572). -/
def State.logState (s : State) : State :=
  s.post .house Code.stateChange 0
    [.u8 s.dev.state.code, .u8 s.dev.prev.code, .u16 s.dev.hold, .u32 s.dev.degraded]

/-- The CAUSE_CHANGE event (R572). -/
def State.logCause (s : State) : State :=
  s.post .house Code.causeChange 0 [.u16 s.dev.hold, .u32 s.dev.degraded]

/-- Enter a device state (R44, R45): previous state and time recorded, logged. -/
def State.enter (s : State) (d : DevState) : State :=
  if s.dev.state = d then s
  else State.logState { s with dev := { s.dev with state := d, prev := s.dev.state, stateTime := s.clk.dev } }

/-- A degraded cause sets or clears (R44, R46): RUN and DEGRADED follow the causes. -/
def State.setCause (s : State) (bit : Nat) (on : Bool) : State :=
  let m := putBit s.dev.degraded bit on
  if m = s.dev.degraded then s
  else
    let s := { s with dev := { s.dev with degraded := m } }
    if s.dev.state = .run ∧ m ≠ 0 then s.enter .degraded
    else if s.dev.state = .degraded ∧ m = 0 then s.enter .run
    else s.logCause

/-- A hold cause's bit, without its consequences. -/
def State.holdBit (s : State) (c : Nat) (on : Bool) : State :=
  { s with dev := { s.dev with hold := putBit s.dev.hold c on } }

/-- A hold cause clears (R47): the device stays as it is. -/
def State.clearHold (s : State) (c : Nat) : State :=
  if bitOf s.dev.hold c then (s.holdBit c false).logCause else s

/-- The device is in SAFE_HOLD or SERVICE, where no plan is actuated and commits are suppressed (R42). -/
def State.holding (s : State) : Bool := decide (s.dev.state = .safeHold) || decide (s.dev.state = .service)

/-- The device operates: RUN or DEGRADED. -/
def State.operating (s : State) : Bool := decide (s.dev.state = .run) || decide (s.dev.state = .degraded)

/-- The device is past its initialisation: RUN, DEGRADED, SAFE_HOLD or SERVICE. -/
def State.up (s : State) : Bool := s.operating || s.holding

end Machine
end Sys2Proof
end

