-- ==== Sys2Proof/Machine/CalTime.lean ====
section
/-! DEFINITION. Calendar instants and device time (R144, R145, R307): calendar count is device time less `CAL_OFFSET`. -/

namespace Sys2Proof
namespace Machine

/-- A day in ns. -/
def dayNs : Int := 86400000000000

/-- `CAL_OFFSET` (R418). -/
def State.calOffset (s : State) : Int := s.cal.offset

/-- Calendar count of a device time, ns (R420). -/
def State.calOf (s : State) (dev : Int) : Int := dev - s.calOffset

/-- Nanoseconds since midnight of a device time's calendar day. -/
def State.ofDay (s : State) (dev : Int) : Int := (s.calOf dev).emod dayNs

/-- Device time of the midnight that begins a device time's calendar day. -/
def State.midnight (s : State) (dev : Int) : Int := dev - s.ofDay dev

/-- The first device time strictly after `dev` whose calendar time of day is a whole multiple of `step` ns after midnight;
where `step` does not divide a day the count starts again at midnight (R144, R145). -/
def State.nextMultiple (s : State) (dev step : Int) : Int :=
  let m := s.midnight dev
  min (m + ((s.ofDay dev) / step + 1) * step) (m + dayNs)

/-- The device time is one of those instants. -/
def State.isMultiple (s : State) (dev step : Int) : Bool := decide ((s.ofDay dev).emod step = 0)

/-- How many of those instants lie in (a, b]. -/
def State.multiplesIn (s : State) (a b step : Int) : Nat :=
  let per := (dayNs + step - 1) / step
  let idx := fun (x : Int) => (s.calOf x).fdiv dayNs * per + (s.ofDay x) / step
  (idx b - idx a).toNat

/-- The calendar weekday of a device time, counted from today's `WEEKDAY` (R151). -/
def State.weekdayAt (s : State) (dev : Int) : Nat :=
  let days := (s.calOf dev).fdiv dayNs - (s.calOf s.clk.dev).fdiv dayNs
  ((s.cal.f.weekday : Int) + days).emod 7 |>.toNat

end Machine
end Sys2Proof
end

