-- ==== Sys2Proof/Machine/Crc.lean ====
section
/-! DEFINITION. The CRC-32C of R80: polynomial 0x1EDC6F41, reflected, initial value and final exclusive-or all ones. -/

namespace Sys2Proof
namespace Machine

/-- `n` bit steps of a reflected CRC register over polynomial `poly` (bit-reversed). -/
def crcBits (poly : Nat) : Nat → Nat → Nat
  | 0, r => r
  | n + 1, r => crcBits poly n (if r % 2 = 1 then Nat.xor (r / 2) poly else r / 2)

/-- One octet of a reflected CRC. -/
def crcOctet (poly r : Nat) (b : Octet) : Nat := crcBits poly 8 (Nat.xor r b.toNat)

/-- CRC-32C of an octet string (R80). -/
def crc32c (bs : Octets) : Nat := Nat.xor (bs.foldl (crcOctet 0x82F63B78) 0xFFFFFFFF) 0xFFFFFFFF

/-! ## Words with parity (R25, R41) -/

/-- The parity bit of a 32-bit word. -/
def wordParity (w : Nat) : Bool := decide (((List.range 32).filter (fun b => bitOf w b)).length % 2 = 1)

/-- Octets as 32-bit words, each with its parity bit. -/
def parWords (b : Octets) : List (Nat × Bool) :=
  (List.range ((b.length + 3) / 4)).map (fun k => (u32At b (4 * k), wordParity (u32At b (4 * k))))

/-- The octets of words. -/
def parOctets (l : List (Nat × Bool)) : Octets := l.flatMap (fun w => leBytes 4 w.1)

/-- Every word's parity holds. -/
def parGood (l : List (Nat × Bool)) : Bool := l.all (fun w => wordParity w.1 == w.2)

/-- A bit of word `w`, or its parity bit (bit 32), turned over. -/
def parFlip (l : List (Nat × Bool)) (w b : Nat) : List (Nat × Bool) :=
  l.modify w (fun x => if b < 32 then (Nat.xor x.1 (2 ^ b), x.2) else (x.1, !x.2))

end Machine
end Sys2Proof
end

