-- ==== Sys2Proof/Machine/Encoding.lean ====
section
/-! DEFINITION. The octets of a dictionary value (R50), and the answer of an entry's own behaviour to a write. -/

namespace Sys2Proof
namespace Machine

/-- Every octet is 0: what a reserved field holds (R5). -/
def allZero (b : Octets) : Bool := b.all (fun x => decide (x = 0))

/-- The octets of a type of fixed length; none for OCTETS and STRING (R50). -/
def DTy.size : DTy → Option Nat
  | .bool => some 1 | .u8 => some 1 | .u16 => some 2 | .u32 => some 4 | .u64 => some 8
  | .i8 => some 1 | .i16 => some 2 | .i32 => some 4 | .i64 => some 8
  | .q15 => some 2 | .q31 => some 4 | .fx32 => some 5 | .bcd8 => some 1 | .time64 => some 8
  | .octets => none | .string => none

/-- A value as its octets (R50): little-endian, FX32 as I32 raw and I8 scale code. -/
def encVal (ty : DTy) (v : Val) : Octets :=
  match v with
  | .oct b => b
  | .fx r sc => leInt 4 r ++ leInt 1 sc
  | .num n => leInt (ty.size.getD 4) n

/-- Octets as a value of a type. -/
def decVal (ty : DTy) (b : Octets) : Val :=
  match ty with
  | .octets => .oct b
  | .string => .oct b
  | .fx32 => .fx (i32At b 0) (i8At b 4)
  | .i8 => .num (i8At b 0)
  | .i16 => .num (i16At b 0)
  | .i32 => .num (i32At b 0)
  | .i64 => .num (i64At b 0)
  | .q15 => .num (i16At b 0)
  | .q31 => .num (i32At b 0)
  | _ => .num (leNat b)

/-- What an entry's owner answers to a write that passed the checks of R62 before its own: the entry has no behaviour of its
own; applied; refused with a result code; accepted, with the response owed later. -/
inductive WRes where
  | plain
  | done (s : State)
  | refuse (code : Nat) (s : State)
  | later (s : State)

/-- Refuse, or go on. -/
def WRes.unless (bad : Bool) (code : Nat) (s : State) (r : WRes) : WRes := if bad then .refuse code s else r

/-- A value at its entry's stored scale code (R51): an FX32 is converted with round-half-even. DESIGN CHOICE (log 93): an in-range
value whose raw word at the stored scale code does not fit I32 is saturated. -/
def rescale (old new : Val) : Val :=
  match old, new with
  | .fx _ sc, .fx r sc' => .fx (sat32 (scaleBy r (sc' - sc))) sc
  | _, v => v

/-- Store the octets of a write as the entry's value. -/
def State.store (s : State) (idx sub : Nat) (b : Octets) : State :=
  match entOf idx sub with
  | some e => s.setVal idx sub (rescale (s.val idx sub) (decVal e.ty b))
  | none => s

/-- The octets of an entry's stored value. -/
def State.stored (s : State) (idx sub : Nat) : Octets :=
  match entOf idx sub with
  | some e => encVal e.ty (s.val idx sub)
  | none => []

end Machine
end Sys2Proof
end

