-- ==== Sys2Proof/Machine/Pools.lean ====
section
/-! DEFINITION. The spare pools of R492: their sizes, the elements out of service for good, free spares, and an element's
retirement with its consequences for running tests and queued requests (R493, R494, R500, R502). -/

namespace Sys2Proof
namespace Machine

/-- Elements in service and spare elements of one instance of a pool (R492). -/
def poolIn : Nat → Nat
  | 0 => 64 | 1 => 1 | 2 => 2 | 3 => 8 | 4 => 28 | 5 => 2 | 6 => 2 | 7 => 1 | 8 => 2 | _ => 0
def poolSpare : Nat → Nat
  | 0 => 4 | 1 => 1 | 2 => 1 | 3 => 1 | 4 => 2 | 5 => 1 | 6 => 1 | 7 => 1 | 8 => 1 | _ => 0
/-- Instances of a pool: Jiest lanes per port and direction, clock generators per island. -/
def poolUnits : Nat → Nat
  | 6 => 10 | 7 => 8 | _ => 1
/-- Elements of one instance. -/
def poolEach (p : Nat) : Nat := poolIn p + poolSpare p
/-- Elements of a pool, in the order of `AGEING` (R508). -/
def poolElems (p : Nat) : Nat := poolUnits p * poolEach p
/-- Rotating pools (R492). -/
def rotating (p : Nat) : Bool := decide (p = 0) || decide (p = 2) || decide (p = 4) || decide (p = 5) || decide (p = 6)
/-- Instance and place within it of an element numbered as in `AGEING`. -/
def poolUnit (p e : Nat) : Nat := e / poolEach p
def poolLocal (p e : Nat) : Nat := e % poolEach p
/-- Place of an element in `AGEING`. -/
def ageIndex (p e : Nat) : Nat := ((List.range p).map poolElems).foldl (· + ·) 0 + e

/-- Elements of an instance that are out of service for good. -/
def State.poolOut (s : State) (p u : Nat) : List Nat := Tab.get [] s.health.out (poolKey p u)
/-- The counts of a pool. -/
def State.poolStat (s : State) (p : Nat) : PoolStat := Tab.get {} s.health.stat p
/-- The test status of a pool. -/
def State.poolTest (s : State) (p : Nat) : TestStat := Tab.get {} s.health.tests p
/-- Change the health record. -/
def State.modHealth (s : State) (f : Health → Health) : State := { s with health := f s.health }
/-- Replace the counts of a pool. -/
def State.setPoolStat (s : State) (p : Nat) (v : PoolStat) : State := s.modHealth (fun h => { h with stat := Tab.put {} h.stat p v })
/-- Replace the test status of a pool. -/
def State.setPoolTest (s : State) (p : Nat) (v : TestStat) : State := s.modHealth (fun h => { h with tests := Tab.put {} h.tests p v })

/-- Spares of an instance in permanent use (R493, R494). -/
def State.permanent (s : State) (p u : Nat) : Nat := min (poolSpare p) (s.poolOut p u).length
/-- The running test of the pool is covered by a spare of this instance. -/
def State.coverIn (s : State) (p u : Nat) : Bool :=
  match (s.poolTest p).run with
  | some r => r.cover.isSome && decide (poolUnit p r.elem = u)
  | none => false
/-- Spares of an instance that are free: neither in permanent use nor covering a test or a calibration. -/
def State.sparesFree (s : State) (p u : Nat) : Nat :=
  poolSpare p - s.permanent p u - b2n (s.coverIn p u || decide (p = 4) && s.metr.cal.isSome)
/-- Every spare of every instance of the pool is in permanent use (R500). -/
def State.poolGone (s : State) (p : Nat) : Bool := (List.range (poolUnits p)).all (fun u => decide (poolSpare p ≤ s.permanent p u))

/-- An element is under a forced test that no spare covers (R501). -/
def State.testedBare (s : State) (p e : Nat) : Bool :=
  match (s.poolTest p).run with
  | some r => r.forced && r.cover.isNone && decide (r.elem = e)
  | none => false

/-- Queued requests of a pool whose spares have all gone into permanent use end refused and are logged (R500). -/
def State.refuseQueued (s : State) (p : Nat) : State :=
  if ¬ s.poolGone p then s
  else
    let gone := s.health.queue.filter (fun r => decide (r.pool = p) && !r.force)
    let s := s.modHealth (fun h => { h with queue := h.queue.filter (fun r => decide (r.pool ≠ p) || r.force) })
    gone.foldl (fun s r =>
      (s.setPoolTest p { s.poolTest p with elem := r.elem, outcome := 4, endAt := s.clk.dev }).post .house Code.stRefused p
        [.u8 r.elem]) s

/-- A test that covers the pool's spare ends ABORTED so that the faulted element gets it (R502). -/
def State.freeCover (s : State) (p u : Nat) : State :=
  match (s.poolTest p).run with
  | some r =>
    if s.coverIn p u then s.setPoolTest p { s.poolTest p with run := none, elem := r.elem, outcome := 3, endAt := s.clk.dev } else s
  | none => s

/-- An element (numbered as in `AGEING`) goes out of service for good, because of a fault (0), wear (1) or a command (2): counts,
`SPARE_IN_USE`, tests and queued requests. -/
def State.retireElem (s : State) (p e : Nat) (why : Nat) : State :=
  let u := poolUnit p e
  let l := poolLocal p e
  if (s.poolOut p u).contains l then s
  else
    let s := if why = 0 then s.freeCover p u else s
    let st := s.poolStat p
    let s := s.setPoolStat p { st with faults := st.faults + b2n (decide (why = 0)), wear := st.wear + b2n (decide (why = 1)), lastChange := s.clk.dev }
    let s := s.modHealth (fun h => { h with out := Tab.insert h.out (poolKey p u) (insRising l (s.poolOut p u)) })
    (s.setCause 0 true).refuseQueued p

/-- A fault of an element that stays in service is counted (R507). -/
def State.countFault (s : State) (p : Nat) : State :=
  s.setPoolStat p { s.poolStat p with faults := (s.poolStat p).faults + 1 }

/-- A subsoil row is retired to the spare-row reserve, or, with the reserve exhausted, logged and kept (R37, R46). -/
def State.retireRow (s : State) (row : Nat) : State :=
  if Config.reserveRows ≤ s.health.subsoilRows then s.post .mem Code.subsoilReserveOut 0 [.u32 row]
  else
    let s := s.modHealth (fun h => { h with subsoilRows := h.subsoilRows + 1 })
    if 4 * (Config.reserveRows - s.health.subsoilRows) < Config.reserveRows then s.setCause 2 true else s

/-- A poisoned subsoil word is delivered: its owner logs the loss, and the row is retired (R37, R572). -/
def State.dataLoss (s : State) (i : Island) (use addr detail : Nat) : State :=
  (s.post i Code.dataLoss 0 [.u8 use, .u32 addr, .u16 detail]).retireRow (Config.subsoilRow addr)

/-- A keep-store sector is remapped to a spare one (R499); with no spare left the sector stays in service. -/
def State.remapSector (s : State) (sector : Nat) : State :=
  if 64 ≤ s.health.keepRemaps then s.post .mem Code.keepSparesOut 0 []
  else s.modHealth (fun h => { h with keepRemaps := h.keepRemaps + 1, wearSector := sector })

/-- `n` subsoil words that failed parity were good when read again: soft errors (R37, R496). -/
def State.softSubsoil (s : State) (n : Nat) : State :=
  if n = 0 then s else s.modHealth (fun h => { h with softSubsoil := h.softSubsoil + n })

/-- `n` keep-store words that failed parity were good when read again: soft errors (R496). -/
def State.softKeep (s : State) (n : Nat) : State :=
  if n = 0 then s else s.modHealth (fun h => { h with softKeep := h.softKeep + n })

/-! ## Scans whose source is switched (R488) -/

/-- The octets a scan that is not DONE has fed: free, at most those of its data and what is folded in (R486). -/
def State.scanProgress (s : State) (c : Nat) : Nat :=
  let n := u32At (s.oct (0x6800 + c) 1) 4
  min (Config.scanFed s.clk.dev) (2 * n + 8)

/-- An activation switches the image of a region (its start address): the scans of the CRC unit that read it end ABORTED, cause 1. -/
def State.scanSwitched (s : State) (base : Nat) : State :=
  (List.range 4).foldl (fun s c =>
    let v : CrcChan := Tab.get {} s.health.crc c
    if v.state = 1 ∧ base ≤ u32At (s.oct (0x6800 + c) 1) 0 ∧ u32At (s.oct (0x6800 + c) 1) 0 < base + 0x1000000 then
      s.modHealth (fun h => { h with crc := Tab.put {} h.crc c { v with state := 3, cause := 1, fed := s.scanProgress c, endAt := s.clk.dev } })
    else s) s

end Machine
end Sys2Proof
end

