-- ==== Sys2Proof/Machine/Image.lean ====
section
/-! DEFINITION. The model image: header, sections and records (R80–R93, R101, R196), and the seventeen checks of R104 in
their order. An image is its octets; every record field is read from them. -/

namespace Sys2Proof
namespace Machine

/-! ## Header and sections (R80, R81) -/

/-- Record size of a section, 0 where it has none (R81). -/
def secRec : Nat → Nat
  | 0 => 32 | 1 => 16 | 2 => 32 | 3 => 32 | 4 => 16 | 5 => 144 | 6 => 48 | 7 => 32 | 8 => 64 | 9 => 16 | 11 => 12 | _ => 0

/-- Topology octets T of a section (R81). -/
def secTopo : Nat → Nat
  | 0 => 4 | 1 => 8 | 2 => 12 | 3 => 2 | 4 => 2 | 5 => 16 | 6 => 12 | 7 => 8 | 8 => 8 | 9 => 8 | _ => 0

/-- Records of a section by the header's counts (R81). -/
def secCount (img : Octets) : Nat → Nat
  | 0 => 4 | 1 => u16At img 30 | 2 => u16At img 32 | 3 => u16At img 34 | 4 => u16At img 36 | 5 => u16At img 38
  | 6 => u16At img 40 | 7 => u16At img 42 | 8 => u16At img 44 | 9 => 512 | 11 => u32At img 48 | _ => 0

/-- Offset of a section. -/
def secOff (img : Octets) (i : Nat) : Nat := u32At img (64 + 8 * i)
/-- Length of a section. -/
def secLen (img : Octets) (i : Nat) : Nat := u32At img (68 + 8 * i)
/-- The octets of a section. -/
def section_ (img : Octets) (i : Nat) : Octets := slice img (secOff img i) (secLen img i)
/-- Record `k` of a section. -/
def recOf (img : Octets) (i k : Nat) : Octets := slice img (secOff img i + secRec i * k) (secRec i)
/-- The records of a section, in order. -/
def recsOf (img : Octets) (i : Nat) : List Octets := (List.range (secCount img i)).map (recOf img i)

/-- `POSITION`. -/
def imgPosition (img : Octets) : Nat := u16At img 16
/-- `TOPO_HASH`. -/
def imgTopo (img : Octets) : Nat := u32At img 20
/-- `DEC_PER_STEP`. -/
def imgDec (img : Octets) : Nat := u16At img 24
/-- `STATES_PER_STEP`. -/
def imgStates (img : Octets) : Nat := u16At img 26
/-- The trailing CRC-32C. -/
def imgCrc (img : Octets) : Nat := u32At img (img.length - 4)

/-- Whether the trailing CRC-32C matches (check 1). -/
def imgCrcOk (img : Octets) : Bool := decide (260 ≤ img.length) && decide (crc32c (img.take (img.length - 4)) = imgCrc img)

/-! ## Records -/

/-- A network is used (R82). -/
def netUsed (img : Octets) (w : Nat) : Bool := decide (w < 4) && decide (u8At (recOf img 0 w) 0 ≠ 255)
/-- `MEDIUM` of a network. -/
def netMedium (img : Octets) (w : Nat) : Nat := u8At (recOf img 0 w) 0
/-- Network of a node (R83). -/
def nodeNet (img : Octets) (n : Nat) : Nat := u8At (recOf img 1 n) 4
/-- Kind of a node. -/
def nodeKind (img : Octets) (n : Nat) : Nat := u8At (recOf img 1 n) 5
/-- Kind of a branch (R84). -/
def brKind (img : Octets) (b : Nat) : Nat := u8At (recOf img 2 b) 8
/-- `FROM` of a branch. -/
def brFrom (img : Octets) (b : Nat) : Nat := u16At (recOf img 2 b) 4
/-- `TO` of a branch. -/
def brTo (img : Octets) (b : Nat) : Nat := u16At (recOf img 2 b) 6
/-- `ELEMENT` of a branch. -/
def brElem (img : Octets) (b : Nat) : Nat := u16At (recOf img 2 b) 10
/-- Network of a branch: that of its `FROM` node. -/
def brNet (img : Octets) (b : Nat) : Nat := nodeNet img (brFrom img b)

/-- A channel map record (R91). -/
structure ChanRec where
  type : Nat
  network : Nat
  node : Nat
  branch : Nat
  element : Nat
  transport : Nat
  busNode : Nat
  relearn : Bool
  weight : Nat
  deriving DecidableEq, Repr

/-- A channel map record from its octets. -/
def chanRec (b : Octets) : ChanRec :=
  { type := u8At b 0, network := u8At b 1, node := u16At b 2, branch := u16At b 4, element := u16At b 6, transport := u8At b 8,
    busNode := u8At b 9, relearn := bitOf (u16At b 10) 0, weight := u16At b 12 }

/-- The record of a channel in an image. -/
def imgChan (img : Octets) (c : Nat) : ChanRec := chanRec (recOf img 9 c)

/-! ## The checks of R104 -/

/-- No record is at fault. -/
def noRec : Nat := 0xFFFFFFFF

/-- The first number below `n` that does not pass. -/
def firstBad (n : Nat) (ok : Nat → Bool) : Option Nat := (List.range n).find? (fun k => !ok k)

/-- The answer of a check over the records of one section. -/
def checkRecs (code n : Nat) (ok : Nat → Bool) : Option (Nat × Nat) := (firstBad n ok).map (fun k => (code, k))

/-- The answer of a check without records. -/
def checkAll (code : Nat) (ok : Bool) : Option (Nat × Nat) := if ok then none else some (code, noRec)

/-- The sections overlap nothing and lie between the header and the CRC. -/
def secsPlaced (img : Octets) : Bool :=
  let used := (List.range 16).filter (fun i => decide (secLen img i ≠ 0))
  used.all (fun i => decide (256 ≤ secOff img i) && decide (secOff img i + secLen img i + 4 ≤ img.length) &&
    used.all (fun j => decide (i = j) || decide (secOff img i + secLen img i ≤ secOff img j) ||
      decide (secOff img j + secLen img j ≤ secOff img i)))

/-- Check 3. -/
def chk3 (img : Octets) : Option (Nat × Nat) :=
  if u32At img 8 ≠ img.length ∨ ¬ secsPlaced img then some (3, noRec)
  else (firstBad 16 (fun i =>
    if i = 10 then true else decide (secLen img i = secCount img i * secRec i))).map (fun _ => (3, noRec))

/-- `DEC_PER_STEP` by R149. -/
def decFormula (img : Octets) : Nat :=
  let pts := ((recsOf img 5).map (fun r => u8At r 7)).foldl (· + ·) 0
  let bands := ((recsOf img 8).map (fun r => u8At r 4)).foldl (· + ·) 0
  let used := ((List.range 4).filter (netUsed img)).length
  pts + 2 * secCount img 6 + 2 * secCount img 7 + 2 + 2 * bands + 5 * used + u16At img 46 + 1

/-- `STATES_PER_STEP` by R149. -/
def statesFormula (img : Octets) : Nat :=
  let bands := ((recsOf img 8).map (fun r => u8At r 4)).foldl (· + ·) 0
  let used := ((List.range 4).filter (netUsed img)).length
  secCount img 6 + secCount img 7 + used + bands + secCount img 5

/-- Check 4: the ranges of R80, and the formulae of R149. -/
def chk4 (img : Octets) : Bool :=
  let r := fun (o lo hi : Nat) => decide (lo ≤ u16At img o) && decide (u16At img o ≤ hi)
  r 24 1 256 && r 26 0 64 && r 28 1 4 && r 30 1 4096 && r 32 1 6144 && r 34 0 64 && r 36 0 512 && r 38 0 64 && r 40 0 32 &&
  r 42 0 8 && r 44 0 32 && r 46 0 64 && decide (12 ≤ u32At img 48) && decide (u32At img 48 ≤ 65536) &&
  decide (((List.range 4).filter (netUsed img)).length = u16At img 28) &&
  decide (imgDec img = decFormula img) && decide (imgStates img = statesFormula img)

/-- A node that exists, in network `w`. -/
def nodeIn (img : Octets) (n w : Nat) : Bool := decide (n < secCount img 1) && decide (nodeNet img n = w)

/-- A branch that exists, of one of the kinds. -/
def brIn (img : Octets) (b : Nat) (ks : List Nat) : Bool := decide (b < secCount img 2) && ks.contains (brKind img b)

/-- A connection point, or none. -/
def cpRef (v : Nat) : Bool := decide (v < 4) || decide (v = 255)

/-- Check 5 for a network record. -/
def refNet (img : Octets) (w : Nat) : Bool :=
  !netUsed img w || (decide (netMedium img w ≤ 1) && nodeIn img (u16At (recOf img 0 w) 2) w)

/-- Check 5 for a node record. -/
def refNode (img : Octets) (n : Nat) : Bool :=
  let r := recOf img 1 n
  netUsed img (nodeNet img n) && decide (nodeKind img n ≤ 5) &&
  (if nodeKind img n = 5 then decide (u8At r 6 < 64) else decide (u8At r 6 = 255) && decide (u8At r 7 = 255))

/-- Check 5 for a branch record. -/
def refBranch (img : Octets) (b : Nat) : Bool :=
  let k := brKind img b
  let e := brElem img b
  let side := u8At (recOf img 2 b) 9
  decide (k ≤ 7) && decide (brFrom img b < secCount img 1) && decide (brTo img b < secCount img 1) &&
  (decide (k < 4) || decide (brFrom img b = brTo img b)) && decide (side ≤ 3) &&
  (decide (side = 0) || decide (nodeNet img (brFrom img b) = nodeNet img (brTo img b))) &&
  (match k with
   | 1 => decide (e < secCount img 3) | 2 => decide (e < secCount img 4)
   | 4 => decide (e < 512) && (let c := imgChan img e
                               (decide (c.type = 1) || decide (c.type = 2)) && decide (c.network = brNet img b))
   | 5 => decide (e < secCount img 5) && decide (u8At (recOf img 5 e) 5 = brNet img b)
   | 6 => decide (e < secCount img 6) && decide (u8At (recOf img 6 e) 4 = brNet img b)
   | _ => decide (e = 65535))

/-- A loop, or one of the codes without a loop. -/
def srcRef (v : Nat) (codes : List Nat) : Bool := decide (v < 1024) || codes.contains v

/-- Check 5 for a plant record. -/
def refPlant (img : Octets) (p : Nat) : Bool :=
  let r := recOf img 5 p
  decide (u8At r 4 ≤ 6) && netUsed img (u8At r 5) && decide (u8At r 6 ≤ 2) && brIn img (u16At r 8) [5] &&
  decide (brNet img (u16At r 8) = u8At r 5) && decide (u16At r 10 < 512) &&
  decide ((imgChan img (u16At r 10)).type = 4) && cpRef (u8At r 12)

/-- Check 5 for a store record. -/
def refStore (img : Octets) (k : Nat) : Bool :=
  let r := recOf img 6 k
  netUsed img (u8At r 4) && brIn img (u16At r 6) [6] && decide (brNet img (u16At r 6) = u8At r 4) &&
  nodeIn img (u16At r 8) (u8At r 4) && nodeIn img (u16At r 10) (u8At r 4) &&
  (decide (u16At r 36 = 65535) || (decide (u16At r 36 < 512) && decide ((imgChan img (u16At r 36)).type = 5)))

/-- Check 5 for a battery record. -/
def refBattery (img : Octets) (k : Nat) : Bool :=
  let r := recOf img 7 k
  decide (u8At r 4 < 4) && decide (u16At r 6 < 512) && decide ((imgChan img (u16At r 6)).type = 5)

/-- Check 5 for a light group record. -/
def refGroup (img : Octets) (g : Nat) : Bool :=
  let r := recOf img 8 g
  decide (1 ≤ u8At r 4) && decide (u8At r 4 ≤ 4) && decide (u8At r 5 < 4) &&
  (decide (u16At r 14 < 256) || decide (u16At r 14 = 65535))

/-- The first answer of a list of checks. -/
def firstOf : List (Option (Nat × Nat)) → Option (Nat × Nat)
  | [] => none
  | some x :: _ => some x
  | none :: r => firstOf r

/-- Check 5 (DEDUCED: which references of R82–R93 it covers). -/
def chk5 (img : Octets) : Option (Nat × Nat) :=
  firstOf
    [checkRecs 5 4 (refNet img), checkRecs 5 (secCount img 1) (refNode img), checkRecs 5 (secCount img 2) (refBranch img),
     checkRecs 5 (secCount img 3) (fun k => brIn img (u16At (recOf img 3 k) 0) [1] && srcRef (u16At (recOf img 3 k) 2) [65535]),
     checkRecs 5 (secCount img 4) (fun k =>
       brIn img (u16At (recOf img 4 k) 0) [2, 4, 5, 6] && srcRef (u16At (recOf img 4 k) 2) [65534, 65535]),
     checkRecs 5 (secCount img 5) (refPlant img), checkRecs 5 (secCount img 6) (refStore img),
     checkRecs 5 (secCount img 7) (refBattery img), checkRecs 5 (secCount img 8) (refGroup img)]

/-- The first tag of a section that is 0 or names an element before it (check 7). -/
def tagBad (img : Octets) (sec : Nat) : Option Nat :=
  let tag := fun k => u32At (recOf img sec k) 0
  firstBad (secCount img sec) (fun k =>
    decide (tag k ≠ 0) && (List.range k).all (fun j => decide (tag j ≠ tag k)))

/-- Check 7. -/
def chk7 (img : Octets) : Option (Nat × Nat) :=
  firstOf ([1, 2, 5, 6, 7, 8].map (fun i => (tagBad img i).map (fun k => (7, k))))

/-- The transport of a channel is one of R91's. -/
def chanTransportOk (r : ChanRec) : Bool :=
  if r.transport < 8 then decide (3 ≤ r.busNode) && decide (r.busNode ≤ 66)
  else if r.transport = 8 then decide (r.busNode = 0)
  else decide (r.transport = 255) && decide (r.type = 0)

/-- The attachments of a channel are those of its type (R92). -/
def chanAttachOk (img : Octets) (r : ChanRec) : Bool :=
  let none3 := decide (r.network = 255) && decide (r.node = 65535) && decide (r.branch = 65535)
  let sub := fun medium => netUsed img r.network && decide (netMedium img r.network = medium) &&
    nodeIn img r.node r.network && decide (nodeKind img r.node = 1) && brIn img r.branch [4] &&
    decide (brFrom img r.branch = r.node) && decide (r.element = 65535)
  match r.type with
  | 0 => none3 && decide (r.element = 65535)
  | 1 => sub 0
  | 2 => sub 1
  | 3 => none3 && decide (r.element < secCount img 8)
  | 4 => decide (r.element < secCount img 5) && decide (r.network = u8At (recOf img 5 r.element) 5) &&
      decide (r.node = 65535) && decide (r.branch = u16At (recOf img 5 r.element) 8)
  | 5 =>
    decide (r.node = 65535) &&
    (if r.element < 32768 then
      decide (r.element < secCount img 6) && decide (r.network = u8At (recOf img 6 r.element) 4) &&
      decide (r.branch = u16At (recOf img 6 r.element) 6)
     else decide (r.element - 32768 < secCount img 7) && decide (r.network = 255) && decide (r.branch = 65535))
  | 6 => none3 && decide (r.element ≤ 3)
  | _ => false

/-- No other channel of the same CAN port has the channel's node (R91). -/
def chanNodeFree (img : Octets) (c : Nat) : Bool :=
  let r := imgChan img c
  decide (8 ≤ r.transport) ||
  (List.range 512).all (fun d => decide (d = c) || decide ((imgChan img d).transport ≠ r.transport) ||
    decide ((imgChan img d).busNode ≠ r.busNode))

/-- How many channel and store records name a cross branch: a store named by its own record is named once, its channel
beside it or not (check 8). -/
def crossNamed (img : Octets) (b : Nat) : Nat :=
  let chans := (List.range 512).filter (fun c => decide ((imgChan img c).branch = b) && decide ((imgChan img c).type ≠ 5))
  let stores := (List.range (secCount img 6)).filter (fun k => decide (u16At (recOf img 6 k) 6 = b))
  chans.length + stores.length

/-- Check 8. -/
def chk8 (img : Octets) : Option (Nat × Nat) :=
  firstOf [checkRecs 8 512 (fun c =>
      let r := imgChan img c
      chanTransportOk r && chanAttachOk img r && chanNodeFree img c),
    checkRecs 8 (secCount img 2) (fun b =>
      decide (brKind img b < 4) || decide (brKind img b = 7) || decide (crossNamed img b = 1))]

/-- Breakpoint `k` of a plant's curve (R87): `Q_OUT`, `P_EL`, `FUEL_IN`. -/
def curvePt (r : Octets) (k : Nat) : Int × Int × Int := (i32At r (36 + 12 * k), i32At r (40 + 12 * k), i32At r (44 + 12 * k))

/-- R88 for one plant. -/
def curveOk (r : Octets) : Bool :=
  let n := u8At r 7
  let q := fun k => (curvePt r k).1
  let p := fun k => (curvePt r k).2.1
  let f := fun k => (curvePt r k).2.2
  decide (2 ≤ n) && decide (n ≤ 9) && decide (0 < q 0) &&
  (List.range (n - 1)).all (fun k => decide (q k < q (k + 1))) &&
  (List.range (n - 2)).all (fun k =>
    decide ((f (k + 1) - f k) * (q (k + 2) - q (k + 1)) ≤ (f (k + 2) - f (k + 1)) * (q (k + 1) - q k)) &&
    decide ((p (k + 2) - p (k + 1)) * (q (k + 1) - q k) ≤ (p (k + 1) - p k) * (q (k + 2) - q (k + 1))))

/-- Check 10. -/
def chk10 (img : Octets) : Option (Nat × Nat) :=
  firstOf [checkRecs 10 (secCount img 6) (fun k =>
      let r := recOf img 6 k
      decide (i16At r 22 < i16At r 20) && decide (1 ≤ u8At r 5) && decide (u8At r 5 ≤ 8)),
    checkRecs 10 (secCount img 7) (fun k =>
      let r := recOf img 7 k
      decide (i16At r 24 < i16At r 26) && decide (0 < i16At r 20) && decide (0 < i16At r 22))]

/-- One pass over the branches: a node joined to a reached node is reached. -/
def reachStep (img : Octets) (l : List Nat) : List Nat :=
  (List.range (secCount img 2)).foldl (fun l b =>
    let f := brFrom img b
    let t := brTo img b
    if l.contains f then insRising t l else if l.contains t then insRising f l else l) l

/-- The nodes reached in `n` passes. -/
def reachN (img : Octets) : Nat → List Nat → List Nat
  | 0, l => l
  | n + 1, l =>
    let l' := reachStep img l
    if l'.length = l.length then l else reachN img n l'

/-- Check 11 for one network. -/
def chk11Net (img : Octets) (w : Nat) : Bool :=
  !netUsed img w ||
  (let ref := u16At (recOf img 0 w) 2
   let mine := (List.range (secCount img 1)).filter (fun n => decide (nodeNet img n = w))
   decide (mine.filter (fun n => decide (nodeKind img n = 4)) = [ref]) &&
   (let r := reachN img mine.length [ref]
    mine.all (fun n => r.contains n)))

/-- Check 11 for one branch: no cross branch has `SIDE` 0, and a mirrored pipe joins nodes of one network. -/
def chk11Br (img : Octets) (b : Nat) : Bool :=
  decide (u8At (recOf img 2 b) 9 ≠ 0) ||
  (decide (brKind img b < 4) && decide (nodeNet img (brFrom img b) = nodeNet img (brTo img b)))

/-! ### Section 10 (R196, R197) -/

/-- A supernode: first position, width, rows below, offset in `ROWS`. -/
structure Super where
  first : Nat
  width : Nat
  below : Nat
  off : Nat
  deriving DecidableEq, Repr

/-- Section 10 taken apart. -/
structure Elim where
  nUnk : Nat
  nz : Nat
  rowLen : Nat
  work : Nat
  perm : List Nat
  supers : List Super
  rows : List Nat

/-- Round up to a 4-octet boundary. -/
def up4 (n : Nat) : Nat := (n + 3) / 4 * 4

/-- `n` U16 values. -/
def u16s : Octets → Nat → List Nat
  | _, 0 => []
  | b, n + 1 => u16At b 0 :: u16s (b.drop 2) n

/-- Section 10 of an image. -/
def elimOf (img : Octets) : Elim :=
  let b := section_ img 10
  let n := u32At b 0
  let m := u32At b 4
  let so := up4 (32 + 2 * n)
  let ro := so + 12 * m
  { nUnk := n, nz := u32At b 8, rowLen := u32At b 12, work := u64At b 16, perm := u16s (b.drop 32) n,
    supers := (List.range m).map (fun k =>
      let r := slice b (so + 12 * k) 12
      { first := u16At r 0, width := u8At r 2, below := u16At r 4, off := u32At r 8 }),
    rows := u16s (b.drop ro) (u32At b 12) }

/-- The rows below a supernode. -/
def Elim.below (e : Elim) (s : Super) : List Nat := (e.rows.drop s.off).take s.below

/-- A list increases strictly. -/
def rising : List Nat → Bool
  | [] => true
  | [_] => true
  | a :: b :: r => decide (a < b) && rising (b :: r)

/-- The supernodes cover the positions in order. -/
def supersCover : List Super → Nat → Nat → Bool
  | [], pos, n => decide (pos = n)
  | s :: r, pos, n =>
    decide (s.first = pos) && decide (1 ≤ s.width) && decide (s.width ≤ 64) && decide (s.width + s.below ≤ 4096) && supersCover r (pos + s.width) n

/-- Their rows tile `ROWS` exactly, in any order: each entry belongs to one supernode. -/
def supersTile (l : List Super) (len : Nat) : Bool :=
  let total := (l.map (·.below)).foldl (· + ·) 0
  decide (total = len) && l.all (fun s => decide (s.off + s.below ≤ len)) &&
  l.all (fun s => l.all (fun u => decide (s.first = u.first) || decide (s.below = 0) || decide (u.below = 0) || decide (s.off + s.below ≤ u.off) || decide (u.off + u.below ≤ s.off)))

/-- The supernode of a position. -/
def Elim.superAt (e : Elim) (p : Nat) : Option Super :=
  e.supers.find? (fun s => decide (s.first ≤ p) && decide (p < s.first + s.width))

/-- The structure holds an entry at two positions. -/
def Elim.holds (e : Elim) (a b : Nat) : Bool :=
  let j := min a b
  let i := max a b
  match e.superAt j with
  | none => false
  | some s => decide (i < s.first + s.width) || (e.below s).contains i

/-- The rows of a supernode: increasing, above it, below `N_UNK`; and the structure is closed. -/
def Elim.superOk (e : Elim) (s : Super) : Bool :=
  let l := e.below s
  rising l && l.all (fun r => decide (s.first + s.width ≤ r) && decide (r < e.nUnk)) &&
  (match l with
   | [] => true
   | f :: r =>
     match e.superAt f with
     | none => false
     | some p => r.all (fun x => decide (x < p.first + p.width) || (e.below p).contains x))

/-- Whether a node record is a network's reference node. -/
def isRef (img : Octets) (n : Nat) : Bool :=
  (List.range 4).any (fun w => netUsed img w && decide (u16At (recOf img 0 w) 2 = n))

/-- The unknowns in their numbering: node and side (0 supply, 1 return); a reference node has its supply head only (R196). -/
def unknowns (img : Octets) : List (Nat × Nat) :=
  (List.range (secCount img 1)).flatMap (fun n => if isRef img n then [(n, 0)] else [(n, 0), (n, 1)])

/-- The elimination position of a head, if it is unknown. -/
def Elim.posOf (e : Elim) (u : List (Nat × Nat)) (h : Nat × Nat) : Option Nat :=
  match (List.range u.length).find? (fun i => decide (nth (0, 0) u i = h)) with
  | none => none
  | some k => (List.range e.perm.length).find? (fun i => decide (nth 0 e.perm i = k))

/-- `SIDE` of a branch; a cross branch goes from supply to return whatever its record says (R84). -/
def brSide (img : Octets) (b : Nat) : Nat := if 4 ≤ brKind img b then 3 else u8At (recOf img 2 b) 9

/-- The pairs of heads a branch joins: a mirrored pipe one on each side, a cross branch supply and return. -/
def brHeads (img : Octets) (b : Nat) : List ((Nat × Nat) × (Nat × Nat)) :=
  let f := brFrom img b
  let t := brTo img b
  match brSide img b with
  | 0 => [((f, 0), (t, 0)), ((f, 1), (t, 1))]
  | 1 => [((f, 0), (t, 0))]
  | 2 => [((f, 1), (t, 1))]
  | _ => [((f, 0), (t, 1))]

/-- Every pair a branch joins lies in the structure. -/
def Elim.joined (e : Elim) (img : Octets) (b : Nat) : Bool :=
  let u := unknowns img
  (brHeads img b).all (fun h =>
    match e.posOf u h.1, e.posOf u h.2 with
    | some i, some j => decide (i = j) || e.holds i j
    | _, _ => true)

/-- Σ of c(c+1)/2 over the columns of a supernode (R196). -/
def Super.work (s : Super) : Nat :=
  ((List.range s.width).map (fun k => let c := s.width - 1 - k + s.below
                                      c * (c + 1) / 2)).foldl (· + ·) 0

/-- R197. -/
def elimOk (img : Octets) : Bool :=
  let e := elimOf img
  let used := ((List.range 4).filter (netUsed img)).length
  let b := section_ img 10
  decide (b.length = up4 (up4 (32 + 2 * e.nUnk) + 12 * e.supers.length + 2 * e.rowLen)) &&
  decide (e.nUnk + used = 2 * secCount img 1) && decide (1 ≤ e.supers.length) && decide (e.supers.length ≤ e.nUnk) &&
  (List.range e.nUnk).all (fun i => e.perm.contains i) &&
  supersCover e.supers 0 e.nUnk && supersTile e.supers e.rowLen && e.supers.all e.superOk &&
  (List.range (secCount img 2)).all (e.joined img) &&
  decide (e.nz = (e.supers.map (fun s => s.width * (s.width + 1) / 2 + s.width * s.below)).foldl (· + ·) 0) &&
  decide (e.nz = u32At img 52) && decide (e.work = (e.supers.map Super.work).foldl (· + ·) 0) && decide (e.nz ≤ 1048576)

/-! ### Scale table, groups, boundaries, hash -/

/-- ⌈log₂ n⌉ for n > 0. -/
def clog2 (n : Nat) : Nat := if 2 ^ n.log2 = n then n.log2 else n.log2 + 1

/-- A scale record satisfies R101 and R102. -/
def scaleOk (img : Octets) (k : Nat) : Bool :=
  let r := recOf img 11 k
  let c := u8At r 0
  let el := u16At r 2
  let m := u32At r 4
  let cnt := fun s => secCount img s
  decide (1 ≤ c) && decide (c ≤ 12) && decide (0 < m) && decide (i8At r 1 = (clog2 m : Int) + i8At r 8 - 29) &&
  (decide (el = 65535) ||
    (match c with
     | 1 => decide (el < cnt 1) | 2 => decide (el < cnt 2) | 3 => decide (el < cnt 1) | 4 => decide (el < cnt 5)
     | 5 => decide (el < cnt 5) | 6 => decide (el < cnt 6) | 12 => decide (el < cnt 2) | _ => false)) &&
  (List.range k).all (fun j => let q := recOf img 11 j
                               decide (u8At q 0 ≠ c) || decide (u16At q 2 ≠ el))

/-- Check 14. -/
def chk14 (img : Octets) : Option (Nat × Nat) :=
  firstOf [checkRecs 14 (secCount img 11) (scaleOk img),
    checkAll 14 ((List.range 12).all (fun c => (List.range (secCount img 11)).any (fun k =>
      let r := recOf img 11 k
      decide (u8At r 0 = c + 1) && decide (u16At r 2 = 65535))))]

/-- Check 15. -/
def chk15 (img : Octets) : Option (Nat × Nat) :=
  firstOf [checkRecs 15 (secCount img 8) (fun g =>
      let r := recOf img 8 g
      let n := u8At r 4
      (List.range 512).any (fun c => decide ((imgChan img c).type = 3) && decide ((imgChan img c).element = g)) &&
      decide (sumI ((List.range n).map (fun b => i16At r (18 + 8 * b))) ≤ 32768) &&
      (slice r (16 + 8 * n) (8 * (4 - n))).all (fun x => decide (x = 0))),
    checkRecs 15 512 (fun c => decide ((imgChan img c).type ≠ 3) || decide ((imgChan img c).weight ≠ 0))]

/-- Check 16. -/
def chk16 (img : Octets) : Option (Nat × Nat) :=
  let bn := (List.range (secCount img 1)).filter (fun n => decide (nodeKind img n = 5))
  match bn.find? (fun n => decide (2 < u8At (recOf img 1 n) 7) ||
      bn.any (fun m => decide (m < n) && decide (u8At (recOf img 1 m) 6 = u8At (recOf img 1 n) 6))) with
  | some n => some (16, n)
  | none => checkAll 16 (decide (bn.length = u16At img 46))

/-- The topology hash (R103). -/
def topoHash (img : Octets) : Nat :=
  crc32c ((List.range 10).flatMap (fun i => (recsOf img i).flatMap (fun r => r.take (secTopo i))) ++
    section_ img 10 ++ slice img 24 4)

/-- The first check of R104 that an image fails, with the record at fault; none where it passes. `pos` the straps, `n` the
horizon in force. -/
def modelFault (pos n : Nat) (img : Octets) : Option (Nat × Nat) :=
  if ¬ imgCrcOk img then some (1, noRec)
  else if u32At img 0 ≠ 0x494D5850 ∨ u16At img 4 ≠ 1 ∨ u16At img 6 ≠ 256 then some (2, noRec)
  else
    match chk3 img with
    | some x => some x
    | none =>
      if ¬ chk4 img then some (4, noRec)
      else
        match chk5 img with
        | some x => some x
        | none =>
          firstOf
            [checkAll 6 (decide (imgPosition img = pos)), chk7 img, chk8 img,
             checkRecs 9 (secCount img 5) (fun k => curveOk (recOf img 5 k)), chk10 img,
             checkRecs 11 4 (chk11Net img), checkRecs 11 (secCount img 2) (chk11Br img),
             checkAll 12 (elimOk img), checkAll 13 (decide (n * (imgDec img + imgStates img) ^ 2 * 4 ≤ 50331648)),
             chk14 img, chk15 img, chk16 img, checkAll 17 (decide (topoHash img = imgTopo img))]

end Machine
end Sys2Proof
end

