-- ==== Sys2Proof/Machine/Values.lean ====
section
/-! DEFINITION. What the engines read of one another: the channel map and scale table of the active image, channel values and
status words, plan values and hint words, set-point words, who holds the lease. -/

namespace Sys2Proof
namespace Machine

/-! ## The active image -/

/-- The active image; no octets where none is active (R109). -/
def State.img (s : State) : Octets := s.model.active.getD []

/-- The channel map record of channel `c` (R91); UNUSED without a model. -/
def State.chanOf (s : State) (c : Nat) : ChanRec :=
  match s.model.active with
  | some img => imgChan img c
  | none => chanRec [0, 0xFF, 0xFF, 0xFF, 0xFF, 0xFF, 0xFF, 0xFF, 0xFF, 0, 0, 0, 0, 0, 0, 0]

/-- The type of channel `c` (R92). -/
def State.chanType (s : State) (c : Nat) : Nat := (s.chanOf c).type

/-- The scale code of a class and element in an image (R101): its override, else the class default, else none. -/
def imgScOpt (img : Octets) (cls el : Nat) : Option Int :=
  let rs := (recsOf img 11).filter (fun r => decide (u8At r 0 = cls))
  match rs.find? (fun r => decide (u16At r 2 = el) && decide (el ≠ 65535)) with
  | some r => some (i8At r 1)
  | none => (rs.find? (fun r => decide (u16At r 2 = 65535))).map (fun r => i8At r 1)

/-- The scale code of a class default in an image, 0 where the table gives none. -/
def imgSc (img : Octets) (cls : Nat) : Int := (imgScOpt img cls 65535).getD 0

/-- The scale code of a class for an element (R101, R102): its override, else the class default. -/
def elSc (img : Octets) (cls el : Nat) : Int := (imgScOpt img cls el).getD 0

/-- The scale code of a class default in the active image (R102). -/
def State.classSc (s : State) (cls : Nat) : Int := imgSc s.img cls

/-! ## Channel values (R296, R297, R321, R332) -/

/-- A channel. -/
def State.chan (s : State) (c : Nat) : Chan := Tab.get {} s.heat.chans c
/-- Replace a channel. -/
def State.setChan (s : State) (c : Nat) (v : Chan) : State :=
  { s with heat := { s.heat with chans := Tab.put {} s.heat.chans c v } }
/-- Change a channel. -/
def State.modChan (s : State) (c : Nat) (f : Chan → Chan) : State := s.setChan c (f (s.chan c))

/-- The last report of channel `c` is fresh: it arrived within `REPORT_TIMEOUT` (R296). -/
def State.chanFresh (s : State) (c : Nat) : Bool :=
  (s.chan c).got && decide (s.clk.dev < (s.chan c).arrival + s.nat (0x4000 + c) 1 * 1000000)

/-- Value `k` of channel `c`: raw and scale code (R297). -/
def State.chanValue (s : State) (c k : Nat) : Int × Int := nth (0, 0) (s.chan c).vals k

/-- A thermal store channel: type STORE whose element names a store. -/
def ChanRec.thermalStore (r : ChanRec) : Bool := decide (r.type = 5) && decide (r.element < 0x8000)
/-- A battery channel. -/
def ChanRec.battery (r : ChanRec) : Bool := decide (r.type = 5) && decide (0x8000 ≤ r.element)

/-- The channel's word of the I area (R332): status word in [15:0], `FRESH` in bit 16. -/
def State.chanWord (s : State) (c : Nat) : Nat :=
  let r := s.chanOf c
  (if r.thermalStore ∨ ¬ (s.chan c).got then 0 else unsigned 16 (s.chanValue c 7).1) + 65536 * b2n (s.chanFresh c)

/-! ## Plan values (R173, R174, R181) -/

/-- The class of a plan-value index; none where the index is reserved. -/
def planClass (i : Nat) : Option Nat :=
  if i < 0x40 then some 4
  else if i < 0x80 then some 5
  else if i < 0x88 then some 3
  else if i = 0x88 then some 5
  else if 0x90 ≤ i ∧ i < 0xB0 then some 4
  else if 0xB0 ≤ i ∧ i < 0xB8 then some 5
  else if 0xC0 ≤ i ∧ i < 0x140 then some 5
  else if 0x140 ≤ i ∧ i < 0x180 then some 4
  else none

/-- The scale code of plan value `i`: that of its class, with a plant's override (R101, R174). -/
def State.planSc (s : State) (i : Nat) : Int :=
  match planClass i with
  | some c => if i < 0x80 then elSc s.img c (i % 0x40) else s.classSc c
  | none => 0

/-- The index lies in one of the rows of R174. -/
def planIndexOk (i : Nat) : Bool := (planClass i).isSome

/-- Plan value `i` as delivered: raw and scale code (R174). -/
def State.planValue (s : State) (i : Nat) : Int × Int :=
  match Tab.find s.disp.plan.values i with
  | some v => v
  | none => (0, s.planSc i)

/-- The version of the plan values a loop evaluation uses (R173). -/
def State.planVersion (s : State) : Nat := s.disp.plan.valVersion

/-- Words 0x800 and 0x801 of the I area (R332): version and step as delivered (R173, R175); the flags as they stand (DEDUCED: withdrawal
and staleness are not delivered by a step; log 107). -/
def State.planWord0 (s : State) : Nat := s.disp.delVersion
def Plan.flags (p : Plan) : Nat := b2n p.stale + 2 * b2n p.withdrawn + 4 * b2n p.exhausted
def State.planWord1 (s : State) : Nat := s.disp.delStep % 65536 + 65536 * s.disp.plan.flags
/-- The hint word of plant `p` as delivered (R172, R173). -/
def State.hintIn (s : State) (p : Nat) : Nat := Tab.get 0 s.disp.delHints p
/-- `PLAN_STATUS` of the plan in force (R181). -/
def State.planStatusByte (s : State) : Nat := s.disp.plan.status

/-! ## Set-point words (R298) -/

/-- The set-point words a channel's type takes from the plan (R173), as a mask of words 0 to 3. -/
def State.planWords (s : State) (c : Nat) : Nat :=
  let r := s.chanOf c
  match r.type with
  | 4 => 3
  | 5 => 1
  | 3 => 2 ^ u8At (recOf s.img 8 r.element) 4 - 1
  | 1 | 2 => if (nth 0 (s.oct 0x2800 7) (c / 8)).toNat.testBit (c % 8) then 1 else 0
  | _ => 0

/-- The set-point words 4 to 7 that a loop not OFF owns, as a mask (R298). -/
def State.loopWords (s : State) (c : Nat) : Nat :=
  s.ctrl.loops.foldl (fun (m : Nat) (e : Nat × Loop) =>
    let d := s.oct (0x3000 + e.1) 5
    let kind := u8At d 60
    if e.2.state ≠ .off ∧ kind = 3 then
      let i := u16At d (62)
      let w := u8At d (61)
      if i = c ∧ 4 ≤ w ∧ w ≤ 7 then m ||| 2 ^ w else m
    else m) 0

/-- Write a set-point word; a change of an owned word is remembered until its frame is queued (R298). -/
def State.setSpWord (s : State) (c w : Nat) (raw sc : Int) : State :=
  let v := s.chan c
  if Tab.get (0, 0) v.sp w = (raw, sc) then s
  else s.setChan c { v with sp := Tab.put (0, 0) v.sp w (raw, sc),
                            spChanged := some (v.spChanged.getD s.clk.dev) }

/-! ## Pulse inputs, lease -/

/-- The accepted levels of the pulse inputs (R332). -/
def State.piLevels (s : State) : Nat :=
  s.heat.pulses.foldl (fun (m : Nat) (e : Nat × PulseIn) => if e.2.level ∧ e.1 < 32 then m ||| 2 ^ e.1 else m) 0

/-- Single operation (R437). -/
def State.single (s : State) : Bool := decide (s.lease.cfg = 0) || s.lease.strapBad

/-- The lane holds an unexpired lease (R442, R443). -/
def State.leaseHolder (s : State) : Bool :=
  decide (s.lease.state = 2) && (s.single || decide (s.now < s.lease.timer))

/-- The CAN port of the redundancy heartbeats (R439). -/
def State.heartbeatPort (s : State) : Option Nat :=
  if s.single ∨ s.nat 0x6400 6 = 255 ∨ s.nat 0x6400 5 = 255 then none else some (s.nat 0x6400 5)

/-- Operating inputs may be written on this lane (R100). -/
def State.inputsHeld (s : State) : Bool := s.single || s.leaseHolder

/-- The holder with `OWN` high drives the ports (R449). -/
def State.drives (s : State) : Bool := s.lease.own && s.leaseHolder

/-- The lane drives: in single operation; in triplex, where every lane computes; in duplex the holder with `OWN` high (R442, R453). -/
def State.acts (s : State) : Bool := s.single || decide (s.lease.cfg = 2) || s.drives

/-- Loops that are not OFF. -/
def State.loopsOn (s : State) : Nat := (s.ctrl.loops.filter (fun e => decide (e.2.state ≠ .off))).length

/-- One more loop would exceed the mirror content of a duplex holder's cycle (R454). -/
def State.mirrorFull (s : State) : Bool :=
  !s.single && decide (s.lease.cfg = 1) && s.leaseHolder && decide (200 * s.lease.tR < 64 * (s.loopsOn + 1))

/-- Content waits to be mirrored to the other lanes (R453); the holder alone mirrors. -/
def State.mirror (s : State) (x : MirrorItem) : State :=
  if s.single ∨ ¬ s.leaseHolder then s else { s with lease := { s.lease with outbox := s.lease.outbox ++ [x] } }

end Machine
end Sys2Proof
end

