-- ==== Sys2Proof/Machine/Can.lean ====
section
/-! DEFINITION. The CAN FD ports (R356–R375, R380–R383): port states, transmit buffers and arbitration, cancels, filters and
receive queues, errors and duplicate identifiers, the spare controller, and their entries. -/

namespace Sys2Proof
namespace Machine

def State.port (s : State) (p : Nat) : CanPort := Tab.get {} s.net.ports p
/-- Replace a port. -/
def State.setPort (s : State) (p : Nat) (v : CanPort) : State :=
  { s with net := { s.net with ports := Tab.put {} s.net.ports p v } }
/-- Change a port. -/
def State.modPort (s : State) (p : Nat) (f : CanPort → CanPort) : State := s.setPort p (f (s.port p))

/-- The lane's own node (R359). -/
def State.laneNode (s : State) : Nat := if s.lease.strapBad then 0 else s.power.straps.lane

/-- An extended identifier of R359. -/
def canId (cls fn src dst tag : Nat) : Nat :=
  cls % 8 * 67108864 + fn % 64 * 1048576 + src % 128 * 8192 + dst % 128 * 64 + tag % 64

/-- The class of an extended identifier. -/
def classOf (id : Nat) : Nat := id / 67108864 % 8

/-- Pad to the next FD length (R359). -/
def fdPad (b : Octets) : Octets :=
  let n := b.length
  let l := if n ≤ 8 then n else if n ≤ 12 then 12 else if n ≤ 16 then 16 else if n ≤ 20 then 20 else if n ≤ 24 then 24
    else if n ≤ 32 then 32 else if n ≤ 48 then 48 else 64
  b ++ zeros (l - n)

/-- An own frame: extended, FD, with the bit-rate switch where the port's options set it. -/
def State.ownFrame (s : State) (p id : Nat) (data : Octets) : CanFrame :=
  { ext := true, fd := true, brs := bitOf (s.nat (0x1200 + p) 5) 1, id := id, data := fdPad data }

/-! ## Transmit buffers (R362–R368) -/

/-- A transmit buffer. -/
def CanPort.buf (v : CanPort) (b : Nat) : TxBuf := Tab.get {} v.bufs b
/-- Replace a buffer. -/
def CanPort.setBuf (v : CanPort) (b : Nat) (x : TxBuf) : CanPort := { v with bufs := Tab.put {} v.bufs b x }

/-- First and last buffer of the producer that owns buffer `b` (R362). -/
def producerOf (b : Nat) : Nat × Nat :=
  if b < 4 then (b, b) else if b < 6 then (4, 5) else if b < 14 then (6, 13) else if b < 22 then (14, 21)
  else if b < 26 then (22, 25) else (26, 31)

/-- The held frame a producer places next: the set-point and command producer in channel order, the others oldest first. -/
def nextHeld (l : List (Nat × CanFrame × Option Nat)) (first : Nat) : Option (Nat × CanFrame × Option Nat) :=
  let mine := l.filter (fun e => decide (e.1 = first))
  match mine with
  | [] => none
  | e :: r => some (r.foldl (fun a b => if b.2.2.getD 0 < a.2.2.getD 0 then b else a) e)

/-- Load a frame into a free buffer. -/
def CanPort.load (v : CanPort) (b : Nat) (f : CanFrame) (chan : Option Nat) : CanPort :=
  v.setBuf b { v.buf b with state := 1, frame := some f, chan := chan, cancel := false, submitted := (v.buf b).submitted + 1 }

/-- Buffer `b` is free: a frame its producer holds back takes it at once (R362). -/
def CanPort.refill (v : CanPort) (b : Nat) : CanPort :=
  match nextHeld v.held (producerOf b).1 with
  | some e => ({ v with held := v.held.erase e }).load b e.2.1 e.2.2
  | none => v

/-- End a buffer's transmission with an outcome (1 DONE, 2 ABORTED) and free it. -/
def CanPort.finish (v : CanPort) (b outcome : Nat) : CanPort :=
  let x := v.buf b
  let v := if outcome = 2 then { v with aborted := v.aborted + 1 } else v
  (v.setBuf b { x with state := 0, frame := none, chan := none, cancel := false, outcome := outcome }).refill b

/-- `CANCEL_LATE` of a buffer's transmission (R365): in `PORT_FLAGS`, counted, and in `APP_TX_STATUS` for an application buffer. -/
def CanPort.tooLate (v : CanPort) (b : Nat) : CanPort :=
  { v.setBuf b { v.buf b with late := (v.buf b).late || decide (b < 4) } with cancelLate := true, lateCount := v.lateCount + 1 }

/-- A cancel request reaches the arbiter for a buffer (R204, R365): pending, ABORTED at once; latched, it waits; after DONE, `CANCEL_LATE`;
after ABORTED, and for a buffer that never held a frame, ignored. -/
def CanPort.cancelBuf (v : CanPort) (b : Nat) : CanPort :=
  let x := v.buf b
  if x.state = 1 then v.finish b 2
  else if x.state = 2 then v.setBuf b { x with cancel := true }
  else if x.outcome = 1 then v.tooLate b
  else v

/-- A latched buffer leaves the bus without completing (R363, R365): pending again, or ABORTED where a cancel waits. -/
def CanPort.unlatch (v : CanPort) (b : Nat) : CanPort :=
  let x := v.buf b
  if x.cancel then v.finish b 2 else v.setBuf b { x with state := 1 }

/-- The latched buffer. -/
def CanPort.latched (v : CanPort) : Option Nat := (v.bufs.find? (fun e => decide (e.2.state = 2))).map (·.1)

/-- A frame in progress ends in an error (R360, R363): in HEARTBEAT_ONLY it is not sent again. -/
def CanPort.errorEnd (v : CanPort) : CanPort :=
  match v.latched with
  | some b => if v.state = .heartbeatOnly then v.finish b 2 else v.unlatch b
  | none => v

/-- Every pending or latched buffer ABORTED (R368). -/
def CanPort.abortAll (v : CanPort) : CanPort :=
  (List.range 32).foldl (fun (v : CanPort) b => if (v.buf b).state = 0 then v else ({ v with held := [] }).finish b 2)
    { v with held := [] }

/-- The frame's identifier as `ID` lays it out (R370). -/
def CanFrame.idWord (f : CanFrame) : Nat :=
  f.id + b2n f.ext * 2147483648 + b2n f.fd * 1073741824 + b2n f.brs * 536870912

/-- An identifier with its format: what R374 suspends. -/
def CanFrame.idKey (f : CanFrame) : Nat := f.id + b2n f.ext * 2147483648
/-- The same of an identifier laid out as `ID`. -/
def keyOfWord (w : Nat) : Nat := w % 536870912 + w / 2147483648 * 2147483648

/-- A frame takes the first free buffer of its producer, or is held. -/
def CanPort.place (v : CanPort) (first last : Nat) (f : CanFrame) (chan : Option Nat) : CanPort :=
  match (List.range (last + 1)).find? (fun b => decide (first ≤ b) && decide ((v.buf b).state = 0)) with
  | some b => v.load b f chan
  | none => { v with held := v.held ++ [(first, f, chan)] }

/-- The channel's frames that the buffers given hold are cancelled (R362, R367). -/
def CanPort.cancelChan (v : CanPort) (c : Nat) (bs : List Nat) : CanPort := bs.foldl (fun v b => v.cancelBuf b) { v with
  held := v.held.filter (fun e => decide (e.2.2 ≠ some c)) }

/-- A producer queues a frame (R362, R374): a suspended identifier is ABORTED at once; an earlier frame of the same channel is
cancelled and the new one placed in another buffer; without a free buffer the frame is held, replacing the channel's held frame. -/
def CanPort.queueFrame (v : CanPort) (first last : Nat) (f : CanFrame) (chan : Option Nat) : CanPort :=
  if v.suspended.contains f.idKey then { v with aborted := v.aborted + 1 }
  else
    let mine := (List.range (last + 1)).filter (fun b => decide (first ≤ b))
    match chan with
    | none => v.place first last f none
    | some c =>
      let old := mine.filter (fun b => decide ((v.buf b).state ≠ 0) && decide ((v.buf b).chan = some c))
      if mine.any (fun b => decide ((v.buf b).state = 0)) then (v.place first last f chan).cancelChan c old
      else (v.cancelChan c old).place first last f chan

/-- A port that is OFF or BUS_OFF takes no frame (R368). -/
def State.sendCan (s : State) (p first last : Nat) (f : CanFrame) (chan : Option Nat) : State :=
  if (s.port p).state = .off ∨ (s.port p).state = .busOff then s
  else s.modPort p (fun v => v.queueFrame first last f chan)

/-- The order of arbitration (R363): base identifier, base frame before extended, extension, buffer index. -/
def arbKey (f : CanFrame) (b : Nat) : Nat :=
  let base := if f.ext then f.id / 262144 else f.id
  ((base * 2 + b2n f.ext) * 262144 + (if f.ext then f.id % 262144 else 0)) * 32 + b

/-- Whether the port may send a frame in its state (R360), FD frames only with `FD_ENABLE` (R356, `fdOn`); the controller that a takeover
replaces sends nothing more (R375). -/
def CanPort.maySend (v : CanPort) (fdOn : Bool) (f : CanFrame) : Bool :=
  (fdOn || !f.fd) && v.takeover.isNone && match v.state with
  | .normal => true
  | .heartbeatOnly => f.ext && decide (classOf f.id = 1)
  | _ => false

/-- A latch point (R363): the pending buffer whose frame would win arbitration is latched. -/
def CanPort.latch (v : CanPort) (fdOn : Bool) : CanPort :=
  if v.latched.isSome then v
  else
    let cand := (List.range 32).filterMap (fun b =>
      match (v.buf b).state, (v.buf b).frame with
      | 1, some f => if v.maySend fdOn f then some (arbKey f b, b) else none
      | _, _ => none)
    match cand with
    | [] => v
    | e :: r =>
      let w := r.foldl (fun a x => if x.1 < a.1 then x else a) e
      v.setBuf w.2 { v.buf w.2 with state := 2 }

/-- The frame that was latched is complete (R364, R365). -/
def State.txDone (s : State) (p : Nat) : State :=
  let v := s.port p
  match v.latched with
  | none => s
  | some b =>
    let x := v.buf b
    let v := v.finish b 1
    let v := if x.cancel then v.tooLate b else v
    let v := { v with txCount := v.txCount + 1, tecErr := v.tecErr - 1 }
    let esi := decide (v.err = 1)
    let s := s.setPort p v
    match x.frame with
    | some f => { s with net := { s.net with sent := s.net.sent ++ [.can p f (f.fd && esi)] } }
    | none => s

/-! ## Port states (R360, R361) -/

/-- The state a lane without the lease runs a port in. -/
def State.listenState (s : State) (p : Nat) : PortState :=
  if s.heartbeatPort = some p ∧ s.lease.state ≠ 3 then .heartbeatOnly else .listenOnly

/-- The state an integrated port takes for its role (R361). -/
def State.roleState (s : State) (p : Nat) : PortState :=
  if s.drives then (if (s.port p).rejoined then .normal else .restricted) else s.listenState p

/-- An event of a port with its counters (R372). -/
def State.postPort (s : State) (code p : Nat) : State :=
  s.post .comm code p [.u8 p, .u16 (s.port p).tecErr, .u16 (s.port p).recErr]

/-- The receive queues of a port that goes OFF are flushed (R412). -/
def State.flushPort (s : State) (p : Nat) : State :=
  let f := fun (s : State) (q : QId) => s.setQueue q ((s.queue q).flush s.ps 4000 12000)
  f (f s (.canA p)) (.canB p)

/-- A port goes OFF (R361): pending buffers aborted, pins recessive. -/
def State.portOff (s : State) (p : Nat) : State :=
  (s.modPort p (fun v => { v.abortAll with state := .off, busoffWait := false, recovering := false, takeover := none })).flushPort p

/-- The timing of a port satisfies R357. -/
def State.timingOk (s : State) (p : Nat) : Bool :=
  let n := s.oct (0x1200 + p) 2
  let d := s.oct (0x1200 + p) 3
  let t := s.oct (0x1200 + p) 4
  let nq := u8At n 0 * (1 + u16At n 2 + u8At n 4)
  let dq := u8At d 0 * (1 + u8At d 1 + u8At d 2)
  decide (80 ≤ nq ∧ nq ≤ 640) && decide (10 ≤ dq ∧ dq ≤ nq) && decide (u8At n 5 ≤ u8At n 4) &&
  decide (u8At d 3 ≤ u8At d 2) && (decide (u8At t 0 = 0) || decide (u8At d 0 ≤ 2))

/-- TEC and REC are set to 0: the port is error-active, and a change of its error state is logged (R361, R372, R375). -/
def State.zeroErr (s : State) (p : Nat) : State :=
  let v := s.port p
  let s := s.setPort p { v with tecErr := 0, recErr := 0, err := 0 }
  if v.err = 0 then s else s.postPort Code.canErrorActive p

/-- A write of `PORT_ENABLE` (R358, R361). -/
def State.portEnable (s : State) (p v : Nat) : WRes :=
  let q := s.port p
  if v = 0 then .done ((s.store (0x1200 + p) 1 [0]).portOff p)
  else if ¬ s.timingOk p then .refuse 0x0A05 s
  else if q.lostCtl ∨ q.state ≠ .off then .done (s.store (0x1200 + p) 1 [1])
  else .done (((s.store (0x1200 + p) 1 [1]).modPort p (fun v => { v with state := .integrating })).zeroErr p)

/-- The ranges of the timing and option entries (R380). -/
def canFieldsOk (sub : Nat) (b : Octets) : Bool :=
  match sub with
  | 2 => decide (b.length = 8) && decide (1 ≤ u8At b 0 ∧ u8At b 0 ≤ 32) && decide (u8At b 1 = 0) &&
    decide (2 ≤ u16At b 2 ∧ u16At b 2 ≤ 256) && decide (2 ≤ u8At b 4 ∧ u8At b 4 ≤ 128) &&
    decide (1 ≤ u8At b 5 ∧ u8At b 5 ≤ 128) && decide (u16At b 6 = 0)
  | 3 => decide (b.length = 4) && decide (1 ≤ u8At b 0 ∧ u8At b 0 ≤ 32) && decide (1 ≤ u8At b 1 ∧ u8At b 1 ≤ 32) &&
    decide (1 ≤ u8At b 2 ∧ u8At b 2 ≤ 16) && decide (1 ≤ u8At b 3 ∧ u8At b 3 ≤ 16)
  | 4 => decide (b.length = 4) && decide (u8At b 0 ≤ 1) && decide (u8At b 1 ≤ 127) && decide (u8At b 2 ≤ 127) &&
    decide (u8At b 3 = 0)
  | _ => true

/-- The entries `0x1200`+p (R358, R380). -/
def State.portWrite (s : State) (p sub : Nat) (b : Octets) : WRes :=
  if sub = 1 then s.portEnable p (leNat b)
  else if ¬ canFieldsOk sub b then .refuse 0x0A05 s
  else if 2 ≤ sub ∧ sub ≤ 5 ∧ s.nat (0x1200 + p) 1 = 1 then .refuse 0x0A06 s
  else .done (s.store (0x1200 + p) sub b)

/-- 11 recessive bits in INTEGRATING (R361): the state of the port's role; a takeover is complete and logged (R375). -/
def State.portIntegrated (s : State) (p : Nat) : State :=
  let v := s.port p
  if v.state ≠ .integrating ∨ (v.takeover.isSome ∧ v.controller ≠ 8) then s
  else
    let s := s.setPort p { v with state := s.roleState p, restrictSince := s.now, takeover := none }
    match v.takeover with
    | some t0 => s.post .comm Code.canTakeover p [.u8 p, .time t0, .time s.clk.dev]
    | none => s

/-- `RESTRICT_MAX` passes without a detected error (R361). -/
def State.restrictTimeout (s : State) (p : Nat) : State :=
  let v := s.port p
  if v.state = .restricted ∧ s.leaseHolder ∧ v.restrictSince + s.nat (0x1200 + p) 6 * 1000000 ≤ s.now then
    s.setPort p { v with state := .normal, rejoined := true }
  else s

/-- The mode of a port at the next bus idle after a lease change (R361). -/
def State.portMode (s : State) (p : Nat) : State :=
  let v := s.port p
  match v.state with
  | .restricted | .normal => if s.drives then s else s.setPort p { v with state := s.listenState p }
  | .listenOnly | .heartbeatOnly => if s.drives then s.setPort p { v with state := s.roleState p, restrictSince := s.now }
    else s.setPort p { v with state := s.listenState p }
  | _ => s

/-- On loss of the lease every pending buffer of classes 0 and 3 is cancelled (R361, R367). -/
def State.canLeaseLost (s : State) : State :=
  (List.range 8).foldl (fun s p => s.modPort p (fun v =>
    (List.range 32).foldl (fun (v : CanPort) b =>
      match (v.buf b).frame with
      | some f => if f.ext ∧ (classOf f.id = 0 ∨ classOf f.id = 3) then v.cancelBuf b else v
      | none => v) { v with held := v.held.filter (fun e => decide (e.1 ≠ 14)) })) s

/-! ## Errors (R372–R374) -/

/-- The error state that the counters give: 0 error-active, 1 error-passive. -/
def CanPort.confine (v : CanPort) : Nat := if 127 < v.tecErr ∨ 127 < v.recErr then 1 else 0

/-- The error state follows the counters, and a change is logged (R372). -/
def State.errState (s : State) (p : Nat) : State :=
  let v := s.port p
  if v.err = 2 ∨ v.confine = v.err then s
  else
    let s := s.setPort p { v with err := v.confine }
    s.postPort (if v.confine = 1 then Code.canErrorPassive else Code.canErrorActive) p

/-- TEC above 255 (R361): BUS_OFF. -/
def State.busOffCheck (s : State) (p : Nat) : State :=
  let v := s.port p
  if v.state = .normal ∧ 255 < v.tecErr then
    let v := v.abortAll
    (s.setPort p { v with state := .busOff, err := 2, busOffs := v.busOffs + 1,
                          busoffWait := bitOf (s.nat (0x1200 + p) 5) 2, recovering := !bitOf (s.nat (0x1200 + p) 5) 2 }).postPort
      Code.canBusOff p
  else s

/-- The pair of an identifier, laid out as `ID`, and a position. -/
def DupPair.names (id pos : Nat) (x : DupPair) : Bool := decide (keyOfWord x.id = keyOfWord id) && decide (x.pos = pos)

/-- The pairs that recurred within 10 s (R374). -/
def CanPort.freshPairs (v : CanPort) (now : Nat) : List DupPair := v.pairs.filter (fun x => decide (now < x.last + 10000000000))

/-- A pair after a recurrence. -/
def dupHit (l : List DupPair) (id pos now : Nat) (own : Bool) : List DupPair :=
  match l.find? (DupPair.names id pos) with
  | some x =>
    (l.filter (fun y => !y.names id pos)) ++
      [{ x with count := x.count + 1, last := now, own := x.own && own }]
  | none => (if l.length < 4 then l else l.drop 1) ++ [{ id := id, pos := pos, count := 1, last := now, own := own }]

/-- Buffers that hold a suspended identifier are ABORTED. -/
def CanPort.suspend (v : CanPort) (id : Nat) : CanPort :=
  (List.range 32).foldl (fun (v : CanPort) b =>
    match (v.buf b).frame with
    | some f => if f.idKey = id ∧ (v.buf b).state = 1 then v.finish b 2 else v
    | none => v)
    { v with suspended := insRising id v.suspended, held := v.held.filter (fun e => decide (e.2.1.idKey ≠ id)),
             aborted := v.aborted + (v.held.filter (fun e => decide (e.2.1.idKey = id))).length }

/-- A data-field error (R374), the pairs kept least recently used first; the 16th raises DUP_ID. -/
def State.dataFieldError (s : State) (p id pos : Nat) (own : Bool) : State :=
  let v := s.port p
  let v := { v with pairs := dupHit (v.freshPairs s.now) id pos s.now own }
  match v.pairs.find? (DupPair.names id pos) with
  | some x =>
    if x.count = 16 then
      let v := { v with dupId := true, dupRecId := id, dupRecPos := pos, dupRecSusp := x.own, dupEvents := v.dupEvents + 1 }
      let v := if x.own then v.suspend (keyOfWord id) else v
      (s.setPort p v).post .comm Code.dupId p [.u32 id, .u16 pos]
    else s.setPort p v
  | none => s

/-- CAN_CLK stops (R357): a frame in progress ends in an error, and each port integrates again once the clock returns. -/
def State.canClockStops (s : State) : State :=
  (List.range 8).foldl (fun s p => s.modPort p (fun v =>
    match v.state with
    | .off | .busOff => v
    | _ => { v.errorEnd with state := .integrating })) s

/-- A bus error (R361, R363, R365, R372, R374). The counters step as the standard says: TEC by 8 as transmitter. -/
def State.frameError (s : State) (p : Nat) (e : BusErr) : State :=
  let v := s.port p
  if v.state = .off ∨ v.state = .busOff then s
  else match e with
  | .protocolException => s.setPort p { v.errorEnd with protoExc := true, state := .integrating }
  | .asTx df =>
    let v := { v with errFrames := v.errFrames + 1, tecErr := v.tecErr + 8, restrictSince := s.now }
    let s := s.setPort p v.errorEnd
    let s := match df with
      | some (id, pos) => s.dataFieldError p id pos true
      | none => s
    (s.errState p).busOffCheck p
  | .asRx k df =>
    let s := s.setPort p { v with errFrames := v.errFrames + 1, recErr := v.recErr + k, restrictSince := s.now }
    let s := match df with
      | some (id, pos) => s.dataFieldError p id pos false
      | none => s
    s.errState p

/-- 128 occurrences of 11 recessive bits end the recovery (R361, R373). -/
def State.canRecovered (s : State) (p : Nat) : State :=
  let v := s.port p
  if v.state = .busOff ∧ v.recovering then
    (s.setPort p { v with state := .integrating, tecErr := 0, recErr := 0, err := 0, recovering := false,
                          busoffWait := false }).postPort Code.canRecovered p
  else s

/-- Tracked pairs without recurrence for 10 s are dropped (R374). -/
def State.dupExpire (s : State) (p : Nat) : State :=
  s.modPort p (fun v => { v with pairs := v.freshPairs s.now })

/-! ## Receiving (R369, R370) -/

/-- Filter pair `k` of a port. -/
def State.filterPair (s : State) (p k : Nat) : Octets := slice (s.oct (0x5840 + p) 0x41) (12 * k) 12

/-- Whether a pair passes a frame (R369). -/
def passes (b : Octets) (f : CanFrame) : Bool :=
  let fl := u8At b 8
  let m := if f.ext then u32At b 0 % 536870912 else u32At b 0 % 2048
  bitOf fl 0 && (bitOf fl 1 == f.ext) && decide (Nat.land (Nat.xor f.id (u32At b 4)) m = 0)

/-- The first pair that passes a frame. -/
def State.filterOf (s : State) (p : Nat) (f : CanFrame) : Option Nat :=
  (List.range 64).find? (fun k => passes (s.filterPair p k) f)

/-- A frame received without error counts towards `REJOINED` and ends RESTRICTED (R360, R361). -/
def State.goodFrame (s : State) (p : Nat) : State :=
  let v := s.port p
  let v := { v with good := v.good + 1, rxCount := v.rxCount + 1,
                    recErr := if 127 < v.recErr then 127 else v.recErr - 1 }
  let v := if 128 ≤ v.good then { v with rejoined := true } else v
  let v := if v.state = .restricted ∧ v.rejoined ∧ s.leaseHolder then { v with state := .normal } else v
  (s.setPort p v).errState p

/-- A passed frame enters its queue, or is lost while the queue is full (R370). -/
def State.rxStore (s : State) (p k : Nat) (f : CanFrame) (esi : Bool) : State :=
  let fl := u8At (s.filterPair p k) 8
  let inB := bitOf fl 2
  let q : QId := if inB then .canB p else .canA p
  let v := s.port p
  let room := s.hasRoom q
  let e : CanRx := { time := s.clk.dev, frame := f, esi := esi, filter := k, lostBefore := if inB then v.lostB else v.lostA,
                     monitor := bitOf fl 3 }
  let v := if room then (if inB then { v with lostB := false } else { v with lostA := false })
    else if inB then { v with overrunB := true, ovrB := v.ovrB + 1, lostB := true }
    else { v with overrunA := true, ovrA := v.ovrA + 1, lostA := true }
  (s.setPort p v).pushQ q (.rx e)

/-- A valid frame reaches a port (R356, R369): remote frames are discarded and counted; an FD frame without `FD_ENABLE` is a
format error; the rest is filtered. -/
def State.frameReceive (s : State) (p : Nat) (f : CanFrame) (esi remote : Bool) : State :=
  let v := s.port p
  match v.state with
  | .off | .integrating | .busOff => s
  | _ =>
    if v.takeover.isSome then s
    else if f.fd ∧ ¬ bitOf (s.nat (0x1200 + p) 5) 0 then s.frameError p (.asRx 1 none)
    else
      let s := s.goodFrame p
      if remote then s.modPort p (fun v => { v with remotes := v.remotes + 1 })
      else match s.filterOf p f with
      | none => s.modPort p (fun v => { v with rxFiltered := v.rxFiltered + 1 })
      | some k => s.rxStore p k f esi

/-- A received entry's 80 octets (R370). -/
def CanRx.octets (e : CanRx) : Octets :=
  leBytes 8 e.time ++ leBytes 4 e.frame.idWord ++ leBytes 1 e.frame.data.length ++ leBytes 1 e.filter ++
  leBytes 1 (b2n e.esi + 2 * b2n e.lostBefore) ++ zeros 1 ++ (e.frame.data ++ zeros (64 - e.frame.data.length))

/-! ## Application frames (R366) -/

/-- A length the standard defines for a format. -/
def canLenOk (fd : Bool) (n : Nat) : Bool :=
  decide (n ≤ 8) || (fd && [12, 16, 20, 24, 32, 48, 64].contains n)

/-- A write of `APP_TX_b` (R366). -/
def State.appTx (s : State) (p b : Nat) (x : Octets) : WRes :=
  let w := u32At x 0
  let ext := bitOf w 31
  let fd := bitOf w 30
  let id := if ext then w % 536870912 else w % 2048
  let n := u8At x 4
  let v := s.port p
  if ¬ canLenOk fd n ∨ x.length ≠ 8 + n then .refuse 0x0A04 s
  else if (ext ∧ (classOf id = 1 ∨ classOf id = 2 ∨ classOf id = 3 ∨ classOf id = 6)) ∨ slice x 5 3 ≠ zeros 3 ∨
    (¬ ext ∧ w % 536870912 ≥ 2048) ∨ (bitOf w 29 ∧ ¬ fd) then .refuse 0x0A05 s
  else if v.state ≠ .normal then .refuse 0x0A06 s
  else if (v.buf b).state ≠ 0 then .refuse 0x0A09 s
  else
    let f : CanFrame := { ext := ext, fd := fd, brs := bitOf w 29, id := id, data := x.drop 8 }
    .done (s.modPort p (fun v =>
      if v.suspended.contains f.idKey then
        { v.setBuf b { v.buf b with outcome := 2, submitted := (v.buf b).submitted + 1 } with aborted := v.aborted + 1 }
      else v.load b f none))

/-! ## The spare controller (R375) -/

/-- The spare is free. -/
def State.spareFree (s : State) : Bool := s.net.sparePort.isNone && !s.net.spareFailed

/-- A takeover of port `p` is decided. -/
def State.startTakeover (s : State) (p : Nat) : State :=
  { s.modPort p (fun v => { v with takeover := some s.clk.dev, takeoverGap := true }) with
    net := { (s.modPort p (fun v => { v with takeover := some s.clk.dev, takeoverGap := true })).net with sparePort := some p } }

/-- A second controller failure leaves the port OFF, logged and alarmed. -/
def State.portLost (s : State) (p : Nat) : State :=
  ((s.portOff p).modPort p (fun v => { v with lostCtl := true })).post .comm Code.canPortLost p [.u8 p]

/-- Controller `c` (0–7 of its port, 8 the spare) fails a check in service (R375). -/
def State.controllerFault (s : State) (c : Nat) : State :=
  if c = 8 then
    let s' := ({ s with net := { s.net with spareFailed := true } }).retireElem 3 8 0
    match s.net.sparePort with
    | some p => s'.portLost p
    | none => s'
  else if (s.port c).controller = 8 then s
  else if s.spareFree then (s.startTakeover c).retireElem 3 c 0 else (s.portLost c).countFault 3

/-- Steps 2 and 3 of a takeover (R375): the spare takes timing, filters and pending buffers, and integrates. -/
def State.takeoverDone (s : State) (p : Nat) : State :=
  let v := s.port p
  if v.takeover.isNone ∨ v.controller = 8 then s
  else
    let v := match v.latched with
      | some b => v.unlatch b
      | none => v
    (s.setPort p { v with controller := 8, busoffWait := false, recovering := false,
                          state := if v.state = .off then .off else .integrating }).zeroErr p

/-- A write of `SPARE_REQUEST` (R375). -/
def State.spareRequest (s : State) (p : Nat) : WRes :=
  if s.dev.state ≠ .service then .refuse 0x0A06 s
  else if ¬ s.spareFree then .refuse 0x0A0A s
  else .done (((s.store 0x1208 2 (leBytes 1 p)).startTakeover p).retireElem 3 p 2)

/-! ## Entries (R381–R383) -/

/-- `PORT_FLAGS` (R382). -/
def CanPort.flags (v : CanPort) : Nat :=
  b2n v.busoffWait + 2 * b2n v.protoExc + 4 * b2n v.rejoined + 8 * b2n v.overrunA + 16 * b2n v.overrunB +
  32 * b2n v.cancelLate + 64 * b2n v.dupId + 128 * b2n v.takeoverGap

/-- A filter value has its reserved fields zero (R383). -/
def filterOk (b : Octets) : Bool :=
  decide (b.length = 12) && decide (u32At b 0 < 536870912) && decide (u32At b 4 < 536870912) && decide (u8At b 8 < 16) &&
  decide (slice b 9 3 = zeros 3)

/-- Whether all 64 pairs are allowed. -/
def filtersOk : Octets → Nat → Bool
  | _, 0 => true
  | b, n + 1 => filterOk (b.take 12) && filtersOk (b.drop 12) n

/-- The writes of `0x5800`+p and `0x5840`+p (R365, R366, R369, R373, R374, R381). -/
def State.canWrite (s : State) (idx sub : Nat) (b : Octets) : WRes :=
  if 0x1200 ≤ idx ∧ idx < 0x1208 then s.portWrite (idx - 0x1200) sub b
  else if idx = 0x1208 then s.spareRequest (leNat b)
  else if 0x5800 ≤ idx ∧ idx < 0x5808 then
    let p := idx - 0x5800
    if sub = 8 then .done (s.modPort p (fun v => { v with suspended := [], dupRecSusp := false }))
    else if sub = 9 then
      if (s.port p).state = .busOff ∧ (s.port p).busoffWait then
        .done (s.modPort p (fun v => { v with busoffWait := false, recovering := true }))
      else .refuse 0x0A06 s
    else if sub = 0x0A then
      .done (s.modPort p (fun v =>
        { (List.range 4).foldl (fun v b => v.setBuf b { v.buf b with late := false }) v with
          takeoverGap := false, dupId := false, cancelLate := false, overrunA := false, overrunB := false, protoExc := false }))
    else if 0x0B ≤ sub ∧ sub ≤ 0x0E then s.appTx p (sub - 0x0B) b
    else if sub = 0x0F then
      .done (s.modPort p (fun v => (List.range 4).foldl (fun v k => if bitOf (leNat b) k then v.cancelBuf k else v) v))
    else .plain
  else if 0x5840 ≤ idx ∧ idx < 0x5848 then
    if sub = 0x41 then (if filtersOk b 64 then .done (s.store idx 0x41 b) else .refuse 0x0A05 s)
    else if filterOk b then .done (s.store idx 0x41 (patch (s.oct idx 0x41) (12 * (sub - 1)) b)) else .refuse 0x0A05 s
  else .plain

/-- The counters of `PORT_COUNTS`. -/
def CanPort.counts (v : CanPort) : Octets :=
  [v.rxCount, v.txCount, v.errFrames, v.arbLost, v.busOffs, v.rxFiltered, v.remotes, v.malformed, v.unclaimed, v.ovrA, v.ovrB,
   v.lateCount, v.aborted].flatMap (leBytes 4)

/-- The entries of the CAN ports as read; none for a stored value. -/
def State.canRead (s : State) (idx sub : Nat) : Option Octets :=
  if idx = 0x1208 ∧ sub = 1 then some (leBytes 1 (s.net.sparePort.getD 255))
  else if idx = 0x5808 then
    let v : CanPort := match s.net.sparePort with | some p => s.port p | none => {}
    match sub with
    | 1 => some (leBytes 1 v.state.code)
    | 2 => some (leBytes 1 v.err)
    | 3 => some (leBytes 2 v.tecErr ++ leBytes 2 v.recErr)
    | _ => none
  else if 0x5800 ≤ idx ∧ idx < 0x5808 then
    let p := idx - 0x5800
    let v := s.port p
    match sub with
    | 1 => some (leBytes 1 v.state.code)
    | 2 => some (leBytes 1 v.err)
    | 3 => some (leBytes 2 v.tecErr ++ leBytes 2 v.recErr)
    | 4 => some (leBytes 2 v.flags)
    | 5 => some v.counts
    | 6 => some (leBytes 1 (if v.controller = 8 then 8 else p))
    | 7 => some (leBytes 4 v.dupRecId ++ leBytes 2 v.dupRecPos ++ leBytes 1 (b2n v.dupRecSusp) ++ zeros 1 ++ leBytes 4 v.dupEvents)
    | 0x10 => some ((List.range 4).flatMap (fun b => leBytes 1 (v.buf b).state ++ leBytes 1 (v.buf b).outcome ++
        leBytes 2 (b2n (v.buf b).late) ++ leBytes 4 (v.buf b).submitted))
    | _ => none
  else if 0x5840 ≤ idx ∧ idx < 0x5848 ∧ sub ≠ 0x41 then some (s.filterPair (idx - 0x5840) (sub - 1))
  else if 0x5880 ≤ idx ∧ idx < 0x5888 then
    let p := idx - 0x5880
    match sub with
    | 1 => some (leBytes 4 (s.queue (.canA p)).depth ++ leBytes 4 (s.queue (.canB p)).depth)
    | 2 => some (leBytes 4 (s.queue (.canA p)).peak ++ leBytes 4 (s.queue (.canB p)).peak)
    | 3 =>
      let m := (s.port p).monitor
      some (leBytes 4 (s.port p).monCount ++ m.flatMap CanRx.octets ++ zeros (80 * (256 - m.length)))
    | _ => none
  else none

/-! ## Commands -/

/-- A command of a CAN port. -/
def onPort (t p : Nat) (s : State) (f : State → State) : Out := onUnit (decide (p < 8)) .comm t s f

/-- PORT_INTEGRATED (R361). -/
def execPortIntegrated (t p : Nat) (s : State) : Out := onPort t p s (fun s => s.portIntegrated p)
/-- RESTRICT_TIMEOUT (R361). -/
def execRestrictTimeout (t p : Nat) (s : State) : Out := onPort t p s (fun s => s.restrictTimeout p)
/-- PORT_MODE_CHANGE (R361). -/
def execPortModeChange (t p : Nat) (s : State) : Out := onPort t p s (fun s => s.portMode p)
/-- CAN_LATCH (R363). -/
def execCanLatch (t p : Nat) (s : State) : Out := onPort t p s (fun s => s.modPort p (fun v => v.latch (bitOf (s.nat (0x1200 + p) 5) 0)))
/-- CAN_ARBITRATION_LOST (R363, R365). -/
def execCanArbitrationLost (t p : Nat) (s : State) : Out :=
  onPort t p s (fun s => s.modPort p (fun v =>
    match v.latched with
    | some b => { v.unlatch b with arbLost := v.arbLost + 1 }
    | none => v))
/-- CAN_TX_DONE (R364). -/
def execCanTxDone (t p : Nat) (s : State) : Out := onPort t p s (fun s => (s.txDone p).errState p)
/-- CAN_FRAME_ERROR (R372). -/
def execCanFrameError (t p : Nat) (e : BusErr) (s : State) : Out := onPort t p s (fun s => s.frameError p e)
/-- CAN_RECOVERED (R361). -/
def execCanRecovered (t p : Nat) (s : State) : Out := onPort t p s (fun s => s.canRecovered p)
/-- CAN_FRAME_RECEIVE (R369). -/
def execCanFrameReceive (t p : Nat) (f : CanFrame) (esi remote : Bool) (s : State) : Out :=
  onPort t p s (fun s => s.frameReceive p f esi remote)
/-- DUP_PAIR_EXPIRY (R374). -/
def execDupPairExpiry (t p : Nat) (s : State) : Out := onPort t p s (fun s => s.dupExpire p)
/-- CAN_CONTROLLER_FAULT (R375). -/
def execCanControllerFault (t c : Nat) (s : State) : Out := onUnit (decide (c < 9)) .comm t s (fun s => s.controllerFault c)
/-- CAN_TAKEOVER (R375). -/
def execCanTakeover (t p : Nat) (s : State) : Out := onPort t p s (fun s => s.takeoverDone p)

end Machine
end Sys2Proof
end

