-- ==== Sys2Proof/Machine/Eth.lean ====
section
/-! DEFINITION. The two Ethernet MACs (R376–R379): IPv4, ARP, ICMP echo, UDP transmission, link changes, and their entries. -/

namespace Sys2Proof
namespace Machine

def State.mac (s : State) (m : Nat) : Mac := Tab.get {} s.net.macs m
/-- Change a MAC. -/
def State.modMac (s : State) (m : Nat) (f : Mac → Mac) : State :=
  { s with net := { s.net with macs := Tab.put {} s.net.macs m (f (s.mac m)) } }

/-- Record a message that leaves the device. -/
def State.emit (s : State) (x : Sent) : State := { s with net := { s.net with sent := s.net.sent ++ [x] } }

/-- MAC m's own IPv4 address, mask and gateway, each with octet 0 as the most significant (R379). -/
def State.ipAddr (s : State) (m : Nat) : Nat := beNat (slice (s.oct (0x1100 + m) 2) 0 4)
def State.ipMask (s : State) (m : Nat) : Nat := beNat (slice (s.oct (0x1100 + m) 2) 4 4)
def State.ipGate (s : State) (m : Nat) : Nat := beNat (slice (s.oct (0x1100 + m) 2) 8 4)

/-- The MAC is in service and its link is up. -/
def State.macUp (s : State) (m : Nat) : Bool := decide (s.nat (0x1100 + m) 1 = 1) && decide ((s.mac m).speed ≠ 0)

/-- The address lies in MAC m's subnet. -/
def State.inSubnet (s : State) (m ip : Nat) : Bool :=
  decide (Nat.land ip (s.ipMask m) = Nat.land (s.ipAddr m) (s.ipMask m)) && decide (s.ipMask m ≠ 0)

/-- The next hop towards an address (R377). -/
def State.nextHop (s : State) (m ip : Nat) : Nat := if s.inSubnet m ip then ip else s.ipGate m

/-- The MAC through which a frame to a UDP channel leaves (R378). -/
def State.macFor (s : State) (ip : Nat) : Nat := if s.inSubnet 0 ip then 0 else if s.inSubnet 1 ip then 1 else 0

/-- A resolved datagram leaves. -/
def State.sendNow (s : State) (d : Datagram) : State :=
  (s.modMac d.mac (fun v => { v with tx := v.tx + 1 })).emit (.udp d)

/-- Send a datagram (R377, R378): at once where the next hop is in the cache; else it waits while ARP sends three requests. -/
def State.sendUdp (s : State) (d : Datagram) : State :=
  if ¬ s.macUp d.mac then s
  else
    let hop := s.nextHop d.mac d.ip
    if (s.mac d.mac).arp.any (fun e => decide (e.ip = hop) && decide (s.now < e.until_)) then s.sendNow d
    else
      let first := !(s.mac d.mac).waiting.any (fun e => decide (e.1 = hop))
      let s := s.modMac d.mac (fun v => { v with waiting := v.waiting ++ [(hop, s.now, d)] })
      if first then ((s.emit (.arpRequest d.mac hop)).emit (.arpRequest d.mac hop)).emit (.arpRequest d.mac hop) else s

/-- The cache with an entry added (R377): 64 entries, the oldest replaced. -/
def arpLearn (l : List ArpEnt) (e : ArpEnt) : List ArpEnt :=
  let l := l.filter (fun x => decide (x.ip ≠ e.ip))
  (if l.length < 64 then l else l.drop 1) ++ [e]

/-- An ARP reply: the cache learns, and the datagrams that wait for the hop leave. -/
def State.arpReply (s : State) (m ip mac : Nat) : State :=
  let w := (s.mac m).waiting.filter (fun e => decide (e.1 = ip))
  let s := s.modMac m (fun v => { v with arp := arpLearn v.arp { ip := ip, mac := mac, until_ := s.now + 300000000000 },
                                         waiting := v.waiting.filter (fun e => decide (e.1 ≠ ip)) })
  w.foldl (fun s e => s.sendNow e.2.2) s

/-- Datagrams whose hop stays unresolved for 1 s are discarded and counted (R377). -/
def State.arpTimeout (s : State) (m : Nat) : State :=
  s.modMac m (fun v =>
    let old := v.waiting.filter (fun e => decide (e.2.1 + 1000000000 ≤ s.now))
    { v with waiting := v.waiting.filter (fun e => decide (s.now < e.2.1 + 1000000000)), arpFail := v.arpFail + old.length })

/-- A frame that is no UDP datagram (R376, R377); a UDP datagram is left to its port's consumer. -/
def State.ethOther (s : State) (m : Nat) (b : EthBody) : State :=
  match b with
  | .arp reply sip smac tip =>
    if tip ≠ s.ipAddr m then s.modMac m (fun v => { v with discarded := v.discarded + 1 })
    else if reply then s.arpReply m sip smac
    else (s.modMac m (fun v => { v with tx := v.tx + 1 })).emit (.arpReply m sip)
  | .echo sip data =>
    if data.length ≤ 1472 then
      (s.modMac m (fun v => { v with echoes := v.echoes + 1, tx := v.tx + 1 })).emit (.echoReply m sip data)
    else s.modMac m (fun v => { v with discarded := v.discarded + 1 })
  | .icmpOther => s.modMac m (fun v => { v with discarded := v.discarded + 1 })
  | .badIp => s.modMac m (fun v => { v with ipBad := v.ipBad + 1 })
  | .other => s.modMac m (fun v => { v with discarded := v.discarded + 1 })
  | .udp .. => s

/-- The entries of the MACs as read (R379); none for a stored value. -/
def State.ethRead (s : State) (idx sub : Nat) : Option Octets :=
  if idx = 0x1100 ∨ idx = 0x1101 then
    let m := idx - 0x1100
    let v := s.mac m
    match sub with
    | 3 => some (beBytes 6 (Config.macAddress m).toNat)
    | 4 => some (leBytes 1 (v.speed + 4 * b2n v.duplex))
    | 5 => some ([v.rx, v.tx, v.discarded, v.ipBad, v.arpFail, v.echoes, v.wrongPort, v.dapBad, v.reportBad, v.overruns].flatMap
        (leBytes 4))
    | _ => none
  else none

/-- A command of a MAC. -/
def onMac (t m : Nat) (s : State) (f : State → State) : Out := onUnit (decide (m < 2)) .comm t s f

/-- ARP_RESOLVE_TIMEOUT (R377). -/
def execArpResolveTimeout (t m : Nat) (s : State) : Out := onMac t m s (fun s => s.arpTimeout m)
/-- ARP_CACHE_EXPIRY (R377). -/
def execArpCacheExpiry (t m : Nat) (s : State) : Out :=
  onMac t m s (fun s => s.modMac m (fun v => { v with arp := v.arp.filter (fun e => decide (s.now < e.until_)) }))
/-- ETH_LINK_CHANGE (R376): speed 0 down, 1 10, 2 100, 3 1000 Mbit/s. -/
def execEthLinkChange (t m speed : Nat) (duplex : Bool) (s : State) : Out :=
  onMac t m s (fun s => s.modMac m (fun v => { v with speed := speed % 4, duplex := duplex && decide (speed % 4 ≠ 0) }))

end Machine
end Sys2Proof
end

