-- ==== Sys2Proof/Machine/Flags.lean ====
section
/-! DEFINITION. The flag computations of the logic engine: saturation with SAT, division with DIV0 (R338), and the conditions
of CMP (R337). -/

namespace Sys2Proof
namespace Machine

/-- sat32 of R338: the clamped value as a word, and whether it clamped. -/
def satWord (v : Int) : Word32 × Bool := (BitVec.ofInt 32 (sat32 v), decide (sat32 v ≠ v))

/-- WA and SAT after a saturating result (R338). -/
def LogicRegs.putSat (r : LogicRegs) (v : Int) : LogicRegs :=
  { r with wa := (satWord v).1, sat := r.sat || (satWord v).2 }

/-- DIV (R337, R338): truncated towards 0; by 0 it sets DIV0 and gives the limit of WA's sign. -/
def LogicRegs.divide (r : LogicRegs) (op : Int) : LogicRegs :=
  if op = 0 then
    { r with wa := BitVec.ofInt 32 (if 0 ≤ r.wa.toInt then 2147483647 else -2147483648), div0 := true }
  else r.putSat (r.wa.toInt.tdiv op)

/-- MOD (R337, R338): WA − op × (WA / op); by 0 it sets DIV0 and gives 0. -/
def LogicRegs.modulo (r : LogicRegs) (op : Int) : LogicRegs :=
  if op = 0 then { r with wa := 0, div0 := true } else { r with wa := BitVec.ofInt 32 (r.wa.toInt.tmod op) }

/-- The rounding of R221: nearest, ties towards +∞. -/
def rndUp (a : Int) (k : Nat) : Int := if k = 0 then a else (a + 2 ^ (k - 1)).fdiv (2 ^ k)

/-- CMP (R337): FIELD[2:0] the relation, FIELD[3] unsigned. -/
def compareWords (field : Nat) (a b : Word32) : Bool :=
  let x : Int := if bitOf field 3 then (a.toNat : Int) else a.toInt
  let y : Int := if bitOf field 3 then (b.toNat : Int) else b.toInt
  match field % 8 with
  | 0 => decide (x = y)
  | 1 => decide (x ≠ y)
  | 2 => decide (x < y)
  | 3 => decide (x ≤ y)
  | 4 => decide (y < x)
  | 5 => decide (y ≤ x)
  | c => Config.freeCompare c x y

end Machine
end Sys2Proof
end

