-- ==== Sys2Proof/Machine/LoopCfg.lean ====
section
/-! DEFINITION. A loop's configuration read from its entries, its sampling grid and the conversions of its sources and
destination (R212–R218, R240–R242). -/

namespace Sys2Proof
namespace Machine

/-- A record of `SOURCES` (R242). -/
structure SrcRec where
  kind : Nat
  sub : Nat
  index : Nat
  e : Int
  lo : Int
  loSc : Int
  pwm : Nat

/-- Record `i` of `SOURCES`: 0 y, 1 sp, 2 ff, 3 pf, 4 track, 5 destination. -/
def srcRec (b : Octets) (i : Nat) : SrcRec :=
  let o := 12 * i
  { kind := u8At b o, sub := u8At b (o + 1), index := u16At b (o + 2), e := i8At b (o + 4), lo := i32At b (o + 5),
    loSc := i8At b (o + 9), pwm := u16At b (o + 10) }

/-- `COEF` (R241). -/
structure Coef where
  kp : Int
  ki : Int
  kd : Int
  ad : Int
  b : Int
  c : Int
  kff : Int
  kpf : Int
  shP : Nat
  shI : Nat
  shD : Nat
  shFf : Nat
  shPf : Nat
  xo : Nat
  freeze : Bool
  reclose : Bool
  fallback : Bool
  reqLogic : Bool

/-- `COEF` from its octets. -/
def coefOf (v : Octets) : Coef :=
  let o := u16At v 22
  { kp := i16At v 0, ki := i16At v 2, kd := i16At v 4, ad := i16At v 6, b := u16At v 8, c := u16At v 10,
    kff := i16At v 12, kpf := i16At v 14, shP := u8At v 16, shI := u8At v 17, shD := u8At v 18, shFf := u8At v 19,
    shPf := u8At v 20, xo := u8At v 21, freeze := bitOf o 0, reclose := bitOf o 1, fallback := bitOf o 2,
    reqLogic := bitOf o 3 }

/-- `LIMITS` (R240). -/
structure Limits where
  imin : Int
  imax : Int
  umin : Int
  umax : Int
  rate : Int

/-- `LIMITS` from its octets. -/
def limitsOf (v : Octets) : Limits :=
  { imin := i16At v 0, imax := i16At v 2, umin := i16At v 4, umax := i16At v 6, rate := u16At v 8 }

def State.loop (s : State) (n : Nat) : Loop := Tab.get {} s.ctrl.loops n
/-- Replace a loop's context. -/
def State.setLoop (s : State) (n : Nat) (l : Loop) : State :=
  { s with ctrl := { s.ctrl with loops := Tab.put {} s.ctrl.loops n l } }
/-- Change a loop's context. -/
def State.modLoop (s : State) (n : Nat) (f : Loop → Loop) : State := s.setLoop n (f (s.loop n))

/-- The checkpoint copy is written (R237). -/
def Loop.saved (l : Loop) : Loop :=
  { l with copy := { state := l.state, acc := l.acc, d := l.d, edPrev := l.edPrev, uPrev := l.uPrev, ovrCount := l.ovrCount, ovrConsec := l.ovrConsec } }

def State.coef (s : State) (n : Nat) : Coef := coefOf (s.oct (0x3000 + n) 6)
def State.limits (s : State) (n : Nat) : Limits := limitsOf (s.oct (0x3000 + n) 7)
def State.src (s : State) (n i : Nat) : SrcRec := srcRec (s.oct (0x3000 + n) 5) i

/-- The outer loop an inner loop names and its ratio (R232); none where the loop is not an inner loop. -/
def State.outerOf (s : State) (n : Nat) : Option (Nat × Nat) :=
  let v := s.oct (0x3000 + n) 0x0C
  if u16At v 0 = 0xFFFF then none else some (u16At v 0, u16At v 2)

/-- The loops whose `CASCADE` names loop `m`. -/
def State.innersOf (s : State) (m : Nat) : List Nat :=
  (s.dict.vals.filter (fun e => decide (e.1 % 256 = 0x0C) && decide (0x300000 ≤ e.1) && decide (e.1 < 0x340000) &&
    decide (u16At e.2.octs 0 = m))).map (fun e => e.1 / 256 - 0x3000)

/-- The inner loop whose `CASCADE` names loop `m`. -/
def State.innerOf (s : State) (m : Nat) : Option Nat := (s.innersOf m).head?

/-- A loop's own period in ticks (R216). -/
def State.ownPeriod (s : State) (n : Nat) : Nat := s.nat (0x3000 + n) 2 * 10 ^ s.nat (0x3000 + n) 3

/-- Period and phase at which a loop samples: an outer loop follows its inner loop (R216, R233). -/
def State.grid (s : State) (n : Nat) : Nat × Nat :=
  match s.innerOf n with
  | some i => (s.ownPeriod i * ((s.outerOf i).getD (0, 1)).2, s.nat (0x3000 + i) 4)
  | none => (s.ownPeriod n, s.nat (0x3000 + n) 4)

/-- The tick of the present device time (R216). -/
def State.tick (s : State) : Nat := s.clk.dev / 10000

/-- The sample number of tick `j` (R247); none where the tick is no sample of the loop. -/
def State.sampleNo (s : State) (n j : Nat) : Option Nat :=
  let (p, φ) := s.grid n
  if p = 0 ∨ j < φ then none else if (j - φ) % p = 0 then some ((j - φ) / p) else none

/-- ⌊x·2^(15 − E) + 1/2⌋ for x = raw·2^sc − lo·2^loSc, formed exactly (R212). -/
def toQ15 (raw sc lo loSc e : Int) : Int :=
  let a := sc + 15 - e
  let b := loSc + 15 - e
  let k := (max 0 (-(min a b))).toNat
  let num := raw * 2 ^ (a + k).toNat - lo * 2 ^ (b + k).toNat
  (2 * num + 2 ^ k).fdiv (2 ^ (k + 1))

/-- Whether a source's kind 2 value is fresh; every other kind is (R213). -/
def State.srcFresh (s : State) (r : SrcRec) : Bool := if r.kind = 2 then s.chanFresh r.index else true

/-- A source's Q15 value (R212); kind 5 is the loop's own `SP`. -/
def State.srcValue (s : State) (n : Nat) (r : SrcRec) : Int :=
  match r.kind with
  | 1 => ((Tab.get 0 s.ctrl.ai r.index) / 2 : Nat)
  | 2 => sat16 (toQ15 (s.chanValue r.index r.sub).1 (s.chanValue r.index r.sub).2 r.lo r.loSc r.e)
  | 3 => sat16 (toQ15 (s.planValue r.index).1 (s.planValue r.index).2 r.lo r.loSc r.e)
  | 4 => (s.loop r.index).vals.u
  | 5 => s.num (0x3000 + n) 8
  | _ => 0

/-- The clamp of R214 to ±(2³¹ − 1). -/
def clampSp (v : Int) : Int := clampI (-2147483647) 2147483647 v

/-- A period and a high time are commanded of a PWM output (R574); one that has no period yet starts after this moment. -/
def State.pwmSet (s : State) (k p hi : Nat) : State :=
  let w := Tab.get {} s.ctrl.pwm k
  { s with ctrl := { s.ctrl with
      pwHigh := Tab.put 0 s.ctrl.pwHigh k hi, pwPeriod := Tab.put 0 s.ctrl.pwPeriod k p,
      pwm := if w.period = 0 ∧ Tab.get 0 s.ctrl.pwPeriod k ≠ p then Tab.put {} s.ctrl.pwm k { w with start := s.clk.dev } else s.ctrl.pwm } }

/-- Hand u to the loop's destination (R214). -/
def State.handoff (s : State) (n : Nat) (u : Int) : State :=
  let d := s.src n 5
  match d.kind with
  | 1 => { s with ctrl := { s.ctrl with ao := Tab.put 0 s.ctrl.ao d.index (2 * u).toNat } }
  | 2 =>
    s.pwmSet d.index d.pwm (if 0 ≤ u then (u * 40 * d.pwm / 32768).toNat else 0)
  | 3 => s.setSpWord d.index d.sub (clampSp (u + toQ15 d.lo d.loSc 0 0 d.e)) (d.e - 15)
  | _ => s

/-- Two destinations are the same output (R215). -/
def SrcRec.sameDest (a b : SrcRec) : Bool :=
  decide (a.kind ≠ 0) && decide (a.kind = b.kind) && decide (a.index = b.index) &&
    (decide (a.kind ≠ 3) || decide (a.sub = b.sub))

/-- Some other loop that is not OFF holds the destination of loop `n` (R215). -/
def State.destHeld (s : State) (n : Nat) (d : SrcRec) : Bool :=
  s.ctrl.loops.any (fun e => decide (e.1 ≠ n) && decide (e.2.state ≠ .off) && d.sameDest (s.src e.1 5))

/-- The loop that holds PWM output `k`, if any. -/
def State.pwmHolder (s : State) (k : Nat) : Option Nat :=
  (s.ctrl.loops.find? (fun e => decide (e.2.state ≠ .off) && decide ((s.src e.1 5).kind = 2) &&
    decide ((s.src e.1 5).index = k))).map (·.1)

/-! ## Admission (R218, R219, R232, R233) -/

/-- A loop owns a slot: it is not OFF, or it is an inner loop whose outer loop is not OFF. -/
def State.admitted (s : State) (n : Nat) : Bool :=
  decide ((s.loop n).state ≠ .off) ||
  (match s.outerOf n with
   | some (m, _) => decide ((s.loop m).state ≠ .off)
   | none => false)

/-- The admitted loops. -/
def State.admittedList (s : State) : List Nat := (s.ctrl.loops.map (·.1)).filter s.admitted

/-- A sum of unit fractions 1/P as (numerator, denominator). -/
def sumInv : List Nat → Nat × Nat
  | [] => (0, 1)
  | p :: r => let (a, b) := sumInv r; (a * p + b, b * p)

/-- L of R218 over a list of loops. -/
def State.loadOf (s : State) (l : List Nat) : Nat × Nat := sumInv (l.map (fun n => (s.grid n).1))

/-- `LOAD`: L in 0.001 evaluations per tick, rounded up (R243). -/
def State.loadMilli (s : State) : Nat := let (a, b) := s.loadOf s.admittedList; (1000 * a + b - 1) / b

/-- Two loops sample at a common tick (R218 condition 2). -/
def commonTick (a b : Nat × Nat) : Bool :=
  let d : Int := (a.2 : Int) - b.2
  decide (d % (Nat.gcd a.1 b.1 : Int) = 0)

/-- A loop at slot `sl` of pipeline `p` conflicts with an owner (conditions 2 and 3 of R218, windows of R219). -/
def State.slotClash (s : State) (n p sl m : Nat) : Bool :=
  match (s.loop m).slot with
  | none => false
  | some q =>
    let p' := q / 256
    let sl' := q % 128
    let y := s.src n 0
    let y' := s.src m 0
    commonTick (s.grid n) (s.grid m) &&
    ((decide (p = p') && decide (sl = sl')) ||
     (decide (y.kind = 1) && decide (y'.kind = 1) && decide (y.index / 8 = y'.index / 8) &&
      decide (32 * sl < 32 * sl' + 200) && decide (32 * sl' < 32 * sl + 200) &&
      !(decide (y.index = y'.index) && decide (sl = sl'))))

/-- A slot the loop may own (R218, R233, and R492: of a pipeline in service): the conditions against every other owner, slot 8 and up for a y of kind 1, slot 3
(11) and up for an inner loop. `but` is the outer loop that moves along with its inner loop. -/
def State.slotOk (s : State) (n p sl : Nat) (but : Option Nat := none) : Bool :=
  decide ((if p = 0 then s.ctrl.pipe0 else s.ctrl.pipe1) ≠ 3) && (decide ((s.src n 0).kind ≠ 1) || decide (8 ≤ sl)) &&
  (match s.outerOf n with
   | some (m, _) => if (s.src m 0).kind = 1 then decide (11 ≤ sl) else decide (3 ≤ sl)
   | none => true) &&
  s.ctrl.loops.all (fun e => decide (e.1 = n) || decide (but = some e.1) || !s.admitted e.1 || !s.slotClash n p sl e.1)

/-- Slot number `k` of the first fit as the loop's slot word. -/
def slotWord (k : Nat) : Nat := k / 100 * 256 + k % 100

/-- The outer loop that is not OFF of an inner loop: it follows its inner loop's slot (R233). -/
def State.follower (s : State) (n : Nat) : Option Nat :=
  match s.outerOf n with
  | some (m, _) => if (s.loop m).state ≠ .off then some m else none
  | none => none

/-- A loop may own slot `k` of the first fit, and the outer loop that follows it the slot 3 below (R218, R233). -/
def State.fits (s : State) (n k : Nat) : Bool :=
  s.slotOk n (k / 100) (k % 100) (s.follower n) &&
  (match s.follower n with
   | some m =>
     (s.setLoop n { s.loop n with slot := some (slotWord k) }).slotOk m (k / 100) (k % 100 - 3) &&
       (decide ((s.src m 0).kind ≠ 1) || decide (11 ≤ k % 100))
   | none => true)

/-- First fit: pipeline 0 before pipeline 1, lowest slot first; an outer loop owns its inner loop's slot less 3 (R233). -/
def State.findSlot (s : State) (n : Nat) : Option Nat :=
  match s.innerOf n with
  | some i =>
    match (s.loop i).slot with
    | some q => if 3 ≤ q % 128 ∧ s.slotOk n (q / 256) (q % 128 - 3) then some (q - 3) else none
    | none => none
  | none =>
    ((List.range 200).find? (fun k => s.fits n k)).map slotWord

/-- Admission of a loop that leaves OFF or is admitted again (R218): its slot, or none where no slot meets the conditions. -/
def State.admission (s : State) (n : Nat) : Option Nat :=
  let others := s.admittedList.filter (fun m => decide (m ≠ n))
  let (a, b) := s.loadOf (n :: others)
  if 200 * b < a then none else s.findSlot n

/-- The slot a loop that leaves OFF takes: an inner loop whose outer loop is not OFF keeps the one that stayed reserved (R233); any
other loop is admitted. -/
def State.slotFromOff (s : State) (n : Nat) : Option Nat :=
  match s.follower n, (s.loop n).slot with
  | some m, some q => if s.slotOk n (q / 256) (q % 128) (some m) then some q else s.admission n
  | _, _ => s.admission n

/-- The REP load with loop `n` counted or not (R252) is at most 32 samples per tick. -/
def State.repLoadOk (s : State) (n : Nat) (counted : Bool) : Bool :=
  let on := (s.ctrl.loops.map (·.1)).filter (fun m =>
    decide (m ≠ n) && decide ((s.loop m).state ≠ .off) && bitOf (u8At (s.oct (0x3800 + m) 1) 15) 0)
  let (a, b) := s.loadOf (if counted then n :: on else on)
  decide (a ≤ 32 * b)

end Machine
end Sys2Proof
end

