-- ==== Sys2Proof/Machine/Trace.lean ====
section
/-! DEFINITION. The trace probes (R257–R268): configuration, arming, triggers, records, the capture queue and the trace items
of the export (R523). -/

namespace Sys2Proof
namespace Machine

/-- `PROBE_CONFIG` (R259). -/
structure ProbeCfg where
  loop : Nat
  node : Nat
  kind : Nat
  trigNode : Nat
  events : Nat
  level : Int
  pre : Nat
  post : Nat
  decim : Nat
  stream : Bool
  group : Nat
  time : Nat

/-- `PROBE_CONFIG` from its octets. -/
def probeCfg (b : Octets) : ProbeCfg :=
  { loop := u16At b 0, node := u8At b 2, kind := u8At b 3, trigNode := u8At b 4, events := u8At b 5, level := i16At b 6,
    pre := u32At b 8, post := u32At b 12, decim := u16At b 16, stream := bitOf (u16At b 18) 0, group := u32At b 20,
    time := u64At b 24 }

/-- Whether a value lies within the ranges of R259. -/
def ProbeCfg.ok (c : ProbeCfg) (b : Octets) : Bool :=
  decide (b.length = 32) && decide (c.loop ≤ 1023) && decide (c.node ≤ 8) && decide (c.kind ≤ 6) &&
  decide (c.trigNode ≤ 8) && decide (c.events < 32) && decide (c.pre ≤ 1048575) && decide (1 ≤ c.post) &&
  decide (c.pre + c.post ≤ 1048576) && decide (1 ≤ c.decim) && decide (u16At b 18 ≤ 1)

def State.probeCfg (s : State) (p : Nat) : ProbeCfg := Machine.probeCfg (s.oct (0x3C00 + p) 1)
def State.probe (s : State) (p : Nat) : Probe := Tab.get {} s.ctrl.probes p
/-- Replace a probe. -/
def State.setProbe (s : State) (p : Nat) (v : Probe) : State :=
  { s with ctrl := { s.ctrl with probes := Tab.put {} s.ctrl.probes p v } }

/-- A record whose subsoil word is poisoned on readout (R258, R264): KIND 3. -/
def Probe.spoil (v : Probe) (i : Nat) : Probe :=
  if i < v.pre.length then { v with poison := true, pre := v.pre.set i [0, 0xC0, 0, 0] }
  else { v with poison := true, post := v.post.set (i - v.pre.length) [0, 0xC0, 0, 0] }

/-- Record `i` of a probe's readout is poisoned (R37, R264). DESIGN CHOICE: it is word `i` of its probe's 1 Mi words. -/
def State.traceLoss (s : State) (p i : Nat) : State :=
  let v := s.probe p
  if i < v.pre.length + v.post.length then
    (s.setProbe p (v.spoil i)).dataLoss .ctrl 1 (p * 1048576 + i) (s.probeCfg p).loop
  else s

/-- A probe is ARMED or TRIGGERED. -/
def Probe.active (v : Probe) : Bool := decide (v.state = 1) || decide (v.state = 2)

/-- A record of R258. -/
def traceRec (value : Int) (kind seq : Nat) : Octets := leBytes 4 (unsigned 16 value * 65536 + kind * 16384 + seq % 16384)

/-- Pack the gathered records of a probe into a trace item (R523): lost and counted while the trace queue is full. -/
def State.packTrace (s : State) (n p : Nat) : State :=
  let u := s.sub n
  match Tab.find u.gather p with
  | none => s
  | some (_, recs) =>
    let u' := { u with gather := Tab.erase u.gather p }
    if s.hasRoom (.traceq n) then (s.setSub n u').pushQ (.traceq n) (.trace p recs)
    else (s.setSub n { u' with traceLost := u.traceLost + recs.length, lostTrace := u.lostTrace + recs.length }).pushQ
      (.traceq n) (.trace p recs)

/-- A record of a `STREAM` probe reaches the trace subscriptions (R262, R523). -/
def State.streamRec (s : State) (p : Nat) (r : Octets) : State :=
  (List.range 8).foldl (fun s n =>
    let u := s.sub n
    if u.path = 0 ∨ ¬ bitOf u.content 2 then s
    else
      let (t0, l) := (Tab.find u.gather p).getD (s.now, [])
      let s := s.setSub n { u with gather := Tab.insert u.gather p (t0, l ++ [r]) }
      if 15 ≤ l.length + 1 then s.packTrace n p else s) s

/-- Hand a record to the capture queue (R262): a record that finds it full is lost and counted. -/
def State.pushRec (s : State) (p : Nat) (isPost : Bool) (r : Octets) : State :=
  let v := s.probe p
  let room := s.hasRoom .capture
  let v' := if room then
      { v with taken := v.taken + b2n isPost, preTaken := v.preTaken + b2n (!isPost) }
    else { v with lost := v.lost + 1, gap := true }
  ((s.setProbe p v').pushQ .capture (.raw (BitVec.ofNat 8 p :: BitVec.ofNat 8 (b2n isPost) :: r)))

/-- The gap records owed before the next record, at most `fuel` (R262). -/
def State.pushGaps (s : State) (p : Nat) (isPost : Bool) : Nat → State
  | 0 => s
  | k + 1 =>
    let v := s.probe p
    if v.lost = 0 ∨ ¬ s.hasRoom .capture ∨ (isPost = true ∧ (s.probeCfg p).post ≤ v.taken) then s
    else
      let c := min v.lost 65535
      ((s.setProbe p { v with lost := v.lost - c }).pushRec p isPost (traceRec c 2 0)).pushGaps p isPost k

/-- Record a sample: the gap records owed first; no post record beyond `POST` (R258, R260). -/
def State.record (s : State) (p : Nat) (r : Octets) : State :=
  let c := s.probeCfg p
  let isPost := decide ((s.probe p).state = 2)
  let s := if c.stream then s.streamRec p r else s
  let s := s.pushGaps p isPost ((s.probe p).lost / 65535 + 1)
  if isPost && decide (c.post ≤ (s.probe p).taken) then s else s.pushRec p isPost r

/-- The end of the CTRL slot a device time lies in (R217, R261): a slot is 80 ns, 125 of them a tick. -/
def slotEnd (dev : Nat) : Nat := (dev / 80 + 1) * 80

/-- What a sample of a loop gives the probes: its number, whether it was skipped, its instant (device time), the device time of
its tick, the end of its slot, the values and the events of R259 that occurred. -/
structure SampleOf where
  loop : Nat
  smp : Nat
  skipped : Bool
  instant : Nat
  tickTime : Nat
  slotEnd : Nat
  vals : LoopVals
  events : Nat

/-- The value of a node (R257). -/
def nodeOf (v : LoopVals) : Nat → Int
  | 0 => v.sp | 1 => v.y | 2 => v.ei | 3 => v.p | 4 => v.i | 5 => v.d | 6 => v.ff | 7 => v.rep | _ => v.u

/-- Whether the node's value crosses the level in the chosen direction (R261). -/
def crosses (kind : Nat) (level prev cur : Int) : Bool :=
  let up := decide (prev < level) && decide (level ≤ cur)
  let down := decide (level < prev) && decide (cur ≤ level)
  if kind = 1 then up else if kind = 2 then down else up || down

/-- Whether an ARMED probe of this loop triggers at a sample by its own condition (R261). -/
def trigHere (c : ProbeCfg) (v : Probe) (x : SampleOf) : Bool :=
  decide (v.state = 1) &&
  (match c.kind with
   | 4 => decide (c.events &&& x.events ≠ 0)
   | 5 => decide (c.time ≤ x.tickTime)
   | 1 | 2 | 3 => !x.skipped && (match v.last with
                                | some prev => crosses c.kind c.level prev (nodeOf x.vals c.trigNode)
                                | none => false)
   | _ => false)

/-- The trigger of a probe: TRIGGERED; its trigger sample is sample `smp`, or is still awaited. -/
def State.trigger (s : State) (p : Nat) (instant : Nat) (smp : Option Nat) (group : Bool) : State :=
  let v := s.probe p
  if v.state = 1 then
    s.setProbe p { v with state := 2, trigTime := instant, trigSample := smp.getD 0, awaiting := smp.isNone,
                          groupTrig := v.groupTrig || group, preShort := decide (v.preTaken < (s.probeCfg p).pre),
                          taken := 0 }
  else s

/-- A probe triggers and the probes its `GROUP` names with it: those of the loop whose evaluation decided it at that sample, the
others at their own loop's first sample at or after the trigger instant `after` (R261). -/
def State.triggerGroup (s : State) (p instant after : Nat) (here : Option (Nat × Nat)) : State :=
  let g := (s.probeCfg p).group
  (List.range 32).foldl (fun s q =>
    if bitOf g q && decide (q ≠ p) then
      let smp := match here with
        | some (n, k) => if (s.probeCfg q).loop = n then some k else none
        | none => none
      s.trigger q (if smp.isSome then instant else after) smp true
    else s) s

/-- A loop's sample reaches the probes (R257–R261): the triggers it decides, the trigger samples awaited, then the records. -/
def State.traceSample (s : State) (x : SampleOf) : State :=
  let mine := (List.range 32).filter (fun p => decide ((s.probeCfg p).loop = x.loop) && (s.probe p).active)
  let firing := mine.filter (fun p => trigHere (s.probeCfg p) (s.probe p) x)
  let s := firing.foldl (fun s p => s.trigger p x.instant (some x.smp) false) s
  let s := firing.foldl (fun s p => s.triggerGroup p x.instant x.slotEnd (some (x.loop, x.smp))) s
  let s := mine.foldl (fun s p =>
    let v := s.probe p
    if v.awaiting && decide (v.trigTime ≤ x.instant) then
      s.setProbe p { v with awaiting := false, trigTime := x.instant, trigSample := x.smp }
    else s) s
  mine.foldl (fun s p =>
    let c := s.probeCfg p
    let v := s.probe p
    let s := if v.state = 1 ∧ ¬ x.skipped then s.setProbe p { v with last := some (nodeOf x.vals c.trigNode) } else s
    let isTrig := decide (v.state = 2) && decide (v.taken = 0) && decide (v.trigSample = x.smp)
    if v.awaiting then s
    else if x.smp % c.decim = 0 ∨ isTrig then
      s.record p (if x.skipped then traceRec 0 1 x.smp else traceRec (nodeOf x.vals c.node) 0 x.smp)
    else s) s

/-- The traced loop is in OFF for part of a capture (R266). -/
def State.traceOff (s : State) (n : Nat) : State :=
  (List.range 32).foldl (fun s p =>
    if decide ((s.probeCfg p).loop = n) && (s.probe p).active then s.setProbe p { s.probe p with loopOff := true } else s) s

/-- Trigger the ARMED probes of a mask at one instant (`TRIGGER_NOW`, the logic trigger word; R261). -/
def State.triggerMask (s : State) (mask : Nat) (logicOnly : Bool) : State :=
  let ps := (List.range 32).filter (fun p => bitOf mask p && decide ((s.probe p).state = 1) &&
    (!logicOnly || decide ((s.probeCfg p).kind = 6)))
  let now := Machine.slotEnd s.clk.dev
  let s := ps.foldl (fun s p => s.trigger p now none false) s
  ps.foldl (fun s p => s.triggerGroup p now now none) s

/-- A write of `PROBE_CONFIG` (R259). -/
def State.writeProbeConfig (s : State) (p : Nat) (b : Octets) : WRes :=
  if ¬ (Machine.probeCfg b).ok b then .refuse 0x0A05 s
  else if (s.probe p).active then .refuse 0x0A06 s
  else .done (s.store (0x3C00 + p) 1 b)

/-- A read of `TRACE_DATA` of a probe is open (R260). -/
def State.traceReadOpen (s : State) (p : Nat) : Bool :=
  s.net.sess.any (fun e => match e.2.xfer with
    | some x => !x.write && decide (x.index = 0x3C00 + p) && decide (x.sub = 4)
    | none => false)

/-- A write of `ARM` (R260). -/
def State.writeArm (s : State) (mask : Nat) : WRes :=
  let ps := (List.range 32).filter (bitOf mask)
  if ps.any (fun p => (s.probe p).active) then .refuse 0x0A06 s
  else if ps.any s.traceReadOpen then .refuse 0x0A09 s
  else .done (ps.foldl (fun s p =>
    s.setProbe p { state := 1, late := (s.probe p).late,
                   loopOff := decide ((s.loop (s.probeCfg p).loop).state = .off) }) s)

/-- A write of `ABORT` (R263): ABORTED where the capture runs, `ABORT_LATE` where it is DONE. -/
def State.writeTraceAbort (s : State) (mask : Nat) : WRes :=
  .done (((List.range 32).filter (bitOf mask)).foldl (fun s p =>
    let v := s.probe p
    if v.active then s.setProbe p { v with state := 4, awaiting := false }
    else if v.state = 3 then s.setProbe p { v with late := true } else s) s)

/-- A write of `CLEAR_FLAGS` (R267). -/
def State.writeClearFlags (s : State) (mask : Nat) : WRes :=
  .done (((List.range 32).filter (bitOf mask)).foldl (fun s p => s.setProbe p { s.probe p with late := false }) s)

/-- MEM takes a record from the capture queue (R262): into the pre-trigger ring, which keeps the latest `PRE`, or behind the
post records; after ABORTED no record is written (R263). A poisoned entry is lost and counted in the next gap record (R410). -/
def State.captured (s : State) (o : Octets) (poison : Bool) : State :=
  let p := u8At o 0
  let v := s.probe p
  if ¬ v.active then s
  else if poison then s.setProbe p { v with lost := v.lost + 1, gap := true }
  else if u8At o 1 = 0 then
    let l := v.pre ++ [o.drop 2]
    s.setProbe p { v with pre := l.drop (l.length - (s.probeCfg p).pre) }
  else s.setProbe p { v with post := v.post ++ [o.drop 2] }

/-- MEM acknowledges the `POST`-th record of a capture (R260, R263). -/
def State.captureDone (s : State) (p : Nat) : State :=
  let v := s.probe p
  if v.state = 2 ∧ (s.probeCfg p).post ≤ v.post.length then s.setProbe p { v with state := 3 } else s

/-- CAPTURE_DONE (R263). -/
def execCaptureDone (t p : Nat) (s : State) : Out := onUnit (decide (p < 32)) .ctrl t s (fun s => s.captureDone p)

/-- TRACE_PACK_EXPIRY (R523): 100 ms after the first gathered record the item is packed. -/
def execTracePackExpiry (t n p : Nat) (s : State) : Out :=
  onUnit (decide (n < 8)) .ctrl t s (fun s =>
    match Tab.find (s.sub n).gather p with
    | some (t0, _) => if t0 + 100000000 ≤ s.now then s.packTrace n p else s
    | none => s)

end Machine
end Sys2Proof
end

