-- ==== Sys2Proof/Machine/Repetitive.lean ====
section
/-! DEFINITION. The repetitive controller of a loop (R247–R256): configuration, prefetch, learning, clears. -/

namespace Sys2Proof
namespace Machine

/-- `REP_CONFIG` (R248). -/
structure RepCfg where
  p : Nat
  offset : Nat
  kr : Int
  q0 : Int
  q1 : Int
  q2 : Int
  lead : Nat
  enable : Bool
  keep : Bool
  freezeOnRate : Bool

/-- `REP_CONFIG` from its octets. -/
def repCfg (b : Octets) : RepCfg :=
  { p := u32At b 0, offset := u16At b 4, kr := i16At b 6, q0 := u16At b 8, q1 := i16At b 10, q2 := i16At b 12,
    lead := u8At b 14, enable := bitOf (u8At b 15) 0, keep := bitOf (u8At b 15) 1, freezeOnRate := bitOf (u8At b 15) 2 }

/-- The ranges of R248. -/
def RepCfg.ok (c : RepCfg) (b : Octets) : Bool :=
  decide (b.length = 16) && decide (2 ≤ c.p ∧ c.p ≤ 65536) && decide (c.offset < c.p) && decide (c.q0 ≤ 32768) &&
  decide (c.lead < c.p) && decide (u8At b 15 < 8) && decide (c.q0 + 2 * c.q1.natAbs + 2 * c.q2.natAbs ≤ 32768)

def State.repCfg (s : State) (n : Nat) : RepCfg := Machine.repCfg (s.oct (0x3800 + n) 1)

/-- Position of a sample (R247). -/
def RepCfg.pos (c : RepCfg) (smp : Nat) : Nat := (smp + c.offset) % c.p

/-- The word of a position for a use, 0 where poisoned (R253). -/
def usable (w : Int) (bad : Bool) : Int := if bad then 0 else w

/-- REP_PREFETCH (R251, R253) at the tick of sample s − 1: the words of sample s with their poison marks; `bad1`, `bad2` say
that the REP word and the t_k word came poisoned from subsoil. -/
def State.repPrefetch (s : State) (n : Nat) (bad1 bad2 : Bool) : State :=
  let c := s.repCfg n
  match s.sampleNo n s.tick with
  | none => s
  | some m =>
    let l := s.loop n
    if ¬ c.enable ∨ l.state = .off then s
    else
      let k := c.pos (m + 1)
      let kl := (k + c.lead) % c.p
      let r := l.rep
      let b1 := bad1 || (decide (c.lead = 0) && bad2) || r.poison.contains kl
      let b2 := bad2 || (decide (c.lead = 0) && bad1) || r.poison.contains k
      let po := if b1 then insRising kl r.poison else r.poison
      let po := if b2 then insRising k po else po
      s.setLoop n { l with rep := { r with
        poison := po
        pre := (r.pre.filter (fun e => decide (e.1 ≠ m + 1) && decide (m ≤ e.1))) ++
          [(m + 1, Tab.get 0 r.table kl, Tab.get 0 r.table k, b1, b2)] } }

/-- What the repetitive controller gives a sample: REP, t_k, whether the prefetch was good, and its context. -/
structure RepIn where
  rep : Int
  tk : Int
  good : Bool
  late : Bool
  poison1 : Bool
  poison2 : Bool

/-- The prefetched words of sample `m` (R249, R251, R253). -/
def RepCtx.fetch (r : RepCtx) (m : Nat) : RepIn :=
  match r.pre.find? (fun e => decide (e.1 = m)) with
  | some (_, w, t, b1, b2) => ⟨usable w b1, usable t b2, !b1 && !b2, false, b1, b2⟩
  | none => ⟨r.lastRep, 0, false, true, false, false⟩

/-- A filtered write of a position, forwarded into the prefetch registers (R249, R251); it ends the word's poison. -/
def RepCtx.write (c : RepCfg) (r : RepCtx) (pos : Nat) (v : Int) : RepCtx :=
  { r with table := Tab.put 0 r.table pos v, poison := r.poison.filter (fun q => decide (q ≠ pos)),
           pre := r.pre.map (fun e =>
             let k := c.pos e.1
             (e.1, if (k + c.lead) % c.p = pos then v else e.2.1, if k = pos then v else e.2.2.1,
              e.2.2.2.1 && decide ((k + c.lead) % c.p ≠ pos), e.2.2.2.2 && decide (k ≠ pos))) }

/-- The history after a sample, and the filtered write its window gives (R249). -/
def RepCtx.learn (c : RepCfg) (r : RepCtx) (m : Nat) (x : Int) (ok : Bool) : RepCtx :=
  let xs := (x :: r.x).take 5
  let oks := (ok :: r.ok).take 5
  let r := { r with x := xs, ok := oks }
  if oks.length = 5 ∧ oks.all id then
    let v := sat16 (rndUp (c.q0 * nth 0 xs 2 + c.q1 * (nth 0 xs 3 + nth 0 xs 1) + c.q2 * (nth 0 xs 4 + nth 0 xs 0)) 15)
    r.write c ((c.pos m + c.p - 2) % c.p) v
  else r

/-- A sample passes without learning (R249, R250, R251): skipped, frozen, late, poisoned, or the loop not CLOSED. -/
def RepCtx.skip (c : RepCfg) (r : RepCtx) (m : Nat) : RepCtx := r.learn c m 0 false

/-- The table and history cleared (R254): every position reads 0 and no word is poisoned. -/
def RepCtx.clear (r : RepCtx) : RepCtx :=
  { r with table := [], poison := [], x := [], ok := [], pre := r.pre.map (fun e => (e.1, 0, 0, false, false)) }

/-- The first subsoil word address of loop n's repetitive table: its 128 KiB area (R247). DESIGN CHOICE: areas in loop order
from the start of the tables' area. -/
def repWord (n pos : Nat) : Nat := n * 32768 + pos / 2

/-- DATA_LOSS of a poisoned table word (R253). -/
def State.repLoss (s : State) (n pos : Nat) (bad : Bool) : State :=
  if bad then s.dataLoss .ctrl 2 (repWord n pos) n else s

/-- A table word is poisoned when the dictionary reads it out (R37): its positions stay poisoned until they are written. -/
def State.tableLoss (s : State) (n pos : Nat) : State :=
  if (s.repCfg n).p ≤ pos then s
  else
    let l := s.loop n
    (s.setLoop n { l with rep := { l.rep with poison := insRising pos l.rep.poison } }).repLoss n pos true

/-- REP_PREFETCH (R251); `soft` words that failed parity were good when read again (R496). -/
def execRepPrefetch (t n : Nat) (bad1 bad2 : Bool) (soft : Nat) (s : State) : Out :=
  onUnit (decide (n < 1024)) .ctrl t s (fun s => (s.softSubsoil soft).repPrefetch n bad1 bad2)

/-- The effect of an accepted coefficient-class write on the table (R254): cleared; or kept under `KEEP`. -/
def State.repAfter (s : State) (n : Nat) (always : Bool) : State :=
  let l := s.loop n
  if always || !(s.repCfg n).keep then s.setLoop n { l with rep := l.rep.clear }
  else s.setLoop n { l with rep := { l.rep with kept := true } }

/-- A coefficient-class write is accepted in OFF and OPEN (R229). -/
def Loop.coefOpen (l : Loop) : Bool := decide (l.state = .off) || decide (l.state = .opened)

/-- A write of `REP_CONFIG` (R248, R252, R254). -/
def State.writeRepConfig (s : State) (n : Nat) (b : Octets) : WRes :=
  let c := Machine.repCfg b
  let old := s.repCfg n
  let l := s.loop n
  if ¬ c.ok b then .refuse 0x0A05 s
  else if ¬ l.coefOpen then .refuse 0x0A06 (s.setLoop n { l with coefRej := true })
  else if c.enable && !old.enable && decide (l.state ≠ .off) && !s.repLoadOk n true then
    .refuse 0x0A0A (s.setLoop n { l with admitRej := true })
  else .done ((s.store (0x3800 + n) 1 b).repAfter n (decide (c.p ≠ old.p) || decide (c.offset ≠ old.offset)))

/-- Words of a written table as a sparse table. -/
def tableOf : Octets → Nat → Nat → Tab Int
  | _, _, 0 => []
  | b, pos, k + 1 =>
    let r := tableOf b (pos + 1) k
    if i16At b (2 * pos) = 0 then r else (pos, i16At b (2 * pos)) :: r

/-- A write of `REP_TABLE` (R255, R254). -/
def State.writeRepTable (s : State) (n : Nat) (b : Octets) : WRes :=
  let c := s.repCfg n
  let l := s.loop n
  if b.length ≠ 2 * c.p then .refuse 0x0A04 s
  else if ¬ l.coefOpen then .refuse 0x0A06 s
  else
    let t := tableOf b 0 c.p
    .done (s.setLoop n { l with rep := { l.rep with
      table := t, poison := [], x := [], ok := [],
      pre := l.rep.pre.map (fun e => (e.1, Tab.get 0 t ((c.pos e.1 + c.lead) % c.p), Tab.get 0 t (c.pos e.1), false, false)) } })

/-- The entries `0x3800`+n (R255). -/
def State.repWrite (s : State) (n sub : Nat) (b : Octets) : WRes :=
  match sub with
  | 1 => s.writeRepConfig n b
  | 2 => .done (s.setLoop n { s.loop n with rep := (s.loop n).rep.clear })
  | 5 => s.writeRepTable n b
  | _ => .plain

/-- `REP_STATUS` (R256). -/
def State.repStatus (s : State) (n : Nat) : Nat :=
  let l := s.loop n
  let r := l.rep
  b2n ((s.repCfg n).enable && decide (l.state ≠ .off)) + 2 * b2n r.learning + 4 * b2n r.frozen + 8 * b2n r.lateFlag +
    16 * b2n r.poisonFlag + 32 * b2n r.kept

end Machine
end Sys2Proof
end

