-- ==== Sys2Proof/Machine/Law.lean ====
section
/-! DEFINITION. The control law in both number modes with the bumpless close (R221–R225, R231), the output rule (R223) and the
loop states (R226, R227). -/

namespace Sys2Proof
namespace Machine

/-- The Q15 inputs of one evaluation (R212, R221). -/
structure LawIn where
  sp : Int
  y : Int
  f : Int
  pf : Int
  rep : Int
  /-- the increment of R222 is permitted -/
  inc : Bool
  /-- the first CLOSED sample -/
  close : Bool
  uHeld : Int
  edPrev : Int

/-- What the law gives: the reported terms, the accumulator and D state, v, and whether the close's clamp acted. -/
structure LawOut where
  ep : Int
  ei : Int
  ed : Int
  p : Int
  i : Int
  d : Int
  ff : Int
  acc : Int
  dState : Int
  v : Int
  satClose : Bool

/-- e_p, e_i and e_d (R221). -/
def errP (c : Coef) (sp y : Int) : Int := sat16 (rndUp (c.b * sp - y * 32768) 15)
/-- e_i. -/
def errI (sp y : Int) : Int := sat16 (sp - y)
/-- e_d. -/
def errD (c : Coef) (sp y : Int) : Int := sat16 (rndUp (c.c * sp - y * 32768) 15)

/-- The native law (R221, R222, R231). -/
def lawNative (c : Coef) (lim : Limits) (acc d : Int) (x : LawIn) : LawOut :=
  let ep := errP c x.sp x.y
  let ei := errI x.sp x.y
  let ed := errD c x.sp x.y
  let p := sat16 (rndUp (c.kp * ep * 2 ^ c.shP) 15)
  let d' := sat16 (rndUp (c.ad * d + c.kd * (ed - x.edPrev) * 2 ^ c.shD) 15)
  let ff := sat16 (rndUp (c.kff * x.f * 2 ^ c.shFf + c.kpf * x.pf * 2 ^ c.shPf) 15)
  let lo := lim.imin * 32768
  let hi := lim.imax * 32768
  let tgt := (x.uHeld - p - d' - ff - x.rep) * 32768
  let acc' := if x.close then clampI lo hi tgt
    else if x.inc then clampI lo hi (acc + c.ki * ei * 2 ^ c.shI) else acc
  let i := sat16 (rndUp acc' 15)
  { ep := ep, ei := ei, ed := ed, p := p, i := i, d := d', ff := ff, acc := acc', dState := d',
    v := p + i + d' + ff + x.rep, satClose := x.close && decide (clampI lo hi tgt ≠ tgt) }

/-- The alignment al(m, k) of R224. -/
def al (m k : Int) : Int := if 0 ≤ k then m * 2 ^ k.toNat else rndUp m (-k).toNat

/-- The law of the compatibility mode (R224, R225). -/
def lawCompat (c : Coef) (lim : Limits) (si d : Int) (x : LawIn) : LawOut :=
  let ep := errP c x.sp x.y
  let ei := errI x.sp x.y
  let ed := errD c x.sp x.y
  let rp := sat16 (rndUp (c.kp * ep) 15)
  let rd := sat16 (rndUp (c.ad * d + c.kd * (ed - x.edPrev)) 15)
  let rf := sat16 (rndUp (c.kff * x.f + c.kpf * x.pf) 15)
  let xo : Int := c.xo
  let lo := lim.imin * 65536
  let hi := lim.imax * 65536
  let t := al x.uHeld (16 - xo) - al rp (c.shP - xo) - al rd (c.shD - xo) - al rf (c.shFf - xo) - al x.rep (16 - xo)
  let tgt := al t (xo - c.shI) * 65536
  let si' := if x.close then clampI lo hi tgt else if x.inc then clampI lo hi (si + 2 * c.ki * ei) else si
  let ri := sat16 (rndUp si' 16)
  let vm := al rp (c.shP - xo) + al ri (c.shI - xo) + al rd (c.shD - xo) + al rf (c.shFf - xo) + al x.rep (16 - xo)
  { ep := ep, ei := ei, ed := ed, p := sat16 (al rp (c.shP - 16)), i := sat16 (al ri (c.shI - 16)),
    d := sat16 (al rd (c.shD - 16)), ff := sat16 (al rf (c.shFf - 16)), acc := si', dState := rd,
    v := sat16 (al (sat16 vm) (xo - 16)), satClose := x.close && decide (clampI lo hi tgt ≠ tgt) }

/-- The law of the number mode in force. -/
def law (mode : Nat) (c : Coef) (lim : Limits) (acc d : Int) (x : LawIn) : LawOut :=
  if mode = 0 then lawNative c lim acc d x else lawCompat c lim acc d x

/-- The rate limit of R223, and whether it acted. -/
def rateLimit (rate uPrev u : Int) : Int × Bool :=
  if rate = 0 then (u, false)
  else
    let w := clampI (uPrev - rate) (uPrev + rate) u
    (w, decide (w ≠ u))

/-- The output of R223 for a loop state: u, and whether the rate limit acted. -/
def outputOf (st : LoopState) (c : Coef) (lim : Limits) (man safe v t uPrev : Int) : Int × Bool :=
  match st with
  | .closed => rateLimit lim.rate uPrev (clampI lim.umin lim.umax v)
  | .opened => rateLimit lim.rate uPrev (clampI lim.umin lim.umax man)
  | .track => (clampI lim.umin lim.umax t, false)
  | _ => (if c.fallback then safe else uPrev, false)

/-! ## Loop states -/

/-- The loop's `MAN` takes a value. -/
def State.setMan (s : State) (n : Nat) (u : Int) : State := s.setVal (0x3000 + n) 9 (.num u)

/-- Whether the loop is an outer loop. -/
def State.isOuter (s : State) (n : Nat) : Bool := (s.innerOf n).isSome

/-- The state before HOLD: an outer loop's last requested state (R226). -/
def State.beforeHold (s : State) (n : Nat) : LoopState :=
  let l := s.loop n
  if l.state = .hold then l.before else if s.isOuter n then LoopState.ofReq l.req else l.state

/-- Enter HOLD with a cause (R226). -/
def State.loopHold (s : State) (n cause : Nat) : State :=
  s.setLoop n { s.loop n with state := .hold, holdCause := cause, before := s.beforeHold n, forced := false,
                              firstClose := false }

/-- Release the slots a loop no longer owns when it is OFF: its own unless it is the inner loop of a loop that is not OFF, and
that of its own inner loop where that one is OFF (R218, R233). -/
def State.freeSlots (s : State) (n : Nat) : State :=
  let s := if s.admitted n then s else s.setLoop n { s.loop n with slot := none }
  match s.innerOf n with
  | some i => if s.admitted i then s else s.setLoop i { s.loop i with slot := none }
  | none => s

/-- Enter OFF (R226): the slot is released, the destination keeps its value. -/
def State.loopOff (s : State) (n : Nat) : State :=
  ((s.setLoop n { s.loop n with state := .off, holdCause := 0, forced := false, firstClose := false }).freeSlots n).traceOff n

/-- A loop closes: the first CLOSED sample is bumpless (R231). -/
def State.loopClose (s : State) (n : Nat) : State :=
  s.setLoop n { s.loop n with state := .closed, holdCause := 0, forced := false, firstClose := true,
                              uHeld := (s.loop n).uPrev }

/-- A loop opens with `MAN` := u_prev (R226). -/
def State.loopOpen (s : State) (n : Nat) : State :=
  (s.setMan n (s.loop n).uPrev).setLoop n { s.loop n with state := .opened, holdCause := 0, forced := false,
                                                          firstClose := false }

/-- The track source is of kind 1 to 4 (R226). -/
def State.hasTrack (s : State) (n : Nat) : Bool := decide (1 ≤ (s.src n 4).kind ∧ (s.src n 4).kind ≤ 4)

/-- The conditions of a cascade pair, inner `i` and outer `m` (R232). -/
def State.pairOk (s : State) (i m : Nat) : Bool :=
  decide ((s.src i 1).kind = 4) && decide ((s.src i 1).index = m) && decide ((s.src m 5).kind = 0) &&
  decide ((s.innersOf m).length = 1) && (s.outerOf m).isNone && (s.innersOf i).isEmpty && decide (i ≠ m)

/-- The cascade conditions on a loop that leaves OFF or is admitted again (R232). -/
def State.cascadeOk (s : State) (n : Nat) : Bool :=
  (match s.outerOf n with
   | some (m, _) => s.pairOk n m
   | none => true) &&
  (match s.innerOf n with
   | some i => s.pairOk i n
   | none => true)

/-- An outer loop cannot leave OFF while its inner loop is OFF (R232). -/
def State.innerUp (s : State) (n : Nat) : Bool :=
  match s.innerOf n with
  | some i => decide ((s.loop i).state ≠ .off)
  | none => true

/-- The loop is an outer loop whose inner loop is not CLOSED. -/
def State.innerOpen (s : State) (n : Nat) : Bool :=
  match s.innerOf n with
  | some i => decide ((s.loop i).state ≠ .closed)
  | none => false

/-- The forced track of an outer loop whose inner loop is not CLOSED, where it applies at once: the loop itself has just entered OPEN or
CLOSED (R226, R234). -/
def State.forceTrack (s : State) (n : Nat) : State :=
  if s.innerOpen n = true ∧ ((s.loop n).state = .opened ∨ (s.loop n).state = .closed) then
    s.setLoop n { s.loop n with state := .track, forced := true, firstClose := false }
  else s

/-- The outer loop that is not OFF owns the slot 3 below its inner loop's (R233). -/
def State.followSlot (s : State) (n slot : Nat) : State :=
  match s.follower n with
  | some m => s.setLoop m { s.loop m with slot := some (slot - 3) }
  | none => s

/-- A request no row admits (R226). -/
def State.rejectReq (s : State) (n : Nat) : WRes := .refuse 0x0A06 (s.setLoop n { s.loop n with reqRej := true })

/-- Leave OFF into a requested state (R226): the state words at their initial values, u_prev and u_held `MAN`. -/
def State.leaveOff (s : State) (n r : Nat) (slot : Nat) : State :=
  let man := s.num (0x3000 + n) 9
  s.setLoop n (Loop.saved { s.loop n with state := LoopState.ofReq r, req := r, acc := 0, d := 0, uPrev := man, uHeld := man, first := true,
                                          firstClose := decide (r = 2), holdCause := 0, forced := false, slot := some slot,
                                          ovrConsec := 0 })

/-- The loop may leave HOLD on a request: cause 1, 2 with y fresh, or 4 (R226). -/
def State.holdFree (s : State) (n : Nat) : Bool :=
  let l := s.loop n
  decide (l.holdCause = 1) || decide (l.holdCause = 4) || (decide (l.holdCause = 2) && s.srcFresh (s.src n 0))

/-- A request for a state (R226, R232, R252): 0 OFF, 1 OPEN, 2 CLOSED, 3 TRACK. -/
def State.request (s : State) (n r : Nat) : WRes :=
  let l := s.loop n
  let rec' := fun (s : State) => (s.setLoop n { s.loop n with req := r }).forceTrack n
  if r = 0 then
    if l.state = .off then s.rejectReq n else .done (rec' (s.loopOff n))
  else if s.holding then s.rejectReq n
  else match l.state with
  | .off =>
    if (r = 3 ∧ ¬ s.hasTrack n) ∨ s.destHeld n (s.src n 5) ∨ ¬ s.cascadeOk n ∨ ¬ s.innerUp n then s.rejectReq n
    else if s.mirrorFull || ((s.repCfg n).enable && !s.repLoadOk n true) then
      .refuse 0x0A0A (s.setLoop n { l with admitRej := true })
    else match s.slotFromOff n with
    | none => .refuse 0x0A0A (s.setLoop n { l with admitRej := true })
    | some slot => .done (((s.leaveOff n r slot).followSlot n slot).forceTrack n)
  | .opened =>
    if r = 2 then .done (rec' (s.loopClose n))
    else if r = 3 ∧ s.hasTrack n then .done (rec' (s.setLoop n { l with state := .track }))
    else s.rejectReq n
  | .closed =>
    if r = 1 then .done (rec' (s.loopOpen n))
    else if r = 3 ∧ s.hasTrack n then .done (rec' (s.setLoop n { l with state := .track, firstClose := false }))
    else s.rejectReq n
  | .track =>
    if r = 1 then .done (rec' (s.loopOpen n))
    else if r = 2 then (if l.forced then .done (rec' s) else .done (rec' (s.loopClose n)))
    else if l.forced then .done (rec' s) else s.rejectReq n
  | .hold =>
    if r = 1 ∧ s.holdFree n then .done (rec' (s.loopOpen n))
    else if r = 2 ∧ s.holdFree n then .done (rec' (s.loopClose n))
    else s.rejectReq n

/-- A dictionary request (R227): refused where `REQ_SOURCE` names the logic engine. -/
def State.dictRequest (s : State) (n r : Nat) : WRes :=
  if (s.coef n).reqLogic then .refuse 0x0A06 s else s.request n r

/-- A committed mode request word (R227, R245): a word that differs from the previous commit's with `VALID` set is a request. -/
def State.logicRequest (s : State) (n w : Nat) : State :=
  let l := s.loop n
  if w = l.reqWord then s
  else
    let s := s.setLoop n { l with reqWord := w }
    if ¬ bitOf w 2 then s
    else if ¬ (s.coef n).reqLogic then s.setLoop n { s.loop n with reqRej := true }
    else match s.request n (w % 4) with
    | .done s' => s'
    | .refuse _ s' => s'
    | _ => s

/-- The device enters SAFE_HOLD or SERVICE: every loop that is not OFF holds with cause 3 (R226). -/
def State.ctrlHold (s : State) : State :=
  (s.ctrl.loops.map (·.1)).foldl (fun s n => if (s.loop n).state = .off then s else s.loopHold n 3) s

/-- Loops held by cause 3 close again or open (R226). -/
def State.leaveHold3 (s : State) : State :=
  (s.ctrl.loops.map (·.1)).foldl (fun s n =>
    let l := s.loop n
    if l.state = .hold ∧ l.holdCause = 3 then
      if l.before = .closed ∧ (s.coef n).reclose then s.loopClose n else s.loopOpen n
    else s) s

/-- The device leaves SAFE_HOLD: the loops held by cause 3 leave it, and the forced tracks of R234 apply. -/
def State.ctrlRelease (s : State) : State :=
  let t := s.leaveHold3
  (t.ctrl.loops.map (·.1)).foldl (fun t n => if (s.loop n).state = .hold then t.forceTrack n else t) t

end Machine
end Sys2Proof
end

