-- ==== Sys2Proof/Machine/Control.lean ====
section
/-! DEFINITION. The control engine's commands: evaluations, overruns and context faults (R219–R238), writes of the loop
entries (R226–R233, R240–R243), PWM periods (R574), background conversions (R219) and pipeline takeovers (R238). -/

namespace Sys2Proof
namespace Machine

/-! ## Evaluation -/

/-- The y of a loop at its sample: the converter's code >> 1 for kind 1, else the source's value (R212). -/
def State.yOf (s : State) (n code : Nat) : Int :=
  if (s.src n 0).kind = 1 then ((code / 2 : Nat) : Int) else s.srcValue n (s.src n 0)

/-- An auxiliary source's value: the last fresh one where it is not fresh (R213). -/
def State.auxOf (s : State) (n i : Nat) (last : Int) : Int :=
  if s.srcFresh (s.src n i) then s.srcValue n (s.src n i) else last

/-- The state changes a sample makes before the law (R226): y not fresh, y fresh again, and the forced track of an outer loop. -/
def State.sampleState (s : State) (n : Nat) : State :=
  let l := s.loop n
  let fresh := s.srcFresh (s.src n 0)
  let s :=
    if l.state = .hold then
      if l.holdCause = 2 ∧ fresh ∧ (s.coef n).reclose then
        match l.before with
        | .closed => s.loopClose n
        | .track => s.setLoop n { l with state := .track, holdCause := 0 }
        | _ => s.setLoop n { l with state := .opened, holdCause := 0 }
      else s
    else if fresh then s else s.loopHold n 2
  let l := s.loop n
  match s.innerOf n with
  | none => s
  | some i =>
    let li := s.loop i
    if li.state ≠ .closed then
      if l.state = .opened ∨ l.state = .closed then
        s.setLoop n { l with state := .track, forced := true, firstClose := false }
      else s
    else if l.state = .track ∧ l.forced ∧ ¬ li.firstClose then
      if l.req = 2 then s.loopClose n else s.setLoop n { l with state := LoopState.ofReq l.req, forced := false }
    else s

/-- The value t of TRACK (R223). -/
def State.trackOf (s : State) (n : Nat) : Int :=
  let l := s.loop n
  if l.forced then
    match s.innerOf n with
    | some i => (s.loop i).vals.y
    | none => 0
  else s.auxOf n 4 l.auxTr

/-- Whether the increment of R222 is permitted. -/
def Loop.incOk (l : Loop) (c : Coef) (ei : Int) : Bool :=
  decide (l.state = .closed) && !l.firstClose &&
  !(c.freeze && ((decide (0 < c.ki * ei) && l.satHi) || (decide (c.ki * ei < 0) && l.satLo)))

/-- The moment of the sample instant (R220), for an evaluation whose slot begins now: 70 ns or 10 ns before it. -/
def State.sampleInstant (s : State) (n : Nat) : Nat := s.clk.dev - (if (s.src n 0).kind = 1 then 70 else 10)

/-- A word of the working copy is rewritten from the checkpoint (R237). DEDUCED (log 108): the checkpoint holds what it was at the end of
the last evaluation; the configuration words are those of the dictionary server in both copies. -/
def Loop.restoreWord (l : Loop) : CtxWord → Loop
  | .state => { l with state := l.copy.state }
  | .acc => { l with acc := l.copy.acc }
  | .d => { l with d := l.copy.d }
  | .edPrev => { l with edPrev := l.copy.edPrev }
  | .uPrev => { l with uPrev := l.copy.uPrev }
  | .counters => { l with ovrCount := l.copy.ovrCount, ovrConsec := l.copy.ovrConsec }
  | .config => l

/-- The sample as the probes see it. -/
def State.sampleFor (s : State) (n m : Nat) (skipped : Bool) (ev : Nat) : SampleOf :=
  { loop := n, smp := m, skipped := skipped, instant := s.sampleInstant n, tickTime := s.tick * 10000, slotEnd := Machine.slotEnd s.clk.dev,
    vals := (s.loop n).vals, events := ev + b2n (decide ((s.loop n).state ≠ (s.loop n).sampled)) }

/-- The probes take the sample, and the loop's state is noted for the next one. -/
def State.toProbes (s : State) (n m : Nat) (skipped : Bool) (ev : Nat) : State :=
  let s := s.traceSample (s.sampleFor n m skipped ev)
  s.setLoop n { s.loop n with sampled := (s.loop n).state }

/-- A sample without an evaluation: the repetitive history takes ok := false, the probes a skipped sample (R249, R258). -/
def State.missSample (s : State) (n m ev : Nat) : State :=
  let c := s.repCfg n
  let l := s.loop n
  let s := if c.enable then s.setLoop n { l with rep := { l.rep.skip c m with pos := c.pos m, learning := false, frozen := false } }
    else s
  s.toProbes n m true ev

/-- A sample is overrun (R235): counted; HOLD with cause 1 when `OVR_CONSEC` reaches `OVR_LIMIT`. -/
def State.overrun (s : State) (n m : Nat) : State :=
  let l := s.loop n
  let k := min 255 (l.ovrConsec + 1)
  let s := s.setLoop n { l with ovrCount := l.ovrCount + 1, ovrConsec := k, ovrSnap := true }
  let s := if s.nat (0x3000 + n) 0x0B ≤ k ∧ l.state ≠ .hold then
      (s.loopHold n 1).post .ctrl Code.ctrlOverrunHold n []
    else s
  s.missSample n m 4

/-- The present Q15 value of a loop's destination. -/
def State.destValue (s : State) (n : Nat) : Int :=
  if (s.src n 5).kind = 1 then ((Tab.get 0 s.ctrl.ao (s.src n 5).index / 2 : Nat) : Int) else (s.loop n).vals.u

/-- Both copies of a context word fail (R237): state words 0, u_prev the destination's value, HOLD with cause 4. -/
def State.contextLost (s : State) (n m : Nat) : State :=
  let u := s.destValue n
  let s := s.loopHold n 4
  let s := s.setLoop n { s.loop n with acc := 0, d := 0, edPrev := 0, uPrev := u, ovrCount := 0, ovrConsec := 0 }
  (s.post .ctrl Code.ctrlContextLost n []).missSample n m 0

/-- The repetitive controller after an evaluation (R249–R253). -/
def State.repAfterEval (s : State) (n m : Nat) (r : RepIn) (o : LawOut) : State :=
  let c := s.repCfg n
  let l := s.loop n
  let frozen := l.satHi || l.satLo || (c.freezeOnRate && l.rateLimited)
  let ok := decide (l.state = .closed) && r.good && !frozen
  let x := sat16 (r.tk + rndUp (c.kr * o.ei) 15)
  let rc := if ok then l.rep.learn c m x true else l.rep.skip c m
  let bad := r.poison1 || r.poison2
  let s := s.setLoop n { l with rep := { rc with
    pre := rc.pre.filter (fun e => decide (m < e.1)), lastRep := r.rep, pos := c.pos m,
    learned := rc.learned + b2n ok, frozenN := rc.frozenN + b2n frozen, late := rc.late + b2n r.late,
    poisoned := rc.poisoned + b2n bad, poisonFlag := rc.poisonFlag || bad, lateFlag := rc.lateFlag || r.late,
    frozen := frozen, learning := ok } }
  let k := c.pos m
  (s.repLoss n ((k + c.lead) % c.p) r.poison1).repLoss n k (r.poison2 && decide (c.lead ≠ 0))

/-- A completed evaluation (R221–R223, R231): the law, the output, the state words and the handoff. -/
def State.completeEval (s : State) (n m code : Nat) : State :=
  let s := if (s.src n 0).kind = 1 then { s with ctrl := { s.ctrl with ai := Tab.put 0 s.ctrl.ai (s.src n 0).index code } }
    else s
  let s := s.sampleState n
  let l := s.loop n
  let c := s.coef n
  let lim := s.limits n
  let y := s.yOf n code
  let sp := s.auxOf n 1 l.auxSp
  let f := s.auxOf n 2 l.auxFf
  let pf := s.auxOf n 3 l.auxPf
  let stale := (List.range 4).any (fun i => !s.srcFresh (s.src n (i + 1)))
  let t := s.trackOf n
  let on := (s.repCfg n).enable
  let r : RepIn := if on then l.rep.fetch m else ⟨0, 0, false, false, false, false⟩
  let ed0 := if l.first then errD c sp y else l.edPrev
  let o := law (s.nat (0x3000 + n) 1) c lim l.acc l.d
    { sp := sp, y := y, f := f, pf := pf, rep := r.rep, inc := l.incOk c (errI sp y),
      close := decide (l.state = .closed) && l.firstClose, uHeld := l.uHeld, edPrev := ed0 }
  let (u, rl) := outputOf l.state c lim (s.num (0x3000 + n) 9) (s.num (0x3000 + n) 0x0A) o.v t l.uPrev
  let satClose := o.satClose && l.firstClose
  let auxT := if l.forced then l.auxTr else t
  let s := s.setLoop n { l with
    acc := o.acc, d := o.dState, edPrev := o.ed, uPrev := u, first := false, firstClose := false,
    satHi := decide (lim.umax < o.v), satLo := decide (o.v < lim.umin), rateLimited := rl, auxStale := stale,
    satAtClose := l.satAtClose || satClose, evals := l.evals + 1, planVer := s.planVersion, ovrConsec := 0,
    auxSp := sp, auxFf := f, auxPf := pf, auxTr := auxT,
    vals := { sp := sp, y := y, ep := o.ep, ei := o.ei, ed := o.ed, p := o.p, i := o.i, d := o.d, ff := o.ff,
              rep := r.rep, u := u } }
  let s := s.handoff n u
  let s := if on then s.repAfterEval n m r o else s
  let s := s.modLoop n Loop.saved
  let l := s.loop n
  s.toProbes n m false (2 * b2n (l.satHi || l.satLo) + 8 * b2n satClose + 16 * b2n rl)

/-- A residue mismatch (R238): the evaluation is an overrun, and the spare pipeline is to take over at the next tick boundary. -/
def State.pipeFault (s : State) (n m : Nat) : State :=
  let s := { s with ctrl := { s.ctrl with pipeBad := (s.loop n).slot.map (fun q => (q / 256, s.tick)) } }
  (s.post .ctrl Code.ctrlPipeSwitch n []).overrun n m

/-- The converter element that serves AI `k` (R219); 3 where none does. -/
def State.converterOf (s : State) (k : Nat) : Nat :=
  let e := if k < 8 then s.ctrl.conv0 else s.ctrl.conv1
  if s.testedBare 5 e then 3 else e

/-- A converter changes for the spare one (R492): without a free spare a worn one stays, and a failed one converts no more. -/
def State.replaceConv (s : State) (k why : Nat) : State :=
  let bad := if k = 0 then s.ctrl.conv0 else s.ctrl.conv1
  let put := fun (s : State) (e : Nat) => { s with ctrl := if k = 0 then { s.ctrl with conv0 := e } else { s.ctrl with conv1 := e } }
  let free := (List.range 3).find? (fun p => decide (p ≠ s.ctrl.conv0) && decide (p ≠ s.ctrl.conv1) && !(s.poolOut 5 0).contains p)
  if bad = 3 then s
  else match free with
  | none => if why = 1 then s else put (s.retireElem 5 bad 0) 3
  | some p => put (s.retireElem 5 bad why) p

/-- The pipeline of a slot table: 3 where none serves it. -/
def State.pipeOf (s : State) (k : Nat) : Nat := if k = 0 then s.ctrl.pipe0 else s.ctrl.pipe1
/-- The pipeline of a loop's slot; 3 where none serves it. -/
def State.loopPipe (s : State) (n : Nat) : Nat :=
  match (s.loop n).slot with
  | some q => s.pipeOf (q / 256)
  | none => 0

/-- A loop's context is read (R237): failing words are rewritten from their good copies, counted and logged. -/
def State.readContext (s : State) (n : Nat) (x : EvalIn) : State :=
  let k := x.working.length + x.checkpoint.length
  if k = 0 then s
  else (s.modLoop n (fun l => let l := x.working.foldl Loop.restoreWord l; { l with restores := l.restores + k })).post .ctrl
    Code.ctrlContextRestored n []

/-- A loop's state words as the checkpoint holds them (R541). -/
def State.loopCkpt (s : State) (n : Nat) : LoopCkpt :=
  let l := s.loop n
  { n := n, state := l.state, cause := l.holdCause, acc := l.acc, d := l.d, edPrev := l.edPrev, uPrev := l.uPrev, u := l.vals.u, ovr := l.ovrCount,
    req := l.req, x := l.rep.x, ok := l.rep.ok }

/-- The state words of every loop. -/
def State.everyCkpt (s : State) : List LoopCkpt := s.ctrl.loops.map (fun e => s.loopCkpt e.1)

/-- During a save the loops are taken at the first tick boundary after t₀, before any loop of that tick is evaluated (R542 step 5). -/
def State.saveTick (s : State) : State :=
  if s.power.saving ∧ s.power.saveLoops.isNone ∧ s.power.saveT0 / 10000 < s.tick then
    { s with power := { s.power with saveLoops := some s.everyCkpt } }
  else s

/-- An evaluation of a loop at its sample tick (R221, R235, R237, R238); no effect at a tick that is no sample of the loop, at a second
time in one tick, or while it is OFF. -/
def State.evaluate (s : State) (n : Nat) (x : EvalIn) : State :=
  match s.sampleNo n s.tick with
  | none => s
  | some m =>
    if (s.loop n).state = .off ∨ (s.loop n).lastTick = some s.tick ∨ ¬ s.acts ∨ s.loopPipe n = 3 then s
    else
      let s := s.modLoop n (fun l => { l with lastTick := some s.tick })
      if s.testedBare 2 (s.loopPipe n) then s.overrun n m
      else
      let s := s.readContext n x
      if x.lost then s.contextLost n m
      else if x.residueBad then s.pipeFault n m
      else if (s.src n 0).kind = 1 ∧ (¬ x.landed ∨ s.converterOf (s.src n 0).index = 3) then s.overrun n m
      else s.completeEval n m (x.code % 65536)

/-- A sample tick while CTRL's clock is stopped (R14, R235). -/
def State.missedByStop (s : State) (n : Nat) : State :=
  match s.sampleNo n s.tick with
  | some m =>
    if s.up ∧ s.acts ∧ (s.loop n).state ≠ .off ∧ (s.loop n).lastTick ≠ some s.tick then
      (s.modLoop n (fun l => { l with lastTick := some s.tick })).overrun n m
    else s
  | none => s

/-- LOOP_EVALUATION (R221). -/
def execLoopEvaluation (t n : Nat) (x : EvalIn) (s : State) : Out :=
  if n < 1024 then
    atMoment t s (fun s => if s.runs .ctrl then s.saveTick.evaluate n x else s.missedByStop n)
  else .fault .noSuchUnit

/-- Loops in index order, outer loops last (R239). -/
def State.restartOrder (s : State) (l : List Nat) : List Nat :=
  l.filter (fun n => !s.isOuter n) ++ l.filter s.isOuter

/-- A slot table loses its pipeline (R492): its loops are admitted again in index order, outer loops last; one that fails admission
enters HOLD with cause 1. -/
def State.losePipe (s : State) (k : Nat) : State :=
  let s := { s with ctrl := if k = 0 then { s.ctrl with pipe0 := 3 } else { s.ctrl with pipe1 := 3 } }
  let gone := s.admittedList.filter (fun n => decide ((s.loop n).slot.map (· / 256) = some k))
  (s.restartOrder gone).foldl (fun s n =>
    match s.admission n with
    | some q => s.setLoop n { s.loop n with slot := some q }
    | none => if (s.loop n).state = .off then s else s.loopHold n 1) s

/-- A slot table changes its pipeline for the spare one (R238, R492), because of a fault (0) or wear (1); without a free spare a
worn pipeline stays in service and a failed one is lost. -/
def State.replacePipe (s : State) (k why : Nat) : State :=
  let bad := if k = 0 then s.ctrl.pipe0 else s.ctrl.pipe1
  let free := (List.range 3).find? (fun p => decide (p ≠ s.ctrl.pipe0) && decide (p ≠ s.ctrl.pipe1) && !(s.poolOut 2 0).contains p)
  match free with
  | none => if why = 1 then s else (s.retireElem 2 bad 0).losePipe k
  | some p =>
    ({ s with ctrl := if k = 0 then { s.ctrl with pipe0 := p } else { s.ctrl with pipe1 := p } }).retireElem 2 bad why

/-- PIPELINE_TAKEOVER (R238): the spare pipeline takes over the failing pipeline's slot table at the tick boundary. -/
def State.pipelineTakeover (s : State) : State :=
  match s.ctrl.pipeBad with
  | none => s
  | some k => if k.2 < s.tick then ({ s with ctrl := { s.ctrl with pipeBad := none } }).replacePipe k.1 0 else s

/-- PIPELINE_TAKEOVER (R238). -/
def execPipelineTakeover (t : Nat) (s : State) : Out := onIsland .ctrl t s (fun s => s.pipelineTakeover)

/-- AI_BACKGROUND_CONVERSION (R219). -/
def execAiBackgroundConversion (t k code : Nat) (s : State) : Out :=
  onUnit (decide (k < 16)) .ctrl t s (fun s =>
    if s.converterOf k = 3 then s
    else { s with ctrl := { s.ctrl with ai := Tab.put 0 s.ctrl.ai k (code % 65536) } })

/-! ## PWM outputs (R574) -/

/-- The level of a PWM output at a device time: high from a period's start for the high time latched there (a CTRL cycle is 2.5 ns), low
for the rest. -/
def Pwm.levelAt (w : Pwm) (dev : Nat) : Bool :=
  decide (w.period ≠ 0) && !w.waiting && decide (w.start ≤ dev) && decide ((dev - w.start) * 2 < w.high * 5)
/-- The level at the pin of PWM output `k`. -/
def State.pwmLevel (s : State) (k : Nat) : Bool := (Tab.get {} s.ctrl.pwm k).levelAt s.clk.dev

/-- The last whole multiple of a period (0.1 µs) at or before a device time. -/
def pwmMultiple (p dev : Nat) : Nat := dev / (p * 100) * (p * 100)

/-- A PWM output at a period start that a device time has reached: the commanded period `p` and high time `hi` are latched there. -/
def Pwm.startAt (w : Pwm) (p hi dev : Nat) : Pwm :=
  let q := if w.period = 0 then p else w.period
  let m := pwmMultiple q dev
  if q = 0 ∨ m ≤ w.start then w
  else if p = q then { period := q, high := hi, start := m, waiting := false }
  else { period := p, high := 0, start := m, waiting := decide (p ≠ 0) }

/-- A period start of a PWM output. -/
def State.pwmStart (s : State) (k : Nat) : State :=
  let w := (Tab.get {} s.ctrl.pwm k).startAt (Tab.get 0 s.ctrl.pwPeriod k) (Tab.get 0 s.ctrl.pwHigh k) s.clk.dev
  { s with ctrl := { s.ctrl with pwm := Tab.put {} s.ctrl.pwm k w } }

/-- PWM_PERIOD_START (R574). -/
def execPwmPeriodStart (t k : Nat) (s : State) : Out := onUnit (decide (k < 16)) .ctrl t s (fun s => s.pwmStart k)

/-! ## Writes of the loop entries -/

/-- The ranges of `COEF` in a number mode (R241). -/
def coefOk (mode : Nat) (b : Octets) : Bool :=
  let c := coefOf b
  decide (b.length = 24) && decide (0 ≤ c.ad) && decide (c.b ≤ 32768) && decide (c.c ≤ 32768) && decide (u16At b 22 < 16) &&
  (if mode = 0 then
    decide (c.shP ≤ 7) && decide (c.shI ≤ 7) && decide (c.shD ≤ 7) && decide (c.shFf ≤ 7) && decide (c.shPf ≤ 7) &&
    decide (c.xo = 0)
   else
    decide (c.shP ≤ 31) && decide (c.shI ≤ 31) && decide (c.shD ≤ 31) && decide (c.shFf ≤ 31) && decide (c.shPf = 0) &&
    decide (c.xo ≤ 31))

/-- A record of `SOURCES` is within its ranges (R212, R214, R242). -/
def State.srcOk (s : State) (b : Octets) (i : Nat) : Bool :=
  let r := srcRec b i
  let plain := decide (r.sub = 0)
  let noEng := decide (r.e = 0) && decide (r.lo = 0) && decide (r.loSc = 0)
  let eng := decide (-64 ≤ r.e ∧ r.e ≤ 63)
  let noPwm := decide (r.pwm = 0)
  if i = 5 then
    match r.kind with
    | 0 => plain && noEng && noPwm
    | 1 => plain && noEng && noPwm && decide (r.index ≤ 7)
    | 2 => plain && noEng && decide (r.index ≤ 15) && decide (100 ≤ r.pwm)
    | 3 => decide (4 ≤ r.sub ∧ r.sub ≤ 7) && eng && noPwm && decide (r.index ≤ 511) && decide (s.chanType r.index ≠ 0)
    | _ => false
  else
    match r.kind with
    | 0 => plain && noEng && noPwm
    | 1 => plain && noEng && noPwm && decide (r.index ≤ 15)
    | 2 => decide (r.sub ≤ 7) && eng && noPwm && decide (r.index ≤ 511) && decide (s.chanType r.index ≠ 0)
    | 3 => plain && eng && noPwm && planIndexOk r.index
    | 4 => plain && noEng && noPwm && decide (r.index ≤ 1023)
    | 5 => plain && noEng && noPwm && decide (i ≤ 1)
    | _ => false

/-- `CASCADE` is within its ranges (R232, R240). -/
def cascadeRangeOk (b : Octets) : Bool :=
  decide (b.length = 4) && (decide (u16At b 0 = 0xFFFF) || decide (u16At b 0 ≤ 1023)) &&
  decide (1 ≤ u16At b 2 ∧ u16At b 2 ≤ 256)

/-- The value of a coefficient-class write is within its range (R240–R242). -/
def State.coefValueOk (s : State) (n sub : Nat) (b : Octets) : Bool :=
  match sub with
  | 1 => coefOk (leNat b) (s.oct (0x3000 + n) 6)
  | 4 => decide (leNat b < s.ownPeriod n)
  | 5 => decide (b.length = 72) && (List.range 6).all (fun i => s.srcOk b i)
  | 6 => coefOk (s.nat (0x3000 + n) 1) b
  | 0x0C => cascadeRangeOk b
  | _ => true

/-- Admission again of an admitted loop after its configuration changed (R218): its new slot, and its outer loop's, which
follows it (R233); none where no slot meets the conditions. -/
def State.readmit (s : State) (n : Nat) : Option State :=
  if ¬ s.admitted n then some s
  else if ¬ s.cascadeOk n then none
  else match s.admission n with
  | none => none
  | some q =>
    let s := s.setLoop n { s.loop n with slot := some q }
    match s.outerOf n with
    | some (m, _) =>
      if s.admitted m then
        match s.admission m with
        | some q' => some (s.setLoop m { s.loop m with slot := some q' })
        | none => none
      else some s
    | none => some s

/-- The former outer loop is admitted by its own stored period when it stops being one (R233). -/
def State.readmitFormer (s : State) (old : Option (Nat × Nat)) : Option State :=
  match old with
  | some (m, _) => if s.isOuter m then some s else s.readmit m
  | none => some s

/-- The destination a write of `SOURCES` names is held by another loop (R215). -/
def State.newDestHeld (s : State) (n : Nat) (b : Octets) : Bool :=
  decide ((s.loop n).state ≠ .off) && s.destHeld n (srcRec b 5)

/-- A coefficient-class write (R229, R218, R233, R252, R254). -/
def State.writeCoef (s : State) (n sub : Nat) (b : Octets) : WRes :=
  let l := s.loop n
  if ¬ s.coefValueOk n sub b then .refuse 0x0A05 s
  else if ¬ l.coefOpen then .refuse 0x0A06 (s.setLoop n { l with coefRej := true })
  else if sub = 5 && s.newDestHeld n b then .refuse 0x0A06 s
  else
    let grid := decide (sub = 2) || decide (sub = 3) || decide (sub = 4)
    let old := s.outerOf n
    let s1 := s.store (0x3000 + n) sub b
    let busy := (s.repCfg n).enable && decide (l.state ≠ .off)
    let r := if (grid || decide (sub = 0x0C)) && !s1.repLoadOk n busy then none
      else if grid && s.isOuter n then some s1
      else if grid || decide (sub = 5) then s1.readmit n
      else if sub = 0x0C then (s1.readmit n).bind (fun s => s.readmitFormer old)
      else some s1
    match r with
    | none => .refuse 0x0A0A (s.setLoop n { l with admitRej := true })
    | some s2 =>
      let s3 := if sub = 1 ∧ leNat b ≠ s.nat (0x3000 + n) 1 then
          s2.setLoop n { s2.loop n with acc := 0, d := 0 } else s2
      .done (s3.repAfter n grid)

/-- A write of `LIMITS` keeps its pairs in order (R230). -/
def limitsOk (b : Octets) : Bool :=
  let l := limitsOf b
  decide (b.length = 10) && decide (l.imin ≤ l.imax) && decide (l.umin ≤ l.umax)

/-- The entries `0x3000`+n (R226–R230, R240). -/
def State.loopWrite (s : State) (n sub : Nat) (b : Octets) : WRes :=
  match sub with
  | 0x0D => s.dictRequest n (leNat b)
  | 7 => if limitsOk b then .done (s.store (0x3000 + n) 7 b) else .refuse 0x0A05 s
  | 8 | 9 | 0x0A | 0x0B => .done (s.store (0x3000 + n) sub b)
  | _ => s.writeCoef n sub b

/-- The entries `0x3400`+n: `CLEAR_STICKY` clears the loop's sticky flags and its REP sticky bits (R243, R256). -/
def State.loopStatusWrite (s : State) (n sub : Nat) (_ : Octets) : WRes :=
  if sub = 9 then
    let l := s.loop n
    .done (s.setLoop n { l with admitRej := false, reqRej := false, coefRej := false, satAtClose := false,
                                rep := { l.rep with kept := false, poisonFlag := false, lateFlag := false } })
  else .plain

/-- `FLAGS` (R244). -/
def Loop.flags (l : Loop) : Nat :=
  2 * b2n l.forced + 4 * b2n l.satHi + 8 * b2n l.satLo + 16 * b2n l.rateLimited + 32 * b2n l.auxStale +
  64 * b2n l.satAtClose + 128 * b2n l.coefRej + 256 * b2n l.reqRej + 512 * b2n l.admitRej

/-- The loop status word of the logic engine's I area (R245). -/
def Loop.statusWord (l : Loop) : Nat :=
  l.state.code + 16 * l.holdCause + 128 * b2n l.ovrSnap + 256 * b2n l.satHi + 512 * b2n l.satLo + 1024 * b2n l.auxStale +
  2048 * b2n l.forced

/-- `VALUES` (R243). -/
def Loop.values (l : Loop) : Octets :=
  leBytes 4 l.evals ++ leBytes 4 l.planVer ++ leInt 2 l.vals.sp ++ leInt 2 l.vals.y ++ leInt 2 l.vals.ep ++ leInt 2 l.vals.ei ++
  leInt 2 l.vals.ed ++ leInt 2 l.vals.p ++ leInt 2 l.vals.i ++ leInt 2 l.vals.d ++ leInt 2 l.vals.ff ++ leInt 2 l.vals.rep ++
  leInt 2 l.vals.u ++ zeros 2

/-- The entries of a loop and of its repetitive controller as read (R233, R243, R255); none for an entry that reads its stored
value. -/
def State.ctrlRead (s : State) (idx sub : Nat) : Option Octets :=
  if 0x3000 ≤ idx ∧ idx < 0x3400 then
    let n := idx - 0x3000
    if sub = 0x0D then some (leBytes 1 (s.loop n).req)
    else match s.innerOf n with
      | none => none
      | some i =>
        match sub with
        | 2 => some (leBytes 4 (s.nat (0x3000 + i) 2 * ((s.outerOf i).getD (0, 1)).2))
        | 3 => some (leBytes 1 (s.nat (0x3000 + i) 3))
        | 4 => some (leBytes 4 (s.nat (0x3000 + i) 4))
        | _ => none
  else if 0x3400 ≤ idx ∧ idx < 0x3800 then
    let l := s.loop (idx - 0x3400)
    match sub with
    | 1 => some (leBytes 1 l.state.code)
    | 2 => some (leBytes 1 l.holdCause)
    | 3 => some (leBytes 2 l.flags)
    | 4 => some l.values
    | 5 => some (leBytes 4 l.ovrCount)
    | 6 => some (leBytes 1 l.ovrConsec)
    | 7 => some (leBytes 2 (if s.admitted (idx - 0x3400) then l.slot.getD 0xFFFF else 0xFFFF))
    | 8 => some (leBytes 4 l.restores)
    | 0x0A => some (leBytes 4 s.loadMilli)
    | _ => none
  else if 0x3800 ≤ idx ∧ idx < 0x3C00 then
    let n := idx - 0x3800
    let r := (s.loop n).rep
    match sub with
    | 3 => some (leBytes 2 (s.repStatus n))
    | 4 => some (leBytes 4 r.learned ++ leBytes 4 r.frozenN ++ leBytes 4 r.late ++ leBytes 4 r.poisoned)
    | 5 => some ((List.range (s.repCfg n).p).flatMap (fun k =>
        leInt 2 (if r.poison.contains k then sat16 (Config.poisonWord n k) else Tab.get 0 r.table k)))
    | 6 => some (leBytes 4 r.pos)
    | _ => none
  else if 0x3C00 ≤ idx ∧ idx < 0x3C20 then
    let v := s.probe (idx - 0x3C00)
    match sub with
    | 2 => some (leBytes 1 v.state)
    | 3 => some (leBytes 4 (v.pre.length + v.post.length) ++ leBytes 4 v.pre.length ++ leBytes 8 v.trigTime ++
        leBytes 4 v.trigSample ++ leBytes 2 (b2n v.preShort + 2 * b2n v.gap + 4 * b2n v.poison + 8 * b2n v.late +
          16 * b2n v.groupTrig + 32 * b2n v.loopOff) ++ zeros 2)
    | 4 => some (v.pre ++ v.post).flatten
    | _ => none
  else if idx = 0x3C80 ∧ sub = 4 then
    some (leBytes 4 (((List.range 32).map (fun p => b2n (s.probe p).active * 2 ^ p)).foldl (· + ·) 0))
  else none

/-- `TRACE_DATA` is refused with 0x0A06 while the probe is ARMED or TRIGGERED (R264). -/
def State.ctrlReadRefused (s : State) (idx sub : Nat) : Option Nat :=
  if 0x3C00 ≤ idx ∧ idx < 0x3C20 ∧ sub = 4 ∧ (s.probe (idx - 0x3C00)).active then some 0x0A06 else none

/-- Every write of the control engine's entries. -/
def State.ctrlWrite (s : State) (idx sub : Nat) (b : Octets) : WRes :=
  if 0x3000 ≤ idx ∧ idx < 0x3400 then s.loopWrite (idx - 0x3000) sub b
  else if 0x3400 ≤ idx ∧ idx < 0x3800 then s.loopStatusWrite (idx - 0x3400) sub b
  else if 0x3800 ≤ idx ∧ idx < 0x3C00 then s.repWrite (idx - 0x3800) sub b
  else if 0x3C00 ≤ idx ∧ idx < 0x3C20 then s.writeProbeConfig (idx - 0x3C00) b
  else if idx = 0x3C80 then
    match sub with
    | 1 => s.writeArm (leNat b)
    | 2 => .done (s.triggerMask (leNat b) false)
    | 3 => s.writeTraceAbort (leNat b)
    | 5 => s.writeClearFlags (leNat b)
    | _ => .plain
  else .plain

/-! ## Restart (R239) and model activation (R107) -/

/-- A loop is admitted again at a restart, or stays OFF with the event (R239). -/
def State.readmitAtRestart (s : State) (n : Nat) : State :=
  let l := s.loop n
  if l.state = .off then s
  else
    let s0 := s.setLoop n { l with state := .off, slot := none }
    let bad := s0.destHeld n (s0.src n 5) || !s0.cascadeOk n || !s0.innerUp n ||
      ((s0.repCfg n).enable && !s0.repLoadOk n true)
    match (if bad then none else s0.admission n) with
    | some q => s.setLoop n { l with slot := some q }
    | none => s0.post .ctrl Code.ctrlAdmitRej n []

/-- LOGIC_MODE_REQUEST (R227). -/
def execLogicModeRequest (t n w : Nat) (s : State) : Out :=
  onUnit (decide (n < 1024)) .ctrl t s (fun s => s.logicRequest n (w % 65536))

end Machine
end Sys2Proof
end

