-- ==== Sys2Proof/Machine/Keep.lean ====
section
/-! DEFINITION. Reads and writes of a keep-store record with its A and B slots (R40). -/

namespace Sys2Proof
namespace Machine

/-- The slot a read uses: the valid one with the higher generation (R40); A is 0. -/
def KRec.newest {α : Type} (r : KRec α) : Option (Nat × Nat × α) :=
  match r.a, r.b with
  | none, none => none
  | some (g, x), none => some (0, g, x)
  | none, some (g, x) => some (1, g, x)
  | some (g, x), some (h, y) => if g < h then some (1, h, y) else some (0, g, x)

/-- The content a read gives. -/
def KRec.read {α : Type} (r : KRec α) : Option α := r.newest.map (·.2.2)

/-- The newest generation, 0 where no slot is valid. -/
def KRec.gen {α : Type} (r : KRec α) : Nat := (r.newest.map (·.2.1)).getD 0

/-- A write goes to the slot that does not hold the newest valid copy, with the generation plus one in its 32 bits (R40). -/
def KRec.write {α : Type} (r : KRec α) (x : α) : KRec α :=
  match r.newest with
  | some (0, g, _) => { r with b := some ((g + 1) % 4294967296, x) }
  | some (_, g, _) => { r with a := some ((g + 1) % 4294967296, x) }
  | none => { r with a := some (1, x) }

/-- A write that was cut: the slot it went to is not valid; the newest valid copy stays (R40, R106, R542). -/
def KRec.torn {α : Type} (r : KRec α) : KRec α :=
  match r.newest with
  | some (0, _, _) => { r with b := none }
  | some _ => { r with a := none }
  | none => r

/-- A slot whose check fails when it is read is not valid: A is 0, B is 1 (R40). -/
def KRec.fail {α : Type} (r : KRec α) (slot : Nat) : KRec α := if slot = 0 then { r with a := none } else { r with b := none }

/-- The record at a place of R39's table loses a slot: 8 is the control record, 108 the learned record of the checkpoint slots; the firmware
images carry checks of their own (R399), and each record of the interval ring stands alone. -/
def Keep.fail (k : Keep) (record slot : Nat) : Keep :=
  match record with
  | 1 => { k with prog := k.prog.fail slot }
  | 2 => { k with model := k.model.fail slot }
  | 3 => { k with saved := k.saved.fail slot }
  | 4 => { k with energy := k.energy.fail slot }
  | 6 => { k with head := k.head.fail slot }
  | 7 => { k with retained := k.retained.fail slot }
  | 8 => { k with control := k.control.fail slot }
  | 9 => { k with excerpt := k.excerpt.fail slot }
  | 10 => { k with keys := k.keys.fail slot }
  | 108 => { k with learned := k.learned.fail slot }
  | _ => k

/-- Both slots invalid: KEEP_RECORD_LOST with the record's place in R39's table (R40, R572), and the degraded cause (R46). -/
def State.keepLost (s : State) (record : Nat) : State :=
  (s.post .mem Code.keepRecordLost 0 [.u8 record]).setCause 3 true

end Machine
end Sys2Proof
end

