-- ==== Sys2Proof/Machine/Device.lean ====
section
/-! DEFINITION. Device states, hold causes and the state request (R42–R47), and the pins that follow the state (R533, R534). -/

namespace Sys2Proof
namespace Machine

/-- A hold cause becomes present (R44, R47): the first one in RUN or DEGRADED enters SAFE_HOLD and holds the outputs; in
SAFE_HOLD and SERVICE it is added and logged. -/
def State.holdOnset (s : State) (c : Nat) : State :=
  if bitOf s.dev.hold c then s
  else
    let s := s.holdBit c true
    if s.operating then (s.enter .safeHold).ctrlHold else s.logCause

/-- `READY` is high (R42, R533). -/
def State.ready (s : State) : Bool := s.up

/-- `FAULT_N` is driven low (R534). -/
def State.faultLow (s : State) : Bool :=
  s.power.halted || (decide (s.dev.state = .safeHold) && (bitOf s.dev.hold 2 || bitOf s.dev.hold 3)) || s.power.lossReset

/-- Resume from SAFE_HOLD: RUN, or DEGRADED while a cause is set (R44); loops follow R226. -/
def State.resume (s : State) : State :=
  (s.enter (if s.dev.degraded = 0 then .run else .degraded)).ctrlRelease

/-- Request 1 at `STATE_REQUEST` (R44, R47). -/
def State.requestHold (s : State) : WRes :=
  if s.up then .done ({ s with dev := { s.dev with lastRequest := 1 } }.holdOnset 1) else .refuse 0x0A06 s

/-- Request 2 (R44, R47): refused while a cause other than 1 is present, or while an activation that changes topology runs
(R106, `busy`). -/
def State.requestLeave (s : State) (busy : Bool) : WRes :=
  if s.dev.state = .safeHold ∧ (putBit s.dev.hold 1 false = 0) ∧ ¬ busy then
    .done ({ s with dev := { s.dev with hold := 0, lastRequest := 2 } }.resume)
  else .refuse 0x0A06 s

/-- Request 3 (R44): from a session of role service in RUN, DEGRADED or SAFE_HOLD. -/
def State.requestService (s : State) (role : Nat) : WRes :=
  if (s.operating || decide (s.dev.state = .safeHold)) && decide (role = 2) then
    .done (({ s with dev := { s.dev with lastRequest := 3 } }.enter .service).ctrlHold)
  else .refuse 0x0A06 s

/-- A write of `STATE_REQUEST` (R45). -/
def State.stateRequest (s : State) (r role : Nat) (busy : Bool) : WRes :=
  match r with
  | 0 => .done { s with dev := { s.dev with lastRequest := 0 } }
  | 1 => s.requestHold
  | 2 => s.requestLeave busy
  | _ => s.requestService role

/-- The synchronisation state changes (R428, R572); a change is logged where the table of R428 says so. -/
def State.syncTo (s : State) (n : Nat) (logged : Bool) : State :=
  let old := s.sync.state
  if old = n then s
  else
    let s := { s with sync := { s.sync with state := n, good := 0 } }
    if logged then s.post .tbase Code.syncStateChange 0 [.u8 n, .u8 old, .i64 s.sync.theta] else s

/-- REFCLK_LOST (R16). -/
def execRefclkLost (t : Nat) (s : State) : Out :=
  onIsland .backup t s (fun s =>
    let s := { s with clk := { s.clk with refclk := false, unsync := true }, cal := { s.cal with steering := false } }
    (s.syncTo 4 false).holdOnset 2)

/-- REFCLK_RELOCK (R16, R47): the generators relock; the device stays as it is. -/
def execRefclkRelock (t : Nat) (s : State) : Out :=
  onIsland .backup t s (fun s =>
    let s := { s with clk := { s.clk with refclk := true } }
    (if s.sync.state = 4 then s.syncTo 3 false else s).clearHold 2)

/-- DEGRADED_CAUSE_TIMEOUT (R46): a timed cause whose 60 s window has ended clears. -/
def execDegradedCauseTimeout (t : Nat) (s : State) : Out :=
  onIsland .house t s (fun s =>
    let s := if bitOf s.dev.degraded 4 ∧ s.dev.fabricUntil ≤ s.clk.dev then s.setCause 4 false else s
    if bitOf s.dev.degraded 5 ∧ s.dev.rebuiltUntil ≤ s.clk.dev then s.setCause 5 false else s)

/-- The 60 s window of FABRIC_FAULT (R46). -/
def State.fabricCause (s : State) : State :=
  ({ s with dev := { s.dev with fabricUntil := s.clk.dev + 60000000000 } }).setCause 4 true

/-- The 60 s window of CRITICAL_REBUILT (R46). -/
def State.rebuiltCause (s : State) : State :=
  ({ s with dev := { s.dev with rebuiltUntil := s.clk.dev + 60000000000 } }).setCause 5 true

/-- The spare generator of an island is still free: it is neither in service nor out of service (R14, R492). -/
def State.spareClock (s : State) (isl : Nat) : Bool := !s.dev.onSpare.contains isl && !(s.poolOut 7 isl).contains 1

/-- An island goes over to its spare generator (R14, R46). -/
def State.toSpareClock (s : State) (isl : Nat) : State :=
  ({ s with dev := { s.dev with onSpare := insRising isl s.dev.onSpare } }).setCause 1 true

/-- The failure of the generator in service (R14): the island's clock stops; the spare takes over and the island resumes after `dur` ns,
at most 20 µs; without a free spare it stays stopped (R492). -/
def State.clockFails (s : State) (isl dur : Nat) : State :=
  let cur := 2 * isl + b2n (s.dev.onSpare.contains isl)
  let s' := s.post .house Code.clockSwitch 0 [.u8 isl]
  (if s.spareClock isl then
     ({ s' with dev := { s'.dev with stopped := Tab.insert s'.dev.stopped isl (s.now + min dur 20000) } }).toSpareClock isl
   else { s' with dev := { s'.dev with dead := insRising isl s'.dev.dead } }).retireElem 7 cur 0

/-- CLOCK_SWITCH (R14, R15, R357, R492). -/
def execClockSwitch (t isl dur : Nat) (s : State) : Out :=
  onUnit (decide (isl < 8)) .house t s (fun s =>
    if isl = Island.num .comm then (s.clockFails isl dur).canClockStops else s.clockFails isl dur)

end Machine
end Sys2Proof
end

