-- ==== Sys2Proof/Machine/Operands.lean ====
section
/-! DEFINITION. The areas of the logic engine and every operand form (R330, R331), with forces laid over each read (R344). -/

namespace Sys2Proof
namespace Machine

/-- The elements of an area in the unit of R330, 0 for a code that names none. -/
def areaSize : Nat → Nat
  | 1 => 8192 | 2 => 8192 | 3 => 65536 | 4 => 16384 | 5 => 1024 | 6 => 512 | 7 => 2048 | 8 => 16 | _ => 0

/-- Areas whose BIT index counts word × 32 + bit (R331). -/
def wordArea (a : Nat) : Bool := decide (1 ≤ a ∧ a ≤ 4) || decide (a = 8)

/-- The word a program writes and the image holds under any force. -/
def Logic.under (l : Logic) (area w : Nat) : Word32 :=
  match area with
  | 1 => Tab.get 0 l.i w
  | 2 => Tab.get 0 l.q w
  | 3 => Tab.get 0 l.m w
  | 4 => BitVec.ofInt 32 (Tab.get 0 l.k w)
  | 5 => BitVec.ofNat 32 (Tab.get {} l.t w).elapsed
  | 6 => BitVec.ofInt 32 (Tab.get {} l.c w).count
  | 7 => Config.freeDetectorWord (Tab.get {} l.e w).mem
  | 8 => nth 0 l.sys w ||| (if w = 0 then BitVec.ofNat 32 (32 * b2n l.regs.sat + 64 * b2n l.regs.div0) else 0)
  | _ => 0

/-- One force laid over a word of its area. -/
def Force.over (f : Force) (area w : Nat) (v : Word32) : Word32 :=
  if f.area = area ∧ f.word = w then
    match f.bit with
    | none => f.value
    | some b => BitVec.ofNat 32 (putBit v.toNat b (decide (f.value ≠ 0)))
  else v

/-- The word a program reads (R344). -/
def Logic.word (l : Logic) (area w : Nat) : Word32 :=
  l.forces.foldl (fun v f => f.over area w v) (l.under area w)

/-- Write a word of Q, M or C; a forced word takes it into its shadow (R344). -/
def Logic.putWord (l : Logic) (area w : Nat) (v : Word32) : Logic :=
  match area with
  | 2 => { l with q := Tab.put 0 l.q w v }
  | 3 => { l with m := Tab.put 0 l.m w v }
  | 6 => { l with c := Tab.put {} l.c w { Tab.get {} l.c w with count := v.toInt } }
  | _ => l

/-- The element an operand names: `INDEX`, plus WB (unsigned) where INDEXED (R331). -/
def Opd.elem (d : Opd) (wb : Word32) : Nat := d.index + (if d.indexed then wb.toNat else 0)

/-- Whether the element lies within its area (R330, R339 code 1). -/
def Opd.inside (d : Opd) (wb : Word32) : Bool :=
  if d.area = 0 then true
  else if d.area = 14 then decide (d.elem wb = 0)
  else if d.type = 0 && wordArea d.area then decide (d.elem wb / 32 < areaSize d.area)
  else decide (d.elem wb < areaSize d.area)

/-- The operand's word and bit in a word area. -/
def Opd.place (d : Opd) (wb : Word32) : Nat × Nat :=
  if d.type = 0 && wordArea d.area then (d.elem wb / 32, d.elem wb % 32) else (d.elem wb, 0)

/-- A BIT load (R331). -/
def Logic.loadBit (l : Logic) (d : Opd) : Bool :=
  let e := d.elem l.regs.wb
  match d.area with
  | 0 => Config.freeImmBit d.index
  | 5 => (Tab.get {} l.t e).out
  | 6 => Config.freeCounterBit (Tab.get {} l.c e).count
  | 7 => (Tab.get {} l.e e).mem
  | 14 => l.regs.wb.getLsbD 0
  | a => (l.word a (e / 32)).getLsbD (e % 32)

/-- A load of a WORD, S16 or U16 operand, or of a BIT as 0 or 1 (R331). -/
def Logic.load (l : Logic) (d : Opd) : Word32 :=
  if d.type = 0 then (if l.loadBit d then 1 else 0)
  else
    let w : Word32 :=
      match d.area with
      | 0 => BitVec.ofInt 32 (signed 24 d.index)
      | 14 => l.regs.wb
      | a => l.word a (d.elem l.regs.wb)
    match d.type with
    | 2 => BitVec.ofInt 32 (signed 16 w.toNat)
    | 3 => BitVec.ofNat 32 (w.toNat % 65536)
    | _ => w

/-- A BIT store of `b`: that one bit and no other (R338). -/
def Logic.storeBit (l : Logic) (d : Opd) (b : Bool) : Logic :=
  let e := d.elem l.regs.wb
  if d.area = 6 then
    { l with c := Tab.put {} l.c e { Tab.get {} l.c e with
                    count := sat32 (Config.freeCounterStore (Tab.get {} l.c e).count b) } }
  else l.putWord d.area (e / 32) (BitVec.ofNat 32 (putBit (l.under d.area (e / 32)).toNat (e % 32) b))

/-- A store of WA through an operand (R331): S16 and U16 write the clamped low half and keep the high half. -/
def Logic.store (l : Logic) (d : Opd) (v : Word32) : Logic :=
  let e := d.elem l.regs.wb
  match d.type with
  | 0 => l.storeBit d (decide (v ≠ 0))
  | 2 => l.putWord d.area e
      (BitVec.ofNat 32 ((l.under d.area e).toNat / 65536 * 65536 + unsigned 16 (sat16 v.toInt)))
  | 3 => l.putWord d.area e
      (BitVec.ofNat 32 ((l.under d.area e).toNat / 65536 * 65536 + (clampI 0 65535 v.toInt).toNat))
  | _ => l.putWord d.area e v

/-- A descriptor word taken apart (R331). -/
def Opd.ofWord (w : Word32) : Opd :=
  let n := w.toNat
  { area := n / 268435456, type := n / 16777216 % 8, indexed := n.testBit 27, index := n % 16777216 }

/-- A descriptor as its word (R331). -/
def Opd.toWord (d : Opd) : Word32 :=
  BitVec.ofNat 32 (d.area * 268435456 + (b2n d.indexed) * 134217728 + d.type * 16777216 + d.index)

/-- Whether a change of a timer's, counter's or detector's kind is BIT or WORD only (R331). -/
def Opd.typeOk (d : Opd) : Bool :=
  if d.area = 0 then decide (d.type ≤ 1) && !d.indexed
  else if d.area = 14 then decide (d.type = 1) && decide (d.index = 0)
  else if 5 ≤ d.area ∧ d.area ≤ 7 then decide (d.type ≤ 1)
  else (decide (1 ≤ d.area ∧ d.area ≤ 4) || decide (d.area = 8)) && decide (d.type ≤ 3)

end Machine
end Sys2Proof
end

