-- ==== Sys2Proof/Machine/LogicIsa.lean ====
section
/-! DEFINITION. The instruction set of the logic engine (R336–R343): what each instruction does to the engine's registers and
areas, the LOGIC cycles it takes, and its run-time faults (R339). -/

namespace Sys2Proof
namespace Machine

/-- The engine's registers replaced. -/
def Logic.setRegs (l : Logic) (r : LogicRegs) : Logic := { l with regs := r }

/-- A run-time fault of R339 at this instruction. -/
def Logic.fail (l : Logic) (code : Nat) : Logic := { l with regs := { l.regs with fault := code } }

/-- After an instruction of `len` words that took `cyc` LOGIC cycles: the next address, unless it faulted. -/
def Logic.done (l : Logic) (len cyc : Nat) : Logic :=
  if l.regs.fault ≠ 0 then l
  else { l with regs := { l.regs with pc := l.regs.pc + len, cycles := l.regs.cycles + cyc } }

/-- After a jump to `a` that took `cyc` LOGIC cycles. -/
def Logic.goto (l : Logic) (a cyc : Nat) : Logic :=
  { l with regs := { l.regs with pc := a, cycles := l.regs.cycles + cyc } }

/-- One LOGIC cycle for an indexed operand (R337). -/
def Opd.extra (d : Opd) : Nat := b2n d.indexed

/-- An instruction with one operand: fault 1 where the element lies outside its area (R339), else its effect. -/
def Logic.with1 (l : Logic) (d : Opd) (cyc : Nat) (f : Logic → Logic) : Logic :=
  if d.inside l.regs.wb then (f l).done 2 (cyc + d.extra) else l.fail 1

/-- TB := b. -/
def Logic.putTb (l : Logic) (b : Bool) : Logic := { l with regs := { l.regs with tb := b } }

/-- WA := v. -/
def Logic.putWa (l : Logic) (v : Word32) : Logic := { l with regs := { l.regs with wa := v } }

/-- A TB instruction: TB := f TB bit. -/
def Logic.tbOp (l : Logic) (d : Opd) (f : Bool → Bool → Bool) : Logic :=
  l.with1 d 1 (fun l => l.putTb (f l.regs.tb (l.loadBit d)))

/-- A WA instruction on words: WA := f WA op. -/
def Logic.waOp (l : Logic) (d : Opd) (f : Word32 → Word32 → Word32) : Logic :=
  l.with1 d 1 (fun l => l.putWa (f l.regs.wa (l.load d)))

/-- A WA instruction whose result saturates (R338). -/
def Logic.satOp (l : Logic) (d : Opd) (cyc : Nat) (f : Int → Int → Int) : Logic :=
  l.with1 d cyc (fun l => l.setRegs (l.regs.putSat (f l.regs.wa.toInt (l.load d).toInt)))

/-- A timer's outcome (R340): phase, start, output from the input, the previous input, elapsed and preset. -/
def timerStep (type : Nat) (tm : Timer) (inp : Bool) (snap : Nat) (elapsed : Nat) (preset : Nat) : Timer :=
  let due := decide (preset ≤ elapsed)
  match type, tm.phase with
  | 1, 0 => if inp then
      (if preset = 0 then { tm with phase := 2, start := snap, out := true }
       else { tm with phase := 1, start := snap, out := false })
    else tm
  | 1, 1 => if inp then (if due then { tm with phase := 2, out := true } else tm)
    else { tm with phase := 0, out := false }
  | 1, _ => if inp then tm else { tm with phase := 0, out := false }
  | 2, 0 => if inp then { tm with phase := 0, out := true }
    else if tm.prev then
      (if preset = 0 then { tm with phase := 2, start := snap, out := false }
       else { tm with phase := 1, start := snap, out := true })
    else tm
  | 2, 1 => if inp then { tm with phase := 0, out := true } else if due then { tm with phase := 2, out := false } else tm
  | 2, _ => if inp then { tm with phase := 0, out := true } else tm
  | 3, 0 => if inp && !tm.prev then
      (if preset = 0 then { tm with phase := 2, start := snap, out := false }
       else { tm with phase := 1, start := snap, out := true })
    else tm
  | 3, 1 => if due then { tm with phase := 2, out := false } else tm
  | 3, _ => if inp then tm else { tm with phase := 0 }
  | _, _ => tm

/-- The resolution of a timer in ns (R340). -/
def timerRes : Nat → Nat
  | 0 => 1000000 | 1 => 10000000 | 2 => 100000000 | _ => 1000000000

/-- Elapsed in resolution units, 0 in IDLE, saturating (R340). -/
def timerElapsed (phase start snap res : Nat) : Nat :=
  if phase = 0 then 0 else min ((snap - start) / res) 4294967295

/-- TMR (R340, R341). -/
def Logic.timer (l : Logic) (n : Nat) : Logic :=
  match l.loaded.bind (fun p => Tab.find p.timers n) with
  | none => (l.putTb false).done 1 2
  | some d =>
    if d.type = 0 then (l.putTb false).done 1 2
    else
      let tm := Tab.get {} l.t n
      let res := timerRes d.res
      let preset := ((l.word 4 d.preset).toInt).toNat
      let tm' := timerStep d.type tm l.regs.tb l.snap (timerElapsed tm.phase tm.start l.snap res) preset
      let tm' := { tm' with prev := l.regs.tb, elapsed := timerElapsed tm'.phase tm'.start l.snap res }
      (Logic.putTb { l with t := Tab.put {} l.t n tm' } tm'.out).done 1 2

/-- CTU and CTD (R342): the first execution after a start stores the input alone. -/
def Logic.count (l : Logic) (n : Nat) (step : Int) : Logic :=
  let c := Tab.get {} l.c n
  let rising := l.regs.tb && !c.input && !c.fresh
  let v := if rising then c.count + step else c.count
  Logic.done { l with c := Tab.put {} l.c n { count := sat32 v, input := l.regs.tb, fresh := false },
                      regs := { l.regs with sat := l.regs.sat || decide (sat32 v ≠ v) } } 1 1

/-- EDR and EDF (R343). -/
def Logic.edge (l : Logic) (n : Nat) (rising : Bool) : Logic :=
  let d := Tab.get {} l.e n
  let x := if d.fresh then false else if rising then l.regs.tb && !d.mem else d.mem && !l.regs.tb
  (Logic.putTb { l with e := Tab.put {} l.e n { mem := l.regs.tb, fresh := false } } x).done 1 1

/-- EVT (R337, R338): at most 16 in a program cycle post; later ones are counted as dropped. -/
def Logic.event (l : Logic) (field : Nat) : Logic :=
  if l.regs.tb then
    (if l.regs.evtCount < 16 then
      Logic.done { l with regs := { l.regs with evtCount := l.regs.evtCount + 1,
                                                evts := l.regs.evts ++ [(field, l.regs.wa)] } } 1 4
     else Logic.done { l with regs := { l.regs with evtDropped := l.regs.evtDropped + 1 } } 1 4)
  else l.done 1 4

/-- BMOV (R337): `n` words, lowest index first; an element outside its area is fault 1. -/
def Logic.copyWords (l : Logic) (a b : Nat) (i j : Nat) : Nat → Logic
  | 0 => l
  | n + 1 =>
    if areaSize a ≤ i ∨ areaSize b ≤ j then l.fail 1
    else (l.putWord b j (l.word a i)).copyWords a b (i + 1) (j + 1) n

/-- NOP (R337): No operation. -/
def Logic.opNop (l : Logic) : Logic :=
  l.done 1 1

/-- TSTB (R337): TB := bit. -/
def Logic.opTstb (l : Logic) (d : Opd) : Logic :=
  l.tbOp d (fun _ b => b)

/-- TSTN (R337): TB := not bit. -/
def Logic.opTstn (l : Logic) (d : Opd) : Logic :=
  l.tbOp d (fun _ b => !b)

/-- ANDB (R337): TB := TB and bit. -/
def Logic.opAndb (l : Logic) (d : Opd) : Logic :=
  l.tbOp d (fun t b => t && b)

/-- ANDN (R337): TB := TB and not bit. -/
def Logic.opAndn (l : Logic) (d : Opd) : Logic :=
  l.tbOp d (fun t b => t && !b)

/-- ORB (R337): TB := TB or bit. -/
def Logic.opOrb (l : Logic) (d : Opd) : Logic :=
  l.tbOp d (fun t b => t || b)

/-- ORN (R337): TB := TB or not bit. -/
def Logic.opOrn (l : Logic) (d : Opd) : Logic :=
  l.tbOp d (fun t b => t || !b)

/-- XORB (R337): TB := TB xor bit. -/
def Logic.opXorb (l : Logic) (d : Opd) : Logic :=
  l.tbOp d (fun t b => t != b)

/-- NOTB (R337): TB := not TB. -/
def Logic.opNotb (l : Logic) : Logic :=
  (l.putTb (!l.regs.tb)).done 1 1

/-- SETB (R337): if TB: bit := 1. -/
def Logic.opSetb (l : Logic) (d : Opd) : Logic :=
  l.with1 d 1 (fun l => if l.regs.tb then l.storeBit d true else l)

/-- CLRB (R337): if TB: bit := 0. -/
def Logic.opClrb (l : Logic) (d : Opd) : Logic :=
  l.with1 d 1 (fun l => if l.regs.tb then l.storeBit d false else l)

/-- STB (R337): bit := TB. -/
def Logic.opStb (l : Logic) (d : Opd) : Logic :=
  l.with1 d 1 (fun l => l.storeBit d l.regs.tb)

/-- LDTB (R337): TB := FIELD[0]. -/
def Logic.opLdtb (l : Logic) (n : Nat) : Logic :=
  (l.putTb (bitOf n 0)).done 1 1

/-- LDW (R337): WA := op. -/
def Logic.opLdw (l : Logic) (d : Opd) : Logic :=
  l.with1 d 1 (fun l => l.putWa (l.load d))

/-- LDWB (R337): WB := op. -/
def Logic.opLdwb (l : Logic) (d : Opd) : Logic :=
  l.with1 d 1 (fun l => { l with regs := { l.regs with wb := l.load d } })

/-- LDI (R337): WA := the immediate, of 24 bits in one word or of 32 bits in two. -/
def Logic.opLdi (l : Logic) (i : Word32) (len : Nat) : Logic :=
  (l.putWa i).done len 1

/-- STW (R337): op := WA. -/
def Logic.opStw (l : Logic) (d : Opd) : Logic :=
  l.with1 d 1 (fun l => l.store d l.regs.wa)

/-- SWAP (R337): WA and WB exchanged. -/
def Logic.opSwap (l : Logic) : Logic :=
  Logic.done { l with regs := { l.regs with wa := l.regs.wb, wb := l.regs.wa } } 1 1

/-- MOVB (R337): WB := WA. -/
def Logic.opMovb (l : Logic) : Logic :=
  Logic.done { l with regs := { l.regs with wb := l.regs.wa } } 1 1

/-- ADD (R337): WA := sat32(WA + op). -/
def Logic.opAdd (l : Logic) (d : Opd) : Logic :=
  l.satOp d 1 (· + ·)

/-- SUB (R337): WA := sat32(WA − op). -/
def Logic.opSub (l : Logic) (d : Opd) : Logic :=
  l.satOp d 1 (· - ·)

/-- MUL (R337): WA := sat32(WA × op). -/
def Logic.opMul (l : Logic) (d : Opd) : Logic :=
  l.satOp d 1 (· * ·)

/-- DIV (R337): WA := WA / op, truncated. -/
def Logic.opDiv (l : Logic) (d : Opd) : Logic :=
  l.with1 d 12 (fun l => l.setRegs (l.regs.divide (l.load d).toInt))

/-- MOD (R337): WA := WA − op × (WA / op). -/
def Logic.opMod (l : Logic) (d : Opd) : Logic :=
  l.with1 d 12 (fun l => l.setRegs (l.regs.modulo (l.load d).toInt))

/-- MULQ (R337): WA := sat32(rnd(WA × op, 15)). -/
def Logic.opMulq (l : Logic) (d : Opd) : Logic :=
  l.satOp d 2 (fun a b => rndUp (a * b) 15)

/-- ABS (R337): WA := sat32(|WA|). -/
def Logic.opAbs (l : Logic) : Logic :=
  (l.setRegs (l.regs.putSat (l.regs.wa.toInt.natAbs : Int))).done 1 1

/-- NEG (R337): WA := sat32(−WA). -/
def Logic.opNeg (l : Logic) : Logic :=
  (l.setRegs (l.regs.putSat (-l.regs.wa.toInt))).done 1 1

/-- LIM (R337): WA := min(max(WA, op), op2). -/
def Logic.opLim (l : Logic) (d : Opd) (e : Opd) : Logic :=
  if d.inside l.regs.wb && e.inside l.regs.wb then
    (l.putWa (BitVec.ofInt 32 (min (max l.regs.wa.toInt (l.load d).toInt) (l.load e).toInt))).done 3 (2 + d.extra + e.extra)
  else l.fail 1

/-- MIN (R337): WA := min(WA, op). -/
def Logic.opMin (l : Logic) (d : Opd) : Logic :=
  l.waOp d (fun a b => if a.toInt ≤ b.toInt then a else b)

/-- MAX (R337): WA := max(WA, op). -/
def Logic.opMax (l : Logic) (d : Opd) : Logic :=
  l.waOp d (fun a b => if a.toInt ≤ b.toInt then b else a)

/-- ANDW (R337): WA := WA and op. -/
def Logic.opAndw (l : Logic) (d : Opd) : Logic :=
  l.waOp d (· &&& ·)

/-- ORW (R337): WA := WA or op. -/
def Logic.opOrw (l : Logic) (d : Opd) : Logic :=
  l.waOp d (· ||| ·)

/-- XORW (R337): WA := WA xor op. -/
def Logic.opXorw (l : Logic) (d : Opd) : Logic :=
  l.waOp d (· ^^^ ·)

/-- NOTW (R337): WA := not WA. -/
def Logic.opNotw (l : Logic) : Logic :=
  (l.putWa (~~~l.regs.wa)).done 1 1

/-- SHL (R337): WA := WA << FIELD[4:0]. -/
def Logic.opShl (l : Logic) (n : Nat) : Logic :=
  (l.putWa (l.regs.wa <<< (n % 32))).done 1 1

/-- SHR (R337): WA := WA >> FIELD[4:0], logical. -/
def Logic.opShr (l : Logic) (n : Nat) : Logic :=
  (l.putWa (l.regs.wa >>> (n % 32))).done 1 1

/-- SAR (R337): WA := WA >> FIELD[4:0], arithmetic. -/
def Logic.opSar (l : Logic) (n : Nat) : Logic :=
  (l.putWa (l.regs.wa.sshiftRight (n % 32))).done 1 1

/-- CMP (R337): TB := WA compared with op by FIELD. -/
def Logic.opCmp (l : Logic) (n : Nat) (d : Opd) : Logic :=
  l.with1 d 1 (fun l => l.putTb (compareWords n l.regs.wa (l.load d)))

/-- BMOV (R337): copies WB words from the op area to the op2 area. -/
def Logic.opBmov (l : Logic) (d : Opd) (e : Opd) : Logic :=
  if 256 < l.regs.wb.toNat then l.fail 4
  else (l.copyWords d.area e.area (d.elem l.regs.wb) (e.elem l.regs.wb) l.regs.wb.toNat).done 3
    (2 + l.regs.wb.toNat + d.extra + e.extra)

/-- JMP (R337): jump to FIELD. -/
def Logic.opJmp (l : Logic) (n : Nat) : Logic :=
  l.goto n 2

/-- JMPT (R337): if TB: jump to FIELD. -/
def Logic.opJmpt (l : Logic) (n : Nat) : Logic :=
  if l.regs.tb then l.goto n 2 else l.done 1 1

/-- JMPF (R337): if not TB: jump to FIELD. -/
def Logic.opJmpf (l : Logic) (n : Nat) : Logic :=
  if l.regs.tb then l.done 1 1 else l.goto n 2

/-- CALL (R337): push the next address; jump to FIELD. -/
def Logic.opCall (l : Logic) (n : Nat) : Logic :=
  if 16 ≤ l.regs.stack.length then l.fail 2
  else Logic.goto { l with regs := { l.regs with stack := (l.regs.pc + 1) :: l.regs.stack } } n 2

/-- RET (R337): pop and jump. -/
def Logic.opRet (l : Logic) : Logic :=
  match l.regs.stack with
  | [] => l.fail 3
  | a :: r => Logic.goto { l with regs := { l.regs with stack := r } } a 2

/-- LOOP (R337): WB := WB − 1; if WB ≠ 0: jump to FIELD. -/
def Logic.opLoop (l : Logic) (n : Nat) : Logic :=
  let l := { l with regs := { l.regs with wb := l.regs.wb - 1 } }
  if l.regs.wb ≠ 0 then l.goto n 2 else l.done 1 1

/-- END (R337): execution of the program cycle ends. -/
def Logic.opEnd (l : Logic) : Logic :=
  Logic.done { l with regs := { l.regs with ended := true } } 1 1

/-- TMR (R337): timer FIELD: input TB; TB := output. -/
def Logic.opTmr (l : Logic) (n : Nat) : Logic :=
  l.timer n

/-- CTU (R337): counter FIELD counts up on a rising TB. -/
def Logic.opCtu (l : Logic) (n : Nat) : Logic :=
  l.count n 1

/-- CTD (R337): counter FIELD counts down on a rising TB. -/
def Logic.opCtd (l : Logic) (n : Nat) : Logic :=
  l.count n (-1)

/-- CRS (R337): counter FIELD: if TB: count := 0. -/
def Logic.opCrs (l : Logic) (n : Nat) : Logic :=
  if l.regs.tb then
    Logic.done { l with c := Tab.put {} l.c n { Tab.get {} l.c n with count := 0 } } 1 1
  else l.done 1 1

/-- EDR (R337): detector FIELD: rising edge. -/
def Logic.opEdr (l : Logic) (n : Nat) : Logic :=
  l.edge n true

/-- EDF (R337): detector FIELD: falling edge. -/
def Logic.opEdf (l : Logic) (n : Nat) : Logic :=
  l.edge n false

/-- EVT (R337): if TB: post a LOGIC_EVENT with code 0x8000 + FIELD. -/
def Logic.opEvt (l : Logic) (n : Nat) : Logic :=
  l.event n

/-- The words an opcode takes (R337); LDI takes one or two, and 0 marks an undefined opcode. -/
def opcWords (opc : Nat) : Nat :=
  if [0, 8, 12, 20, 21, 30, 31, 39, 40, 41, 42, 48, 49, 50, 51, 52, 53, 54, 56, 57, 58, 59, 60, 61, 62].contains opc then 1
  else if [1, 2, 3, 4, 5, 6, 7, 9, 10, 11, 16, 17, 19, 24, 25, 26, 27, 28, 29, 33, 34, 36, 37, 38, 44].contains opc then 2
  else if [32, 45].contains opc then 3
  else if opc = 0x12 then 1 else 0

/-- Whether LEN (words) is the one R337 gives the opcode. -/
def lenOk (opc len : Nat) : Bool :=
  if opc = 0x12 then decide (len = 1) || decide (len = 2) else decide (opcWords opc ≠ 0) && decide (len = opcWords opc)

/-- The instruction at a word, with the words that follow it (R336, R337). An opcode R337 does not define cannot stand in a
validated image (R348, check 4); it passes the last code word's fault. -/
def Logic.instr (l : Logic) (w w1 w2 : Word32) : Logic :=
  let opc := w.toNat / 67108864
  let len := w.toNat / 16777216 % 4 + 1
  let n := w.toNat % 16777216
  let d := Opd.ofWord w1
  let e := Opd.ofWord w2
  match opc with
  | 0x00 => l.opNop
  | 0x01 => l.opTstb d
  | 0x02 => l.opTstn d
  | 0x03 => l.opAndb d
  | 0x04 => l.opAndn d
  | 0x05 => l.opOrb d
  | 0x06 => l.opOrn d
  | 0x07 => l.opXorb d
  | 0x08 => l.opNotb
  | 0x09 => l.opSetb d
  | 0x0A => l.opClrb d
  | 0x0B => l.opStb d
  | 0x0C => l.opLdtb n
  | 0x10 => l.opLdw d
  | 0x11 => l.opLdwb d
  | 0x12 => l.opLdi (if len = 2 then w1 else BitVec.ofInt 32 (signed 24 n)) len
  | 0x13 => l.opStw d
  | 0x14 => l.opSwap
  | 0x15 => l.opMovb
  | 0x18 => l.opAdd d
  | 0x19 => l.opSub d
  | 0x1A => l.opMul d
  | 0x1B => l.opDiv d
  | 0x1C => l.opMod d
  | 0x1D => l.opMulq d
  | 0x1E => l.opAbs
  | 0x1F => l.opNeg
  | 0x20 => l.opLim d e
  | 0x21 => l.opMin d
  | 0x22 => l.opMax d
  | 0x24 => l.opAndw d
  | 0x25 => l.opOrw d
  | 0x26 => l.opXorw d
  | 0x27 => l.opNotw
  | 0x28 => l.opShl n
  | 0x29 => l.opShr n
  | 0x2A => l.opSar n
  | 0x2C => l.opCmp n d
  | 0x2D => l.opBmov d e
  | 0x30 => l.opJmp n
  | 0x31 => l.opJmpt n
  | 0x32 => l.opJmpf n
  | 0x33 => l.opCall n
  | 0x34 => l.opRet
  | 0x35 => l.opLoop n
  | 0x36 => l.opEnd
  | 0x38 => l.opTmr n
  | 0x39 => l.opCtu n
  | 0x3A => l.opCtd n
  | 0x3B => l.opCrs n
  | 0x3C => l.opEdr n
  | 0x3D => l.opEdf n
  | 0x3E => l.opEvt n
  | _ => l.fail 5

/-- One instruction fetched at the program address; past the last code word it is fault 5 (R339). -/
def Logic.step1 (l : Logic) (code : List Word32) : Logic :=
  match code.drop l.regs.pc with
  | [] => l.fail 5
  | w :: r => l.instr w (nth 0 r 0) (nth 0 r 1)

/-- Execution up to END, a run-time fault, or more LOGIC cycles than `limit` leaves (R324, R327, R339): an instruction that would end
after the limit is not executed, its cycles are counted. Every instruction takes a cycle, so `limit + 1` steps suffice. -/
def Logic.run (code : List Word32) (limit : Nat) : Nat → Logic → Logic
  | 0, l => l
  | n + 1, l =>
    if l.regs.ended || decide (l.regs.fault ≠ 0) || decide (limit < l.regs.cycles) then l
    else
      let u := l.step1 code
      if limit < u.regs.cycles then { l with regs := { l.regs with cycles := u.regs.cycles } }
      else Logic.run code limit n u

end Machine
end Sys2Proof
end

