-- ==== Sys2Proof/Machine/LogicImage.lean ====
section
/-! DEFINITION. Program images: layout (R347), the checks of R348 in their order, and loading (R349). -/

namespace Sys2Proof
namespace Machine

/-- One instruction of an image: address, opcode, words, FIELD, operand descriptors. -/
structure CodeIns where
  at_ : Nat
  opc : Nat
  len : Nat
  field : Nat
  d : Opd
  e : Opd

/-- `n` words of an octet string. -/
def wordsOf : Octets → Nat → List Word32
  | _, 0 => []
  | b, n + 1 => BitVec.ofNat 32 (u32At b 0) :: wordsOf (b.drop 4) n

/-- The instructions of the code from address `a` on; the address of the first word that starts no instruction of R337, if
any. The fuel is the number of words. -/
def insOf : Nat → Nat → List Word32 → List CodeIns × Option Nat
  | 0, _, _ => ([], none)
  | _, _, [] => ([], none)
  | k + 1, a, w :: r =>
    let opc := w.toNat / 67108864
    let len := w.toNat / 16777216 % 4 + 1
    let n := w.toNat % 16777216
    if ¬ lenOk opc len ∨ (opc = 0x3E ∧ 0x0BFF < n) ∨ r.length + 1 < len then ([], some a)
    else
      let (l, bad) := insOf k (a + len) (r.drop (len - 1))
      (⟨a, opc, len, n, Opd.ofWord (nth 0 r 0), Opd.ofWord (nth 0 r 1)⟩ :: l, bad)

/-- The descriptors an instruction takes as an operand: whether each is a bit, and whether it is written (R337). -/
def CodeIns.opds (i : CodeIns) : List (Opd × Bool × Bool) :=
  if 1 ≤ i.opc ∧ i.opc ≤ 7 then [(i.d, true, false)]
  else if i.opc = 0x09 ∨ i.opc = 0x0A ∨ i.opc = 0x0B then [(i.d, true, true)]
  else if i.opc = 0x13 then [(i.d, false, true)]
  else if i.opc = 0x20 then [(i.d, false, false), (i.e, false, false)]
  else if i.opc = 0x2D then [(i.d, false, false), (i.e, false, true)]
  else if opcWords i.opc = 2 then [(i.d, false, false)]
  else []

/-- Check 5 of R348 for one descriptor. -/
def opdOk (x : Opd × Bool × Bool) : Bool :=
  let (d, bit, wr) := x
  d.typeOk && (decide (d.type = 0) == bit) && (!wr || decide (d.area = 2) || decide (d.area = 3) || decide (d.area = 6))

/-- Check 6 of R348 for one instruction. -/
def CodeIns.inside (i : CodeIns) : Bool :=
  i.opds.all (fun x => x.1.indexed || x.1.inside 0) &&
  (decide (i.opc ≠ 0x2D) || i.opds.all (fun x => x.1.indexed || decide (x.1.index + 256 ≤ areaSize x.1.area)))

/-- The instruction names a jump target (check 7). -/
def CodeIns.jumps (i : CodeIns) : Bool := decide (0x30 ≤ i.opc ∧ i.opc ≤ 0x33) || decide (i.opc = 0x35)

/-- Entry `i` of the timer table. -/
def timerAt (b : Octets) (i : Nat) : TimerDecl :=
  { type := u8At b (4 * i), res := u8At b (4 * i + 1), preset := u16At b (4 * i + 2) }

/-- Check 8 of R348 for one instruction, with the timer table. -/
def CodeIns.elementOk (tt : Octets) (i : CodeIns) : Bool :=
  if i.opc = 0x38 then decide (i.field < 1024) && decide ((timerAt tt i.field).type ≠ 0)
  else if 0x39 ≤ i.opc ∧ i.opc ≤ 0x3B then decide (i.field < 512)
  else if i.opc = 0x3C ∨ i.opc = 0x3D then decide (i.field < 2048)
  else true

/-- Check 9 of R348 for one entry. -/
def TimerDecl.ok (t : TimerDecl) : Bool :=
  decide (t.type ≤ 3) && decide (t.res ≤ 3) && decide (t.preset < 16384) &&
  (decide (t.type ≠ 0) || (decide (t.res = 0) && decide (t.preset = 0)))

/-- The sections of an image (R347). -/
structure ProgSections where
  codeWords : Nat
  code : Octets
  k : Octets
  timers : Octets
  retain : Octets
  tag : Octets
  minit : Octets
  nMinit : Nat

/-- Cut an image into its sections. -/
def progSections (b : Octets) : ProgSections :=
  let cw := u32At b 16
  let n := u32At b 32
  let o := 64 + 4 * cw
  { codeWords := cw, code := slice b 64 (4 * cw), k := slice b o 65536, timers := slice b (o + 65536) 4096,
    retain := slice b (o + 69632) 8192, tag := slice b (o + 77824) 32, minit := slice b (o + 77856) (8 * n), nMinit := n }

/-- The word of the first M initial-value record that names no word or a word named before (check 10). -/
def minitBad : Octets → List Nat → Nat → Option Nat
  | _, _, 0 => none
  | b, seen, n + 1 =>
    let w := u32At b 0
    if 65536 ≤ w ∨ seen.contains w then some w else minitBad (b.drop 8) (w :: seen) n

/-- No fault index. -/
def noAddr : Nat := 0xFFFFFFFF

/-- The first check of R348 that an image fails, with the word or element at fault; none where it passes. -/
def progFault (b : Octets) : Option (Nat × Nat) :=
  let p := progSections b
  let (ins, bad) := insOf (min p.codeWords 242663) 0 (wordsOf p.code (min p.codeWords 242663))
  let starts := ins.map (·.at_)
  let first := fun (q : CodeIns → Bool) => (ins.find? (fun i => !q i)).map (·.at_)
  let entry := u32At b 20
  let tbad := (List.range 1024).find? (fun i => !(timerAt p.timers i).ok)
  if crc32c (b.take (b.length - 4)) ≠ u32At b (b.length - 4) then some (1, noAddr)
  else if u32At b 0 ≠ 0x504C5850 ∨ u16At b 4 ≠ 1 ∨ u16At b 6 ≠ 64 ∨ 2 ≤ u16At b 36 ∨ leNat (slice b 38 26) ≠ 0 then some (2, noAddr)
  else if u32At b 8 ≠ b.length ∨ u32At b 8 ≠ 77924 + 4 * p.codeWords + 8 * p.nMinit ∨ 1048576 < b.length ∨
    p.codeWords = 0 ∨ 242663 < p.codeWords then some (3, noAddr)
  else match bad with
  | some a => some (4, a)
  | none =>
    if ¬ starts.contains entry then some (4, entry)
    else match first (fun i => i.opds.all opdOk) with
    | some a => some (5, a)
    | none => match first CodeIns.inside with
      | some a => some (6, a)
      | none => match first (fun i => !i.jumps || starts.contains i.field) with
        | some a => some (7, a)
        | none => match first (CodeIns.elementOk p.timers) with
          | some a => some (8, a)
          | none => match tbad with
            | some i => some (9, i)
            | none => match minitBad p.minit [] p.nMinit with
              | some i => some (10, i)
              | none =>
                if crc32c (p.retain ++ p.tag) ≠ u32At b 24 then some (11, noAddr) else none

/-- The non-zero K initial values. -/
def kInitOf : Octets → Nat → Nat → Tab Int
  | _, _, 0 => []
  | b, i, n + 1 => (if u32At b 0 = 0 then [] else [(i, i32At b 0)]) ++ kInitOf (b.drop 4) (i + 1) n

/-- The declared timers. -/
def timersOf (b : Octets) : Tab TimerDecl :=
  (List.range 1024).filterMap (fun i => if (timerAt b i).type = 0 then none else some (i, timerAt b i))

/-- The M initial values. -/
def mInitOf : Octets → Nat → Tab Word32
  | _, 0 => []
  | b, n + 1 => Tab.put 0 (mInitOf (b.drop 8) n) (u32At b 0) (BitVec.ofNat 32 (u32At b 4))

/-- The M words flagged RETAIN, rising. -/
def retainOf (b : Octets) : List Nat :=
  (List.range 65536).filter (fun w => bitOf (u8At b (w / 8)) (w % 8))

/-- An image as loaded (R349). -/
def loadProgram (b : Octets) : Program :=
  let p := progSections b
  { code := wordsOf p.code p.codeWords, entry := u32At b 20, kInit := kInitOf p.k 0 16384, timers := timersOf p.timers,
    retain := retainOf p.retain, mInit := mInitOf p.minit p.nMinit, dioOut := u32At b 28, stopClear := bitOf (u16At b 36) 0,
    retainHash := u32At b 24, crc := u32At b (b.length - 4) }

end Machine
end Sys2Proof
end

