-- ==== Sys2Proof/Machine/LogicEngine.lean ====
section
/-! DEFINITION. The logic engine's program cycle, starts, halts, commits and watchdog (R324–R329, R350–R352), forces (R344),
change sets (R345, R346) and the staging of program images (R349). -/

namespace Sys2Proof
namespace Machine

/-- Change the engine. -/
def State.modLogic (s : State) (f : Logic → Logic) : State := { s with logic := f s.logic }

/-- Post the LOGIC_EVENTs the engine's instructions owe (R337, R338). -/
def State.postLogicEvents (s : State) : State :=
  let evs := s.logic.regs.evts
  let s := s.modLogic (fun l => { l with regs := { l.regs with evts := [] } })
  evs.foldl (fun s e => s.post .logic (0x8000 + e.1) 0 [.u32 e.2.toNat]) s

/-! ## Commit and halt (R326, R328, R329) -/

/-- The Q image with forces applied, as a commit takes it (R326, R344). -/
def Logic.commitImage (l : Logic) : Tab Word32 :=
  l.forces.foldl (fun q f => if f.area = 2 then Tab.put 0 q f.word (l.word 2 f.word) else q) l.q

/-- PW command k of a committed image reaches its output where no loop holds it (R215, R333, R574). -/
def State.pwmCommand (s : State) (k : Nat) : State :=
  if (s.pwmHolder k).isSome then s
  else
    let w := (Tab.get 0 s.logic.qc (0x10 + k)).toNat
    let p := w / 65536
    let q := signed 16 w
    let p' := if p < 100 then 0 else p
    s.pwmSet k p' (if q < 0 then 0 else (q * 40 * p' / 32768).toNat)

/-- The loops whose mode request word a commit may change. -/
def requestLoops (s : State) : List Nat :=
  ((s.logic.qc.filter (fun e => decide (0x400 ≤ e.1) && decide (e.1 < 0x800))).map (fun e => e.1 - 0x400)).foldl
    (fun l n => insRising n l) ((s.ctrl.loops.filter (fun e => decide (e.2.reqWord ≠ 0))).map (·.1))

/-- The plant status word of plant `p` as committed (R158, R333): the times at which `RUNNING` rose and fell are kept. -/
def State.plantStatus (s : State) (p : Nat) : State :=
  let w := (Tab.get 0 s.logic.qc (0x810 + p)).toNat % 65536
  let old := Tab.get 0 s.disp.pstatus p
  if w = old then s
  else
    let rise := if bitOf w 1 ∧ ¬ bitOf old 1 then Tab.insert s.disp.rise p s.clk.dev else s.disp.rise
    let fall := if bitOf old 1 ∧ ¬ bitOf w 1 then Tab.insert s.disp.fall p s.clk.dev else s.disp.fall
    { s with disp := { s.disp with pstatus := Tab.put 0 s.disp.pstatus p w, rise := rise, fall := fall } }

/-- The shadow a descriptor reads: the content under every force. -/
def Logic.shadow (l : Logic) (d : Opd) : Word32 := Logic.load { l with forces := [] } d

/-- `WIN_VALUES` (R353). -/
def Logic.winValues (l : Logic) (b : Octets) : Octets :=
  let ds := (List.range (b.length / 4)).map (fun i => Opd.ofWord (BitVec.ofNat 32 (u32At b (4 * i))))
  leBytes 8 l.cycleNo ++ ds.flatMap (fun d => leBytes 4 (l.load d).toNat ++ leBytes 4 (l.shadow d).toNat)

/-- The windows take their values at the end of a commit (R353). -/
def Logic.viewWindows (l : Logic) : Logic := { l with winVals := l.winDesc.map (fun e => (e.1, l.winValues e.2)) }

/-- A Q image is committed and reaches its consumers (R326): pins, PWM outputs, loops, command words, the trace trigger word. -/
def State.commitQ (s : State) (img : Tab Word32) : State :=
  let old := s.logic.qc
  let changed := (List.range 512).filter (fun c => decide (Tab.get 0 old (0x100 + c) ≠ Tab.get 0 img (0x100 + c)))
  let s := s.modLogic (fun l => { l with
    qc := img, committed := true,
    cmdDue := changed.foldl (fun d c => Tab.insert d c s.clk.dev) l.cmdDue })
  let s := (List.range 16).foldl State.pwmCommand s
  let s := (List.range 64).foldl State.plantStatus s
  let s := (requestLoops s).foldl (fun s n => s.logicRequest n ((Tab.get 0 s.logic.qc (0x400 + n)).toNat % 65536)) s
  (s.triggerMask (Tab.get 0 s.logic.qc 0x900).toNat true).modLogic Logic.viewWindows

/-- A commit takes place unless the device holds (R329). -/
def State.tryCommit (s : State) (img : Tab Word32) : State :=
  if s.holding then s.modLogic (fun l => { l with suppressed := true })
  else (s.modLogic (fun l => { l with suppressed := false })).commitQ img

/-- A Q word that `STOP_CLEAR` sets to 0: digital outputs, PWM commands, channel command words (R328). -/
def clearedWord (w : Nat) : Bool :=
  decide (w = 0) || (decide (0x10 ≤ w) && decide (w < 0x20)) || (decide (0x100 ≤ w) && decide (w < 0x300))

/-- Entry to STOP or HALT: the one commit of `STOP_CLEAR` (R328); as every commit it takes the forced values (R344). -/
def State.stopCommit (s : State) : State :=
  match s.logic.loaded with
  | some p => if p.stopClear then s.tryCommit (Logic.commitImage { s.logic with q := s.logic.qc.filter (fun e => !clearedWord e.1) }) else s
  | none => s

/-- Enter HALT with a fault (R328, R339). -/
def State.halt (s : State) (code : Nat) : State :=
  (s.modLogic (fun l => { l with prog := .halt, faultCode := code, faultAddr := l.regs.pc, faultCycle := l.cycleNo,
                                 stopReq := false })).stopCommit

/-- A run-time fault of the running program (R328, R339). -/
def State.runFault (s : State) : State :=
  let s := (s.halt s.logic.regs.fault).post .logic Code.logicFault 0 []
  s.modLogic (fun l => { l with regs := { l.regs with fault := 0 } })

/-- The engine as an instruction finds it: no run-time fault, no event owed from before. -/
def Logic.begin (l : Logic) : Logic := { l with regs := { l.regs with fault := 0, evts := [] } }

/-- One logic instruction acts on the engine: its effect, the events it posts, and the halt at a run-time fault. -/
def State.onLogic (s : State) (f : Logic → Logic) : State :=
  let s := (s.modLogic (fun l => f l.begin)).postLogicEvents
  if s.logic.regs.fault = 0 then s
  else if s.logic.prog = .run then s.runFault
  else s.modLogic (fun l => { l with regs := { l.regs with fault := 0 } })

/-- The watchdog acts (R327): the program cycle is abandoned; `WD_RESPONSE` decides what follows. -/
def State.watchdog (s : State) : State :=
  let r := s.nat 0x5000 0x0B
  let s := s.modLogic (fun l => { l with wdCount := l.wdCount + 1 })
  let s := s.post .logic Code.logicWatchdog 0 [.u8 r, .u32 (s.logic.cycleNo % 4294967296)]
  if r = 0 then s.modLogic (fun l => { l with wdPrev := true })
  else
    let s := s.halt 6
    if r = 2 then s.holdOnset 5 else s

/-! ## Forces and change sets (R344, R345) -/

/-- The element a force names is the same. -/
def Force.same (f : Force) (area word : Nat) (bit : Option Nat) : Bool :=
  decide (f.area = area) && decide (f.word = word) && decide (f.bit = bit)

/-- A force operation takes effect (R344); the words underneath are the shadows. -/
def Logic.forceOp (l : Logic) : ForceOp → Logic
  | .set f => { l with forces := l.forces.filter (fun g => !g.same f.area f.word f.bit) ++ [f] }
  | .release a w b => { l with forces := l.forces.filter (fun g => !g.same a w b) }
  | .releaseAll => { l with forces := [] }

/-- Every waiting force operation in order. -/
def Logic.applyForces (l : Logic) : Logic := l.forceOps.foldl Logic.forceOp { l with forceOps := [] }

/-- Write a word of K or M from outside the program. -/
def Logic.putKM (l : Logic) (area w : Nat) (v : Word32) : Logic :=
  if area = 4 then { l with k := Tab.put 0 l.k w v.toInt } else l.putWord area w v

/-- One entry of a change set (R345): the store rules of R331. -/
def Logic.change1 (l : Logic) (c : Change) : Logic :=
  let d := c.opd
  let v : Word32 := BitVec.ofNat 32 c.value
  match d.type with
  | 0 => l.putKM d.area (d.index / 32)
      (BitVec.ofNat 32 (putBit (l.under d.area (d.index / 32)).toNat (d.index % 32) (decide (c.value ≠ 0))))
  | 2 => l.putKM d.area d.index
      (BitVec.ofNat 32 ((l.under d.area d.index).toNat / 65536 * 65536 + unsigned 16 (sat16 v.toInt)))
  | 3 => l.putKM d.area d.index
      (BitVec.ofNat 32 ((l.under d.area d.index).toNat / 65536 * 65536 + (clampI 0 65535 v.toInt).toNat))
  | _ => l.putKM d.area d.index v

/-- Apply a change set (R345): entry by entry; `CHANGE_NO` rises; its first program cycle is still to come. -/
def Logic.applyChange (l : Logic) (cs : List Change) : Logic :=
  let l := cs.foldl Logic.change1 l
  { l with changeNo := (l.changeNo + 1) % 4294967296, changeOpen := l.changeOpen ++ [(l.changeNo + 1) % 4294967296],
           retainDue := true }

/-- The first program cycle that executes with the change sets applied before it: recorded and logged (R345). -/
def State.reportChanges (s : State) : State :=
  let open_ := s.logic.changeOpen
  let cyc := s.logic.cycleNo
  if open_.isEmpty then s
  else
    let s := s.modLogic (fun l => { l with changeOpen := [], changeFirst := cyc })
    open_.foldl (fun s n => s.post .logic Code.logicChange 0 [.u32 n, .u64 cyc]) s

/-- The retained record of this moment (R351). -/
def State.retainedNow (s : State) : Retained :=
  let l := s.logic
  let keepM := match l.loaded with
    | some p => l.m.filter (fun e => p.retain.contains e.1)
    | none => []
  { m := keepM, k := l.k, counts := (l.c.filter (fun e => decide (e.2.count ≠ 0))).map (fun e => (e.1, e.2.count)),
    forces := if s.nat 0x5001 2 = 1 then l.forces else [], prog := l.prog.code, cycle := l.cycleNo, dataHash := l.dataHash,
    changeNo := l.changeNo }

/-- What a retained record written now holds: while a program cycle executes, the state of its gap (R351, R355). -/
def State.retainedGap (s : State) : Retained :=
  match s.logic.gap with
  | some r => if s.logic.prog = .run ∧ s.now < s.logic.busyUntil then r else s.retainedNow
  | none => s.retainedNow

/-- Write the retained record (R351). -/
def State.writeRetained (s : State) : State :=
  let r := s.retainedGap
  ({ s with keep := { s.keep with retained := s.keep.retained.write r } }).modLogic
    (fun l => { l with retainDue := false, retainedAt := s.clk.dev })

/-- The retained record is due: a change set, or `RETAIN_PERIOD` has passed (R351). -/
def State.retainNeeded (s : State) : Bool :=
  s.logic.retainDue || decide (s.logic.retainedAt + s.nat 0x5000 0x0F * 1000000000 ≤ s.clk.dev)

/-! ## The program cycle (R324) -/

/-- The I area latched at the snapshot (R325, R332); `dio` the levels at the pins. -/
def State.inputImage (s : State) (dio : Nat) : Tab Word32 :=
  let w := fun (k v : Nat) => if v = 0 then [] else [(k, (BitVec.ofNat 32 v : Word32))]
  w 0 (dio % 4294967296) ++ w 1 s.piLevels ++
  (List.range 512).flatMap (fun c => w (0x100 + c) (s.chanWord c)) ++
  (List.range 1024).flatMap (fun n => w (0x400 + n) (s.loop n).statusWord) ++
  w 0x800 s.planWord0 ++ w 0x801 s.planWord1 ++
  (List.range 64).flatMap (fun p => w (0x810 + p) (s.hintIn p))

/-- The S area latched at the snapshot (R335), words 0 to 9; `SAT` and `DIV0` are laid over word 0 as they arise. -/
def State.sysImage (s : State) (snap : Nat) : List Word32 :=
  let l := s.logic
  let f := b2n l.firstCold + 2 * b2n l.firstWarm + 4 * b2n s.leaseHolder + 8 * b2n (s.holding) + 16 * b2n l.wdPrev +
    128 * b2n l.varLost
  [f, min l.prevDur 4294967295, l.longest, snap % 4294967296, snap / 4294967296, l.cycleNo % 4294967296,
   l.cycleNo / 4294967296, s.planStatusByte, s.dev.state.code, l.changeNo].map (fun v => BitVec.ofNat 32 v)

/-- `n` LOGIC cycles in ns, rounded up. -/
def logicNs (n : Nat) : Nat := (n * 10 + 2) / 3

/-- Force operations take effect and are mirrored (R344, R453). -/
def State.forcesNow (s : State) : State :=
  if s.logic.forceOps.isEmpty then s
  else
    let s := s.modLogic Logic.applyForces
    s.mirror (.forces s.logic.forces)

/-- A change set takes effect and is mirrored (R345, R453). -/
def State.changeNow (s : State) (cs : List Change) : State :=
  let s := s.modLogic (fun l => l.applyChange cs)
  s.mirror (.change cs s.logic.changeNo)

/-- The gap (R324 phase 1): forces, the pending change set, the retained record. -/
def State.logicGap (s : State) : State :=
  let s := s.forcesNow
  let s := match s.logic.change with
    | some cs => (s.changeNow cs).modLogic (fun l => { l with change := none })
    | none => s
  let s := s.modLogic (fun l => { l with busyUntil := 0, gap := some s.retainedNow })
  if s.retainNeeded then s.writeRetained else s

/-- The input snapshot has reported the overruns since the one before (R245 bit 7). -/
def unmarkOverruns (l : Tab Loop) : Tab Loop :=
  (l.map (fun e => (e.1, { e.2 with ovrSnap := false }))).filter (fun e => decide (e.2 ≠ {}))

/-- The input snapshot (R324 phase 2): the cycle's number, t_snap, the I and S areas; forced I words are laid over at reads. -/
def State.logicSnapshot (s : State) (dio : Nat) : State :=
  let snap := s.clk.dev + logicNs 400
  let s := s.modLogic (fun l => { l with cycleNo := l.cycleNo + 1, snap := snap, regs := { evtDropped := l.regs.evtDropped }, i := [] })
  let img := s.inputImage dio
  let sys := s.sysImage snap
  let s := s.modLogic (fun l => { l with i := img, sys := sys, firstCold := false, firstWarm := false, wdPrev := false })
  ({ s with ctrl := { s.ctrl with loops := unmarkOverruns s.ctrl.loops } }).reportChanges

/-! ## Words that fail parity (R352) -/

/-- The retained record a warm start of the loaded program would use; without one, the image's initial values. -/
def State.warmRecord (s : State) (p : Program) : Retained :=
  match s.keep.retained.read with
  | some r => if r.dataHash = p.retainHash then r else { m := p.mInit, k := p.kInit }
  | none => { m := p.mInit, k := p.kInit }

/-- A variable word takes its warm-start value: Q the committed word, M and K as recorded or initial, a counter its retained
count, a timer or detector its reset. -/
def Logic.warmWord (l : Logic) (p : Program) (r : Retained) (area w : Nat) : Logic :=
  match area with
  | 2 => { l with q := Tab.put 0 l.q w (Tab.get 0 l.qc w) }
  | 3 => { l with m := Tab.put 0 l.m w (if p.retain.contains w then Tab.get 0 r.m w else Tab.get 0 p.mInit w) }
  | 4 => { l with k := Tab.put 0 l.k w (Tab.get 0 r.k w) }
  | 5 => { l with t := Tab.put {} l.t w {} }
  | 6 => { l with c := Tab.put {} l.c w { count := Tab.get 0 r.counts w } }
  | _ => { l with e := Tab.put {} l.e w {} }

/-- One variable word that fails parity. -/
def State.varLoss (s : State) (p : Program) (w : Nat × Nat) : State :=
  (s.modLogic (fun l => { l.warmWord p (s.warmRecord p) w.1 w.2 with varLost := true })).post .logic Code.logicVarLost 0
    [.u8 w.1, .u32 w.2]

/-- The words of a program cycle that fail parity: each program-store word is read again from the loaded image, its stall counts
against the watchdog and is logged; then each variable word. -/
def State.logicParity (s : State) (p : Program) (x : LogicLoss) : State :=
  let s := x.stalls.foldl (fun s n =>
    (s.modLogic (fun l => { l with regs := { l.regs with cycles := l.regs.cycles + n } })).post .logic Code.logicCodeReload 0 []) s
  x.words.foldl (fun s w => s.varLoss p w) s

/-- Durations at the start of a program cycle (R335, R353). -/
def Logic.measure (l : Logic) (now : Nat) : Logic :=
  if l.fresh then { l with fresh := false, cycleStart := now, prevDur := 0, longest := 0, shortest := 0 }
  else
    let d := min 4294967295 (now - l.cycleStart)
    { l with cycleStart := now, prevDur := d, longest := max l.longest d,
             shortest := if l.shortest = 0 then d else min l.shortest d }

/-- The LOGIC cycles the execution may take before the watchdog limit, which counts from the start of phase 2 (R327). -/
def State.execLimit (s : State) : Nat := s.nat 0x5000 0x0A * 300000 - 2200

/-- STOP is reached after the commit of the running program cycle (R328). -/
def State.stopNow (s : State) : State :=
  (s.modLogic (fun l => { l with prog := .stop, stopReq := false })).stopCommit

/-- Execution (R324 phase 3) from `ENTRY` up to END, a run-time fault or the watchdog limit. -/
def State.execute (s : State) (p : Program) (lim : Nat) : State :=
  (s.modLogic (fun l => Logic.run p.code lim (lim + 1) { l with regs := { l.regs with pc := p.entry } })).postLogicEvents

/-- The duration of phases 1 to 4 in ns. -/
def State.cycleNs (s : State) (lim : Nat) : Nat := logicNs (2608 + min s.logic.regs.cycles lim)

/-- The next program cycle starts `pause` ns after this one's phases. -/
def State.planNext (s : State) (lim pause : Nat) : State :=
  s.modLogic (fun l => { l with nextStart := s.now + s.cycleNs lim + pause, busyUntil := s.now + s.cycleNs lim })

/-- How a program cycle ends: at a run-time fault, under the watchdog, or with the commit (R324, R327, R339). -/
def State.endCycle (s : State) (lim : Nat) : State :=
  if s.logic.regs.fault ≠ 0 then s.runFault
  else if lim < s.logic.regs.cycles then (s.planNext lim 0).watchdog
  else
    let s' := (s.planNext lim (s.nat 0x5000 0x0C * 1000)).tryCommit s.logic.commitImage
    if s'.logic.stopReq then s'.stopNow else s'

/-- A program cycle (R324; a duplex standby executes none, R453): gap, snapshot, execution, commit, and the moment its pause ends. -/
def State.programCycle (s : State) (dio : Nat) (x : LogicLoss) : State :=
  match s.logic.loaded with
  | none => s
  | some p =>
    if s.logic.prog ≠ .run ∨ s.now < s.logic.nextStart ∨ ¬ s.acts then s
    else
      let s1 := (((s.modLogic (fun l => l.measure s.now)).logicGap).logicSnapshot dio).logicParity p x
      (s1.execute p s1.execLimit).endCycle s1.execLimit

/-- PROGRAM_CYCLE (R324, R352). -/
def execProgramCycle (t dio : Nat) (x : LogicLoss) (s : State) : Out := onIsland .logic t s (fun s => s.programCycle dio x)

/-- LOGIC_WATCHDOG (R327): the watchdog limit of the program cycle that was due passes without its commit: that cycle is abandoned. -/
def execLogicWatchdog (t : Nat) (s : State) : Out :=
  onIsland .logic t s (fun s =>
    if s.acts ∧ s.logic.prog = .run ∧ s.logic.nextStart + logicNs 400 + s.nat 0x5000 0x0A * 1000000 ≤ s.now then
      (s.modLogic (fun l => { l.measure l.nextStart with cycleNo := l.cycleNo + 1, nextStart := s.now })).watchdog
    else s)

/-- RETAINED_RECORD_WRITE (R351). -/
def execRetainedRecordWrite (t : Nat) (s : State) : Out :=
  onIsland .logic t s (fun s => if s.logic.prog = .run ∧ s.retainNeeded then s.writeRetained else s)

/-! ## Starts (R350) -/

/-- A start of the loaded program (R350). -/
def State.startProgram (s : State) (warm : Bool) : State :=
  match s.logic.loaded with
  | none => s
  | some p =>
    let keepForces := warm && decide (s.nat 0x5001 2 = 1)
    s.modLogic (fun l =>
      let m0 := p.mInit.filter (fun e => !(warm && p.retain.contains e.1))
      let m := if warm then (l.m.filter (fun e => p.retain.contains e.1)).foldl (fun a e => Tab.put 0 a e.1 e.2) m0 else p.mInit
      { l with
        prog := .run, m := m, k := if warm then l.k else p.kInit,
        c := if warm then (l.c.filter (fun e => decide (e.2.count ≠ 0))).map (fun e => (e.1, { count := e.2.count })) else [],
        t := [], e := [], q := if warm then l.qc else [], regs := { evtDropped := l.regs.evtDropped },
        forces := if keepForces then l.forces else [], firstCold := !warm, firstWarm := warm, varLost := false,
        wdPrev := false, stopReq := false, fresh := true, nextStart := s.now, longest := 0, shortest := 0,
        prevDur := 0, dataHash := p.retainHash, lastRestart := if warm then 2 else 1, retainedAt := s.clk.dev })

/-- `STOP` in RUN (R328): the running program cycle completes and commits. PROGRAM_CYCLE does a whole cycle; until the moment the next one
starts its commit is made, and a duplex standby has none to make, so STOP is reached; else it is reached after the cycle that is due. -/
def State.stopCmd (s : State) : State :=
  if s.now < s.logic.nextStart ∨ ¬ s.acts then s.stopNow else s.modLogic (fun l => { l with stopReq := true })

/-- A program command (R328); `staging` says whether a segmented write of `IMAGE_STAGE` is open. -/
def State.progCmd (s : State) (c : Nat) (staging : Bool) : WRes :=
  let note := fun (s : State) => s.modLogic (fun l => { l with lastCmd := c })
  let no : WRes := .refuse 0x0A06 s
  match c with
  | 1 => if s.logic.prog = .run then .done (note s.stopCmd) else no
  | 2 =>
    if s.logic.stage.status = 3 then .refuse 0x0A09 s
    else if s.logic.prog = .stop ∧ (s.logic.loaded.map (·.retainHash)) = some s.logic.dataHash then
      .done (note (s.startProgram true)) else no
  | 3 =>
    if s.logic.stage.status = 3 then .refuse 0x0A09 s
    else if s.logic.prog = .stop ∧ s.logic.loaded.isSome then .done (note (s.startProgram false)) else no
  | 4 =>
    if s.logic.stage.status = 3 ∨ staging then .refuse 0x0A09 s
    else if s.logic.stage.status ≠ 1 ∨ ¬ (s.logic.prog = .empty ∨ s.logic.prog = .stop) then no
    else
      let img := s.logic.stage.image
      let good := decide (crc32c (img.take (img.length - 4)) = u32At img (img.length - 4))
      .done (note (s.modLogic (fun l => { l with stage := { l.stage with status := if good then 3 else 4 } })))
  | 5 =>
    if s.logic.prog = .halt then .done (note ((s.modLogic (fun l => { l with prog := .stop })).clearHold 5)) else no
  | _ => .refuse 0x0A05 s

/-- The keep-store write of a program image completes or fails (R349): the code is loaded and the image is the loaded one. -/
def State.progWritten (s : State) (ok : Bool) : State :=
  if s.logic.stage.status ≠ 3 then s
  else if ok then
    let img := s.logic.stage.image
    let s := { s with keep := { s.keep with prog := s.keep.prog.write img } }
    (s.scanSwitched 0x80000000).modLogic (fun l => { l with
      stage := {}, loaded := some (loadProgram img), prog := if l.prog = .empty then .stop else l.prog })
  else s.modLogic (fun l => { l with stage := { l.stage with status := 4 } })

/-- PROG_IMAGE_LOADED (R349). -/
def execProgImageLoaded (t : Nat) (ok : Bool) (s : State) : Out := onIsland .mem t s (fun s => s.progWritten ok)

/-! ## Writes (R344–R346, R353) -/

/-- The descriptor of a force or a change: area among `areas`, one of the types, not indexed, inside the area. -/
def Opd.plainIn (d : Opd) (areas types : List Nat) : Bool :=
  areas.contains d.area && types.contains d.type && !d.indexed && d.inside 0

/-- Word and bit a plain descriptor names. -/
def Opd.element (d : Opd) : Nat × Option Nat := if d.type = 0 then (d.index / 32, some (d.index % 32)) else (d.index, none)

/-- The forces as they will stand after the waiting operations. -/
def Logic.forcesSoon (l : Logic) : List Force := (l.applyForces).forces

/-- A write of `FORCE_SET` (R344). -/
def State.forceSet (s : State) (b : Octets) : WRes :=
  let d := Opd.ofWord (BitVec.ofNat 32 (u32At b 0))
  let (w, bit) := d.element
  let fs := s.logic.forcesSoon
  if b.length ≠ 8 then .refuse 0x0A04 s
  else if ¬ d.plainIn [1, 2, 3] [0, 1] ∨ (d.type = 0 ∧ 1 < u32At b 4) then .refuse 0x0A05 s
  else if fs.any (fun f => decide (f.area = d.area) && decide (f.word = w) && (f.bit.isSome != bit.isSome)) then .refuse 0x0A06 s
  else if 256 ≤ fs.length ∧ ¬ fs.any (fun f => f.same d.area w bit) then .refuse 0x0A0A s
  else .done (s.modLogic (fun l => { l with forceOps := l.forceOps ++
    [.set { area := d.area, word := w, bit := bit, value := BitVec.ofNat 32 (u32At b 4) }] }))

/-- A write of `FORCE_RELEASE` (R344, R353). -/
def State.forceRelease (s : State) (n : Nat) : WRes :=
  let d := Opd.ofWord (BitVec.ofNat 32 n)
  let (w, bit) := d.element
  .done (s.modLogic (fun l => { l with forceOps := l.forceOps ++
    [if n = 0xFFFFFFFF then .releaseAll else .release d.area w bit] }))

/-- Forces take effect in STOP and HALT too (R344): there the gap is at once. -/
def State.forcesAtRest (s : State) : State :=
  if s.logic.prog = .run then s else s.forcesNow

/-- The entries of a change set. -/
def changesOf : Octets → Nat → List Change
  | _, 0 => []
  | b, n + 1 => { opd := Opd.ofWord (BitVec.ofNat 32 (u32At b 0)), value := u32At b 4 } :: changesOf (b.drop 8) n

/-- An entry of a change set is allowed (R345). -/
def Change.ok (c : Change) : Bool :=
  c.opd.plainIn [3, 4] [0, 1, 2, 3] && (decide (c.opd.type ≠ 0) || decide (c.value ≤ 1))

/-- Accept a change set (R345): pending in RUN, applied at once otherwise. -/
def State.acceptChange (s : State) (cs : List Change) : WRes :=
  if s.logic.change.isSome then .refuse 0x0A09 s
  else if s.logic.prog = .run then .done (s.modLogic (fun l => { l with change := some cs }))
  else .done (s.changeNow cs)

/-- A write of `CHANGE_SET` (R345). -/
def State.changeSet (s : State) (b : Octets) : WRes :=
  let n := u16At b 0
  let cs := changesOf (b.drop 4) n
  if b.length ≠ 4 + 8 * n then .refuse 0x0A04 s
  else if n = 0 ∨ 64 < n ∨ u16At b 2 ≠ 0 ∨ ¬ cs.all Change.ok then .refuse 0x0A05 s
  else s.acceptChange cs

/-- A write of one K word (R346). -/
def State.kWrite (s : State) (w : Nat) (b : Octets) : WRes :=
  s.acceptChange [{ opd := { area := 4, type := 1, indexed := false, index := w }, value := u32At b 0 }]

/-- The descriptors of a window are allowed (R353). -/
def winOk : Octets → Nat → Bool
  | _, 0 => true
  | b, n + 1 =>
    let d := Opd.ofWord (BitVec.ofNat 32 (u32At b 0))
    d.typeOk && !d.indexed && d.inside 0 && winOk (b.drop 4) n

/-- A write of `WIN_DESC`, held per session (R353). -/
def State.winDesc (s : State) (sess : Nat) (b : Octets) : WRes :=
  if b.length % 4 ≠ 0 ∨ 256 < b.length then .refuse 0x0A04 s
  else if ¬ winOk b (b.length / 4) then .refuse 0x0A05 s
  else .done (s.modLogic (fun l => { l with winDesc := Tab.put [] l.winDesc sess b, winVals := Tab.put [] l.winVals sess (l.winValues b) }))

/-- A force's descriptor. -/
def Force.opd (f : Force) : Opd :=
  match f.bit with
  | some b => { area := f.area, type := 0, indexed := false, index := f.word * 32 + b }
  | none => { area := f.area, type := 1, indexed := false, index := f.word }

/-- The entries of the logic engine as read (R353); none for a stored value. -/
def State.logicRead (s : State) (sess idx sub : Nat) : Option Octets :=
  let l := s.logic
  if idx = 0x5000 then
    match sub with
    | 1 => some (leBytes 1 l.prog.code)
    | 2 => some (leBytes 1 l.lastCmd)
    | 3 => some l.stage.image
    | 4 => some (leBytes 1 l.stage.status)
    | 5 => some (leBytes 2 l.stage.fault)
    | 6 => some (leBytes 4 l.stage.index)
    | 7 => some (leBytes 4 ((l.loaded.map (·.crc)).getD 0))
    | 8 => some (leBytes 4 ((l.loaded.map (·.retainHash)).getD 0))
    | 9 => some (leBytes 4 l.dataHash)
    | 0x0D => some (leBytes 8 l.cycleNo ++ leBytes 4 l.prevDur ++ leBytes 4 l.longest ++ leBytes 4 l.shortest ++ leBytes 4 l.wdCount)
    | 0x0E => some (leBytes 1 l.faultCode ++ zeros 3 ++ leBytes 4 l.faultAddr ++ leBytes 8 l.faultCycle)
    | 0x10 => some (leBytes 4 l.regs.evtDropped)
    | _ => none
  else if idx = 0x5001 ∧ sub = 4 then some (leBytes 1 l.lastRestart)
  else if idx = 0x5010 ∧ sub = 2 then
    some (leBytes 4 l.changeNo ++ leBytes 1 (b2n l.change.isSome) ++ zeros 3 ++ leBytes 8 l.changeFirst)
  else if 0x5100 ≤ idx ∧ idx < 0x5200 then some (leInt 4 (Tab.get 0 l.k (64 * (idx - 0x5100) + sub - 1)))
  else if idx = 0x5200 then
    match sub with
    | 3 => some (leBytes 4 l.forces.length ++ l.forces.flatMap (fun f =>
        leBytes 4 f.opd.toWord.toNat ++ leBytes 4 f.value.toNat ++ leBytes 4 (l.shadow f.opd).toNat) ++
        zeros (3072 - 12 * l.forces.length))
    | 4 => some (leBytes 2 l.forces.length)
    | _ => none
  else if idx = 0x5300 then
    match sub with
    | 1 => some (Tab.get [] l.winDesc sess)
    | 2 => some (if (Tab.get [] l.winDesc sess).isEmpty then l.winValues [] else Tab.get [] l.winVals sess)
    | _ => none
  else none

/-- The final write of a program image (R349): it is submitted for validation, and the response is owed. -/
def State.progImageWrite (s : State) (b : Octets) : WRes :=
  if s.logic.stage.status = 3 ∨ s.logic.stage.coming.isSome then .refuse 0x0A09 s
  else .later (s.modLogic (fun l => { l with stage := { l.stage with coming := some b } }))

/-- The writes of the logic engine's entries. -/
def State.logicWrite (s : State) (sess idx sub : Nat) (staging : Bool) (b : Octets) : WRes :=
  if idx = 0x5000 then
    match sub with
    | 2 => s.progCmd (leNat b) staging
    | 3 => s.progImageWrite b
    | _ => .plain
  else if idx = 0x5010 then s.changeSet b
  else if 0x5100 ≤ idx ∧ idx < 0x5200 then s.kWrite (64 * (idx - 0x5100) + sub - 1) b
  else if idx = 0x5200 then
    match (if sub = 1 then s.forceSet b else s.forceRelease (leNat b)) with
    | .done s => .done s.forcesAtRest
    | r => r
  else if idx = 0x5300 then s.winDesc sess b
  else .plain

/-- Validation of a staged program image ends (R348, R349): the new status, and whether it failed. -/
def State.progValidated (s : State) : State × Bool :=
  match s.logic.stage.coming with
  | none => (s, false)
  | some b =>
    match progFault b with
    | none => (s.modLogic (fun l => { l with stage := { status := 1, image := b } }), false)
    | some (c, i) => (s.modLogic (fun l => { l with stage := { status := 2, fault := c, index := i } }), true)

/-! ## Device restart (R350) -/

/-- The program's part of a device restart (R349, R350): the newest valid image is loaded; `warm` as the device decided. -/
def State.logicRestart (s : State) (warm : Bool) : State :=
  match s.keep.prog.read with
  | none =>
    let s := (s.modLogic (fun _ => { cycleNo := (s.keep.retained.read.map (·.cycle)).getD 0 })).keepLost 1
    if s.keep.retained.read.isNone then s.keepLost 7 else s
  | some img =>
    let p := loadProgram img
    let s := s.modLogic (fun l => { ({} : Logic) with loaded := some p, prog := .stop, retainedAt := l.retainedAt })
    let cold := fun (s : State) => if s.nat 0x5001 3 = 1 then s.startProgram false else s
    match s.keep.retained.read with
    | none => cold (s.keepLost 7)
    | some r =>
      let s := s.modLogic (fun l => { l with cycleNo := r.cycle, changeNo := r.changeNo })
      if ¬ warm then cold s
      else if r.dataHash ≠ p.retainHash then (s.startProgram false).post .logic Code.logicWarmRefused 0 []
      else
        let s := s.modLogic (fun l => { l with
          m := r.m, k := r.k, c := r.counts.map (fun e => (e.1, { count := e.2 })), forces := r.forces, dataHash := r.dataHash })
        if r.prog = 2 then s.startProgram true
        else s.modLogic (fun l => { l with prog := if r.prog = 3 then .halt else .stop })

end Machine
end Sys2Proof
end

