-- ==== Sys2Proof/Machine/Heat.lean ====
section
/-! DEFINITION. Chapter 10's channel reports, heat registers, set-point and command frames, and pulse inputs (R295–R306,
R319–R322, R334). -/

namespace Sys2Proof
namespace Machine

/-! ## Held values (R297) -/

/-- How a value is held: unit factor `num`/`den`; scale code of a class or fixed; none where it is reserved. -/
structure ValSpec where
  num : Nat
  den : Nat
  cls : Option Nat
  sc : Int

def flowSpec : ValSpec := ⟨1, 1000000, some 2, 0⟩
def tempSpec : ValSpec := ⟨1, 100, some 3, 0⟩
def milliSpec (cls : Nat) : ValSpec := ⟨1, 1000, some cls, 0⟩
def plainSpec : ValSpec := ⟨1, 1, none, 0⟩

/-- The row of R297 for value `k` of a channel. -/
def valSpec (r : ChanRec) (k : Nat) : Option ValSpec :=
  match r.type with
  | 1 | 2 =>
    match k with
    | 0 => some flowSpec
    | 1 | 2 | 4 => some tempSpec
    | 3 => some (milliSpec 1)
    | 5 => some ⟨1, 32768, none, -15⟩
    | 6 => some (milliSpec 4)
    | _ => some plainSpec
  | 4 =>
    match k with
    | 0 => some flowSpec
    | 1 | 2 => some tempSpec
    | 3 | 5 => some (milliSpec 4)
    | 4 => some (milliSpec 5)
    | 7 => some plainSpec
    | _ => none
  | 5 =>
    if r.element < 0x8000 then some tempSpec
    else match k with
    | 0 => some (milliSpec 5)
    | 1 => some ⟨1, 10000, none, -15⟩
    | 7 => some plainSpec
    | _ => none
  | 3 =>
    match k with
    | 0 | 1 | 2 | 3 => some (milliSpec 5)
    | 4 => some ⟨1, 1, some 10, 0⟩
    | 7 => some plainSpec
    | _ => none
  | 6 =>
    if k ≠ 0 then none
    else match r.element with
    | 0 => some tempSpec
    | 2 => some ⟨1, 1, some 10, 0⟩
    | _ => some plainSpec
  | _ => none

/-- `v·num/den · 2^−sc` rounded half to even. -/
def heldRaw (v : Int) (num den : Nat) (sc : Int) : Int :=
  if 0 ≤ sc then divHalfEven (v * num) (den * 2 ^ sc.toNat) else divHalfEven (v * num * 2 ^ (-sc).toNat) den

/-- The FX32 held for a reported value, and whether it saturated (R297); a status word and a value taken unconverted stay as they are. -/
def heldValue (img : Octets) (r : ChanRec) (k : Nat) (v : Int) : (Int × Int) × Bool :=
  match valSpec r k with
  | none => ((0, 0), false)
  | some p =>
    let go := fun (num den : Nat) (sc : Int) =>
      let x := heldRaw v num den sc
      ((clampI (-2147483647) 2147483647 x, sc), decide (x < -2147483647 ∨ 2147483647 < x))
    match p.cls with
    | none => if p.num = p.den then ((v, p.sc), false) else go p.num p.den p.sc
    | some c =>
      match imgScOpt img c 65535 with
      | some sc => go p.num p.den sc
      | none => ((v, 0), false)

/-! ## Heat (R299–R302) -/

/-- The heat coefficient at θ_f, θ_r in 0.01 °C (R299). -/
def heatK (side : Bool) (f r : Nat) : Nat :=
  let i := f / 100; let a := f % 100; let j := r / 100; let b := r % 100
  let g := fun (x y m : Nat) => if m = 0 then 0 else Config.heatCoef side x y * m
  (divHalfEven (g i j ((100 - a) * (100 - b)) + g (i + 1) j (a * (100 - b)) + g i (j + 1) ((100 - a) * b) +
    g (i + 1) (j + 1) (a * b) : Nat) 10000).toNat

/-- θ lies within 0.00 to 180.00 °C. -/
def thetaOk (v : Int) : Bool := decide (0 ≤ v) && decide (v ≤ 18000)

/-- A report taken apart (R295). -/
structure Report where
  seq : Nat
  flags : Nat
  type : Nat
  vFwd : Nat
  vRev : Nat
  values : List Int
  ownE : Nat

/-- A report from its 48 octets. -/
def reportOf (b : Octets) : Report :=
  { seq := u16At b 0, flags := u8At b 2, type := u8At b 3, vFwd := u32At b 4, vRev := u32At b 8,
    values := (List.range 8).map (fun k => i32At b (12 + 4 * k)), ownE := u32At b 44 }

/-- The difference of two counts modulo 2³². -/
def diff32 (a b : Nat) : Nat := (a + 4294967296 - b % 4294967296) % 4294967296

/-- The channel's Δθ is taken as θ_r − θ_f: COLD_SUB, and a chiller (R300). -/
def State.coldSide (s : State) (r : ChanRec) : Bool :=
  decide (r.type = 2) || (decide (r.type = 4) && decide (u8At (recOf s.img 5 r.element) 4 = 4))

/-- The registers after volume differences were taken with a report's temperatures (R300, R302); whether it carries a
temperature fault. -/
def addHeat (g : ChanRegs) (side cold : Bool) (rep : Report) (dF dR : Nat) : ChanRegs × Bool :=
  let f := nth 0 rep.values 1
  let r := nth 0 rep.values 2
  let g := { g with vFwd := g.vFwd + dF, vRev := g.vRev + dR }
  if ¬ thetaOk f ∨ ¬ thetaOk r ∨ bitOf rep.flags 1 then ({ g with vT := g.vT + dF + dR }, true)
  else
    let d := if cold then r - f else f - r
    let k := heatK side f.toNat r.toNat
    let uF := k * dF * d.natAbs
    let uR := k * dR * d.natAbs
    (if 0 ≤ d then { g with ePos := g.ePos + uF, eNeg := g.eNeg + uR }
     else { g with ePos := g.ePos + uR, eNeg := g.eNeg + uF }, false)

/-- The event of R301. -/
def State.baselineEv (s : State) (c cs seq : Nat) : State := s.post .metr Code.channelBaseline 0 [.u16 c, .u8 cs, .u16 seq]

/-- A report carries a temperature fault (R302). -/
def Report.faulty (r : Report) : Bool := !thetaOk (nth 0 r.values 1) || !thetaOk (nth 0 r.values 2) || bitOf r.flags 1

/-- The register part of an accepted report (R300–R303). -/
def State.reportRegs (s : State) (c : Nat) (m : ChanRec) (rep : Report) : State :=
  let v := s.chan c
  let nb : Baseline := { vFwd := rep.vFwd, vRev := rep.vRev, ownE := rep.ownE, seq := rep.seq }
  let restart := fun (cs : Nat) =>
    (s.setChan c { v with base := some nb, savedBase := false, restarted := true }).baselineEv c cs rep.seq
  match v.base with
  | none => restart (if bitOf rep.flags 0 then 1 else 2)
  | some b =>
    if bitOf rep.flags 0 then restart 1
    else
      let dF := diff32 rep.vFwd b.vFwd
      let dR := diff32 rep.vRev b.vRev
      if 2147483648 ≤ dF ∨ 2147483648 ≤ dR then
        (s.setChan c { v with base := some nb, savedBase := false, gap := true }).baselineEv c 3 rep.seq
      else
        let cfg := s.nat (0x4000 + c) 2
        let h := addHeat v.regs (bitOf cfg 0) (s.coldSide m) rep dF dR
        s.setChan c { v with
          base := some nb, savedBase := false, regs := h.1, tFault := v.tFault || h.2,
          gap := v.gap || (!v.savedBase && decide (rep.seq ≠ (b.seq + 1) % 65536)),
          reverse := v.reverse || decide (0 < dR), ownSum := v.ownSum + diff32 rep.ownE b.ownE }

/-- The flow of a thermal store channel between two reports (R297): mL over ns; none where R301 takes no difference. -/
def storeFlow (v : Chan) (rep : Report) (now : Nat) : Int × Nat :=
  match v.base with
  | some b =>
    let f := diff32 rep.vFwd b.vFwd
    let r := diff32 rep.vRev b.vRev
    if ¬ v.got ∨ bitOf rep.flags 0 ∨ 2147483648 ≤ f ∨ 2147483648 ≤ r then (0, 0) else ((f : Int) - r, now - v.arrival)
  | none => (0, 0)

/-- The `SEQ` of the channel's previous accepted report: since the restart, or that of the saved baseline. -/
def Chan.lastSeq (v : Chan) : Option Nat := if v.got then some v.seq else if v.savedBase then v.base.map (·.seq) else none

/-- An accepted report (R296, R297). -/
def State.acceptReport (s : State) (c : Nat) (m : ChanRec) (rep : Report) : State :=
  let held := (List.range 8).map (fun k => heldValue s.img m k (nth 0 rep.values k))
  let v := s.chan c
  let fl := if m.thermalStore then storeFlow v rep s.clk.dev else (0, 0)
  let metered := decide (m.type = 1) || decide (m.type = 2) || decide (m.type = 4)
  let s := if metered then s.reportRegs c m rep
    else s.setChan c { v with base := some { vFwd := rep.vFwd, vRev := rep.vRev, ownE := rep.ownE, seq := rep.seq } }
  s.modChan c (fun v => { v with
    got := true, seq := rep.seq, arrival := s.clk.dev, vals := held.map (·.1), ownE := rep.ownE,
    ownValid := bitOf rep.flags 2, ownBad := v.ownBad || !bitOf rep.flags 2, fresh := true, flow := fl.1, flowDt := fl.2,
    valueSat := held.any (·.2), tFaultNow := metered && rep.faulty })

/-- The channel a report's source maps to (R91, R295). -/
def State.reportChan (s : State) (src : RepSrc) : Option Nat :=
  match src with
  | .can p n => (List.range 512).find? (fun c =>
      decide ((s.chanOf c).type ≠ 0) && decide ((s.chanOf c).transport = p) && decide ((s.chanOf c).busNode = n))
  | .udp _ c ip port =>
    let a := s.oct (0x4000 + c) 4
    if c < 512 ∧ (s.chanOf c).type ≠ 0 ∧ (s.chanOf c).transport = 8 ∧ beNat (slice a 0 4) = ip ∧ u16At a 4 = port then some c
    else none

/-- A discarded report is counted in its transport's entries (R296). -/
def State.reportDiscard (s : State) (src : RepSrc) (malformed : Bool) : State :=
  match src with
  | .can p _ => s.modPort p (fun v => if malformed then { v with malformed := v.malformed + 1 } else { v with unclaimed := v.unclaimed + 1 })
  | .udp m _ _ _ => s.modMac m (fun v => { v with reportBad := v.reportBad + 1 })

/-- A channel report reaches METR (R296). -/
def State.channelReport (s : State) (src : RepSrc) (b : Octets) : State :=
  if b.length ≠ 48 then s.reportDiscard src true
  else
    match s.reportChan src with
    | none => s.reportDiscard src false
    | some c =>
      let rep := reportOf b
      let m := s.chanOf c
      if rep.type ≠ m.type ∨ (s.chan c).lastSeq = some rep.seq then s.reportDiscard src false
      else s.acceptReport c m rep

/-- The freshness of a channel's last report ends (R296, R309). -/
def State.reportTimeout (s : State) (c : Nat) : State :=
  if (s.chan c).fresh ∧ ¬ s.chanFresh c then s.modChan c (fun v => { v with fresh := false, stale := true }) else s

/-- REPORT_TIMEOUT (R296). -/
def execReportTimeout (t c : Nat) (s : State) : Out := onUnit (decide (c < 512)) .metr t s (fun s => s.reportTimeout c)

/-! ## Set-point and command frames (R298, R334, R456) -/

/-- The mask of owned words (R298). -/
def State.spMask (s : State) (c : Nat) : Nat := ((s.chan c).planOwned &&& s.planWords c) ||| s.loopWords c

/-- Triplex operation with all three lanes admitted, in which the holder sends voted values (R456). -/
def State.voting (s : State) : Bool := decide (s.lease.cfg = 2) && !s.lease.strapBad && decide (s.lease.excluded = 0)

/-- An element of another lane's last output vector; loops by number, Q words by 0x10000 + word. -/
def State.peerVote (s : State) (x k : Nat) : Option Int :=
  ((Tab.get {} s.lease.peers x).vector.find? (fun e => decide (e.1 = k))).map (·.2)

/-- The median of three. -/
def median3 (a b c : Int) : Int := max (min a b) (min (max a b) c)

/-- The two other lanes. -/
def State.others (s : State) : List Nat := (List.range 3).filter (fun x => decide (x ≠ s.laneNode))

/-- The voted value of an element, given this lane's own (R456): the median of loop outputs, the majority of Q words. -/
def State.voted (s : State) (k : Nat) (own : Int) : Int :=
  if ¬ s.voting then own
  else match s.others with
  | [x, y] =>
    match s.peerVote x k, s.peerVote y k with
    | some a, some b => if k < 0x10000 then median3 own a b else if a = b then a else own
    | _, _ => own
  | _ => own

/-- The loop not OFF whose destination is set-point word `w` of channel `c`. -/
def State.wordLoop (s : State) (c w : Nat) : Option Nat :=
  (s.ctrl.loops.find? (fun e => decide (e.2.state ≠ .off) &&
    (let d := s.src e.1 5
     decide (d.kind = 3) && decide (d.index = c) && decide (d.sub = w)))).map (·.1)

/-- Word `w` as a frame carries it (R298, R456). -/
def State.spWord (s : State) (c w : Nat) : Int × Int :=
  let own := Tab.get (0, 0) (s.chan c).sp w
  if ¬ s.voting ∨ w < 4 then own
  else match s.wordLoop c w with
  | none => own
  | some n =>
    let d := s.src n 5
    (clampSp (s.voted n (s.loop n).uPrev + toQ15 d.lo d.loSc 0 0 d.e), d.e - 15)

/-- The eight set-point words as FX32. -/
def State.spWords (s : State) (c : Nat) : Octets :=
  (List.range 8).flatMap (fun w => let x := s.spWord c w; leInt 4 x.1 ++ leInt 1 x.2)

/-- Send a frame to a channel: function and first and last buffer on CAN, port 47122 on UDP (R298, R334). -/
def State.toChannel (s : State) (c fn key no : Nat) (b : Octets) : State :=
  let m := s.chanOf c
  if m.transport < 8 then
    s.sendCan m.transport 14 21 (s.ownFrame m.transport (canId 3 fn s.laneNode m.busNode (no % 64)) b) (some key)
  else if m.transport = 8 then
    let a := s.oct (0x4000 + c) 4
    let ip := beNat (slice a 0 4)
    let port := u16At a 4
    if ip = 0 ∨ port = 0 then s
    else s.sendUdp { mac := s.macFor ip, srcPort := 47122, ip := ip, port := port, data := b }
  else s

/-- Queue a channel's set-point frame (R298). -/
def State.sendSetpoints (s : State) (c : Nat) : State :=
  if ¬ s.leaseHolder ∨ s.chanType c = 0 then s.modChan c (fun v => { v with spChanged := none })
  else
    let no := (s.chan c).spNo
    let b := leBytes 4 s.planVersion ++ leBytes 1 (s.spMask c) ++ leBytes 1 no ++ zeros 2 ++ s.spWords c
    (s.toChannel c 2 (2 * c) no b).modChan c (fun v => { v with spChanged := none, spNo := (no + 1) % 256, spSent := s.clk.dev })

/-- The first 10 ms boundary of device time strictly after `d` has come. -/
def State.pastBoundary (s : State) (d : Nat) : Bool := decide ((d / 10000000 + 1) * 10000000 ≤ s.clk.dev)

/-- SETPOINT_FRAME (R298). -/
def execSetpointFrame (t c : Nat) (s : State) : Out :=
  onUnit (decide (c < 512)) .comm t s (fun s =>
    match (s.chan c).spChanged with
    | some d => if s.pastBoundary d then s.sendSetpoints c else s
    | none => s)

/-- SETPOINT_REFRESH (R298): `SP_REFRESH` after the last frame. -/
def execSetpointRefresh (t c : Nat) (s : State) : Out :=
  onUnit (decide (c < 512)) .comm t s (fun s =>
    if (s.chan c).spSent ≠ 0 ∧ (s.chan c).spSent + s.nat (0x4000 + c) 5 * 1000000 ≤ s.clk.dev then s.sendSetpoints c else s)

/-- Queue a channel's command frame (R334). -/
def State.sendCommand (s : State) (c : Nat) : State :=
  let s := s.modLogic (fun l => { l with cmdDue := Tab.erase l.cmdDue c })
  if ¬ s.leaseHolder ∨ s.chanType c = 0 then s
  else
    let no := Tab.get 0 s.logic.cmdNo c
    let w := unsigned 32 (s.voted (0x10000 + 0x100 + c) (Tab.get 0 s.logic.qc (0x100 + c)).toNat)
    (s.toChannel c 3 (2 * c + 1) no (leBytes 4 w ++ leBytes 1 no ++ zeros 3)).modLogic (fun l => { l with
      cmdNo := Tab.put 0 l.cmdNo c ((no + 1) % 256), cmdSent := Tab.insert l.cmdSent c s.clk.dev })

/-- COMMAND_FRAME (R334). -/
def execCommandFrame (t c : Nat) (s : State) : Out :=
  onUnit (decide (c < 512)) .comm t s (fun s =>
    match Tab.find s.logic.cmdDue c with
    | some d => if s.pastBoundary d then s.sendCommand c else s
    | none => s)

/-- COMMAND_REFRESH (R334). -/
def execCommandRefresh (t c : Nat) (s : State) : Out :=
  onUnit (decide (c < 512)) .comm t s (fun s =>
    match Tab.find s.logic.cmdSent c with
    | some d => if d + s.nat (0x4000 + c) 5 * 1000000 ≤ s.clk.dev then s.sendCommand c else s
    | none => s)

/-- A lane that became holder queues every owned word and every command word at the next boundary (R452). -/
def State.refreshAll (s : State) : State :=
  (List.range 512).foldl (fun s c =>
    if s.chanType c = 0 then s
    else
      let s := if s.spMask c ≠ 0 then s.modChan c (fun v => { v with spChanged := some s.clk.dev }) else s
      if Tab.get 0 s.logic.qc (0x100 + c) ≠ 0 then s.modLogic (fun l => { l with cmdDue := Tab.insert l.cmdDue c s.clk.dev }) else s) s

/-! ## Pulse inputs (R305, R306) -/

/-- A pulse input. -/
def State.pulse (s : State) (i : Nat) : PulseIn := Tab.get {} s.heat.pulses i
/-- Replace a pulse input. -/
def State.setPulse (s : State) (i : Nat) (v : PulseIn) : State :=
  { s with heat := { s.heat with pulses := Tab.put {} s.heat.pulses i v } }
/-- `PI_CONFIG` of input `i`: mode, debounce, options. -/
def State.piCfg (s : State) (i : Nat) : Octets := s.oct (0x4830 + i) 1
def State.piMode (s : State) (i : Nat) : Nat := u8At (s.piCfg i) 0
def State.piOpt (s : State) (i k : Nat) : Bool := bitOf (u8At (s.piCfg i) 2) k

/-- The filter time of an input, ns (R305). -/
def State.piFilter (s : State) (i : Nat) : Nat := if s.piMode i = 2 then 20000 else u8At (s.piCfg i) 1 * 1000000

/-- A level is accepted at input `i` (R305, R306): it cannot have been stable for the filter time before that time has passed since the
last accepted level or the filter's reset. -/
def State.pulseEdge (s : State) (i : Nat) (level : Bool) : State :=
  let v := s.pulse i
  let mode := s.piMode i
  if mode = 0 ∨ (v.level = level ∧ ¬ v.first) ∨ s.now < v.since + s.piFilter i then s
  else
    let s := s.setPulse i { v with level := level, first := false, since := s.now }
    if v.first ∨ mode = 3 ∨ level = s.piOpt i 0 then s
    else
      let paired := s.piOpt i 1 && decide (i % 2 = 0)
      let fwd := (s.pulse (i + 1)).level != s.piOpt i 2
      let j := if paired ∧ ¬ fwd then i + 1 else i
      s.setPulse j { s.pulse j with count := (s.pulse j).count + 1 }

/-- PULSE_EDGE (R305). -/
def execPulseEdge (t i : Nat) (level : Bool) (s : State) : Out :=
  onUnit (decide (i < 32)) .metr t s (fun s => s.pulseEdge i level)

/-- A write of `PI_CONFIG` (R305, R306, R322). -/
def State.piConfig (s : State) (i : Nat) (b : Octets) : WRes :=
  let o := u8At b 2
  if b.length ≠ 4 then .refuse 0x0A04 s
  else if 3 < u8At b 0 ∨ u8At b 1 < 1 ∨ 50 < u8At b 1 ∨ 7 < o ∨ u8At b 3 ≠ 0 ∨ (bitOf o 1 ∧ i % 2 = 1) ∨
      (bitOf o 1 ∧ s.piMode (i + 1) ≠ 3) then .refuse 0x0A05 s
  else
    let v := s.pulse i
    .done ((s.store (0x4830 + i) 1 b).setPulse i { v with first := true, since := s.now, level := v.level && decide (u8At b 0 ≠ 0) })

/-! ## Reads (R320, R322) -/

/-- A heat energy: count of mWh and residue. -/
def heatReg (v : Nat) : Octets := leBytes 8 (v / 1000000000) ++ leBytes 4 (v % 1000000000)

/-- The five registers as octets (R313). -/
def ChanRegs.octets (g : ChanRegs) : Octets := heatReg g.ePos ++ heatReg g.eNeg ++ leBytes 8 g.vFwd ++ leBytes 8 g.vRev ++ leBytes 8 g.vT

/-- `CH_FLAGS` (R321). -/
def State.chFlags (s : State) (c : Nat) : Nat :=
  let v := s.chan c
  b2n (s.chanFresh c) + 2 * b2n v.base.isSome + 4 * b2n v.gap + 8 * b2n v.reverse + 16 * b2n v.tFaultNow + 32 * b2n v.valueSat +
    64 * b2n v.recon

/-- The entries of channels and pulse inputs as read; none for a stored value. -/
def State.heatRead (s : State) (idx sub : Nat) : Option Octets :=
  if 0x4200 ≤ idx ∧ idx < 0x4400 then
    let c := idx - 0x4200
    let v := s.chan c
    match sub with
    | 1 => some (leBytes 2 v.seq ++ leBytes 8 v.arrival ++
        (List.range 8).flatMap (fun k => let x := nth (0, 0) v.vals k; leInt 4 x.1 ++ leInt 1 x.2))
    | 2 =>
      let net : Int := (v.regs.ePos : Int) - v.regs.eNeg
      some (v.regs.octets ++ (if bitOf (s.nat (0x4000 + c) 2) 1 then
        leInt 8 (net.fdiv 1000000000) ++ leBytes 4 (net.fmod 1000000000).toNat else zeros 12))
    | 3 => some (leBytes 1 (s.spMask c) ++
        (List.range 8).flatMap (fun w => let x := Tab.get (0, 0) v.sp w; leInt 4 x.1 ++ leInt 1 x.2))
    | 4 => some (leBytes 2 (s.chFlags c))
    | 5 => some (leBytes 4 v.ownE)
    | 6 => some (zeros 4)
    | _ => none
  else if 0x4830 ≤ idx ∧ idx < 0x4850 then
    let i := idx - 0x4830
    match sub with
    | 2 => some (leBytes 8 (s.pulse i).count)
    | 3 => some (leBytes 1 (b2n (s.pulse i).level))
    | 4 => some (zeros 4)
    | _ => none
  else none

end Machine
end Sys2Proof
end

