-- ==== Sys2Proof/Machine/Jiest.lean ====
section
/-! DEFINITION. The Jiest link (R463–R470): frames, acknowledgement and resending, training, wiring and spare lanes. Symbol
times are left out: a frame that may be sent leaves at once. A `LINK` frame carries the number of the next frame and is not
itself numbered or kept (DESIGN CHOICE, assumption log). -/

namespace Sys2Proof
namespace Machine

/-- A port. -/
def State.jport (s : State) (p : Nat) : JPort := Tab.get {} s.casc.ports p
/-- Replace a port. -/
def State.setJport (s : State) (p : Nat) (v : JPort) : State :=
  { s with casc := { s.casc with ports := Tab.put {} s.casc.ports p v } }
/-- Change a port. -/
def State.modJport (s : State) (p : Nat) (f : JPort → JPort) : State := s.setJport p (f (s.jport p))
/-- Change the cascade's state. -/
def State.modCasc (s : State) (f : Cascade → Cascade) : State := { s with casc := f s.casc }
/-- Bit p of `JIEST_PORTS` (R482). -/
def State.jEnabled (s : State) (p : Nat) : Bool := bitOf (s.nat 0x6410 2) p
/-- The port is UP. -/
def State.jUp (s : State) (p : Nat) : Bool := decide ((s.jport p).state = 2)

/-- Priority of a frame type, 1 highest; 0 reserved (R465). -/
def framePrio : Nat → Nat
  | 1 => 1 | 2 => 1 | 3 => 2 | 4 => 2 | 5 => 3 | 6 => 4 | 7 => 5 | _ => 0

/-- The octets of a frame before its CRC (R464). -/
def JFrame.octets (f : JFrame) : Octets :=
  leBytes 1 f.ftype ++ leBytes 1 f.flags ++ leBytes 1 f.seq ++ leBytes 1 f.ack ++ leBytes 2 f.payload.length ++ leBytes 2 f.msg ++ f.payload

/-- The octets of a whole frame, its `CRC` last (R464). -/
def JFrame.whole (f : JFrame) : Octets := f.octets ++ leBytes 4 (crc32c f.octets)

/-- The frame that some octets received are, with whether they hold a code violation (R464, R467): good with the length its `LEN` says,
at most 128 payload octets and the right `CRC`. -/
def jframeOf (b : Octets) (viol : Bool) : JFrame :=
  let n := u16At b 4
  { ftype := u8At b 0, flags := u8At b 1, seq := u8At b 2, ack := u8At b 3, msg := u16At b 6, payload := slice b 8 n,
    good := !viol && decide (n ≤ 128) && decide (b.length = n + 12) && decide (u32At b (8 + n) = crc32c (b.take (8 + n))) }

/-- A frame leaves on a port. -/
def State.jPut (s : State) (p : Nat) (f : JFrame) : State :=
  (s.modJport p (fun v => { v with sent := v.sent + 1 })).emit (.jiest p f.ftype f.whole)

/-- The last frame received in order. -/
def JPort.ackNo (v : JPort) : Nat := (v.rxSeq + 255) % 256

/-- Send a `LINK` frame (R465): acknowledgement, NAK or training. -/
def State.jLink (s : State) (p : Nat) (nak : Bool) (payload : Octets) : State :=
  let v := s.jport p
  s.jPut p { ftype := 1, flags := 3 + 8 * b2n nak, seq := v.txSeq, ack := v.ackNo, msg := 0, payload := payload, good := true }

/-- The first waiting frame of the highest priority. -/
def pickFrame : List JFrame → Option JFrame
  | [] => none
  | f :: r => match pickFrame r with
    | some g => if framePrio g.ftype < framePrio f.ftype then some g else some f
    | none => some f

/-- Remove the first frame equal to `f`. -/
def dropFrame (f : JFrame) : List JFrame → List JFrame
  | [] => []
  | g :: r => if f = g then r else g :: dropFrame f r

/-- Waiting frames are sent while the window of 64 has room (R465, R467). -/
def State.jPump (s : State) (p : Nat) : Nat → State
  | 0 => s
  | n + 1 =>
    let v := s.jport p
    if v.state ≠ 2 ∨ 64 ≤ v.window.length then s
    else match pickFrame v.waiting with
    | none => s
    | some f =>
      let g := { f with seq := v.txSeq, ack := v.ackNo }
      let s := s.setJport p { v with waiting := dropFrame f v.waiting, window := v.window ++ [g], txSeq := (v.txSeq + 1) % 256 }
      (s.jPut p g).jPump p n

/-- Cut a message's octets into pieces of at most 128. -/
def pieces128 : Nat → Octets → List Octets
  | 0, b => [b]
  | n + 1, b => if b.length ≤ 128 then [b] else b.take 128 :: pieces128 n (b.drop 128)

/-- The frames of a message (R464). -/
def framesOf (ftype msg : Nat) (l : List Octets) : List JFrame :=
  l.mapIdx (fun i b => { ftype := ftype, flags := b2n (decide (i = 0)) + 2 * b2n (decide (i + 1 = l.length)), seq := 0, ack := 0,
                         msg := msg, payload := b, good := true })

/-- Send a message on a port that is UP; on another it is not sent (R468, R469). -/
def State.jSend (s : State) (p ftype : Nat) (b : Octets) : State :=
  let v := s.jport p
  if v.state ≠ 2 then s
  else
    let fs := framesOf ftype v.msgNo (pieces128 (b.length / 128 + 1) b)
    (s.setJport p { v with waiting := v.waiting ++ fs, msgNo := (v.msgNo + 1) % 65536 }).jPump p 64

/-- Frames an `ACKSEQ` covers leave the window. -/
def JPort.acked (v : JPort) (a : Nat) : JPort :=
  match v.window.findIdx? (fun f => decide (f.seq = a)) with
  | some i => { v with window := v.window.drop (i + 1) }
  | none => v

/-- Resend what is not acknowledged (R467 step 2). -/
def State.jResend (s : State) (p : Nat) : State :=
  let w := (s.jport p).window.map (fun f => { f with flags := f.flags ||| 4 })
  let s := s.modJport p (fun v => { v with window := w })
  w.foldl (fun s f => s.jPut p { f with ack := (s.jport p).ackNo }) s

/-- The port goes down to TRAINING (R467, R468). -/
def State.jDown (s : State) (p : Nat) : State :=
  (s.modJport p (fun v => { v with state := 1, since := s.now, aligned := false, retrains := v.retrains + 1, fails := 0,
                                   discarding := false })).post .comm Code.jiestLinkDown p []

/-- A NAK: everything after its `ACKSEQ` is sent again; a port that is not UP carries nothing but `LINK` (R469). -/
def State.jNak (s : State) (p a : Nat) : State :=
  if s.jUp p then ((s.modJport p (fun v => v.acked a)).jResend p).jPump p 64 else s

/-! ## Reception (R467) -/

/-- A frame that failed its check: NAK, and the fourth failed delivery retrains the port. -/
def State.jBad (s : State) (p : Nat) : State :=
  let v := s.jport p
  let s := s.setJport p { v with failed := v.failed + 1, discarding := true, fails := v.fails + 1 }
  if 4 ≤ v.fails + 1 then (if v.state = 2 then s.jDown p else s) else s.jLink p true []

/-- A frame in order: the message it completes, if any. -/
def State.jAccept (s : State) (p : Nat) (f : JFrame) : State × Option (Nat × Octets) :=
  let v := s.jport p
  let got := (if bitOf f.flags 0 then [] else (Tab.find v.pieces f.msg).getD []) ++ f.payload
  let v := { v with rxSeq := (v.rxSeq + 1) % 256, recv := v.recv + 1, discarding := false, fails := 0 }
  if framePrio f.ftype = 0 then ((s.setJport p { v with unknown := v.unknown + 1 }).jLink p false [], none)
  else if bitOf f.flags 1 then
    ((s.setJport p { v with pieces := Tab.erase v.pieces f.msg }).jLink p false [], some (f.ftype, got))
  else ((s.setJport p { v with pieces := Tab.insert v.pieces f.msg got }).jLink p false [], none)

/-- A frame arrives (R467): its acknowledgement is used, and a message it completes is answered; type 1 answers a `LINK` frame's
payload. -/
def State.jReceive (s : State) (p : Nat) (f : JFrame) : State × Option (Nat × Octets) :=
  let v := s.jport p
  if v.state = 0 ∨ v.state = 4 then (s, none)
  else if ¬ f.good then (s.jBad p, none)
  else
    let s := s.modJport p (fun v => v.acked f.ack)
    if f.ftype = 1 then
      let s := s.modJport p (fun v => { v with recv := v.recv + 1 })
      (if bitOf f.flags 3 then s.jNak p f.ack else s.jPump p 64, if f.payload.length = 32 then some (1, f.payload) else none)
    else if v.state ≠ 2 then (s, none)
    else if f.seq = v.rxSeq then (let r := s.jAccept p f; (r.1.jPump p 64, r.2))
    else if v.discarding then (s, none)
    else (s.jLink p false [], none)

/-! ## Training and wiring (R468, R469, R471) -/

/-- The depth of a position (R471). -/
def depthOf (p : Nat) : Nat := (p + 1).log2

/-- This device's position and lane. -/
def State.pos (s : State) : Nat := s.power.straps.pos
def State.lane (s : State) : Nat := s.laneNode

/-- The identity of R469. -/
def State.identity (s : State) (p : Nat) : Octets :=
  leBytes 2 s.pos ++ leBytes 1 s.lane ++ leBytes 1 p ++ leBytes 1 (s.nat 0x6400 1) ++ leBytes 1 (depthOf s.pos) ++ zeros 2 ++
    leBytes 8 Config.serial ++ leBytes 4 (if s.model.active.isSome then imgTopo s.img else 0) ++ leBytes 4 s.power.fwVersion ++ zeros 8

/-- The wiring check: neighbour's position, lane, port (R463, R469). Duplex joins P1 to P1, triplex P1 to the next lane's P2. -/
def State.wiringOk (s : State) (p npos nlane nport : Nat) : Bool :=
  let triplex := decide (s.lease.cfg = 2)
  match p with
  | 0 => decide (0 < s.pos) && decide (npos = (s.pos - 1) / 2) && decide (nlane = s.lane) && decide (nport = (if s.pos % 2 = 1 then 1 else 2))
  | 1 => decide (npos = 2 * s.pos + 1) && decide (nlane = s.lane) && decide (nport = 0)
  | 2 => decide (npos = 2 * s.pos + 2) && decide (nlane = s.lane) && decide (nport = 0)
  | 3 => decide (npos = s.pos) && (if triplex then decide (nlane = (s.lane + 1) % 3) && decide (nport = 4)
      else decide (nlane + s.lane = 1) && decide (nport = 3))
  | _ => triplex && decide (npos = s.pos) && decide (nlane = (s.lane + 2) % 3) && decide (nport = 3)

/-- The boundary nodes on port `p` of the active image, by node index (R83, R475). -/
def State.boundaryNodes (s : State) (p : Nat) : List Nat :=
  (List.range (secCount s.img 1)).filter (fun n => decide (nodeKind s.img n = 5) && decide (u8At (recOf s.img 1 n) 7 = p))

/-- A `ROUND` message (R478). -/
def roundMsg (kind no ts : Nat) (body : Octets) : Octets := leBytes 1 kind ++ leBytes 1 no ++ zeros 2 ++ leBytes 8 ts ++ body

/-- The boundary table of a port is sent (R475). -/
def State.putTable (s : State) (p : Nat) : State :=
  let body := (s.boundaryNodes p).flatMap (fun n => let r := recOf s.img 1 n; slice r 0 4 ++ slice r 6 1)
  s.jSend p 6 (roundMsg 4 0 s.casc.par.ts body)

/-- An exchange of tables is opened on a port that is UP (R475). -/
def State.sendTable (s : State) (p : Nat) : State :=
  if s.jUp p then (s.modJport p (fun v => { v with tableSent := true })).putTable p else s

/-- A neighbour's identity in TRAINING (R468): UP or MISWIRED. -/
def State.jIdentity (s : State) (p : Nat) (b : Octets) : State :=
  let v := s.jport p
  if v.state ≠ 1 ∨ ¬ v.aligned ∨ b.length ≠ 32 then s
  else
    let v := { v with nPos := u16At b 0, nLane := u8At b 2, nSerial := u64At b 8 }
    let topo := if p = 0 then decide (u8At b 2 ≠ s.lane) else s.casc.topoBad
    let s := s.modCasc (fun c => { c with topoBad := topo })
    if s.wiringOk p (u16At b 0) (u8At b 2) (u8At b 3) then
      let s := (s.setJport p { v with state := 2, since := s.now }).post .comm Code.jiestLinkUp p []
      let s := (s.jResend p).jPump p 64
      if p < 3 then s.sendTable p else s
    else (s.setJport p { v with state := 3 }).post .comm Code.cascadeMiswired p []

/-- A port enabled or disabled by `JIEST_PORTS` (R468): a disabled port goes DOWN. -/
def State.jiestPorts (s : State) (mask : Nat) : State :=
  (List.range 5).foldl (fun s p =>
    if bitOf mask p then s
    else s.modJport p (fun v => { v with state := 0, aligned := false, window := [], waiting := [], pieces := [],
                                         rxSeq := 0, txSeq := 0, discarding := false, fails := 0 })) s

/-- A message on a Jiest port: a port that is not UP carries none (R468, R469). -/
def onMessage (t p : Nat) (s : State) (f : State → State) : Out :=
  onUnit (decide (p < 5)) .comm t s (fun s => if s.jUp p then f s else s)

/-- A command of a Jiest port. -/
def onJiest (t p : Nat) (s : State) (f : State → State) : Out := onUnit (decide (p < 5)) .comm t s f

/-- NAK (R467). -/
def execNak (t p ack : Nat) (s : State) : Out :=
  onJiest t p s (fun s => s.jNak p (ack % 256))

/-- JIEST_SIGNAL_DETECTED (R468). -/
def execJiestSignalDetected (t p : Nat) (s : State) : Out :=
  onJiest t p s (fun s =>
    if s.jEnabled p ∧ (s.jport p).state = 0 then
      s.modJport p (fun v => { v with state := 1, since := s.now, aligned := false })
    else s)

/-- JIEST_ALIGNED (R468): the identity is sent. -/
def execJiestAligned (t p : Nat) (s : State) : Out :=
  onJiest t p s (fun s =>
    if (s.jport p).state = 1 then (s.modJport p (fun v => { v with aligned := true })).jLink p false (s.identity p) else s)

/-- JIEST_IDENTITY (R469). -/
def execJiestIdentity (t p : Nat) (b : Octets) (s : State) : Out := onJiest t p s (fun s => s.jIdentity p b)

/-- JIEST_TRAIN_TIMEOUT (R468). -/
def execJiestTrainTimeout (t p : Nat) (s : State) : Out :=
  onJiest t p s (fun s =>
    let v := s.jport p
    if v.state = 1 ∧ v.since + 100000000 ≤ s.now then
      (s.setJport p { v with state := 4, since := s.now }).post .comm Code.jiestLinkDown p []
    else s)

/-- JIEST_RETRY (R468). -/
def execJiestRetry (t p : Nat) (s : State) : Out :=
  onJiest t p s (fun s =>
    let v := s.jport p
    if v.state = 4 ∧ v.since + 1000000000 ≤ s.now then s.setJport p { v with state := 1, since := s.now, aligned := false } else s)

/-- JIEST_SIGNAL_LOST (R468). -/
def execJiestSignalLost (t p : Nat) (s : State) : Out :=
  onJiest t p s (fun s => if s.jUp p then s.jDown p else s)

/-- JIEST_LANE_SPARED (R470): a lane of a direction (`rx` the receiving one) is replaced by the spare, or, with the spare in use,
the port runs on one lane. -/
def State.laneSpared (s : State) (p : Nat) (rx : Bool) (l why : Nat) : State :=
  let v := s.jport p
  let used := if rx then v.rx else v.tx
  let out := if rx then v.rxOut else v.txOut
  if ¬ used.contains l then s
  else
    let rest := used.filter (fun x => decide (x ≠ l))
    let free := (List.range 3).find? (fun x => !used.contains x && !out.contains x)
    let now := match free with
      | some x => insRising x rest
      | none => if rest = [] then used else rest
    let v := if rx then { v with rx := now, rxOut := insRising l out } else { v with tx := now, txOut := insRising l out }
    let s := (s.setJport p v).modCasc (fun c => { c with laneDegraded := c.laneDegraded || free.isNone, t4 := Tab.erase c.t4 p, t1 := Tab.erase c.t1 p })
    let s := if p = 0 then { s with sync := { s.sync with jt1 := 0 } } else s
    let s := if rx then s.jLink p false (leBytes 32 (Config.laneNaming p l)) else s
    (s.retireElem 6 (6 * p + (if rx then 0 else 3) + l) why).post .comm Code.jiestLaneSpared p []

/-- JIEST_LANE_SPARED: a receiving lane with `n` violations in 1 s, 16 or more, or a transmitting lane that the other end has named in a
`LINK` frame. -/
def execJiestLaneSpared (t p : Nat) (rx : Bool) (l n : Nat) (s : State) : Out :=
  onUnit (decide (p < 5) && decide (l < 3)) .comm t s (fun s => if rx ∧ n < 16 then s else s.laneSpared p rx l 0)

end Machine
end Sys2Proof
end

