-- ==== Sys2Proof/Machine/Metering.lean ====
section
/-! DEFINITION. Electrical metering, sample by sample (R269–R276), windows and registers (R277–R280), power quality
(R281–R284) and pulse outputs (R285, R286). -/

namespace Sys2Proof
namespace Machine

/-! ## Configuration in force (R289, R290) -/

/-- The connection point. -/
def State.cp (s : State) (c : Nat) : CpMeter := Tab.get {} s.metr.cps c
/-- Replace a connection point. -/
def State.setCp (s : State) (c : Nat) (v : CpMeter) : State :=
  { s with metr := { s.metr with cps := Tab.put {} s.metr.cps c v } }

/-- A configuration value in force. -/
def cfgVal (cfg : Tab Val) (sub : Nat) : Val :=
  match Tab.find cfg sub with
  | some v => v
  | none => dfltOf (key 0x4800 sub)

/-- A number of a configuration. -/
def cfgNum (cfg : Tab Val) (sub : Nat) : Nat := (cfgVal cfg sub).toInt.toNat
/-- Octets of a configuration. -/
def cfgOct (cfg : Tab Val) (sub : Nat) : Octets := (cfgVal cfg sub).octs

/-- `PHASES`. -/
def cfgPhases (cfg : Tab Val) : Nat := cfgNum cfg 1
/-- `F_NOMINAL`. -/
def cfgFn (cfg : Tab Val) : Nat := cfgNum cfg 2
/-- Input k of a connection point is enabled (R290). -/
def inputOn (cfg : Tab Val) (k : Nat) : Bool := bitOf (cfgPhases cfg) (if k < 3 then k else k - 3)
/-- `V_RATIO` of phase p (0–2), raw at scale code −12. -/
def vRatio (cfg : Tab Val) (p : Nat) : Nat := (i32At (cfgOct cfg 5) (9 * p)).toNat
/-- G_v of phase p. -/
def vGain (cfg : Tab Val) (p : Nat) : Nat := u32At (cfgOct cfg 5) (9 * p + 5)
/-- The input record of current p (0–3). -/
def iInput (cfg : Tab Val) (p : Nat) : Octets := cfgOct cfg (6 + p)
/-- Sensor type of a current. -/
def iSensor (cfg : Tab Val) (p : Nat) : Nat := u8At (iInput cfg p) 0
/-- `I_RATIO`, raw at scale code −12. -/
def iRatio (cfg : Tab Val) (p : Nat) : Nat := (i32At (iInput cfg p) 4).toNat

/-- The values of a connection point's entries `.01` to `.0A` as stored now. -/
def State.cpStored (s : State) (c : Nat) : Tab Val :=
  (List.range 10).foldl (fun m i =>
    match Tab.find s.dict.vals (key (0x4800 + c) (i + 1)) with
    | some v => Tab.insert m (i + 1) v
    | none => m) []

/-! ## Trims and filters (R272, R273) -/

/-- sat24 of R272. -/
def sat24 (v : Int) : Int := clampI (-8388607) 8388607 v
/-- q23: a Q1.38 state as a sample. -/
def q23 (h : Int) : Int := sat24 (rnd h 15)
/-- A filter state of 40 bits. -/
def sat40 (v : Int) : Int := satW 40 v

/-- a of R273, Q31. -/
def leakA : Int := 2146640333
/-- g_n of R273, Q1.30. -/
def gNom (fn : Nat) : Int := if fn = 60 then 50608257 else 42171162

/-- The trim of a modulator at a range (R272): offset and gain. -/
def State.trim (s : State) (m range : Nat) : Int × Nat := Tab.get (0, 1073741824) s.metr.trims (2 * m + range)

/-- A trimmed sample, and whether it clamped. -/
def trimmed (tr : Int × Nat) (d : Int) : Int × Bool :=
  let v := rnd ((d - tr.1) * tr.2) 30
  (sat24 v, decide (sat24 v ≠ v))

/-- The modulator that serves an input (R269). -/
def State.modOf (s : State) (i : Nat) : Nat := (Tab.find s.metr.serves i).getD i

/-- The range of input k of a connection point (R271): 1 is ×16. -/
def inputRange (cfg : Tab Val) (k : Nat) : Nat := if 3 ≤ k ∧ iSensor cfg (k - 3) = 0 then 1 else 0

/-- DC removal. -/
def dcStep (st : InputState) (x : Int) : Int := sat40 (rnd (leakA * (st.h + (x - st.x) * 32768)) 31)
/-- The leaky trapezoidal integrator. -/
def integ (w g x xp : Int) : Int := sat40 (rnd (leakA * w + g * (x + xp) * 32768) 31)

/-- One sample of one input (R273): the new states, y and vq. -/
def inputStep (volt coil : Bool) (g r : Int) (st : InputState) (x : Int) : InputState × Int × Int :=
  let h := if coil then integ st.h g x st.x else dcStep st x
  let w := if volt then integ st.w g x st.x else st.w
  ({ x := x, h := h, w := w }, q23 h, if volt then sat24 (rnd (w * r) 45) else 0)

/-- The trimmed sample of an input from the batch, with its clip: an input whose modulator failed takes its last good sample
until the spare's third one (R493), or 0 where it has none. -/
def State.sampleOf (s : State) (cfg : Tab Val) (i : Nat) (d : Int) : Int × Bool :=
  if s.metr.dead.contains i then (0, false)
  else if Tab.get 0 s.metr.subst i = 0 then trimmed (s.trim (s.modOf i) (inputRange cfg (i % 7))) d
  else (Tab.get 0 s.metr.lastGood i, false)

/-! ## Correction (R275) -/

/-- Breakpoint k of a current input: I_k, G_k, φ_k. -/
def breakpoint (b : Octets) (k : Nat) : Nat × Nat × Int := (u32At b (12 + 12 * k), u32At b (16 + 12 * k), i32At b (20 + 12 * k))

/-- Interpolation, rounded half-even. -/
def interp (y0 y1 : Int) (x x0 x1 : Nat) : Int :=
  if x1 ≤ x0 then y0 else divHalfEven (y0 * ((x1 : Int) - x0) + (y1 - y0) * ((x : Int) - x0)) ((x1 : Int) - x0)

/-- G and φ of a current input at I mA. -/
def gainAt (b : Octets) (i : Nat) : Int × Int :=
  let n := u8At b 1
  let pt := breakpoint b
  if n = 0 then (1073741824, 0)
  else if i ≤ (pt 0).1 then ((pt 0).2.1, (pt 0).2.2)
  else if (pt (n - 1)).1 ≤ i then ((pt (n - 1)).2.1, (pt (n - 1)).2.2)
  else
    let k := ((List.range (n - 1)).find? (fun k => decide ((pt k).1 ≤ i) && decide (i < (pt (k + 1)).1))).getD 0
    (interp (pt k).2.1 (pt (k + 1)).2.1 i (pt k).1 (pt (k + 1)).1, interp (pt k).2.2 (pt (k + 1)).2.2 i (pt k).1 (pt (k + 1)).1)

/-- G, c and s of a current input at I mA. -/
def corrAt (b : Octets) (i : Nat) : Int × Int × Int :=
  let (g, phi) := gainAt b i
  let q := divHalfEven (phi * 1073741824) 1000000
  (g, 1073741824 - rnd (q * q) 31, q - divHalfEven (q * q * q) (6 * 1152921504606846976))

/-! ## K and the products (R276) -/

/-- A positive rational as a mantissa in (2²⁸, 2²⁹] with its scale code; 0 for 0. -/
def mantissa (n d : Nat) : Int × Int :=
  if n = 0 then (0, 0)
  else
    let e : Int := (n.log2 : Int) - d.log2 - 29
    let at_ := fun (sc : Int) => if 0 ≤ sc then divHalfEven n (d * 2 ^ sc.toNat : Int) else divHalfEven (n * 2 ^ (-sc).toNat : Int) d
    let sc := (([e - 1, e, e + 1].find? (fun sc => decide (at_ sc ≤ 536870912))).getD (e + 2))
    (at_ sc, sc)

/-- K of a phase (R276): V_RATIO · I_RATIO / (28 800 · 2¹⁴), the ratios at scale code −12. -/
def kOf (cfg : Tab Val) (p : Nat) : Int × Int := mantissa (vRatio cfg p * iRatio cfg p) (28800 * 2 ^ 38)

/-- rnd(v·K). -/
def timesK (v : Int) (k : Int × Int) : Int := scaleBy (v * k.1) k.2

/-- ΔP and ΔQ of one sample of a phase. -/
def deltaPQ (v vq i : Int) (c s : Int) (k : Int × Int) : Int × Int :=
  let pm := v * i
  let qm := vq * i
  (timesK (rnd (pm * c + qm * s) 30) k, timesK (rnd (qm * c - pm * s) 30) k)

/-! ## RMS (R280, R281) -/

/-- √(a/b) to the nearest integer, half to even. -/
def sqrtNear (a b : Nat) : Nat :=
  if b = 0 then 0
  else
    let v := isqrt (a / b)
    let t := (2 * v + 1) ^ 2 * b
    if t < 4 * a then v + 1 else if t = 4 * a then v + v % 2 else v

/-- RATIO · √(Σx²/N) / (2²³ − 1) in milli-units; the ratio raw at scale code −12. -/
def rmsOf (ratio sum n : Nat) : Nat := sqrtNear (sum * (ratio * 1000) ^ 2) (n * (4096 * 8388607) ^ 2)

/-! ## One sample of a connection point -/

/-- The corrected samples of a connection point at one instant: v_c, vq_c, i_c (three phases and N), and the clips. -/
structure CpSample where
  v : List Int
  vq : List Int
  i : List Int
  vClip : Bool
  iClip : Bool

/-- The correction in force of current p. -/
def CpMeter.corrOf (m : CpMeter) (p : Nat) : Int × Int × Int := nth (corrAt (iInput m.cfg p) 0) m.corr p

/-- Process the inputs of a connection point (R272–R276); the batch's decimator outputs by input. -/
def State.cpInputs (s : State) (c : Nat) (d : Nat → Int) : State × CpSample :=
  let m := s.cp c
  let g := gNom (cfgFn m.cfg)
  let xs := (List.range 7).map (fun k => if inputOn m.cfg k then s.sampleOf m.cfg (7 * c + k) (d (7 * c + k)) else (0, false))
  let res := (List.range 7).map (fun k =>
    if inputOn m.cfg k then
      inputStep (decide (k < 3)) (decide (3 ≤ k) && decide (iSensor m.cfg (k - 3) = 2)) g m.r
        (Tab.get {} s.metr.inputs (7 * c + k)) (nth (0, false) xs k).1
    else (Tab.get {} s.metr.inputs (7 * c + k), 0, 0))
  let at_ := fun k => nth (({} : InputState), 0, 0) res k
  let inputs := (List.range 7).foldl (fun t k => Tab.put {} t (7 * c + k) (at_ k).1) s.metr.inputs
  let good := (List.range 7).foldl (fun t k =>
    if inputOn m.cfg k ∧ Tab.get 0 s.metr.subst (7 * c + k) = 0 then Tab.put 0 t (7 * c + k) (nth (0, false) xs k).1 else t) s.metr.lastGood
  let gv := fun (p : Nat) => (vGain m.cfg p : Int)
  ({ s with metr := { s.metr with inputs := inputs, lastGood := good } },
   { v := (List.range 3).map (fun p => sat24 (rnd (gv p * (at_ p).2.1) 30)),
     vq := (List.range 3).map (fun p => sat24 (rnd (gv p * (at_ p).2.2) 30)),
     i := (List.range 4).map (fun p => sat24 (rnd ((m.corrOf p).1 * (at_ (3 + p)).2.1) 30)),
     vClip := (xs.take 3).any (·.2), iClip := (xs.drop 3).any (·.2) })

/-- Elementwise sum of two lists of naturals. -/
def addNats (a b : List Nat) : List Nat := List.zipWith (· + ·) a b

/-- A square. -/
def sq (v : Int) : Nat := (v * v).toNat

/-- Accumulate a sample into the window (R276). -/
def CpMeter.accumulate (m : CpMeter) (x : CpSample) : CpMeter :=
  let w := m.win
  let pq := (List.range 3).map (fun p =>
    if inputOn m.cfg p then
      let (_, c, s) := m.corrOf p
      deltaPQ (nth 0 x.v p) (nth 0 x.vq p) (nth 0 x.i p) c s (kOf m.cfg p)
    else (0, 0))
  { m with
    win := { w with n := w.n + 1, dP := List.zipWith (· + ·) w.dP (pq.map (·.1)),
                    dQ := List.zipWith (· + ·) w.dQ (pq.map (·.2)),
                    v2 := addNats w.v2 (x.v.map sq), i2 := addNats w.i2 (x.i.map sq),
                    vClip := w.vClip || x.vClip, iClip := w.iClip || x.iClip,
                    samples := List.zipWith (fun (v : Int) l => v :: l) (x.v ++ x.i) w.samples },
    accPos := m.accPos.map (fun a => (a.1 + 1, addNats a.2 (x.v.map sq))),
    accNeg := m.accNeg.map (fun a => (a.1 + 1, addNats a.2 (x.v.map sq))),
    accFix := match m.accFix with
      | [] => [(1, x.v.map sq)]
      | a :: r => (a.1 + 1, addNats a.2 (x.v.map sq)) :: r }

/-! ### Crossings and windows (R274) -/

/-- |v| exceeds 1 % of √2·U_din, v a corrected sample of the reference voltage. -/
def beyondArm (cfg : Tab Val) (v : Int) : Bool :=
  decide (2 * (cfgNum cfg 3 * 4096 * 8388607) ^ 2 < 10000 * (v.natAbs * vRatio cfg (cfgNum cfg 4 - 1) * 1000) ^ 2)

/-- The time of a crossing between two samples, interpolated linearly. -/
def crossTime (t0 t1 : Nat) (v0 v1 : Int) : Rat :=
  if v1 = v0 then t1 else (t0 : Rat) + ((t1 : Rat) - t0) * (-(v0 : Rat)) / ((v1 : Rat) - v0)

/-- Cycles of a window. -/
def winCycles (fn : Nat) : Nat := if fn = 60 then 12 else 10

/-- A period lies within 45 to 65 Hz. -/
def periodOk (ns : Rat) : Bool := decide (1000000000 ≤ 65 * ns) && decide (45 * ns ≤ 1000000000)

/-- A half-cycle boundary over an accumulated cycle (R281). -/
def CpMeter.halfAt (m : CpMeter) (t : Nat) (a : Option (Nat × List Nat)) : CpMeter :=
  match a with
  | some (n, l) => { m with halves := m.halves ++ [{ time := t, n := n, v2 := l }] }
  | none => m

/-- Samples between fixed half-cycle boundaries (R274): 80 at 50 Hz; 67, 67, 66 at 60 Hz. -/
def fixedHalf (fn k : Nat) : Nat := if fn = 60 then (if k % 3 = 2 then 66 else 67) else 80

/-- The fixed half-cycle boundaries while FREQ_LOST is set. -/
def CpMeter.fixedBoundary (m : CpMeter) (t : Nat) : CpMeter :=
  match m.accFix with
  | a :: r =>
    if a.1 < fixedHalf (cfgFn m.cfg) m.fixNo then m
    else
      let m := match r with
        | b :: _ => m.halfAt t (some (a.1 + b.1, addNats a.2 b.2))
        | [] => m
      { m with accFix := [(0, [0, 0, 0]), a], fixNo := m.fixNo + 1 }
  | [] => m

/-- A negative crossing. -/
def CpMeter.negCross (m : CpMeter) (t : Nat) : CpMeter :=
  let m := if m.lost then m else m.halfAt t m.accNeg
  { m with armNeg := false, accNeg := some (0, [0, 0, 0]) }

/-- A positive crossing at an interpolated time; a cycle counts towards the end of FREQ_LOST where the window holds all of it. -/
def CpMeter.posCross (m : CpMeter) (t : Nat) (x : Rat) : CpMeter :=
  let m := if m.lost then m else m.halfAt t m.accPos
  let good := match m.firstX, m.lastX with
    | some _, some l => periodOk (x - l)
    | _, _ => false
  let run := if good then m.goodRun + 1 else 0
  { m with armPos := false, accPos := some (0, [0, 0, 0]), firstX := some (m.firstX.getD x), lastX := some x,
           periods := if m.firstX.isSome then m.periods + 1 else 0, crossed := m.crossed + 1, goodRun := run,
           goodWin := m.goodWin || decide (3 ≤ run) }

/-- The frequency of the window in mHz; none without two crossings. -/
def CpMeter.freq (m : CpMeter) : Option Rat :=
  match m.firstX, m.lastX with
  | some a, some b => if m.periods = 0 ∨ b ≤ a then none else some (1000000000000 * m.periods / (b - a))
  | _, _ => none

/-- The correction values of the next window, from the currents of the window ended (R275). -/
def Win.corr (w : Win) (cfg : Tab Val) : List (Int × Int × Int) :=
  (List.range 4).map (fun p => corrAt (iInput cfg p) (rmsOf (iRatio w.cfg p) (nth 0 w.i2 p) w.n))

/-- The number of METR's cycle (98.304 MHz) in progress. -/
def State.metrCycle (s : State) : Nat := s.now * 98304 / 1000000

/-- What a window boundary finds written: writes of its own METR cycle wait for the boundary that follows (R294). -/
def State.cpDue (s : State) (c : Nat) : Tab Val × Bool :=
  match (s.cp c).before with
  | some (cyc, cfg, redo) => if cyc = s.metrCycle then (cfg, redo) else (s.cpStored c, (s.cp c).redo)
  | none => (s.cpStored c, (s.cp c).redo)

/-- The configuration a window boundary puts in force (R289): a write to `PHASES` or `F_NOMINAL` restarts the detection, a change
of a sensor type settles for 4 s with cleared states (R273). -/
def State.applyCpCfg (s : State) (c : Nat) : State :=
  let m := s.cp c
  let (new, restart) := s.cpDue c
  if m.cfg = new ∧ restart = false then s
  else
    let moved := (List.range 4).filter (fun p => decide (iSensor new p ≠ iSensor m.cfg p))
    let m := { m with cfg := new, settleUntil := if moved.isEmpty then m.settleUntil else s.now + 4000000000 }
    let m := if restart then
        { m with firstX := none, lastX := none, periods := 0, crossed := 0, armPos := false, armNeg := false, accPos := none,
                 accNeg := none, accFix := [], fixNo := 0, goodRun := 0, goodWin := false, redo := false,
                 watch := s.localTime .metr }
      else m
    let ins := moved.foldl (fun t p => Tab.put {} t (7 * c + 3 + p) {}) s.metr.inputs
    { s.setCp c m with metr := { (s.setCp c m).metr with inputs := ins } }

/-- FREQ_LOST is set (R274): r = 1, and windows and half-cycle boundaries are fixed. -/
def CpMeter.lose (m : CpMeter) : CpMeter :=
  { m with lost := true, r := 1073741824, fixNo := 0, accFix := [(0, [0, 0, 0])], goodRun := 0, goodWin := false }

/-- A window of a connection point ends (R274, R275, R289): it waits for its WINDOW_END. A frequency out of range sets FREQ_LOST. -/
def State.closeWindow (s : State) (c : Nat) : State :=
  let m := s.cp c
  let f := m.freq
  let ok := match f with
    | some v => decide (45000 ≤ v) && decide (v ≤ 65000)
    | none => false
  let fm := match f with
    | some v => (rounding 1 v).toNat
    | none => m.fMeas
  let w := { m.win with endAt := s.localTime .metr, fMeas := fm, cfg := m.cfg }
  let lost := m.lost && !m.goodWin
  let r := if lost then 1073741824 else
    match f with
    | some v => rounding 2 (v / (1000 * cfgFn m.cfg) * 1073741824)
    | none => m.r
  let s := s.setCp c { m with
    ended := m.ended ++ [w], win := {}, winNo := m.winNo + 1, fMeas := fm, r := r, lost := lost,
    firstX := if m.lost then none else m.lastX, periods := 0, crossed := 0, goodRun := 0, goodWin := false }
  let s := if m.lost = false ∧ f.isSome = true ∧ ok = false then s.setCp c (s.cp c).lose else s
  let s := s.applyCpCfg c
  s.setCp c { s.cp c with corr := w.corr (s.cp c).cfg }

/-- One sample's crossings (R274): the arming, the crossings of either direction, the end of the window; the sample itself
belongs to the window that follows. -/
def State.crossings (s : State) (c : Nat) (v : Int) : State :=
  let m := s.cp c
  let t := s.localTime .metr
  let m := { m with armPos := m.armPos || (decide (v < 0) && beyondArm m.cfg v),
                    armNeg := m.armNeg || (decide (0 < v) && beyondArm m.cfg v) }
  let m := if m.armPos ∧ 0 ≤ v then m.posCross t (crossTime m.prevT t m.prevV v) else m
  let m := if m.armNeg ∧ v ≤ 0 then m.negCross t else m
  let m := if m.lost then m.fixedBoundary t else m
  let full := if m.lost then decide (1600 ≤ m.win.n) else decide (winCycles (cfgFn m.cfg) ≤ m.crossed)
  let s := s.setCp c { m with prevV := v, prevT := t }
  if full then s.closeWindow c else s

/-! ### Pulse outputs (R285, R286) -/

/-- A pulse output. -/
def State.po (s : State) (j : Nat) : PulseOut := Tab.get {} s.metr.pos j
/-- Replace a pulse output. -/
def State.setPo (s : State) (j : Nat) (v : PulseOut) : State :=
  { s with metr := { s.metr with pos := Tab.put {} s.metr.pos j v } }

/-- The pulse output follows a register (R285). -/
def PulseOut.on (p : PulseOut) : Bool := decide (p.cfg.length = 8) && decide (u8At p.cfg 2 ≤ 6)

/-- A pulse in progress goes on for its samples and ends, whatever becomes of its output (R286, R294). -/
def PulseOut.hold (p : PulseOut) : PulseOut :=
  if p.left = 0 then { p with level := false } else { p with left := p.left - 1 }

/-- A pulse begins at sample `n` of the window (R286). -/
def PulseOut.begin_ (p : PulseOut) (n : Nat) : PulseOut :=
  if p.sent < p.due ∧ n = p.sent * p.gap then
    { p with level := true, left := p.high - 1, sent := p.sent + 1, backlog := p.backlog - 1, count := p.count + 1 }
  else p

/-- One sample of every pulse output. -/
def State.poHold (s : State) : State :=
  { s with metr := { s.metr with pos := s.metr.pos.map (fun e => (e.1, e.2.hold)) } }

/-- The pulses of a connection point that begin at a sample of its window. -/
def State.poBegin (s : State) (c n : Nat) : State :=
  (List.range 8).foldl (fun s j =>
    let p := s.po j
    if p.on ∧ u8At p.cfg 0 = c then s.setPo j (p.begin_ n) else s) s

/-- The pulses owed at the end of a window of L samples, emitted in the next (R286; DEDUCED: L of the window just ended stands
for the length of the next). -/
def PulseOut.owe (p : PulseOut) (add l : Nat) : PulseOut :=
  let c := u32At p.cfg 4
  let unit := 1000000 * 4294967296
  let r := p.residue + add * c
  let n := p.backlog + r / unit
  let t := if n = 0 then 8 else max (l / n) 8
  let fit := min n (l / t)
  { p with residue := r % unit, backlog := n, due := fit, sent := 0, gap := t,
           high := max 1 (min (8 * u8At p.cfg 3) (t / 2)), lag := decide (5 * (l / t) < n - fit) }

/-! ### METERING_SAMPLE -/

/-- One sample of one connection point. -/
def State.cpSample (s : State) (d : Nat → Int) (c : Nat) : State :=
  if cfgPhases (s.cp c).cfg = 0 then s
  else
    let (s, x) := s.cpInputs c d
    let s := s.crossings c (nth 0 x.v (cfgNum (s.cp c).cfg 4 - 1))
    let s := s.poBegin c (s.cp c).win.n
    s.setCp c ((s.cp c).accumulate x)

/-- The samples substituted in a batch (R493). -/
def State.afterBatch (s : State) : State :=
  (List.range 28).foldl (fun s i =>
    let n := Tab.get 0 s.metr.subst i
    if n = 0 then s
    else
      ({ s with metr := { s.metr with subst := Tab.put 0 s.metr.subst i (n - 1) } }).setPoolStat 4
        { s.poolStat 4 with subst := (s.poolStat 4).subst + 1 }) s

/-- METERING_SAMPLE (R270–R276, R286): the decimator outputs of the modulators serving the 28 inputs. Metering runs in RUN,
DEGRADED, SAFE_HOLD and SERVICE (R278). -/
def execMeteringSample (t : Nat) (d : List Int) (s : State) : Out :=
  onIsland .metr t s (fun s =>
    if ¬ s.up then s
    else ((List.range 4).foldl (fun s c => s.cpSample (fun i => nth 0 d i) c) (s.readLocal .metr).poHold).afterBatch)

/-- FREQ_LOST (R274): no positive crossing for 40 ms; a window's frequency out of range sets it at the window's end (`closeWindow`). -/
def execFreqLost (t cp : Nat) (s : State) : Out :=
  onUnit (decide (cp < 4)) .metr t s (fun s =>
    let m := s.cp cp
    if decide (cfgPhases m.cfg = 0) || m.lost || !decide (m.lastX.getD m.watch + 40000000 ≤ (s.clk.dev : Rat)) then s
    else s.setCp cp m.lose)

/-! ## Registers (R277, R278) -/

/-- The increments of one phase's or the total's sums by register kind 0–5. -/
def routePQ (p q : Int) : List Nat :=
  let a := p.natAbs
  let b := q.natAbs
  let pos := decide (0 ≤ p)
  let qp := decide (0 ≤ q)
  [if pos then a else 0, if pos then 0 else a, if pos && qp then b else 0, if !pos && qp then b else 0,
   if !pos && !qp then b else 0, if pos && !qp then b else 0]

/-- The apparent increment of a phase. -/
def Win.apparent (w : Win) (p : Nat) : Nat :=
  if inputOn w.cfg p then (timesK (isqrt (nth 0 w.v2 p * nth 0 w.i2 p)) (kOf w.cfg p)).toNat else 0

/-- The increments of a window by phase × 7 + kind, phase 0 the total (R277, R292). -/
def Win.increments (w : Win) : List Nat :=
  let ap := (List.range 3).map w.apparent
  (routePQ (sumI w.dP) (sumI w.dQ) ++ [ap.foldl (· + ·) 0]) ++
  (List.range 3).flatMap (fun p => routePQ (nth 0 w.dP p) (nth 0 w.dQ p) ++ [nth 0 ap p])

/-- Add increments to the registers of a connection point. -/
def addRegs (regs : Tab Nat) (c : Nat) (inc : List Nat) : Tab Nat :=
  (List.range 28).foldl (fun t j => Tab.put 0 t (28 * c + j) (Tab.get 0 t (28 * c + j) + nth 0 inc j)) regs

/-- The registers as a core sample latches them (R279): every window in progress routed by its own signs. -/
def State.latchElec (s : State) : Tab Nat :=
  (List.range 4).foldl (fun t c =>
    let m := s.cp c
    (m.ended ++ [{ m.win with cfg := m.cfg }]).foldl (fun t (w : Win) => addRegs t c w.increments) t) s.metr.regs

/-! ## Measurements (R280) -/

/-- V_rms and I_rms of a phase. -/
def Win.vRms (w : Win) (p : Nat) : Nat := rmsOf (vRatio w.cfg p) (nth 0 w.v2 p) w.n
def Win.iRms (w : Win) (p : Nat) : Nat := rmsOf (iRatio w.cfg p) (nth 0 w.i2 p) w.n

/-- W or var from window sums in 2⁻³² m-units. -/
def Win.power (w : Win) (site : Nat) (x : Int) : Int :=
  if w.n = 0 then 0 else sat32 (rounding site ((x : Rat) * 28800 / (4294967296 * w.n)))

/-- `MEAS` of one phase. -/
def Win.measPhase (w : Win) (p : Nat) : Octets :=
  if ¬ inputOn w.cfg p then zeros 24
  else
    let v := w.vRms p
    let i := w.iRms p
    let pw := w.power 3 (nth 0 w.dP p)
    let s := (rounding 4 ((v * i : Nat) / 1000000)).toNat
    let pf := if s = 0 then 0 else sat16 (rounding 5 ((pw : Rat) / s * 32768))
    leBytes 4 v ++ leBytes 4 i ++ leInt 4 pw ++ leInt 4 (w.power 3 (nth 0 w.dQ p)) ++ leBytes 4 s ++ leInt 2 pf ++ zeros 2

/-- `MEAS` (R290). -/
def Win.meas (w : Win) (no : Nat) : Octets :=
  leBytes 4 no ++ leBytes 8 w.endAt ++ leBytes 4 w.fMeas ++ (List.range 3).flatMap w.measPhase ++
  leBytes 4 (if inputOn w.cfg 6 then w.iRms 3 else 0) ++ zeros 8

/-- Goertzel's recursion over samples for a coefficient 2·cos ω in fixed point: the last two values. -/
def goertzel (c2 : Int) : List Int → Int × Int → Int × Int
  | [], p => p
  | x :: r, (a, b) => goertzel c2 r (x * fxOne + fxMul c2 a - b, a)

/-- ω in turns for harmonic h of a fundamental in mHz at 8 kSa/s. -/
def turnsOf (h f : Nat) : Rat := ((h * f : Nat) : Rat) / 8000000

/-- The real and the imaginary part of the samples' component at `u` turns a sample, but for a rotation that depends on their number. -/
def component (u : Rat) (l : List Int) : Int × Int :=
  let c := cosTurns u
  let (a, b) := goertzel (2 * c) l (0, 0)
  (a - fxMul b c, fxMul b (sinTurns u))

/-- |component|². -/
def power2 (u : Rat) (l : List Int) : Int := let (a, b) := component u l; a * a + b * b

/-- Harmonic shares of the fundamental, 0.01 %: h = 2 to 31, then THD (R280). Where there is no fundamental the shares are free. -/
def shares (f : Nat) (l : List Int) : List Nat :=
  let p1 := power2 (turnsOf 1 f) l
  if f = 0 ∨ p1 ≤ 0 then (List.range 31).map (fun k => Config.harmonic (if k = 30 then 1 else k + 2) f l)
  else
    let q := (List.range 30).map (fun k => (power2 (turnsOf (k + 2) f) l : Rat) / p1)
    (q ++ [sumQ q]).map (fun x => (rounding 16 (sqrtQ x * 10000)).toNat)

/-- `HARMONICS` (R290): h = 2 to 31, then THD, per input; the width of a share is 16 bits. -/
def Win.harmonics (w : Win) (no : Nat) : Octets :=
  leBytes 4 no ++ (List.range 7).flatMap (fun k =>
    if ¬ inputOn w.cfg k then zeros 62
    else (shares w.fMeas (nth [] w.samples k).reverse).flatMap (fun x => leBytes 2 (min 65535 x)))

/-- `SEQ_REVERSED` (R280): the second voltage leads the first by more than 60° at the fundamental. -/
def leads (f : Nat) (l1 l2 : List Int) : Bool :=
  let (a1, b1) := component (turnsOf 1 f) l1
  let (a2, b2) := component (turnsOf 1 f) l2
  let cross := a1 * b2 - b1 * a2
  let dot := a1 * a2 + b1 * b2
  decide (0 < cross) && (decide (dot ≤ 0) || decide (3 * dot * dot < cross * cross))

/-- The pulse outputs of a connection point take a window's increments (R285). -/
def State.poOwe (s : State) (c : Nat) (w : Win) : State :=
  (List.range 8).foldl (fun s j =>
    let p := s.po j
    let p' := if p.on ∧ u8At p.cfg 0 = c then
        p.owe (nth 0 w.increments (7 * u8At p.cfg 1 + u8At p.cfg 2)) w.n
      else p
    let new := s.oct 0x4820 (j + 1)
    let mine := decide (u8At p.cfg 0 = c) || decide (u8At new 0 = c)
    let p' := if ¬ mine ∨ new = p.cfg then p'
      else if new.take 3 = p.cfg.take 3 ∧ u32At new 4 = u32At p.cfg 4 then { p' with cfg := new }
      else { p' with cfg := new, residue := 0, backlog := 0, due := 0, sent := 0, lag := false }
    if p' = p then s else s.setPo j p') s

/-- The window routed, reported, its pulses owed (R277–R280, R285). -/
def State.routeWindow (s : State) (c : Nat) (w : Win) (rest : List Win) : State :=
  let m := s.cp c
  let no := m.winNo - rest.length
  let s := { s with metr := { s.metr with regs := addRegs s.metr.regs c w.increments } }
  let s := s.poOwe c w
  s.setCp c { m with
    ended := rest, meas := w.meas no, harm := w.harmonics no, vClip := w.vClip, iClip := w.iClip,
    seqRev := leads w.fMeas (nth [] w.samples 0).reverse (nth [] w.samples 1).reverse }

/-! ## Power quality (R281–R284) -/

/-- U½ of phase p in mV. -/
def Half.u (h : Half) (cfg : Tab Val) (p : Nat) : Nat := rmsOf (vRatio cfg p) (nth 0 h.v2 p) h.n

/-- A threshold of `PQ_THRESH` (k: 0 sag, 1 swell, 2 interruption, 3 hysteresis) in 10⁻⁴ of U_din. -/
def pqThresh (cfg : Tab Val) (k : Nat) : Nat := u16At (cfgOct cfg 0x0A) (2 * k)

/-- u mV against pct (10⁻⁴) of U_din: below, and above. -/
def under (cfg : Tab Val) (u pct : Nat) : Bool := decide (u * 10000 < pct * cfgNum cfg 3)
def isOver (cfg : Tab Val) (u pct : Nat) : Bool := decide (pct * cfgNum cfg 3 < u * 10000)

/-- The phase crosses the start threshold of a detector (R282). -/
def startsAt (cfg : Tab Val) (k u : Nat) : Bool :=
  match k with
  | 0 => under cfg u (pqThresh cfg 0)
  | 1 => isOver cfg u (pqThresh cfg 1)
  | _ => under cfg u (pqThresh cfg 2)

/-- The phase is back past the hysteresis. -/
def endsAt (cfg : Tab Val) (k u : Nat) : Bool :=
  match k with
  | 0 => !under cfg u (pqThresh cfg 0 + pqThresh cfg 3)
  | 1 => !isOver cfg u (pqThresh cfg 1 - pqThresh cfg 3)
  | _ => !under cfg u (pqThresh cfg 2 + pqThresh cfg 3)

/-- The enabled voltage phases of a connection point. -/
def phasesOn (cfg : Tab Val) : List Nat := (List.range 3).filter (inputOn cfg)

/-- The extreme so far with its phase (1–3): lowest for sag and interruption, highest for swell. -/
def extremeOf (k : Nat) (us : List (Nat × Nat)) (e : Nat × Nat) : Nat × Nat :=
  us.foldl (fun e x => if (if k = 1 then decide (e.1 < x.2) else decide (x.2 < e.1)) then (x.2, x.1 + 1) else e) e

/-- The record of an event that ends (R283). -/
def Detect.record (d : Detect) (cfg : Tab Val) (seq k c now : Nat) (truncated : Bool) : Octets :=
  leBytes 4 seq ++ leBytes 1 (k + 1) ++ leBytes 1 c ++ leBytes 1 d.phases ++ leBytes 1 d.worst ++ leBytes 8 d.start ++
  leBytes 4 d.halves ++ leBytes 4 ((now - d.start) / 1000) ++
  leBytes 2 (min 65535 (rounding 6 ((d.extreme * 10000 : Nat) / (cfgNum cfg 3 : Rat))).toNat) ++
  leBytes 2 (b2n d.lost + 2 * b2n truncated) ++ leBytes 4 d.extreme

/-- Write a record into the ring (R283). -/
def State.pqRecord (s : State) (r : Octets) : State :=
  let full := decide (256 ≤ s.metr.pq.length)
  { s with metr := { s.metr with pq := (if full then s.metr.pq.drop 1 else s.metr.pq) ++ [r], pqCount := s.metr.pqCount + 1,
                                 pqOver := s.metr.pqOver + b2n full } }

/-- The event code of a detector. -/
def pqCode (k : Nat) : Nat := if k = 0 then Code.pqSag else if k = 1 then Code.pqSwell else Code.pqInterruption

/-- Start the waveform capture armed for this connection point (R284); the record of the event is numbered when the event ends, and the
next number stands for it until then. -/
def State.waveStart (s : State) (c k : Nat) : State :=
  let w := s.metr.wave
  if w.state = 1 ∧ w.cp = c then
    let w := { w with state := 2, record := s.metr.pqCount % 4294967296, time := s.clk.dev, source := some (3 * c + k) }
    { s with metr := { s.metr with wave := w } }
  else s

/-- The record of the event that triggered the waveform buffer has its number. -/
def Wave.named (w : Wave) (i seq : Nat) : Wave :=
  if w.source = some i then { w with record := seq % 4294967296, source := none } else w

/-- Replace a detector. -/
def State.setDetect (s : State) (c k : Nat) (d : Detect) : State :=
  s.setCp c { s.cp c with detect := setAt (s.cp c).detect k d }

/-- End an event: its record and its log entry (R282, R283). -/
def State.pqEnd (s : State) (c k now : Nat) (truncated : Bool) : State :=
  let d := nth {} (s.cp c).detect k
  let s := { s with metr := { s.metr with wave := s.metr.wave.named (3 * c + k) s.metr.pqCount } }
  ((s.pqRecord (d.record (s.cp c).cfg s.metr.pqCount k c now truncated)).setDetect c k {}).postE .metr (pqCode k) c
    [.u8 0] .stop

/-- One detector at one half-cycle boundary (R282). -/
def State.detectStep (s : State) (c : Nat) (h : Half) (k : Nat) : State :=
  let m := s.cp c
  let us := (phasesOn m.cfg).map (fun p => (p, h.u m.cfg p))
  let d := nth {} m.detect k
  let crossed := us.filter (fun x => startsAt m.cfg k x.2)
  let mask := (crossed.map (fun x => 2 ^ x.1)).foldl (· ||| ·) 0
  if d.active then
    let e := extremeOf k us (d.extreme, d.worst)
    let d := { d with halves := d.halves + 1, phases := d.phases ||| mask, extreme := e.1, worst := e.2, lost := d.lost || m.lost }
    let fin := if k = 2 then us.any (fun x => endsAt m.cfg k x.2) else us.all (fun x => endsAt m.cfg k x.2)
    let s := s.setDetect c k d
    if fin then s.pqEnd c k h.time false else s
  else
    let go := if k = 2 then !us.isEmpty && us.all (fun x => startsAt m.cfg k x.2) else !crossed.isEmpty
    if go then
      let e := extremeOf k us (match us with | x :: _ => (x.2, x.1 + 1) | [] => (0, 1))
      let s := s.setDetect c k { active := true, start := h.time, phases := mask, extreme := e.1, worst := e.2, lost := m.lost }
      (s.postE .metr (pqCode k) c [.u8 1] .start).waveStart c k
    else s

/-- HALF_CYCLE (R281, R282): the oldest half-cycle boundary not yet evaluated. -/
def execHalfCycle (t cp : Nat) (s : State) : Out :=
  onUnit (decide (cp < 4)) .metr t s (fun s =>
    match (s.cp cp).halves with
    | [] => s
    | h :: r =>
      let s := s.setCp cp { s.cp cp with halves := r }
      (List.range 3).foldl (fun s k => s.detectStep cp h k) s)

/-- Events in progress are ended with TRUNCATED at the power-fail save (R283). -/
def State.pqTruncate (s : State) : State :=
  (List.range 4).foldl (fun s c => (List.range 3).foldl (fun s k =>
    if (nth {} (s.cp c).detect k).active then s.pqEnd c k s.clk.dev true else s) s) s

/-- WAVE_CAPTURE_DONE (R284): the samples of the waveform path, per input. The last is written 3072 samples of 32 kSa/s after the
trigger. -/
def execWaveCaptureDone (t : Nat) (samples : List (List Int)) (s : State) : Out :=
  onIsland .metr t s (fun s =>
    if s.metr.wave.state = 2 ∧ s.metr.wave.time + 96000000 ≤ s.clk.dev then { s with metr := { s.metr with wave := { s.metr.wave with state := 3, data := samples } } } else s)

/-! ## Writes and reads (R289–R293) -/

/-- `PQ_THRESH` satisfies R290. -/
def threshOk (b : Octets) : Bool :=
  decide (b.length = 8) && decide (u16At b 4 + u16At b 6 < u16At b 0) && decide (u16At b 0 < 10000) &&
  decide (10000 + u16At b 6 < u16At b 2)

/-- The value of an FX32 inside octets lies from 0.001 to 500,000 (R51, R290). -/
def vRatioOk (b : Octets) (o : Nat) : Bool :=
  let v := (i32At b o : Rat) * pow2 (i8At b (o + 4))
  decide (1 ≤ 1000 * v) && decide (v ≤ 500000)

/-- `V_SCALE` satisfies R290. -/
def vScaleOk (b : Octets) : Bool :=
  (List.range 3).all (fun p => vRatioOk b (9 * p) && decide (536870912 ≤ u32At b (9 * p + 5)) && decide (u32At b (9 * p + 5) ≤ 1610612736))

/-- An `I_INPUT` satisfies R275 and R290; the manual bounds neither its ratio nor its gains. -/
def iInputOk (b : Octets) : Bool :=
  let n := u8At b 1
  decide (u8At b 0 ≤ 2) && decide (n ≤ 8) &&
  (List.range n).all (fun k => decide ((breakpoint b k).2.2.natAbs ≤ 100000)) &&
  (List.range (n - 1)).all (fun k => decide ((breakpoint b k).1 < (breakpoint b (k + 1)).1))

/-- An FX32 inside octets brought to scale code −12 (R51). -/
def ratioNorm (b : Octets) (o : Nat) : Octets :=
  patch b o (leInt 4 (sat32 (scaleBy (i32At b o) (i8At b (o + 4) + 12))) ++ leInt 1 (-12))

/-- The configuration and the restart mark before the writes of this METR cycle are kept; a write to `PHASES` or `F_NOMINAL` sets the
mark (R289, R294). -/
def State.cpMark (s : State) (c sub : Nat) : State :=
  let m := s.cp c
  let before := match m.before with
    | some (cyc, x) => if cyc = s.metrCycle then some (cyc, x) else some (s.metrCycle, s.cpStored c, m.redo)
    | none => some (s.metrCycle, s.cpStored c, m.redo)
  s.setCp c { m with before := before, redo := m.redo || decide (sub ≤ 2) }

/-- A write to a connection point's configuration (R289, R290): stored; a connection point that is off has no window to wait
for and takes it at once. -/
def State.cpWrite (s : State) (c sub : Nat) (b : Octets) : WRes :=
  let put := fun (b : Octets) =>
    let s := (s.cpMark c sub).store (0x4800 + c) sub b
    WRes.done (if cfgPhases (s.cp c).cfg = 0 then (s.setCp c { s.cp c with before := none }).applyCpCfg c else s)
  match sub with
  | 1 => if 16 ≤ leNat b then .refuse 0x0A05 s else put b
  | 2 => if leNat b ≠ 50 ∧ leNat b ≠ 60 then .refuse 0x0A05 s else put b
  | 5 => if b.length ≠ 27 then .refuse 0x0A04 s else if ¬ vScaleOk b then .refuse 0x0A05 s
         else put ((List.range 3).foldl (fun b p => ratioNorm b (9 * p)) b)
  | 6 | 7 | 8 | 9 => if b.length ≠ 108 then .refuse 0x0A04 s else if ¬ iInputOk b then .refuse 0x0A05 s else put (ratioNorm b 4)
  | 0x0A => if b.length ≠ 8 then .refuse 0x0A04 s else if ¬ threshOk b then .refuse 0x0A05 s else put b
  | _ => put b

/-- `WAVE_ARM` (R284); `reading` tells whether `WAVE_DATA` is being read. -/
def State.waveArm (s : State) (v : Nat) (reading : Bool) : WRes :=
  let w := s.metr.wave
  let set := fun (w : Wave) => WRes.done { s with metr := { s.metr with wave := w } }
  if ¬ (v < 4 ∨ (16 ≤ v ∧ v < 20)) then .refuse 0x0A05 s
  else if w.state = 1 ∨ w.state = 2 ∨ reading then .refuse 0x0A09 s
  else if v < 4 then set { state := 1, cp := v }
  else set { state := 2, cp := v - 16, time := s.clk.dev }

/-- A pulse output's configuration (R293). -/
def poCfgOk (b : Octets) : Bool :=
  decide (u8At b 0 < 4) && decide (u8At b 1 < 4) && (decide (u8At b 2 ≤ 6) || decide (u8At b 2 = 255)) &&
  decide (2 ≤ u8At b 3) && decide (u8At b 3 ≤ 200) && decide (1 ≤ u32At b 4) && decide (u32At b 4 ≤ 100000)

/-- A write of `PO_CONFIG` (R286): where no window can end, it is in force at once. -/
def State.poWrite (s : State) (j : Nat) (b : Octets) : WRes :=
  if b.length ≠ 8 then .refuse 0x0A04 s
  else if ¬ poCfgOk b then .refuse 0x0A05 s
  else
    let s := s.store 0x4820 (j + 1) b
    let p := s.po j
    if cfgPhases (s.cp (u8At b 0)).cfg = 0 ∧ (¬ p.on ∨ cfgPhases (s.cp (u8At p.cfg 0)).cfg = 0) then
      .done (s.setPo j { p with cfg := b, residue := 0, backlog := 0, due := 0, sent := 0, lag := false })
    else .done s

/-- A register as its 12 octets (R278). -/
def elecReg (v : Nat) : Octets := leBytes 8 (v / 4294967296) ++ leBytes 4 v

/-- `CP_FLAGS` (R291). -/
def State.cpFlags (s : State) (c : Nat) : Nat :=
  let m := s.cp c
  let busy := match s.metr.cal with
    | some r => decide (r.input / 7 = c) && decide (s.modOf r.input = r.spare)
    | none => false
  b2n m.lost + 2 * b2n m.vClip + 4 * b2n m.iClip + 8 * b2n m.seqRev + 16 * b2n busy + 32 * b2n (decide (s.now < m.settleUntil))

/-- `CAL_STATUS` of an input (R290). -/
def State.calStatusOf (s : State) (i : Nat) : Octets :=
  let st := Tab.get {} s.metr.calStatus i
  let step := match s.metr.cal with
    | some r => if r.input = i then r.step else 0
    | none => 0
  leBytes 1 step ++ leBytes 1 st.outcome ++ leBytes 2 (b2n st.late) ++ leInt 4 st.mismatch ++ leBytes 8 st.lastDone

/-- The entries of metering as read; none for a stored value. -/
def State.metrRead (s : State) (idx sub : Nat) : Option Octets :=
  if 0x4800 ≤ idx ∧ idx < 0x4804 then
    let c := idx - 0x4800
    let m := s.cp c
    match sub with
    | 0x20 => some m.meas
    | 0x21 => some m.harm
    | 0x22 => some (leBytes 2 (s.cpFlags c))
    | 0x23 => some (leBytes 1 (b2n (nth {} m.detect 0).active + 2 * b2n (nth {} m.detect 1).active + 4 * b2n (nth {} m.detect 2).active))
    | 0x32 => some ((List.range 7).flatMap (fun k => s.calStatusOf (7 * c + k)))
    | _ => none
  else if 0x4810 ≤ idx ∧ idx < 0x4814 then
    let c := idx - 0x4810
    let reg := fun j => elecReg (Tab.get 0 s.metr.regs (28 * c + j))
    if 1 ≤ sub ∧ sub ≤ 0x1C then some (reg (sub - 1))
    else match sub with
    | 0x1D => some (leBytes 4 ((s.cp c).winNo - (s.cp c).ended.length) ++ (List.range 28).flatMap reg)
    | 0x1E => some (leBytes 4 (b2n (s.cp c).clearPending))
    | 0x1F => some (leBytes 4 (s.cp c).clearCount)
    | 0x20 => some (leBytes 8 (s.cp c).clearTime)
    | _ => none
  else if idx = 0x4820 then
    match sub with
    | 9 => some ((List.range 8).flatMap (fun j => leBytes 8 (s.po j).count ++ leBytes 4 (s.po j).backlog))
    | 0x0A => some (leBytes 1 (((List.range 8).map (fun j => if (s.po j).lag then 2 ^ j else 0)).foldl (· + ·) 0))
    | _ => none
  else if idx = 0x4880 then
    let w := s.metr.wave
    match sub with
    | 1 => some (leBytes 4 s.metr.pqCount ++ s.metr.pq.flatten ++ zeros (8192 - s.metr.pq.flatten.length))
    | 2 => some (leBytes 4 s.metr.pqOver)
    | 4 => some (leBytes 1 w.state ++ leBytes 1 w.cp ++ zeros 2 ++ leBytes 4 w.record ++ leBytes 8 w.time)
    | 5 => some ((List.range 7).flatMap (fun k =>
        ((nth [] w.data k).take 4096).flatMap (fun v => leInt 4 v) ++ zeros (16384 - 4 * (nth [] w.data k).length)))
    | _ => none
  else none

/-! ## Calibration (R287, R288) -/

/-- A modulator that serves no input, is not out of service and takes part in no calibration. -/
def State.freeModulator (s : State) : Option Nat :=
  (List.range 30).find? (fun m =>
    !(List.range 28).any (fun i => decide (s.modOf i = m)) && !(s.poolOut 4 0).contains m &&
    (match s.metr.cal with
     | some r => decide (r.old ≠ m) && decide (r.spare ≠ m)
     | none => true))

/-- Every spare modulator is in permanent use: no two of the thirty can ever be free. -/
def State.modulatorsGone (s : State) : Bool := s.poolGone 4

/-- Replace CAL_STATUS of an input. -/
def State.setCalStatus (s : State) (i : Nat) (v : CalStatus) : State :=
  { s with metr := { s.metr with calStatus := Tab.put {} s.metr.calStatus i v } }

/-- CAL_STATUS of an input. -/
def State.calSt (s : State) (i : Nat) : CalStatus := Tab.get {} s.metr.calStatus i

/-- Set the running calibration. -/
def State.setCal (s : State) (r : Option CalRun) : State := { s with metr := { s.metr with cal := r } }

/-- Queue calibrations (R288), at most 30 waiting; a request without a spare that could ever be free is refused (R505). -/
def State.calQueueAll (s : State) (l : List Nat) : WRes :=
  if s.modulatorsGone then
    .refuse 0x0A13 (l.foldl (fun s i => s.setCalStatus i { s.calSt i with outcome := 3 }) s)
  else if 30 < s.metr.calQueue.length + l.length then .refuse 0x0A0A s
  else .done { s with metr := { s.metr with calQueue := s.metr.calQueue ++ l } }

/-- `CAL_REQUEST` of connection point c. -/
def State.calRequest (s : State) (c v : Nat) : WRes :=
  if 7 < v then .refuse 0x0A05 s
  else s.calQueueAll (if v = 7 then (List.range 7).map (fun k => 7 * c + k) else [7 * c + v])

/-- The input is served by a modulator. -/
def State.serve (s : State) (i m : Nat) : State :=
  { s with metr := { s.metr with serves := if m = i then Tab.erase s.metr.serves i else Tab.insert s.metr.serves i m } }

/-- The running calibration ends without a result (R288): the modulator takes the input back. -/
def State.calAborted (s : State) (r : CalRun) : State :=
  ((s.serve r.input r.old).setCal none).setCalStatus r.input
    { s.calSt r.input with outcome := 2 }

/-- CAL_START (R287 step 1): the oldest queued request, once a spare is free. -/
def execCalStart (t : Nat) (s : State) : Out :=
  onIsland .metr t s (fun s =>
    match s.metr.cal, s.metr.calQueue, s.freeModulator with
    | none, i :: r, some m =>
      let v : CalRun := { input := i, step := 1, t0 := s.now, old := s.modOf i, spare := m, range := inputRange (s.cp (i / 7)).cfg (i % 7) }
      { s with metr := { s.metr with calQueue := r, cal := some v } }
    | _, _, _ => s)

/-- `n` samples of 125 µs have passed since the calibration began. -/
def State.calReached (s : State) (r : CalRun) (n : Nat) : Bool := decide (r.t0 + 125000 * n ≤ s.now)

/-- CAL_TAKEOVER (R287 step 2): the sum of the differences between the two modulators over 1024 samples, in LSB. -/
def execCalTakeover (t : Nat) (diff : Int) (s : State) : Out :=
  onIsland .metr t s (fun s =>
    match s.metr.cal with
    | some r =>
      if r.step = 1 ∧ s.calReached r 1024 then
        ((s.serve r.input r.spare).setCal (some { r with step := 2 })).setCalStatus r.input
          { s.calSt r.input with mismatch := sat32 (rounding 7 ((diff : Rat) * 1000000 / (1024 * 8388607))) }
      else s
    | none => s)

/-- New trims from the sums of 4096 samples at 0, +½ and −½ full scale, by least squares (R287 step 3). -/
def newTrim (z p m : Int) : Int × Nat :=
  (sat32 (rounding 8 ((z + p + m : Int) / (12288 : Rat))),
   if p ≤ m then Config.freeGain p m % 4294967296
   else (min 4294967295 (rounding 9 ((8388607 * 4096 : Rat) / ((p - m : Int) : Rat) * 1073741824))).toNat)

/-- CAL_REFERENCE_DONE (R287 step 3). Where no calibration runs, an idle spare was calibrated on the reference. -/
def execCalReferenceDone (t : Nat) (zero plus minus : Int) (s : State) : Out :=
  onIsland .metr t s (fun s =>
    match s.metr.cal with
    | some r => if r.step = 2 ∧ s.calReached r 13312 then s.setCal (some { r with step := 4, found := some (newTrim zero plus minus) }) else s
    | none =>
      match s.freeModulator with
      | some m =>
        let trims := [0, 1].foldl (fun t k => Tab.put (0, 1073741824) t (2 * m + k) (newTrim zero plus minus)) s.metr.trims
        { s with metr := { s.metr with trims := trims } }
      | none => s)

/-- The modulator takes the input back with its new trims; the calibration is DONE (R287 step 4, R288). -/
def State.calHandback (s : State) (r : CalRun) : State :=
  let s := match r.found with
    | some tr => { s with metr := { s.metr with trims := Tab.put (0, 1073741824) s.metr.trims (2 * r.old + r.range) tr } }
    | none => s
  ((s.serve r.input r.old).setCal none).setCalStatus r.input
    { s.calSt r.input with outcome := 1, lastDone := s.clk.dev }

/-- The trims found lie within ±0.5 % of gain and ±2000 LSB of offset of the factory values (R498); the trims of R271 before any
calibration are taken for these. -/
def trimsPass (tr : Int × Nat) : Bool :=
  decide (-2000 ≤ tr.1) && decide (tr.1 ≤ 2000) && decide (1068373115 ≤ tr.2) && decide (tr.2 ≤ 1079110533)

/-- A modulator goes out of service (R492, R493), because of a fault (0) or wear (1): a free spare takes its input, substituting three
samples at a fault; an input without one delivers 0. -/
def State.retireModulator (s : State) (m why : Nat) : State :=
  let free := (List.range 30).find? (fun x => !(List.range 28).any (fun i => decide (s.modOf i = x)) && !(s.poolOut 4 0).contains x && decide (x ≠ m))
  match (List.range 28).find? (fun i => decide (s.modOf i = m)), free with
  | none, _ => s.retireElem 4 m why
  | some i, some x =>
    let s := s.serve i x
    let s := if why = 0 then { s with metr := { s.metr with subst := Tab.insert s.metr.subst i 3 } } else s
    s.retireElem 4 m why
  | some i, none =>
    if why = 1 then s
    else ({ s with metr := { s.metr with dead := insRising i s.metr.dead } }.retireElem 4 m 0).post .metr Code.metrInputLost 0 []

/-- A modulator's bitstream fails (R493, R502, R509): a calibration that needs the modulator or its spare ends ABORTED. -/
def State.modulatorFault (s : State) (m : Nat) : State :=
  match s.metr.cal with
  | none => s.retireModulator m 0
  | some r =>
    let ended := fun (s : State) => (s.setCal none).setCalStatus r.input { s.calSt r.input with outcome := 2 }
    if r.old = m then (ended (s.serve r.input r.spare)).retireElem 4 m 0
    else if r.spare = m ∧ r.step = 1 then (ended s).retireElem 4 m 0
    else if r.spare = m then
      let s := ended (s.serve r.input r.old)
      ({ s with metr := { s.metr with subst := Tab.insert s.metr.subst r.input 3 } }).retireElem 4 m 0
    else if s.freeModulator.isNone then (s.calAborted r).retireModulator m 0
    else s.retireModulator m 0

/-- MODULATOR_FAULT (R493). -/
def execModulatorFault (t m : Nat) (s : State) : Out := onUnit (decide (m < 30)) .metr t s (fun s => s.modulatorFault m)

/-- A calibration as a self-test of its modulator (R498): the verdict; a modulator that fails stays out, and the spare keeps the
input. -/
def State.calVerdict (s : State) (r : CalRun) : State :=
  let ok := match r.found with
    | some tr => trimsPass tr
    | none => true
  let s := s.setPoolTest 4 { s.poolTest 4 with elem := r.old, outcome := if ok then 1 else 2, tests := (s.poolTest 4).tests + 1, endAt := s.clk.dev }
  if ok then s.calHandback r
  else (((s.setCal none).setCalStatus r.input { s.calSt r.input with outcome := 1, lastDone := s.clk.dev })).retireElem 4 r.old 0

/-- `CAL_ABORT` of an input (R288): running, queued, already done, or idle. An abort in the METR cycle of the handback finds the
calibration DONE (R294). -/
def State.calAbort (s : State) (i : Nat) : State :=
  let late := fun (s : State) => s.setCalStatus i { s.calSt i with late := true }
  let running := match s.metr.cal with
    | some r => if r.input = i then some r else none
    | none => none
  match running with
  | some r => if r.step = 4 ∧ s.calReached r 14336 then late (s.calVerdict r) else s.calAborted r
  | none =>
    if s.metr.calQueue.contains i then
      ({ s with metr := { s.metr with calQueue := s.metr.calQueue.erase i } }).setCalStatus i { s.calSt i with outcome := 2 }
    else if (s.calSt i).outcome = 1 then late s
    else s

/-- CAL_HANDBACK. -/
def execCalHandback (t : Nat) (s : State) : Out :=
  onIsland .metr t s (fun s =>
    match s.metr.cal with
    | some r => if r.step = 4 ∧ s.calReached r 14336 then s.calVerdict r else s
    | none => s)

/-- CAL_INTERVAL_EXPIRY (R290): the background interval of a connection point queues its enabled inputs. -/
def execCalIntervalExpiry (t cp : Nat) (s : State) : Out :=
  onUnit (decide (cp < 4)) .metr t s (fun s =>
    let h := s.nat (0x4800 + cp) 0x0B
    let m := s.cp cp
    if h = 0 ∨ s.now < m.calAt + h * 3600000000000 then s
    else
      let l := (List.range 7).filter (fun k => inputOn m.cfg k)
      let s := s.setCp cp { m with calAt := s.now }
      match s.calQueueAll (l.map (fun k => 7 * cp + k)) with
      | .done s => s
      | .refuse _ s => s
      | _ => s)

end Machine
end Sys2Proof
end

