-- ==== Sys2Proof/Machine/CoreSample.lean ====
section
/-! DEFINITION. Core samples (R311–R314), interval records (R307–R310, R303), energy records, retention copies and the restore
after a power cut (R315–R318), and their entries (R323). -/

namespace Sys2Proof
namespace Machine

/-- Change the core-sample state. -/
def State.modCs (s : State) (f : CoreSample → CoreSample) : State := { s with heat := { s.heat with cs := f s.heat.cs } }
/-- Change the interval state. -/
def State.modIv (s : State) (f : Interval → Interval) : State := { s with heat := { s.heat with iv := f s.heat.iv } }

/-! ## Latching (R312, R313) -/

/-- The channel registers as they stand. -/
def State.latchChans (s : State) : Tab ChanRegs :=
  (s.heat.chans.filter (fun e => decide (e.2.regs ≠ {}))).map (fun e => (e.1, e.2.regs))
/-- The channel baselines as they stand. -/
def State.latchBases (s : State) : Tab Baseline :=
  s.heat.chans.filterMap (fun e => e.2.base.map (fun b => (e.1, b)))
/-- The pulse counts as they stand. -/
def State.latchPulses (s : State) : Tab Nat :=
  (s.heat.pulses.filter (fun e => decide (e.2.count ≠ 0))).map (fun e => (e.1, e.2.count))

/-- The COMM counts of controller `k` (8 the spare): those of the port it serves (R313). -/
def State.commCounts (s : State) (k : Nat) : Nat × Nat × Nat :=
  let mine := (List.range 8).find? (fun p => decide ((if (s.port p).controller = 8 then 8 else p) = k))
  match mine with
  | some p => ((s.port p).rxCount, (s.port p).txCount, (s.port p).errFrames)
  | none => (0, 0, 0)

/-- The accumulators latched at a device time, with an epoch, a cascade number and cause bits. -/
def State.latchShadow (s : State) (epoch cascade time cause : Nat) : Shadow :=
  { epoch := epoch, cascade := cascade, latch := time, cause := cause, elec := s.latchElec, chans := s.latchChans,
    bases := s.latchBases, pulses := s.latchPulses,
    overruns := (s.ctrl.loops.map (fun e => e.2.ovrCount)).foldl (· + ·) 0,
    evals := (s.ctrl.loops.map (fun e => e.2.evals)).foldl (· + ·) 0, cycleNo := s.logic.cycleNo,
    comm := (List.range 9).map s.commCounts, logSeq := (s.ledger.count + 4294967295) % 4294967296 }

/-- The requests that have come due, merged: cause bits and cascade number. -/
def dueReqs (l : List CsReq) : Nat × Nat :=
  l.foldl (fun (a : Nat × Nat) r => (a.1 ||| r.cause, max a.2 r.cascade)) (0, 0)

/-- The tick of the requests at the earliest due time (R312): the next epoch latches. -/
def State.coreLatch (s : State) : State :=
  match (s.heat.cs.reqs.filter (fun r => decide (r.time ≤ s.clk.dev))).map (·.time) with
  | [] => s
  | t :: r =>
    let at_ := r.foldl min t
    let due := s.heat.cs.reqs.filter (fun r => decide (r.time = at_))
    let m := dueReqs due
    let e := (s.heat.cs.epoch + 1) % 4294967296
    let sh := s.latchShadow e m.2 at_ m.1
    s.modCs (fun c => { c with reqs := c.reqs.filter (fun r => decide (r.time ≠ at_)), epoch := e, latched := some sh,
                               lastLatch := some at_, status := 2 })

/-- HOUSE copies the latched blocks (R313). -/
def State.shadowCopy (s : State) : State :=
  match s.heat.cs.latched with
  | some sh => s.modCs (fun c => { c with shadow := sh, latched := none, status := if c.reqs.isEmpty then 3 else 1 })
  | none => s

/-- CORE_SAMPLE_LATCH (R312). -/
def execCoreSampleLatch (t : Nat) (s : State) : Out := onIsland .tbase t s State.coreLatch
/-- CS_SHADOW_COPY (R313). -/
def execCsShadowCopy (t : Nat) (s : State) : Out := onIsland .house t s State.shadowCopy

/-- `CS_SHADOW` (R313). -/
def Shadow.octets (h : Shadow) : Octets :=
  leBytes 4 h.epoch ++ leBytes 4 h.cascade ++ leBytes 8 h.latch ++ leBytes 1 h.cause ++ zeros 15 ++
  leBytes 4 h.epoch ++ zeros 4 ++ (List.range 112).flatMap (fun j => elecReg (Tab.get 0 h.elec j)) ++
  (List.range 512).flatMap (fun c => (Tab.get {} h.chans c).octets) ++
  (List.range 32).flatMap (fun i => leBytes 8 (Tab.get 0 h.pulses i)) ++
  leBytes 4 h.epoch ++ leBytes 4 h.overruns ++ leBytes 8 h.evals ++
  leBytes 4 h.epoch ++ zeros 4 ++ leBytes 8 h.cycleNo ++
  leBytes 4 h.epoch ++ zeros 4 ++ (List.range 9).flatMap (fun k =>
    let c := nth (0, 0, 0) h.comm k
    leBytes 4 c.1 ++ leBytes 4 c.2.1 ++ leBytes 4 c.2.2 ++ zeros 4) ++
  leBytes 4 h.epoch ++ leBytes 4 h.logSeq

/-! ## Energy records and retention copies (R315–R318) -/

/-- Write an energy record from latched registers (R315, R316). -/
def State.writeEnergy (s : State) (h : Shadow) (cause : Nat) : State :=
  let r : EnergyRec := { cause := cause, latch := h.latch, epoch := h.epoch, ivNo := s.heat.iv.no, elec := h.elec, chans := h.chans,
                         bases := h.bases, pulses := h.pulses }
  { s with keep := { s.keep with energy := s.keep.energy.write r } }

/-- The energy record of a clear (R316): the registers as they stand; during a save it waits (R544). -/
def State.clearRecord (s : State) : State :=
  if s.power.saving then { s with power := { s.power with deferClear := true } }
  else s.writeEnergy { s.latchShadow s.heat.cs.epoch 0 s.clk.dev 0 with elec := s.metr.regs } 3

/-- Counts less the counts of a record, as U64: unit `u` of a register. A latch can lie below the record, whose window in progress was
routed by other signs (R279). -/
def deltas (u n : Nat) (now base : Tab Nat) : Tab Nat :=
  (List.range n).foldl (fun (t : Tab Nat) j =>
    Tab.put 0 t j ((Tab.get 0 now j / u + 18446744073709551616 - Tab.get 0 base j / u % 18446744073709551616) % 18446744073709551616)) []

/-- A retention copy of the present registers (R317). -/
def State.retCopy (s : State) (gen : Nat) : RetCopy :=
  let base : EnergyRec := s.keep.energy.read.getD { cause := 0, latch := 0, epoch := 0, ivNo := 0, elec := [], chans := [], bases := [], pulses := [] }
  { gen := gen, latch := s.clk.dev / 500000000 * 500000000, baseGen := s.keep.energy.gen, elec := deltas 4294967296 112 s.latchElec base.elec,
    pulses := deltas 1 32 s.latchPulses base.pulses }

/-- The octets of a retention copy before its CRC (R317). -/
def RetCopy.body (c : RetCopy) : Octets :=
  leBytes 4 0x0000B4C5 ++ leBytes 4 c.gen ++ leBytes 8 c.latch ++ leBytes 4 c.baseGen ++ zeros 4 ++
    (List.range 112).flatMap (fun j => leBytes 8 (Tab.get 0 c.elec j)) ++ (List.range 32).flatMap (fun i => leBytes 8 (Tab.get 0 c.pulses i))

/-- A retention copy as the words of the retention RAM. -/
def RetCopy.words (c : RetCopy) : List (Nat × Bool) := parWords (c.body ++ leBytes 4 (crc32c c.body))

/-- What words of the retention RAM say; none where the magic, a word's parity or the CRC fails (R318). -/
def retOf (l : List (Nat × Bool)) : Option RetCopy :=
  let b := parOctets l
  if b.length = 1180 ∧ u32At b 0 = 0x0000B4C5 ∧ parGood l ∧ u32At b 1176 = crc32c (b.take 1176) then
    some { gen := u32At b 4, latch := u64At b 8, baseGen := u32At b 16,
           elec := (List.range 112).foldl (fun (t : Tab Nat) j => Tab.put 0 t j (u64At b (24 + 8 * j))) [],
           pulses := (List.range 32).foldl (fun (t : Tab Nat) i => Tab.put 0 t i (u64At b (920 + 8 * i))) [] }
  else none

/-- The good retention copy with the higher generation, and which it is (A is 0). -/
def State.retBest (s : State) : Option (Nat × RetCopy) :=
  match retOf s.heat.retA, retOf s.heat.retB with
  | some a, some b => if b.gen ≤ a.gen then some (0, a) else some (1, b)
  | some a, none => some (0, a)
  | none, some b => some (1, b)
  | none, none => none

/-- The retention copy with the higher generation of those that are good. -/
def State.retNewest (s : State) : Option RetCopy := s.retBest.map (·.2)

/-- Write the copy that does not hold the newer generation (R317). -/
def State.retentionWrite (s : State) : State :=
  let c := (s.retCopy (((s.retNewest.map (·.gen)).getD 0 + 1) % 4294967296)).words
  if s.retBest.map (·.1) = some 0 then { s with heat := { s.heat with retB := c } } else { s with heat := { s.heat with retA := c } }

/-- Bits of the retention RAM turn over: copy, word, bit (32 the parity bit) (R41). -/
def State.retHit (s : State) (l : List (Nat × Nat × Nat)) : State :=
  l.foldl (fun s x =>
    if x.1 = 0 then { s with heat := { s.heat with retA := parFlip s.heat.retA x.2.1 x.2.2 } }
    else { s with heat := { s.heat with retB := parFlip s.heat.retB x.2.1 x.2.2 } }) s

/-- A whole multiple of 500 ms of device time has come since the newest copy's latch (R317). -/
def State.retentionDue (s : State) : Bool :=
  match s.retNewest with
  | some c => decide (c.latch / 500000000 ≠ s.clk.dev / 500000000)
  | none => true

/-- RETENTION_WRITE (R317); none during a power-fail save, and none before the device is up. -/
def execRetentionWrite (t : Nat) (s : State) : Out :=
  onIsland .house t s (fun s => if s.up ∧ ¬ s.power.jobsHeld ∧ s.retentionDue then s.retentionWrite else s)

/-- The record of a generation, where its slot is valid. -/
def recOfGen {α : Type} (r : KRec α) (g : Nat) : Option α :=
  match r.a with
  | some (h, x) => if h = g then some x else (match r.b with
    | some (k, y) => if k = g then some y else none
    | none => none)
  | none => match r.b with
    | some (k, y) => if k = g then some y else none
    | none => none

/-- Put back registers: the channels' baselines come from the record. -/
def State.putRegs (s : State) (elec : Tab Nat) (pulses : Tab Nat) (r : EnergyRec) : State :=
  let chans := (List.range 512).foldl (fun (t : Tab Chan) c =>
    let v := Tab.get {} t c
    let b := Tab.find r.bases c
    Tab.put {} t c { v with regs := Tab.get {} r.chans c, base := b, savedBase := b.isSome }) s.heat.chans
  let ps := (List.range 32).foldl (fun (t : Tab PulseIn) i =>
    Tab.put {} t i { Tab.get {} t i with count := Tab.get 0 pulses i }) s.heat.pulses
  { s with metr := { s.metr with regs := elec }, heat := { s.heat with chans := chans, pulses := ps } }

/-- A record's counts plus a copy's deltas, with the record's residue. -/
def addDeltas (u n : Nat) (base d : Tab Nat) : Tab Nat :=
  (List.range n).foldl (fun (t : Tab Nat) j =>
    Tab.put 0 t j ((Tab.get 0 t j + u * Tab.get 0 d j) % (u * 18446744073709551616))) base

/-- The registers restored from the keep store and the retention RAM (R318): the record used, electrical registers, pulse
counts, case, latch time. -/
def State.restoreOf (s : State) : Option (EnergyRec × Tab Nat × Tab Nat × Nat × Nat) :=
  match s.keep.energy.read with
  | none => none
  | some k =>
    let plain := (k, k.elec, k.pulses, (if k.cause = 2 then 1 else 3), k.latch)
    match s.retNewest with
    | none => some plain
    | some t =>
      if t.latch ≤ k.latch then some plain
      else match recOfGen s.keep.energy t.baseGen with
      | some b => some (b, addDeltas 4294967296 112 b.elec t.elec, addDeltas 1 32 b.pulses t.pulses, 2, t.latch)
      | none => some plain

/-- The registers are reloaded as at a power restore (R26, R318). -/
def State.reloadEnergy (s : State) : State :=
  match s.restoreOf with
  | some (r, e, p, _, _) => s.putRegs e p r
  | none => s

/-- The restore at COLD_INIT and WARM_INIT (R318): registers, epoch and interval number; logged, and the case noted. -/
def State.restoreEnergy (s : State) : State :=
  match s.restoreOf with
  | none => s.keepLost 4
  | some (r, e, p, cs, at_) =>
    let s := s.putRegs e p r
    let s := { s with heat := { s.heat with restoreCase := cs, restoreLatch := at_,
                                            cs := { s.heat.cs with epoch := r.epoch },
                                            iv := { s.heat.iv with restored := cs, no := max r.ivNo s.heat.iv.no } } }
    s.post .house Code.energyRestore 0 [.u8 cs, .time at_]

/-! ## Intervals (R307–R310, R303) -/

/-- The next interval boundary at or after `dev` plus a lead, for a length in minutes (R307). -/
def State.nextBoundary (s : State) (dev len : Nat) : Nat := (s.nextMultiple dev ((len : Int) * 60000000000)).toNat

/-- The calendar was set (R307): the interval in progress ends at the first new boundary at least 10 ms later. -/
def State.ivClockSet (s : State) : State :=
  s.modIv (fun v => { v with clockSet := true, next := s.nextBoundary (s.clk.dev + 10000000 - 1) v.len })

/-- ⌊R_end/u⌋ − ⌊R_start/u⌋ plus what was accrued before a clear (R309). -/
def ivQty (u cl st en : Nat) : Nat := cl + en / u - st / u

/-- A field of `n` octets, saturating. -/
def satField (n v : Nat) : Octets := leBytes n (min v (256 ^ n - 1))

/-- The four interval quantities of a channel: Wh, Wh, L, L. -/
def ivChan (cl a b : ChanRegs) : Nat × Nat × Nat × Nat :=
  (ivQty 1000000000000 cl.ePos a.ePos b.ePos, ivQty 1000000000000 cl.eNeg a.eNeg b.eNeg, ivQty 1000 cl.vFwd a.vFwd b.vFwd,
   ivQty 1000 cl.vRev a.vRev b.vRev)

/-- Whether the interval's energies disagree with the own meter (R303); none where the interval is not judged. -/
def State.judge (s : State) (c : Nat) (q : Nat × Nat × Nat × Nat) : Option Bool :=
  let v := s.chan c
  if ¬ bitOf (s.nat (0x4000 + c) 2) 2 ∨ v.ownBad ∨ v.gap ∨ v.restarted then none
  else
    let r := s.oct (0x4000 + c) 3
    let e : Int := (q.1 : Int) - q.2.1
    let d := (e - v.ownSum).natAbs
    some (decide (max (u16At r 0 * v.ownSum) (u16At r 2 * 10000) < d * 10000))

/-- A channel's reconciliation and its marks for the next interval (R303, R309). -/
def State.ivClose (s : State) (q : Nat × Nat × Nat × Nat) (c : Nat) : State :=
  let v := s.chan c
  let n := u8At (s.oct (0x4000 + c) 3) 4
  let s := match s.judge c q with
    | none => s
    | some false => s.setChan c { v with disagree := 0, recon := false }
    | some true =>
      let hit := decide (n ≤ v.disagree + 1)
      let s' := s.setChan c { v with disagree := v.disagree + 1, recon := v.recon || hit }
      if hit ∧ ¬ v.recon then s'.post .metr Code.heatRecon 0 [.u16 c] else s'
  s.modChan c (fun v => { v with stale := false, gap := false, reverse := false, tFault := false, restarted := false,
                                 ownSum := 0, ownBad := false })

/-- The 15 octets of a channel in an interval record (R308). -/
def State.ivChanOctets (s : State) (q : Nat × Nat × Nat × Nat) (c : Nat) : Octets :=
  let v := s.chan c
  let sat := decide (4294967295 < q.1) || decide (16777215 < q.2.1) || decide (4294967295 < q.2.2.1) || decide (16777215 < q.2.2.2)
  satField 4 q.1 ++ satField 3 q.2.1 ++ satField 4 q.2.2.1 ++ satField 3 q.2.2.2 ++
    leBytes 1 (b2n v.stale + 2 * b2n v.gap + 4 * b2n v.reverse + 8 * b2n v.tFault + 16 * b2n v.recon + 32 * b2n sat + 64 * b2n v.restarted)

/-- The interval record of the closing shadow (R308). -/
def State.ivRecord (s : State) (h : Shadow) : Octets :=
  let v := s.heat.iv
  let flags := b2n v.powerCut + 2 * (v.restored % 4) + 8 * b2n v.clockSet + 16 * b2n v.rebuilt
  leBytes 4 (v.no + 1) ++ leBytes 8 h.latch ++ leBytes 4 h.epoch ++ leBytes 1 v.len ++ leBytes 1 flags ++
  (List.range 4).flatMap (fun c => leBytes 1 (Tab.get 0 v.cpFlags c ||| (if v.cleared.contains c then 4 else 0))) ++ zeros 2 ++
  (List.range 4).flatMap (fun c => (List.range 7).flatMap (fun k =>
    let j := 28 * c + k
    satField 4 (ivQty (1000 * 4294967296) (Tab.get 0 v.elecCl j) (Tab.get 0 v.elec0 j) (Tab.get 0 h.elec j)))) ++
  (List.range 32).flatMap (fun i => satField 4 (ivQty 1 (Tab.get 0 v.pulsesCl i) (Tab.get 0 v.pulses0 i) (Tab.get 0 h.pulses i))) ++
  (List.range 512).flatMap (fun c =>
    s.ivChanOctets (ivChan (Tab.get {} v.chansCl c) (Tab.get {} v.chans0 c) (Tab.get {} h.chans c)) c)

/-- The ring head is written (R310). -/
def State.keepHead (s : State) : State :=
  match s.heat.iv.newest with
  | some n => { s with keep := { s.keep with head := s.keep.head.write { nextSlot := s.heat.iv.nextSlot, newest := n } } }
  | none => s

/-- The ring's head at a restart (R310); one that is lost leaves the ring empty. -/
def State.ringAtBoot (s : State) : State :=
  match s.keep.head.read with
  | some h => s.modIv (fun v => { v with nextSlot := h.nextSlot, newest := some h.newest })
  | none => (s.keepLost 6).modIv (fun v => { v with nextSlot := 0, newest := none, ring := [] })

/-- A power cut between the record and the ring head (R310): the slot no longer holds the record it held, and nothing else was written. -/
def State.ivCut (s : State) : State := s.modIv (fun v => { v with ring := Tab.erase v.ring v.nextSlot })

/-- The interval ends with a closing shadow (R307, R310, R316): the channels are reconciled, the record, the ring head and the
energy record are written. -/
def State.ivEnd (s : State) (h : Shadow) : State :=
  let v := s.heat.iv
  let s := (List.range 512).foldl (fun s c =>
    if s.chan c = {} then s
    else
      let q := ivChan (Tab.get {} v.chansCl c) (Tab.get {} v.chans0 c) (Tab.get {} h.chans c)
      match s.judge c q with
      | some d => s.modChan c (fun x => { x with recon := if d then x.recon || decide (u8At (s.oct (0x4000 + c) 3) 4 ≤ x.disagree + 1) else false })
      | none => s) s
  let rec_ := s.ivRecord h
  let s := (List.range 512).foldl (fun s c =>
    if s.chan c = {} then s
    else s.ivClose (ivChan (Tab.get {} v.chansCl c) (Tab.get {} v.chans0 c) (Tab.get {} h.chans c)) c) s
  let len := s.nat 0x48F0 0x10
  let s := s.modIv (fun v => { v with
    no := (v.no + 1) % 4294967296, ring := Tab.insert v.ring v.nextSlot ((v.no + 1) % 4294967296, rec_),
    nextSlot := (v.nextSlot + 1) % 4085, newest := some ((v.no + 1) % 4294967296), elec0 := h.elec, chans0 := h.chans, pulses0 := h.pulses, elecCl := [], chansCl := [], pulsesCl := [],
    cleared := [], powerCut := false, restored := 0, clockSet := false, rebuilt := false, cpFlags := [], len := len,
    next := s.nextBoundary s.clk.dev len })
  (s.keepHead).writeEnergy h 1

/-- INTERVAL_BOUNDARY (R307): a core sample is taken, or that of the same device time is shared. `remaps` are the
sectors that the keep-store writes remapped (R499). -/
def State.intervalBoundary (s : State) (remaps : List Nat) : State :=
  let at_ := s.heat.iv.next
  if ¬ s.up ∨ s.clk.dev < at_ ∨ s.power.deferIv ≠ [] then s
  else
    let s := if s.heat.cs.lastLatch = some at_ then s
      else (s.modCs (fun c => { c with reqs := c.reqs ++ [{ time := at_, cause := 4, cascade := 0 }] })).coreLatch
    let mark := fun (h : Shadow) => if h.latch = at_ then { h with cause := h.cause ||| 4 } else h
    let s := (s.modCs (fun c => { c with latched := c.latched.map mark, shadow := mark c.shadow })).shadowCopy
    if s.power.saving then { s with power := { s.power with deferIv := [s.heat.cs.shadow] } }
    else (remaps.foldl State.remapSector s).ivEnd s.heat.cs.shadow

/-- INTERVAL_BOUNDARY (R307). -/
def execIntervalBoundary (t : Nat) (remaps : List Nat) (s : State) : Out :=
  onIsland .house t s (fun s => s.intervalBoundary remaps)

/-! ## Clears (R304, R306, R309, R316) -/

/-- `CH_CLEAR` (R304). -/
def State.chClear (s : State) (c : Nat) : State :=
  let g := (s.chan c).regs
  let v := s.heat.iv
  let a := Tab.get {} v.chans0 c
  let cl := Tab.get {} v.chansCl c
  let q := ivChan cl a g
  let s := s.modIv (fun v => { v with
    chansCl := Tab.put {} v.chansCl c { ePos := q.1, eNeg := q.2.1, vFwd := q.2.2.1, vRev := q.2.2.2 },
    chans0 := Tab.put {} v.chans0 c {} })
  (s.modChan c (fun v => { v with regs := {} })).clearRecord

/-- `PI_CLEAR` (R306). -/
def State.piClear (s : State) (i : Nat) : State :=
  let n := (s.pulse i).count
  let s := s.modIv (fun v => { v with
    pulsesCl := Tab.put 0 v.pulsesCl i (ivQty 1 (Tab.get 0 v.pulsesCl i) (Tab.get 0 v.pulses0 i) n),
    pulses0 := Tab.put 0 v.pulses0 i 0 })
  (s.setPulse i { s.pulse i with count := 0 }).clearRecord

/-- The clear of a connection point at its window boundary (R278). -/
def State.cpClear (s : State) (c at_ : Nat) : State :=
  let regs := s.metr.regs
  let u := 1000 * 4294967296
  let s := s.modIv (fun v => { v with
    elecCl := (List.range 28).foldl (fun (t : Tab Nat) k =>
      let j := 28 * c + k
      Tab.put 0 t j (ivQty u (Tab.get 0 v.elecCl j) (Tab.get 0 v.elec0 j) (Tab.get 0 regs j))) v.elecCl,
    elec0 := (List.range 28).foldl (fun (t : Tab Nat) k => Tab.put 0 t (28 * c + k) 0) v.elec0,
    cleared := insRising c v.cleared })
  let m := s.cp c
  let s := s.setCp c { m with clearPending := false, clearCount := (m.clearCount + 1) % 4294967296, clearTime := at_ }
  let s := { s with
    metr := { s.metr with regs := (List.range 28).foldl (fun (t : Tab Nat) k => Tab.put 0 t (28 * c + k) 0) regs },
    keep := { s.keep with clearCounts := Tab.put 0 s.keep.clearCounts c ((m.clearCount + 1) % 4294967296) } }
  s.clearRecord

/-! ## Requests (R311, R314) -/

/-- The pending core sample of a `CS_AT`. -/
def State.csPending (s : State) : Option CsReq := s.heat.cs.reqs.find? (fun r => bitOf r.cause 1 || bitOf r.cause 3)

/-- Add a request. -/
def State.csAdd (s : State) (time cause cascade : Nat) : State :=
  s.modCs (fun c => { c with reqs := c.reqs ++ [{ time := time, cause := cause, cascade := cascade }], status := if c.status = 2 then 2 else 1 })

/-- `CS_NOW` (R311). -/
def State.csNow (s : State) : WRes :=
  let soon := match s.heat.cs.lastLatch with
    | some l => decide (s.clk.dev < l + 5000000)
    | none => false
  if soon then .refuse 0x0A09 s else .done (s.csAdd ((s.clk.dev / 8 + 1) * 8) 1 0)

/-- Two times lie within 5 ms of each other. -/
def near5 (a b : Nat) : Bool := decide (a < b + 5000000) && decide (b < a + 5000000)

/-- The times at which an interval boundary lies nearest to `t`. -/
def State.boundaryNear (s : State) (t : Nat) : Bool :=
  let len : Int := (s.heat.iv.len : Int) * 60000000000
  !s.isMultiple t len && (near5 (s.nextMultiple t len).toNat t || s.isMultiple (t : Int) len ||
    decide (0 < s.multiplesIn ((t : Int) - 5000000) t len))

/-- A cascade core sample of the master (R314, R474): numbered, sent on the D ports and pair ports. -/
def State.csCascade (s : State) (time : Nat) : State :=
  let n := (s.heat.cs.cascadeNo + 1) % 4294967296
  let s := (s.modCs (fun c => { c with cascadeNo := n })).modCasc (fun c => { c with lastCore := n })
  let s := s.csAdd time 8 n
  [1, 2, 3, 4].foldl (fun s p => s.jSend p 4 (leBytes 4 n ++ leBytes 8 time)) s

/-- `CS_AT` (R311, R314, R323). -/
def State.csAt (s : State) (v : Nat) : WRes :=
  if v = 0 then
    .done (s.modCs (fun c =>
      let l := c.reqs.filter (fun r => !(bitOf r.cause 1 || bitOf r.cause 3))
      { c with reqs := l, status := if c.status = 1 ∧ l.isEmpty then 0 else c.status }))
  else if v < s.clk.dev + 10000000 ∨ s.heat.cs.reqs.any (fun r => near5 r.time v && decide (r.time ≠ v)) ∨ s.boundaryNear v then
    .refuse 0x0A05 s
  else if s.nat 0x48F0 3 = 1 ∧ s.pos ≠ 0 then .refuse 0x0A06 s
  else if s.csPending.isSome then .refuse 0x0A09 s
  else if s.nat 0x48F0 3 = 1 then .done (s.csCascade v)
  else .done (s.csAdd v 2 0)

/-- A cascade core sample arrives (R314): less than 1 ms before its time it is missed. -/
def State.csFromMaster (s : State) (n time : Nat) : State :=
  if time < s.clk.dev + 1000000 then s.post .house Code.csMissed 0 [] else s.csAdd time 8 n

/-! ## Entries (R304, R306, R323) -/

/-- The writes of channel, pulse, core-sample and interval entries. -/
def State.heatWrite (s : State) (sess idx sub : Nat) (b : Octets) : WRes :=
  if 0x4000 ≤ idx ∧ idx < 0x4200 then
    match sub with
    | 3 =>
      if b.length ≠ 5 then .refuse 0x0A04 s
      else if u16At b 0 < 1 ∨ 5000 < u16At b 0 ∨ u8At b 4 < 1 ∨ 96 < u8At b 4 then .refuse 0x0A05 s else .plain
    | 4 => if b.length ≠ 6 then .refuse 0x0A04 s else .plain
    | _ => .plain
  else if 0x4200 ≤ idx ∧ idx < 0x4400 ∧ sub = 6 then .done (s.chClear (idx - 0x4200))
  else if 0x4830 ≤ idx ∧ idx < 0x4850 then
    match sub with
    | 1 => s.piConfig (idx - 0x4830) b
    | 4 => .done (s.piClear (idx - 0x4830))
    | _ => .plain
  else if idx = 0x48F0 then
    match sub with
    | 1 => s.csNow
    | 2 => s.csAt (leNat b)
    | 3 => if leNat b = 1 ∧ s.pos ≠ 0 then .refuse 0x0A06 s else .plain
    | 0x10 => if [1, 2, 3, 4, 5, 6, 10, 12, 15, 20, 30, 60].contains (leNat b) then .plain else .refuse 0x0A05 s
    | 0x11 => .done (s.modIv (fun v => { v with select := Tab.put 0 v.select sess (leNat b) }))
    | _ => .plain
  else .plain

/-- The record of a number in the ring (R310). -/
def State.ivFind (s : State) (n : Nat) : Option Octets := (s.heat.iv.ring.find? (fun e => decide (e.2.1 = n))).map (·.2.2)

/-- The oldest number in the ring. -/
def State.ivOldest (s : State) : Nat := match s.heat.iv.ring.map (·.2.1) with
  | [] => 0
  | x :: r => r.foldl min x

/-- The entries of core samples and intervals as read; none for a stored value. -/
def State.csRead (s : State) (sess sub : Nat) : Option Octets :=
  match sub with
  | 2 => some (leBytes 8 ((s.csPending.map (·.time)).getD 0))
  | 4 => some (leBytes 1 s.heat.cs.status)
  | 5 => some (leBytes 4 s.heat.cs.shadow.epoch)
  | 6 => some s.heat.cs.shadow.octets
  | 0x11 => some (leBytes 4 (Tab.get 0 s.heat.iv.select sess))
  | 0x12 => some ((s.ivFind (Tab.get 0 s.heat.iv.select sess)).getD [])
  | 0x13 => some (leBytes 4 s.ivOldest ++ leBytes 4 (s.heat.iv.newest.getD 0))
  | 0x14 => some (leBytes 1 s.heat.restoreCase ++ zeros 3 ++ leBytes 8 s.heat.restoreLatch)
  | _ => none

/-- A read of `IV_RECORD` whose number is not in the ring is refused (R323). -/
def State.csReadRefused (s : State) (sess sub : Nat) : Option Nat :=
  if sub = 0x12 ∧ (s.ivFind (Tab.get 0 s.heat.iv.select sess)).isNone then some 0x0A05 else none

end Machine
end Sys2Proof
end

