-- ==== Sys2Proof/Machine/Crypto.lean ====
section
/-! DEFINITION. SHA-256 (FIPS 180-4), HMAC-SHA-256 (FIPS 198-1), the AES-256 block decryption (FIPS 197) and the AES key unwrap of
RFC 3394, by which R385, R388, R391 and R440 name them. -/

namespace Sys2Proof
namespace Machine

/-! ## SHA-256 -/

/-- The round constants of SHA-256. -/
def shaK : List Nat :=
  [0x428a2f98, 0x71374491, 0xb5c0fbcf, 0xe9b5dba5, 0x3956c25b, 0x59f111f1, 0x923f82a4, 0xab1c5ed5] ++
  [0xd807aa98, 0x12835b01, 0x243185be, 0x550c7dc3, 0x72be5d74, 0x80deb1fe, 0x9bdc06a7, 0xc19bf174] ++
  [0xe49b69c1, 0xefbe4786, 0x0fc19dc6, 0x240ca1cc, 0x2de92c6f, 0x4a7484aa, 0x5cb0a9dc, 0x76f988da] ++
  [0x983e5152, 0xa831c66d, 0xb00327c8, 0xbf597fc7, 0xc6e00bf3, 0xd5a79147, 0x06ca6351, 0x14292967] ++
  [0x27b70a85, 0x2e1b2138, 0x4d2c6dfc, 0x53380d13, 0x650a7354, 0x766a0abb, 0x81c2c92e, 0x92722c85] ++
  [0xa2bfe8a1, 0xa81a664b, 0xc24b8b70, 0xc76c51a3, 0xd192e819, 0xd6990624, 0xf40e3585, 0x106aa070] ++
  [0x19a4c116, 0x1e376c08, 0x2748774c, 0x34b0bcb5, 0x391c0cb3, 0x4ed8aa4a, 0x5b9cca4f, 0x682e6ff3] ++
  [0x748f82ee, 0x78a5636f, 0x84c87814, 0x8cc70208, 0x90befffa, 0xa4506ceb, 0xbef9a3f7, 0xc67178f2]

/-- The initial hash of SHA-256. -/
def shaInit : List Nat :=
  [0x6a09e667, 0xbb67ae85, 0x3c6ef372, 0xa54ff53a, 0x510e527f, 0x9b05688c, 0x1f83d9ab, 0x5be0cd19]

/-- Sum modulo 2³². -/
def add32 (a b : Nat) : Nat := (a + b) % 4294967296
/-- Rotation to the right of a 32-bit word. -/
def ror32 (x n : Nat) : Nat := x >>> n ||| x * 2 ^ (32 - n) % 4294967296

/-- The next word of the message schedule, from the words before it, the latest first. -/
def shaNext (w : List Nat) : Nat :=
  let a := nth 0 w 1
  let b := nth 0 w 14
  let s1 := (ror32 a 17).xor ((ror32 a 19).xor (a >>> 10))
  let s0 := (ror32 b 7).xor ((ror32 b 18).xor (b >>> 3))
  add32 (add32 s1 (nth 0 w 6)) (add32 s0 (nth 0 w 15))

/-- The schedule extended by `n` words, the latest first. -/
def shaSchedule : Nat → List Nat → List Nat
  | 0, w => w
  | n + 1, w => shaSchedule n (shaNext w :: w)

/-- One round over the working variables a to h. -/
def shaRound (v : List Nat) (kw : Nat) : List Nat :=
  match v with
  | [a, b, c, d, e, f, g, h] =>
    let s1 := (ror32 e 6).xor ((ror32 e 11).xor (ror32 e 25))
    let ch := (e &&& f).xor ((4294967295 - e) &&& g)
    let t1 := add32 (add32 h s1) (add32 ch kw)
    let s0 := (ror32 a 2).xor ((ror32 a 13).xor (ror32 a 22))
    let maj := (a &&& b).xor ((a &&& c).xor (b &&& c))
    [add32 t1 (add32 s0 maj), a, b, c, add32 d t1, e, f, g]
  | v => v

/-- The big-endian words of a block. -/
def beWords : Nat → Octets → List Nat
  | 0, _ => []
  | n + 1, b => beNat (b.take 4) :: beWords n (b.drop 4)

/-- One block. -/
def shaBlock (h : List Nat) (b : Octets) : List Nat :=
  let w := (shaSchedule 48 (beWords 16 b).reverse).reverse
  let v := (List.zipWith add32 shaK w).foldl shaRound h
  List.zipWith add32 h v

/-- The blocks of a padded message. -/
def shaBlocks : Nat → List Nat → Octets → List Nat
  | 0, h, _ => h
  | n + 1, h, b => shaBlocks n (shaBlock h (b.take 64)) (b.drop 64)

/-- SHA-256 of an octet string. -/
def sha256 (m : Octets) : Octets :=
  let k := (55 + 64 - m.length % 64) % 64
  let p := m ++ [0x80] ++ zeros k ++ beBytes 8 (8 * m.length)
  (shaBlocks (p.length / 64) shaInit p).flatMap (beBytes 4)

/-- Exclusive or of every octet with a constant. -/
def xorAll (b : Octets) (c : Octet) : Octets := b.map (fun x => x ^^^ c)

/-- HMAC-SHA-256. -/
def hmac (key m : Octets) : Octets :=
  let k := if 64 < key.length then sha256 key else key
  let k := k ++ zeros (64 - k.length)
  sha256 (xorAll k 0x5C ++ sha256 (xorAll k 0x36 ++ m))

/-- trunc96 (R388). -/
def trunc96 (b : Octets) : Octets := b.take 12

/-! ## AES-256 -/

/-- The inverse S-box. -/
def aesInv : List Nat :=
  [0x52, 0x09, 0x6a, 0xd5, 0x30, 0x36, 0xa5, 0x38, 0xbf, 0x40, 0xa3, 0x9e, 0x81, 0xf3, 0xd7, 0xfb] ++
  [0x7c, 0xe3, 0x39, 0x82, 0x9b, 0x2f, 0xff, 0x87, 0x34, 0x8e, 0x43, 0x44, 0xc4, 0xde, 0xe9, 0xcb] ++
  [0x54, 0x7b, 0x94, 0x32, 0xa6, 0xc2, 0x23, 0x3d, 0xee, 0x4c, 0x95, 0x0b, 0x42, 0xfa, 0xc3, 0x4e] ++
  [0x08, 0x2e, 0xa1, 0x66, 0x28, 0xd9, 0x24, 0xb2, 0x76, 0x5b, 0xa2, 0x49, 0x6d, 0x8b, 0xd1, 0x25] ++
  [0x72, 0xf8, 0xf6, 0x64, 0x86, 0x68, 0x98, 0x16, 0xd4, 0xa4, 0x5c, 0xcc, 0x5d, 0x65, 0xb6, 0x92] ++
  [0x6c, 0x70, 0x48, 0x50, 0xfd, 0xed, 0xb9, 0xda, 0x5e, 0x15, 0x46, 0x57, 0xa7, 0x8d, 0x9d, 0x84] ++
  [0x90, 0xd8, 0xab, 0x00, 0x8c, 0xbc, 0xd3, 0x0a, 0xf7, 0xe4, 0x58, 0x05, 0xb8, 0xb3, 0x45, 0x06] ++
  [0xd0, 0x2c, 0x1e, 0x8f, 0xca, 0x3f, 0x0f, 0x02, 0xc1, 0xaf, 0xbd, 0x03, 0x01, 0x13, 0x8a, 0x6b] ++
  [0x3a, 0x91, 0x11, 0x41, 0x4f, 0x67, 0xdc, 0xea, 0x97, 0xf2, 0xcf, 0xce, 0xf0, 0xb4, 0xe6, 0x73] ++
  [0x96, 0xac, 0x74, 0x22, 0xe7, 0xad, 0x35, 0x85, 0xe2, 0xf9, 0x37, 0xe8, 0x1c, 0x75, 0xdf, 0x6e] ++
  [0x47, 0xf1, 0x1a, 0x71, 0x1d, 0x29, 0xc5, 0x89, 0x6f, 0xb7, 0x62, 0x0e, 0xaa, 0x18, 0xbe, 0x1b] ++
  [0xfc, 0x56, 0x3e, 0x4b, 0xc6, 0xd2, 0x79, 0x20, 0x9a, 0xdb, 0xc0, 0xfe, 0x78, 0xcd, 0x5a, 0xf4] ++
  [0x1f, 0xdd, 0xa8, 0x33, 0x88, 0x07, 0xc7, 0x31, 0xb1, 0x12, 0x10, 0x59, 0x27, 0x80, 0xec, 0x5f] ++
  [0x60, 0x51, 0x7f, 0xa9, 0x19, 0xb5, 0x4a, 0x0d, 0x2d, 0xe5, 0x7a, 0x9f, 0x93, 0xc9, 0x9c, 0xef] ++
  [0xa0, 0xe0, 0x3b, 0x4d, 0xae, 0x2a, 0xf5, 0xb0, 0xc8, 0xeb, 0xbb, 0x3c, 0x83, 0x53, 0x99, 0x61] ++
  [0x17, 0x2b, 0x04, 0x7e, 0xba, 0x77, 0xd6, 0x26, 0xe1, 0x69, 0x14, 0x63, 0x55, 0x21, 0x0c, 0x7d]

/-- The S-box, from its inverse. -/
def aesSub (x : Nat) : Nat := (aesInv.findIdx? (fun y => decide (y = x))).getD 0

/-- Multiplication by x in GF(2⁸). -/
def xtime (a : Nat) : Nat := if a < 128 then 2 * a else (2 * a - 256).xor 0x1B
/-- Multiplication in GF(2⁸) by 9, 11, 13 and 14. -/
def mul9 (a : Nat) : Nat := (xtime (xtime (xtime a))).xor a
def mul11 (a : Nat) : Nat := (mul9 a).xor (xtime a)
def mul13 (a : Nat) : Nat := (mul9 a).xor (xtime (xtime a))
def mul14 (a : Nat) : Nat := ((xtime (xtime (xtime a))).xor (xtime (xtime a))).xor (xtime a)

/-- Word-wise exclusive or of lists. -/
def xorL (a b : List Nat) : List Nat := List.zipWith Nat.xor a b

/-- The next word of the AES-256 key schedule: word `i` from the words before it, the latest first. -/
def aesKeyWord (i : Nat) (w : List (List Nat)) : List Nat :=
  let t := nth [] w 0
  let t := if i % 8 = 0 then xorL ((t.drop 1 ++ t.take 1).map aesSub) [nth 0 [1, 2, 4, 8, 16, 32, 64] (i / 8 - 1), 0, 0, 0]
    else if i % 8 = 4 then t.map aesSub else t
  xorL (nth [] w 7) t

/-- The key schedule extended by `n` words from word `i` on. -/
def aesKeys : Nat → Nat → List (List Nat) → List (List Nat)
  | 0, _, w => w
  | n + 1, i, w => aesKeys n (i + 1) (aesKeyWord i w :: w)

/-- Words of four octets. -/
def quads : Nat → List Nat → List (List Nat)
  | 0, _ => []
  | n + 1, b => b.take 4 :: quads n (b.drop 4)

/-- The 15 round keys, the last first. -/
def aesRoundKeys (key : Octets) : List (List Nat) :=
  let w := aesKeys 52 8 (quads 8 (key.map (·.toNat))).reverse
  (List.range 15).map (fun r => ((w.drop (4 * r)).take 4).reverse.flatten)

/-- Inverse ShiftRows and SubBytes of a state held column by column. -/
def aesInvShiftSub (b : List Nat) : List Nat :=
  (List.range 16).map (fun i => nth 0 aesInv (nth 0 b ((i % 4) + 4 * ((i / 4 + 4 - i % 4) % 4))))

/-- Inverse MixColumns. -/
def aesInvMix : Nat → List Nat → List Nat
  | n + 1, a :: b :: c :: d :: r =>
    ((mul14 a).xor (mul11 b)).xor ((mul13 c).xor (mul9 d)) :: ((mul9 a).xor (mul14 b)).xor ((mul11 c).xor (mul13 d)) ::
      ((mul13 a).xor (mul9 b)).xor ((mul14 c).xor (mul11 d)) :: ((mul11 a).xor (mul13 b)).xor ((mul9 c).xor (mul14 d)) ::
      aesInvMix n r
  | _, l => l

/-- Decryption of one block under round keys. -/
def aesDecrypt (ks : List (List Nat)) (b : Octets) : Octets :=
  let s := xorL (b.map (·.toNat)) (nth [] ks 0)
  let s := ((ks.drop 1).take 13).foldl (fun s k => aesInvMix 4 (xorL (aesInvShiftSub s) k)) s
  (xorL (aesInvShiftSub s) (nth [] ks 14)).map (BitVec.ofNat 8)

/-! ## Key unwrap (RFC 3394) -/

/-- One step: A and the registers, the step's number t and register i (from 1). -/
def unwrapStep (ks : List (List Nat)) (n : Nat) (x : Octets × List Octets) (k : Nat) : Octets × List Octets :=
  let t := 6 * n - k
  let i := n - 1 - k % n
  let a := beBytes 8 ((beNat x.1).xor t)
  let b := aesDecrypt ks (a ++ nth [] x.2 i)
  (b.take 8, setAt x.2 i (b.drop 8))

/-- Octets in groups of eight. -/
def eights : Nat → Octets → List Octets
  | 0, _ => []
  | n + 1, b => b.take 8 :: eights n (b.drop 8)

/-- The unwrapped plaintext; none where the integrity check fails. -/
def keyUnwrap (kek c : Octets) : Option Octets :=
  let n := c.length / 8 - 1
  let r := (List.range (6 * n)).foldl (unwrapStep (aesRoundKeys kek) n) (c.take 8, eights n (c.drop 8))
  if r.1 = List.replicate 8 0xA6 then some r.2.flatten else none

end Machine
end Sys2Proof
end

