-- ==== Sys2Proof/Machine/LoamNum.lean ====
section
/-! DEFINITION. The fixed-point arithmetic of the Loam engine: accumulations, stores, floating vectors with block exponents and
their re-normalisation, the divide and square-root unit, and the primitives of R192 to R195, bit for bit. -/

namespace Sys2Proof
namespace Machine

/-- A term of an accumulation: its integer and its base (R186). -/
abbrev Term := Int × Int

/-- A product of two words. -/
def termProd (a sa b sb : Int) : Term := (a * b, sa + sb)
/-- A word as an addend: x · 2²⁹ at base s − 29. -/
def termAdd (x s : Int) : Term := (x * 536870912, s - 29)

/-- The accumulation scale: the largest base (R186). -/
def accScale : List Term → Int
  | [] => 0
  | (_, b) :: r => r.foldl (fun (m : Int) (t : Term) => max m t.2) b

/-- The bound of an accumulator. -/
def accMax : Int := 2 ^ 71 - 1

/-- An accumulation in one lane (R186): the sum at the accumulation scale, that scale, and whether it saturated. -/
def accumulate (l : List Term) : Int × Int × Bool :=
  let s := accScale l
  let a := sumI (l.map (fun (t : Term) => rnd t.1 (s - t.2).toNat))
  let c := clampI (-accMax) accMax a
  (c, s, decide (c ≠ a))

/-- A reduction: term i goes to lane i mod 64, the combining tree adds the lanes exactly (R183, R186). -/
def reduceTerms (l : List Term) : Int × Int × Bool :=
  let s := accScale l
  let lane := fun (j : Nat) => sumI ((l.mapIdx (fun i (t : Term) => if i % 64 = j then rnd t.1 (s - t.2).toNat else 0)))
  let lanes := (List.range 64).map lane
  let cl := lanes.map (clampI (-accMax) accMax)
  (sumI cl, s, decide (cl ≠ lanes))

/-- The bound of a stored word. -/
def wordMax : Int := 2147483647

/-- A store before its saturation (R187). -/
def storeRaw (a s d : Int) : Int := if 0 < d - s then rnd a (d - s).toNat else a * 2 ^ (s - d).toNat

/-- A store (R187): the word at the destination scale, and whether it saturated. -/
def storeWord (a s d : Int) : Int × Bool :=
  let r := storeRaw a s d
  let c := clampI (-wordMax) wordMax r
  (c, decide (c ≠ r))

/-- A result to be stored: its integer, its scale, whether its accumulator saturated. -/
abbrev Acc72 := Int × Int × Bool

/-- Cut a list into blocks of 64. -/
def blocksOf {α : Type} : Nat → List α → List (List α)
  | 0, _ => []
  | n + 1, l => if l.length ≤ 64 then [l] else l.take 64 :: blocksOf n (l.drop 64)

/-- The smallest block exponent that holds a block within 2²⁹ (R188). -/
def blockExp (d : Int) (l : List Acc72) : Option Nat :=
  (List.range 16).find? (fun e => l.all (fun (t : Acc72) => decide ((storeRaw t.1 t.2.1 (d + e)).natAbs ≤ 536870912)))

/-- The smallest c with M ≤ 2ᶜ. -/
def ceilLog2 (m : Nat) : Nat := if m ≤ 1 then 0 else (m - 1).log2 + 1

/-- A written vector: itself, whether `OVF` was set, whether its scale code met the floor of R189. -/
abbrev Written := Vec × Bool × Bool

/-- Shift a word from one scale to another: right with half-even, left exactly. -/
def rescaleWord (x : Int) (frm dst : Int) : Int := if frm < dst then rnd x (dst - frm).toNat else x * 2 ^ (frm - dst).toNat

/-- The re-normalisation at the end of a complete write (R188, R189), over the blocks with their exponents. -/
def renormalise (d : Int) (bl : List (Nat × List Int)) : Written :=
  let m := bl.foldl (fun (a : Nat) (b : Nat × List Int) => b.2.foldl (fun (a : Nat) (x : Int) => max a (x.natAbs * 2 ^ b.1)) a) 0
  if m = 0 ∨ (bl.all (fun b => decide (b.1 = 0)) ∧ 134217728 < m ∧ m ≤ 536870912) then
    ({ sc := d, words := bl.flatMap (·.2) }, false, false)
  else
    let k : Int := (ceilLog2 m : Int) - 29
    let n := max (-128) (d + k)
    ({ sc := n, words := bl.flatMap (fun b => b.2.map (fun x => rescaleWord x (d + b.1) n)) }, decide (127 < d + k), decide (d + k < -128))

/-- A complete write of a floating vector at the scale code `d` it carries (R188). -/
def writeFloating (d : Int) (l : List Acc72) : Written :=
  let bl := (blocksOf (l.length / 64 + 1) l).map (fun b =>
    match blockExp d b with
    | some e => (e, b.map (fun (t : Acc72) => (storeWord t.1 t.2.1 (d + e)).1), false)
    | none => (15, b.map (fun (t : Acc72) => (storeWord t.1 t.2.1 (d + 15)).1), true))
  let w := renormalise d (bl.map (fun b => (b.1, b.2.1)))
  (w.1, w.2.1 || bl.any (fun b => b.2.2) || l.any (fun t => t.2.2), w.2.2)

/-- A write to a pinned destination (R187). -/
def writePinned (d : Int) (l : List Acc72) : Written :=
  let ws := l.map (fun (t : Acc72) => storeWord t.1 t.2.1 d)
  ({ sc := d, words := ws.map (·.1) }, ws.any (·.2) || l.any (fun t => t.2.2), false)

/-! ## The divide and square-root unit (R190) -/

/-- The value of a word. -/
def wordVal (x sc : Int) : Rat := (x : Rat) * pow2 sc

/-- A result of the unit: raw word, scale code, whether `OVF` is set. -/
abbrev UnitRes := Int × Int × Bool

/-- Scale code out of R189. -/
def scBad (s : Int) : Bool := decide (s < -128) || decide (127 < s)

/-- The unit's result for the exact value `q`. -/
def unitOf (q : Rat) : UnitRes :=
  if q = 0 then (0, 0, false)
  else
    let s := floorLog2 (if q < 0 then -q else q) - 28
    (roundRat (q * pow2 (-s)), s, scBad s)

/-- The unit's result for the exact square root of `q`. -/
def unitSqrt (q : Rat) : UnitRes :=
  if q ≤ 0 then (0, 0, false)
  else
    let s := (floorLog2 q).fdiv 2 - 28
    let p := q * pow2 (-2 * s)
    let r : Nat := isqrt (p.num.natAbs / p.den)
    let c : Int := 4 * p.num - (((2 * r + 1) * (2 * r + 1) * p.den : Nat) : Int)
    ((if c < 0 then (r : Int) else if 0 < c then (r : Int) + 1 else if r % 2 = 0 then (r : Int) else (r : Int) + 1), s, scBad s)

/-- An operand that breaks its condition. -/
def unitBad : UnitRes := (0, 0, true)

def unitRcp (x s : Int) : UnitRes := if x = 0 then unitBad else unitOf (1 / wordVal x s)
def unitDiv (x sx y sy : Int) : UnitRes := if y = 0 then unitBad else unitOf (wordVal x sx / wordVal y sy)
def unitRoot (x s : Int) : UnitRes := if x < 0 then unitBad else unitSqrt (wordVal x s)
def unitRsq (x s : Int) : UnitRes := if x ≤ 0 then unitBad else unitSqrt (1 / wordVal x s)

/-- A unit's result as a result to be stored: it enters as an addend. -/
def UnitRes.acc (r : UnitRes) : Acc72 := let t := termAdd r.1 r.2.1; (t.1, t.2, r.2.2)

/-! ## Primitives (R192) -/

/-- What the primitives of an iteration work on: the job's vectors, matrices and factors, `OVF`, the replaced pivots, the
vectors that met the floor of R189, and what set `OVF` first (primitive, vector). -/
structure Work where
  vecs : Tab Vec
  mats : Tab Mat
  facs : Tab Factor
  ovf : Option (Nat × Nat) := none
  repl : Nat := 0
  floors : List Nat := []

/-- A vector. -/
def Work.vec (w : Work) (i : Nat) : Vec := Tab.get {} w.vecs i
/-- Word `i` of a vector with its scale code. -/
def Vec.at_ (v : Vec) (i : Nat) : Int × Int := (nth 0 v.words i, v.sc)
/-- The value of word `i`. -/
def Vec.val (v : Vec) (i : Nat) : Rat := wordVal (nth 0 v.words i) v.sc
/-- Every value of a vector. -/
def Vec.vals (v : Vec) : List Rat := v.words.map (fun x => wordVal x v.sc)

/-- Note what a write came to. -/
def Work.note (w : Work) (prim id : Nat) (o f : Bool) : Work :=
  { w with ovf := if o then some (w.ovf.getD (prim, id)) else w.ovf, floors := if f then w.floors ++ [id] else w.floors }

/-- Write a destination (R187, R188). -/
def Work.write (w : Work) (prim : Nat) (d : Dst) (l : List Acc72) : Work :=
  let r := match d.pin with
    | some p => writePinned (clampI (-128) 127 p) l
    | none => writeFloating (match Tab.find w.vecs d.id with
        | some v => v.sc
        | none => d.first) l
  Work.note { w with vecs := Tab.insert w.vecs d.id r.1 } prim d.id r.2.1 r.2.2

/-- A word as a result to be stored. -/
def accWord (p : Int × Int) : Acc72 := accumulate [termAdd p.1 p.2]

/-- An elementwise operation over `n` places. -/
def Work.each (w : Work) (prim : Nat) (d : Dst) (n : Nat) (f : Nat → Acc72) : Work := w.write prim d ((List.range n).map f)

/-- The length of a vector. -/
def Work.len (w : Work) (x : Nat) : Nat := (w.vec x).words.length

/-- The sum of products and addends of one row of MV. -/
def mvRow (w : Work) (y0 x : Nat) (cols : List (List Nat × Nat)) (i : Nat) : Acc72 :=
  let a := (w.vec y0).at_ i
  accumulate (termAdd a.1 a.2 :: (cols.mapIdx (fun j (c : List Nat × Nat) =>
    let v := (w.vec x).at_ j
    (c.1.mapIdx (fun p r => if r = i then
      let e := (w.vec c.2).at_ p
      [termProd e.1 e.2 v.1 v.2] else [])).flatten)).flatten)

/-- The terms of entry (i, j) of A·diag(g)·Aᵀ. -/
def asmTerms (edges : List (Nat × Nat)) (g : Vec) (i j : Nat) : List Term :=
  (edges.mapIdx (fun e (p : Nat × Nat) =>
    let v := g.at_ e
    if p.1 = p.2 then []
    else if i = j then (if p.1 = i ∨ p.2 = i then [termAdd v.1 v.2] else [])
    else if (p.1 = i ∧ p.2 = j) ∨ (p.1 = j ∧ p.2 = i) then [termAdd (-v.1) v.2] else [])).flatten

/-- ASM: the columns in turn, each one complete write. -/
def Work.asm (w : Work) (m : Nat) (rows : List (List Nat)) (edges : List (Nat × Nat)) (g : Vec) (first : Int) : Work :=
  let old := (Tab.get {} w.mats m).cols
  let cols := rows.mapIdx (fun j (rs : List Nat) =>
    (rs, writeFloating (match old[j]? with
      | some c => c.2.sc
      | none => first) (rs.map (fun i => accumulate (asmTerms edges g i j)))))
  let w := cols.foldl (fun (w : Work) (c : List Nat × Written) => w.note 13 m c.2.2.1 c.2.2.2) w
  { w with mats := Tab.insert w.mats m { cols := cols.map (fun c => (c.1, c.2.1)) } }

/-! ## Factorisation and solves (R193–R195) -/

/-- The word of column `c` at row `i`, where the row is in its structure. -/
def colAt (c : List Nat × Vec) (i : Nat) : Option (Int × Int) := (c.1.findIdx? (fun r => decide (r = i))).map c.2.at_

/-- What a factorisation has found so far. -/
structure FacRun where
  l : List (List Nat × Vec) := []
  d : List Vec := []
  dinv : List Vec := []
  uSc : Option Int
  vSc : Option Int
  ovf : Bool := false
  floor : Bool := false
  repl : Nat := 0

/-- The vector u of column j (R193). -/
def facU (r : FacRun) (j : Nat) : List Acc72 :=
  (r.l.zip r.d).map (fun (p : (List Nat × Vec) × Vec) =>
    match colAt p.1 j with
    | some (x, sx) => let d := p.2.at_ 0; accumulate [termProd d.1 d.2 x sx]
    | none => (0, 0, false))

/-- The word of column v at row i (R193). -/
def facV (r : FacRun) (u : Vec) (a : List Nat × Vec) (j i : Nat) : Acc72 :=
  let x := (colAt a i).getD (0, a.2.sc)
  accumulate (termAdd x.1 x.2 :: (r.l.mapIdx (fun k (c : List Nat × Vec) =>
    match colAt c i, colAt c j with
    | some (lv, ls), some _ => let p := u.at_ k; [termProd (-lv) ls p.1 p.2]
    | _, _ => [])).flatten)

/-- A word whose scale code would lie below −128 is held at −128, shifted (R189). -/
def heldAt (x sc : Int) : Int × Int := if sc < -128 then (rnd x (-128 - sc).toNat, -128) else (x, sc)

/-- The pivot of column j (R194): itself, or its replacement, and whether it was replaced. -/
def pivotOf (p sc cj : Int) (eDelta : Nat) : (Int × Int) × Bool :=
  let v := wordVal p sc
  if (if v < 0 then -v else v) < pow2 (29 + cj - eDelta) then
    (heldAt (if p < 0 then -268435456 else 268435456) (cj + 1 - eDelta), true)
  else ((p, sc), false)

/-- One column of the factorisation (R193). DESIGN CHOICE (log 78): a column of l is first written at −31. -/
def facCol (eDelta : Nat) (first : Int) (old : Factor) (r : FacRun) (j : Nat) (a : List Nat × Vec) : FacRun :=
  let u := writeFloating (r.uSc.getD first) (facU r j)
  let v := writeFloating (r.vSc.getD first) (a.1.map (facV r u.1 a j))
  let p := v.1.at_ 0
  let pv := pivotOf p.1 p.2 a.2.sc eDelta
  let di := unitRcp pv.1.1 pv.1.2
  let lc := writeFloating (match old.l[j]? with
      | some c => c.2.sc
      | none => -31)
    ((a.1.drop 1).mapIdx (fun i _ => let x := v.1.at_ (i + 1); accumulate [termProd x.1 x.2 di.1 di.2.1]))
  { l := r.l ++ [(a.1.drop 1, lc.1)], d := r.d ++ [{ sc := pv.1.2, words := [pv.1.1] }],
    dinv := r.dinv ++ [{ sc := di.2.1, words := [di.1] }], uSc := some u.1.sc, vSc := some v.1.sc,
    ovf := r.ovf || u.2.1 || v.2.1 || lc.2.1 || di.2.2, floor := r.floor || u.2.2 || v.2.2 || lc.2.2, repl := r.repl + b2n pv.2 }

/-- The columns of a matrix in turn. -/
def facCols (eDelta : Nat) (first : Int) (old : Factor) : FacRun → Nat → List (List Nat × Vec) → FacRun
  | r, _, [] => r
  | r, j, a :: t => facCols eDelta first old (facCol eDelta first old r j a) (j + 1) t

/-- A factorisation. -/
def Work.factor (w : Work) (f m : Nat) (first : Int) (eDelta : Nat) : Work :=
  let old := Tab.get {} w.facs f
  let r := facCols eDelta first old { uSc := old.uSc, vSc := old.vSc } 0 (Tab.get {} w.mats m).cols
  let w := w.note 14 f r.ovf r.floor
  { w with repl := w.repl + r.repl,
           facs := Tab.insert w.facs f { old with l := r.l, d := r.d, dinv := r.dinv, uSc := r.uSc, vSc := r.vSc } }

/-- A floating vector written word by word while its own words are read: raw words and block exponents so far (DEDUCED: a block
whose exponent must rise shifts the words it already holds). -/
structure Growing where
  sc : Int
  words : Tab Int := []
  exps : Tab Nat := []
  ovf : Bool := false

/-- A word already written, at its effective scale code. -/
def Growing.at_ (g : Growing) (i : Nat) : Int × Int := (Tab.get 0 g.words i, g.sc + Tab.get 0 g.exps (i / 64))

/-- Write the next word. -/
def Growing.put (g : Growing) (i : Nat) (t : Acc72) : Growing :=
  let e0 := Tab.get 0 g.exps (i / 64)
  let ok := (List.range 16).find? (fun e => decide (e0 ≤ e) && decide ((storeRaw t.1 t.2.1 (g.sc + e)).natAbs ≤ 536870912))
  let e := ok.getD 15
  let moved := g.words.map (fun (p : Nat × Int) => if p.1 / 64 = i / 64 then (p.1, rnd p.2 (e - e0)) else p)
  { g with words := Tab.insert moved i (storeWord t.1 t.2.1 (g.sc + e)).1, exps := Tab.insert g.exps (i / 64) e,
           ovf := g.ovf || ok.isNone || t.2.2 }

/-- The complete write. -/
def Growing.done (g : Growing) (n : Nat) : Written :=
  let w := renormalise g.sc ((blocksOf (n / 64 + 1) (List.range n)).map (fun (b : List Nat) =>
    (Tab.get 0 g.exps (b.headD 0 / 64), b.map (fun i => Tab.get 0 g.words i))))
  (w.1, w.2.1 || g.ovf, w.2.2)

/-- The forward solve (R195). -/
def solveFwd (l : List (List Nat × Vec)) (b : Vec) : Nat → List Nat → Growing → Growing
  | _, [], g => g
  | n, j :: t, g =>
    let x := b.at_ j
    let ts := (l.take j).mapIdx (fun k (c : List Nat × Vec) =>
      match colAt c j with
      | some (v, s) => let y := g.at_ k; [termProd (-v) s y.1 y.2]
      | none => [])
    solveFwd l b n t (g.put j (accumulate (termAdd x.1 x.2 :: ts.flatten)))

/-- The backward solve (R195). -/
def solveBwd (l : List (List Nat × Vec)) (w : Vec) : List Nat → Growing → Growing
  | [], g => g
  | j :: t, g =>
    let x := w.at_ j
    let c : List Nat × Vec := l.getD j ([], {})
    let ts := c.1.mapIdx (fun p i => let v := c.2.at_ p; let y := g.at_ i; termProd (-v.1) v.2 y.1 y.2)
    solveBwd l w t (g.put j (accumulate (termAdd x.1 x.2 :: ts)))

/-- A solve with a stored factor (R195). -/
def Work.solve (w : Work) (d : Dst) (f b : Nat) (fy fw : Int) : Work :=
  let fc := Tab.get {} w.facs f
  let n := fc.d.length
  let y := (solveFwd fc.l (w.vec b) n (List.range n) { sc := fc.ySc.getD fy }).done n
  let z := writeFloating (fc.wSc.getD fw) ((List.range n).map (fun j =>
    let a := y.1.at_ j
    let i := (fc.dinv.getD j {}).at_ 0
    accumulate [termProd a.1 a.2 i.1 i.2]))
  let sx := match Tab.find w.vecs d.id with
    | some v => v.sc
    | none => d.first
  let x := (solveBwd fc.l z.1 (List.range n).reverse { sc := sx }).done n
  let o : Written := match d.pin with
    | some p => writePinned p (x.1.words.map (fun v => accWord (v, x.1.sc)))
    | none => x
  let w := w.note 15 d.id (y.2.1 || z.2.1 || x.2.1 || o.2.1) (y.2.2 || z.2.2 || x.2.2 || o.2.2)
  { w with vecs := Tab.insert w.vecs d.id o.1, facs := Tab.insert w.facs f { fc with ySc := some y.1.sc, wSc := some z.1.sc } }

/-- The smallest ratio −t/Δt over Δt < 0 (R192), through the divide unit; a free value where no Δt is negative. -/
def ratioMin (t dt : Vec) : Acc72 :=
  let qs := (List.range dt.words.length).filterMap (fun i => if dt.val i < 0 then some (-(t.val i) / dt.val i) else none)
  match qs with
  | [] => accWord (Config.emptyRatio, 0)
  | q :: r => UnitRes.acc (unitOf (r.foldl (fun (a : Rat) (b : Rat) => if b < a then b else a) q))

/-- The larger of two words by value. -/
def wordMaxOf (a b : Int × Int) : Int × Int := if wordVal a.1 a.2 < wordVal b.1 b.2 then b else a
/-- The smaller of two words by value. -/
def wordMinOf (a b : Int × Int) : Int × Int := if wordVal b.1 b.2 < wordVal a.1 a.2 then b else a

/-- The word a law of the owner gives for a real value: 29 significant bits, its last one free (log 78). -/
def lawWord (k : Nat) (q : Rat) : Acc72 :=
  if q = 0 then (0, 0, false)
  else let s := floorLog2 (absQ q) - 28; accWord (rounding k (q * pow2 (-s)), s)

/-- The columns of a dense or staged matrix, each one complete write. -/
def Work.matrix (w : Work) (m : Nat) (cols : List (List Nat × List Rat)) (first : Int) : Work :=
  let old := (Tab.get {} w.mats m).cols
  let cs := cols.mapIdx (fun j (c : List Nat × List Rat) => (c.1, writeFloating (match old[j]? with
      | some o => o.2.sc
      | none => first) (c.2.map (lawWord 41))))
  let w := cs.foldl (fun (w : Work) (c : List Nat × Written) => w.note 13 m c.2.2.1 c.2.2.2) w
  { w with mats := Tab.insert w.mats m { cols := cs.map (fun c => (c.1, c.2.1)) } }

/-- One primitive. -/
def Work.prim (w : Work) (eDelta : Nat) : Prim → Work
  | .load id sc words =>
    Work.note { w with vecs := Tab.insert w.vecs id { sc := sc, words := words.map (clampI (-wordMax) wordMax) } } 0 id
      (words.any (fun x => decide (wordMax < x.natAbs))) false
  | .values d vs => w.write 1 d (vs.map (lawWord 40))
  | .pick d src => w.write 4 d (src.map (fun p => accWord ((w.vec p.1).at_ p.2)))
  | .matrix m cols first => w.matrix m cols first
  | .axpby d a x b y =>
    let ca := (w.vec a).at_ 0
    let cb := (w.vec b).at_ 0
    w.each 1 d (w.len x) (fun i =>
      let p := (w.vec x).at_ i
      let q := (w.vec y).at_ i
      accumulate [termProd ca.1 ca.2 p.1 p.2, termProd cb.1 cb.2 q.1 q.2])
  | .mul d x y => w.each 2 d (w.len x) (fun i =>
      let p := (w.vec x).at_ i
      let q := (w.vec y).at_ i
      accumulate [termProd p.1 p.2 q.1 q.2])
  | .clamp d x lo hi => w.each 3 d (w.len x) (fun i =>
      accWord (wordMaxOf ((w.vec lo).at_ i) (wordMinOf ((w.vec hi).at_ i) ((w.vec x).at_ i))))
  | .select d m x y => w.each 4 d (w.len m) (fun i =>
      accWord (if ((w.vec m).at_ i).1 ≠ 0 then (w.vec x).at_ i else (w.vec y).at_ i))
  | .maxOf d x y => w.each 5 d (w.len x) (fun i => accWord (wordMaxOf ((w.vec x).at_ i) ((w.vec y).at_ i)))
  | .minOf d x y => w.each 6 d (w.len x) (fun i => accWord (wordMinOf ((w.vec x).at_ i) ((w.vec y).at_ i)))
  | .div d x y => w.each 7 d (w.len x) (fun i =>
      let p := (w.vec x).at_ i
      let q := (w.vec y).at_ i
      UnitRes.acc (unitDiv p.1 p.2 q.1 q.2))
  | .rcp d x => w.each 8 d (w.len x) (fun i => let p := (w.vec x).at_ i; UnitRes.acc (unitRcp p.1 p.2))
  | .sqrt d x => w.each 9 d (w.len x) (fun i => let p := (w.vec x).at_ i; UnitRes.acc (unitRoot p.1 p.2))
  | .rsq d x => w.each 10 d (w.len x) (fun i => let p := (w.vec x).at_ i; UnitRes.acc (unitRsq p.1 p.2))
  | .redMax d x =>
    let v := w.vec x
    w.write 11 d [accWord ((v.words.foldl (fun (a : Nat) (b : Int) => max a b.natAbs) 0 : Nat), v.sc)]
  | .redDot d x y =>
    w.write 11 d [reduceTerms ((List.range (w.len x)).map (fun i =>
      let p := (w.vec x).at_ i
      let q := (w.vec y).at_ i
      termProd p.1 p.2 q.1 q.2))]
  | .redSum d x => w.write 11 d [reduceTerms ((w.vec x).words.map (fun v => termAdd v (w.vec x).sc))]
  | .redRatio d t dt => w.write 11 d [ratioMin (w.vec t) (w.vec dt)]
  | .mv d y0 x cols => w.each 12 d (w.len y0) (mvRow w y0 x cols)
  | .asm m rows edges g first => w.asm m rows edges (w.vec g) first
  | .factor f m first => w.factor f m first eDelta
  | .solve d f b y z => w.solve d f b y z

/-- The primitives of an iteration, in order; after `OVF` is set nothing more is computed (R203). -/
def Work.prims (w : Work) (eDelta : Nat) : List Prim → Work
  | [] => w
  | p :: r => if w.ovf.isSome then w else (w.prim eDelta p).prims eDelta r

end Machine
end Sys2Proof
end

