-- ==== Sys2Proof/Machine/Loam.lean ====
section
/-! DEFINITION. The Loam job sequencer (R198–R211): submission, pre-emption at panel boundaries, iterations, deadlines, aborts and
replays. What an iteration computes is its owner's (Machine/Iterate.lean); a job's owner hands it over in a command of its own. -/

namespace Sys2Proof
namespace Machine

/-- The job of a class. -/
def State.job (s : State) (c : Nat) : Job := Tab.get {} s.loam.jobs c
/-- Change the engine. -/
def State.modLoam (s : State) (f : Loam → Loam) : State := { s with loam := f s.loam }
/-- Replace the job of a class. -/
def State.setJob (s : State) (c : Nat) (j : Job) : State := s.modLoam (fun l => { l with jobs := Tab.put {} l.jobs c j })
/-- Change the job of a class. -/
def State.modJob (s : State) (c : Nat) (f : Job → Job) : State := s.setJob c (f (s.job c))

/-- A job that runs, or would: its iterations are not over, or the final step of R202 waits to be done. -/
def Job.busy (j : Job) : Bool :=
  decide (j.state = 1) ||
    (decide (j.state = 2) && (decide (j.reason = some .complete) || decide (j.reason = some .deadlineIterate) || decide (j.reason = some .deadlineEmpty)))

/-- The lowest class with a runnable job; the final step of a job runs at its class's priority (R202). -/
def State.nextClass (s : State) : Option Nat := (List.range 4).find? (fun c => (s.job c).busy)

/-- A job no longer runs: the engine takes the lowest runnable class (R198, R199). -/
def State.yieldClass (s : State) (c : Nat) : State :=
  if s.loam.running = some c then
    s.modLoam (fun l => { l with running := s.nextClass, preempted := l.preempted.filter (fun x => some x ≠ s.nextClass) })
  else s.modLoam (fun l => { l with preempted := l.preempted.filter (fun x => decide (x ≠ c)) })

/-- A job stops with an end reason (R203). After OVERFLOW and ABORTED it runs no more; else its owner's final step remains. -/
def State.stopJob (s : State) (c : Nat) (r : JobEnd) : State :=
  let s := s.modJob c (fun j => { j with state := 2, reason := some r })
  if (s.job c).busy then s else s.yieldClass c

/-- The owner's final step may take place: the job has SOLV (R202), or nothing is left to compute. -/
def State.mayEnd (s : State) (c : Nat) : Bool := !(s.job c).busy || decide (s.loam.running = some c)

/-- A job is handed over to its owner: DONE (R205). -/
def State.handOver (s : State) (c : Nat) : State :=
  ((s.modJob c (fun j => { j with state := 3 })).modLoam (fun l => { l with doneNos := insRising (s.job c).no l.doneNos })).yieldClass c

/-- A job still exists: it runs, or waits for its owner's final step. -/
def Job.alive (j : Job) : Bool := decide (j.state = 1) || (decide (j.state = 2) && decide (j.reason ≠ some .aborted))

/-- The owner's snapshot of an aborted job is discarded: nothing is handed over (R204, R205). -/
def State.dropOwner (s : State) : Nat → State
  | 0 => { s with hyd := { s.hyd with snap := none } }
  | 1 => { s with hyd := { s.hyd with probe := none } }
  | 2 => { s with disp := { s.disp with run := none } }
  | 3 => { s with estim := { s.estim with lossJob := none } }
  | _ => s

/-- An abort that the arbiter decides for (R204): ABORTED; no effect on a job that has ended. -/
def State.abortJob (s : State) (c : Nat) : State :=
  if (s.job c).alive then (s.stopJob c .aborted).dropOwner c else s

/-- A job is submitted (R198, R200, R210): one of its class that still exists is aborted first; the job number counts up. -/
def State.submitJob (s : State) (c deadline : Nat) : State :=
  let s := (if (s.job c).alive then s.stopJob c .aborted else s).modLoam (fun l => { l with submits := (l.submits + 1) % 4294967296 })
  let s := (s.setJob c { no := s.loam.submits, state := 1, deadline := deadline }).modLoam (fun l => { l with doneNos := l.doneNos.filter (fun x => decide (x ≠ s.loam.submits)) })
  if s.loam.running = none then s.modLoam (fun l => { l with running := some c }) else s

/-- LOAM_PREEMPT (R199): at a panel boundary the lowest runnable class takes SOLV. -/
def execLoamPreempt (t : Nat) (s : State) : Out :=
  onIsland .solv t s (fun s =>
    match s.loam.running, s.nextClass with
    | some r, some c =>
      if c < r then s.modLoam (fun l => { l with running := some c, preempted := r :: l.preempted }) else s
    | none, c => s.modLoam (fun l => { l with running := c })
    | _, _ => s)

/-- The argument every event of the engine begins with: the job number; the class is the event's `UNIT` (R210, R510). -/
def State.jobArgs (s : State) (c : Nat) : List EvArg := [.u32 (s.job c).no]

/-- The SOLV cycle of a moment, modulo 2³² (2 ns a cycle). -/
def State.solvCycle (s : State) : Nat := s.now / 2 % 4294967296

/-- A job computes: it is the one that runs, SOLV's copy of device time is before its deadline (R202, R211), its inputs are whole, and
its owner's stopping rule has not been met. -/
def State.computes (s : State) (c : Nat) : Bool :=
  decide (s.loam.running = some c) && decide ((s.job c).state = 1) && decide (s.localTime .solv < (s.job c).deadline) &&
    !(s.job c).inputLost && !(s.job c).met

/-- An iteration completes (R201, R203) with the vectors it has written: `OVF` stops the job and discards its iterates; else the
completed mark moves, and the owner's stopping rule is noted by `note`. -/
def State.iterated (s : State) (c : Nat) (w : Work) (note : Job → Job) : State :=
  let j := s.job c
  let s := w.floors.foldl (fun s v => s.post .solv Code.loamScaleFloor c (s.jobArgs c ++ [.u32 v])) s
  match w.ovf with
  | some (p, v) =>
    (((s.setJob c { j with ovf := true, done := none, before := none }).post .solv Code.loamOverflow c
      (s.jobArgs c ++ [.u8 p, .u16 v, .u32 s.solvCycle])).stopJob c .overflow)
  | none => s.setJob c (note { j with vecs := w.vecs, mats := w.mats, facs := w.facs, done := some w.vecs, before := j.done, iters := j.iters + 1,
                                      stageIters := j.stageIters + 1, repl := j.repl + w.repl })

/-- What a job's primitives work on. -/
def Job.work (j : Job) : Work := { vecs := j.vecs, mats := j.mats, facs := j.facs }

/-- A job's deadline takes effect (R202, R203, R211). -/
def State.jobDeadline (s : State) (c : Nat) : State :=
  let j := s.job c
  if j.state = 1 ∧ j.deadline ≤ s.localTime .solv then
    s.stopJob c (if j.inputLost then .deadlineEmpty else if j.met then .complete else if j.done.isSome then .deadlineIterate else .deadlineEmpty)
  else s

/-- LOAM_DEADLINE (R202). -/
def execLoamDeadline (t c : Nat) (s : State) : Out := onUnit (decide (c < 4)) .solv t s (fun s => s.jobDeadline c)

/-- LOAM_ABORT_REQUEST (R204, R205): of job `no` of class `c`, from island `from`. -/
def execLoamAbortRequest (t c no frm : Nat) (s : State) : Out :=
  onUnit (decide (c < 4)) .solv t s (fun s =>
    if s.loam.doneNos.contains no then s.post .solv Code.loamAbortLate c [.u32 no, .u8 frm]
    else if (s.job c).no = no then s.abortJob c
    else s)

/-- Job replay (R206, R207): `lost` is an input word of which neither copy is good. A fault in the final step ends the job
DEADLINE_EMPTY (R203, R211); nothing is replayed then (DEDUCED: and no replay is logged). -/
def State.replayJob (s : State) (c addr : Nat) (again : Bool) (lost : Option Nat) : State :=
  let j := s.job c
  let empty := { j with vecs := [], mats := [], facs := [], done := none, before := none, iters := 0, met := false, conv := false, clamps := 0,
                        stage := 0, stageIters := 0, firstOk := false, repl := 0 }
  if j.state = 2 then (if j.busy then s.setJob c { empty with reason := some .deadlineEmpty } else s)
  else
    let s := s.post .solv Code.loamReplay c (s.jobArgs c ++ [.u32 addr, .u8 (b2n again)])
    let s := s.setJob c { empty with replays := j.replays + 1, inputLost := j.inputLost || lost.isSome }
    match lost with
    | some w => (s.post .solv Code.loamInputLost c (s.jobArgs c ++ [.u32 w])).dataLoss .solv 5 w 0xFFFF
    | none => s

/-- LOAM_PARITY_FAULT (R206): a word read by the class that runs; `again` says that the second read failed too (the word is then hard
and its row repaired, R496). -/
def execLoamParityFault (t addr : Nat) (again : Bool) (lost : Option Nat) (s : State) : Out :=
  onIsland .solv t s (fun s =>
    match s.loam.running with
    | some c =>
      (s.replayJob c addr again lost).modHealth (fun h =>
        if again then { h with sramRows := h.sramRows + 1 } else { h with softSram := h.softSram + 1 })
    | none => s)

/-- The class and job number an event of the engine names (R210): those of the job that runs, 0 where none does. -/
def State.runArgs (s : State) : Nat × List EvArg :=
  match s.loam.running with
  | some c => (c, s.jobArgs c)
  | none => (0, [.u32 0])

/-- A lane is retired (R208): the engine takes a spare or continues on fewer lanes. -/
def State.retireLane (s : State) (l why : Nat) : State :=
  let s := (s.modLoam (fun m => { m with lanesOut := insRising l m.lanesOut })).retireElem 0 l why
  s.post .solv Code.loamLaneRetired s.runArgs.1 (s.runArgs.2 ++ [.u8 l, .u8 (s.sparesFree 0 0)])

/-- The divider is switched to the spare unit (R208); without one the unit stays in service and its fault is counted (R492, R507). -/
def State.switchDivider (s : State) (why : Nat) : State :=
  let u := s.loam.divider
  if s.loam.dividersOut.contains (1 - u) then (if why = 0 then s.countFault 1 else s)
  else
    let s := (s.retireElem 1 u why).modLoam (fun l => { l with dividersOut := insRising u l.dividersOut, divider := 1 - u })
    s.post .solv Code.loamDividerSwitch s.runArgs.1 (s.runArgs.2 ++ [.u8 s.loam.divider, .u8 why])

/-- LOAM_RESIDUE_MISMATCH (R208): the element is replaced and the job replayed. -/
def execLoamResidueMismatch (t : Nat) (divider : Bool) (lane addr : Nat) (again : Bool) (lost : Option Nat) (s : State) : Out :=
  onUnit (divider || decide (lane < 68)) .solv t s (fun s =>
    match s.loam.running with
    | some c => (if divider then s.switchDivider 0 else s.retireLane lane 0).replayJob c addr again lost
    | none => s)

end Machine
end Sys2Proof
end

