-- ==== Sys2Proof/Machine/HydLaw.lean ====
section
/-! DEFINITION. The branch laws of R115 to R121 over exact rationals, and the residual of R122. What is transcendental in them (π,
logarithm, powers, square root) is computed as Machine/Elementary.lean does. -/

namespace Sys2Proof
namespace Machine

/-- g in m/s² (R113). -/
def gravity : Rat := 980665 / 100000
/-- ρ(T), μ(T), ν(T) (R116), T in °C. -/
def rhoW (t : Rat) : Rat := 1000 * (1 - (t - 4) * (t - 4) / 200000)
def muW (t : Rat) : Rat := 2414 / 100000000 * powDev 10 ((2478 / 10) / (t + 13315 / 100))
def nuW (t : Rat) : Rat := muW t / rhoW t

/-! ## Branch fields (R84), in SI units -/

def brLen (img : Octets) (b : Nat) : Rat := ratI (u32At (recOf img 2 b) 12) 10
def brDia (img : Octets) (b : Nat) : Rat := ratI (u16At (recOf img 2 b) 16) 10000
def brRough (img : Octets) (b : Nat) : Rat := ratI (u16At (recOf img 2 b) 18) 1000000
def brLossU (img : Octets) (b : Nat) : Rat := ratI (u32At (recOf img 2 b) 20) 1000
def brZeta (img : Octets) (b : Nat) : Rat := ratI (u16At (recOf img 2 b) 24) 100
/-- A branch that has a return copy. -/
def brMirrored (img : Octets) (b : Nat) : Bool := decide (brSide img b = 0)
/-- A cross branch. -/
def brCross (img : Octets) (b : Nat) : Bool := decide (4 ≤ brKind img b)

/-- Start and end of a branch copy in its positive direction (R115): node and side, 0 supply, 1 return. -/
def brEnds (img : Octets) (b : Nat) (ret : Bool) : (Nat × Nat) × (Nat × Nat) :=
  let f := brFrom img b
  let t := brTo img b
  match brSide img b with
  | 0 => if ret then ((t, 1), (f, 1)) else ((f, 0), (t, 0))
  | 1 => ((f, 0), (t, 0))
  | 2 => ((f, 1), (t, 1))
  | _ => ((f, 0), (f, 1))

/-- The valve record of a branch, if any (R86). -/
def valveOf (img : Octets) (b : Nat) : Option Octets :=
  ((List.range (secCount img 4)).find? (fun v => decide (u16At (recOf img 4 v) 0 = b))).map (recOf img 4)
/-- The pump record of a branch, if any (R85). -/
def pumpOf (img : Octets) (b : Nat) : Option Octets :=
  ((List.range (secCount img 3)).find? (fun v => decide (u16At (recOf img 3 v) 0 = b))).map (recOf img 3)

/-- The coefficient k of R116 at flow q and temperature T. -/
def brK (img : Octets) (reMin : Nat) (b : Nat) (q t : Rat) : Rat :=
  let d := brDia img b
  if d = 0 then 0
  else
    let area := 8 / (gravity * piDev * piDev * d * d * d * d)
    if brLen img b = 0 then brZeta img b * area
    else
      let re := maxQ (ratN reMin) (4 * absQ q / (piDev * d * nuW t))
      let lg := log10Dev (brRough img b / (37 / 10 * d) + 574 / 100 / powDev re (9 / 10))
      let f := 1 / 4 / (lg * lg)
      (f * brLen img b / d + brZeta img b) * area

/-- A loop output read as an opening or speed (R117): Q15, negative as 0, 0x7FFF as 1.0. -/
def outFrac (u : Int) : Rat := if u ≤ 0 then 0 else if 32767 ≤ u then 1 else ratI u 32768

/-- Kv of a valve at opening x (R117), in m³/h. -/
def valveKv (v : Octets) (x : Rat) : Rat :=
  let x := maxQ x (ratI (i16At v 10) 32768)
  let kvs := ratI (u32At v 4) 100
  if u8At v 8 = 0 then kvs * x else kvs * powDev (ratN (u8At v 9)) (x - 1)

/-- k_v of a valve (R117). -/
def valveK (kv t : Rat) : Rat := if kv = 0 then Config.closedValve else 12960000 / (kv * kv) * 100000 / (rhoW t * gravity)

/-- A pump's head rise (R118), q in m³/s: A0 in mm, A1 in µm/(L/s), A2 in µm/(L/s)². -/
def pumpHead (p : Octets) (q s : Rat) : Rat :=
  ratI (i32At p 4) 1000 * s * s + ratI (i32At p 8) 1000 * s * q + ratN 1 * (i32At p 12 : Rat) * q * q

/-- The pump runs at speed s: it is not below `S_MIN`. -/
def pumpRuns (p : Octets) (s : Rat) : Bool := decide (ratI (i16At p 16) 32768 ≤ s)

/-- A quadratic term with the linear zone of R119. -/
def quadTerm (k q lin : Rat) : Rat := if absQ q < lin then k * lin * q else k * q * absQ q

/-! ## The law of a branch copy -/

/-- A term of the derivative of `quadTerm`. -/
def quadSlope (k q lin : Rat) : Rat := if absQ q < lin then k * lin else 2 * k * absQ q

/-- Configuration of a period: an entry of `0x2830` or `0x2840` as snapshotted. -/
def snapNat (vals : Tab Val) (idx sub : Nat) : Nat :=
  match Tab.find vals (key idx sub) with
  | some v => v.toInt.toNat
  | none => (dfltOf (key idx sub)).toInt.toNat

/-- Φ of a branch copy (R117): k of its copy, opening or speed, its temperature, its flow, and the flow of the previous iterate
(which gives a check valve's state, R120). -/
def HydSnap.law (n : HydSnap) (b : Nat) (ret : Bool) (t q prev : Rat) : Rat :=
  let img := n.img
  let lin := ratI (snapNat n.vals 0x2830 5) 1000000
  let block := ratN (snapNat n.vals 0x2830 6)
  let kk := n.k.getD b (0, 0)
  let k := if ret then kk.2 else kk.1
  let x := n.x.getD b 1
  match brKind img b with
  | 3 => if prev < 0 then block * q else quadTerm k q lin
  | 1 =>
    match pumpOf img b with
    | some p => if pumpRuns p x then quadTerm k q lin - pumpHead p q x else block * q
    | none => quadTerm k q lin
  | 0 => quadTerm k q lin
  | _ =>
    match valveOf img b with
    | some v => quadTerm (valveK (valveKv v x) t) q lin
    | none => quadTerm k q lin

/-- D of a branch copy (R119): its slope, at least `D_FLOOR` = 1.0 m per m³/s. -/
def HydSnap.slope (n : HydSnap) (b : Nat) (ret : Bool) (t q prev : Rat) : Rat :=
  let img := n.img
  let lin := ratI (snapNat n.vals 0x2830 5) 1000000
  let block := ratN (snapNat n.vals 0x2830 6)
  let kk := n.k.getD b (0, 0)
  let k := if ret then kk.2 else kk.1
  let x := n.x.getD b 1
  maxQ 1 (match brKind img b with
    | 3 => if prev < 0 then block else quadSlope k q lin
    | 1 =>
      match pumpOf img b with
      | some p => if pumpRuns p x then 2 * k * absQ q + maxQ (-(ratI (i32At p 8) 1000 * x + 2 * (i32At p 12 : Rat) * q)) 0 else block
      | none => quadSlope k q lin
    | 0 => quadSlope k q lin
    | _ =>
      match valveOf img b with
      | some v => quadSlope (valveK (valveKv v x) t) q lin
      | none => quadSlope k q lin)

/-! ## Iterates -/

/-- Supply and return head of a node in an iterate: vector `off` of the job holds them. -/
def iterHead (it : Tab Vec) (off : Nat) (p : Nat × Nat) : Rat := (Tab.get {} it off).val (2 * p.1 + p.2)
/-- Flow of a branch copy in an iterate: vector `off` + 1 of the job holds them. -/
def iterFlow (it : Tab Vec) (off b : Nat) (ret : Bool) : Rat := (Tab.get {} it (off + 1)).val (2 * b + b2n ret)

/-- The branch copies that follow a law: all but consumer crosses (R121, R122). -/
def lawCopies (img : Octets) : List (Nat × Bool) :=
  (List.range (secCount img 2)).flatMap (fun b =>
    if brKind img b = 4 then [] else if brMirrored img b then [(b, false), (b, true)] else [(b, false)])

/-- The energy residual of a branch copy (R122), in m; `temps` are the copies' temperatures, `prev` the flows of
the previous iterate. -/
def HydSnap.resid (n : HydSnap) (temps : Nat → Rat) (it : Tab Vec) (off : Nat) (prev : Nat → Bool → Rat) (c : Nat × Bool) : Rat :=
  let e := brEnds n.img c.1 c.2
  absQ (n.law c.1 c.2 (temps (2 * c.1 + b2n c.2)) (iterFlow it off c.1 c.2) (prev c.1 c.2) + iterHead it off e.2 - iterHead it off e.1)

/-- `res` of R122. -/
def HydSnap.res (n : HydSnap) (temps : Nat → Rat) (it : Tab Vec) (off : Nat) (prev : Nat → Bool → Rat) : Rat :=
  (lawCopies n.img).foldl (fun (m : Rat) (c : Nat × Bool) => maxQ m (n.resid temps it off prev c)) 0

/-- A check valve changed state between two iterates (R120). -/
def HydSnap.flipped (n : HydSnap) (it : Tab Vec) (off : Nat) (prev : Nat → Bool → Rat) : Bool :=
  (lawCopies n.img).any (fun c => decide (brKind n.img c.1 = 3) &&
    decide ((iterFlow it off c.1 c.2 < 0) ≠ (prev c.1 c.2 < 0)))

end Machine
end Sys2Proof
end

