-- ==== Sys2Proof/Machine/Thermal.lean ====
section
/-! DEFINITION. Thermal transport (R127–R131): parcels, the topological pass over the nodes, cross branches, stores. Volumes are kept in
µL and temperatures in µ°C; where the manual's formula gives a real number, `rounding` gives the integer kept (FREE). -/

namespace Sys2Proof
namespace Machine

/-- C_V in J/(m³·K) (R127). -/
def heatCap : Rat := 4180000

/-- A hundredth of a degree in µ°C. -/
def centi (v : Int) : Int := v * 10000
/-- A value in °C as µ°C. -/
def microC (q : Rat) : Int := rounding 12 (q * 1000000)
/-- µ°C as °C. -/
def degC (t : Int) : Rat := ratI t 1000000

/-- Volume of a pipe copy, µL. -/
def pipeVol (img : Octets) (b : Nat) : Nat :=
  (rounding 13 (piDev * brDia img b * brDia img b / 4 * brLen img b * 1000000000)).toNat

/-- A pipe copy that holds water. -/
def holdsWater (img : Octets) (b : Nat) : Bool := decide (brKind img b = 0) && decide (u32At (recOf img 2 b) 12 ≠ 0)

/-- Parcels of a copy (branch × 2 + side). -/
def State.parcelsOf (s : State) (c : Nat) : List (Nat × Int) := Tab.get [] s.hyd.parcels c

/-- Volume-weighted mean temperature; none of an empty list. -/
def meanTemp (l : List (Nat × Int)) : Option Int :=
  let v : Nat := (l.map (·.1)).foldl (· + ·) 0
  if v = 0 then none else some (rounding 14 (((sumI (l.map (fun (p : Nat × Int) => (p.1 : Int) * p.2)) : Int) : Rat) / (v : Rat)))

/-- Mean temperature of a copy, µ°C (R116); a copy that holds no water has a free value. -/
def State.copyTemp (s : State) (c : Nat) : Int := (meanTemp (s.parcelsOf c)).getD (Config.dryTemp c s.hyd.seq)

/-- Merge two volumes of water. -/
def mergeWater (a b : Nat × Int) : Nat × Int := (a.1 + b.1, (meanTemp [a, b]).getD a.2)

/-- Push a volume at the newest end (the end of the list) (R128 steps 4, 5): the parcels, and whether the merge was forced. -/
def pushParcel (limit tol : Nat) (full : Bool) (l : List (Nat × Int)) (x : Nat × Int) : List (Nat × Int) × Bool :=
  match l.getLast? with
  | none => ([x], false)
  | some n =>
    if (n.2 - x.2).natAbs ≤ tol ∧ n.1 + x.1 ≤ limit then (l.dropLast ++ [mergeWater n x], false)
    else if full then (l.dropLast ++ [mergeWater n x], true)
    else (l ++ [x], false)

/-- Take a volume from the oldest end: what leaves, what stays. -/
def popParcels : Nat → List (Nat × Int) → List (Nat × Int) × List (Nat × Int)
  | _, [] => ([], [])
  | 0, l => ([], l)
  | v, (w, t) :: r =>
    if w ≤ v then (let o := popParcels (v - w) r; ((w, t) :: o.1, o.2)) else ([(v, t)], (w - v, t) :: r)

/-! ## Flows of a step -/

/-- Scale code of a branch's flow, of a node's head (R101). -/
def flowSc (img : Octets) (b : Nat) : Int := (imgScOpt img 2 b).getD 0
def headSc (img : Octets) (n : Nat) : Int := (imgScOpt img 1 n).getD 0
/-- Published flow of a branch copy, m³/s. -/
def State.pubFlow (s : State) (b : Nat) (ret : Bool) : Rat :=
  let p := s.hyd.flows.getD b (0, 0)
  wordVal (if ret then p.2 else p.1) (flowSc s.img b)
/-- Published head of a node's side, m. -/
def State.pubHead (s : State) (n side : Nat) : Rat :=
  let p := s.hyd.heads.getD n (0, 0)
  wordVal (if side = 0 then p.1 else p.2) (headSc s.img n)

/-- The copies of a branch. -/
def copiesOf (img : Octets) (b : Nat) : List Bool := if brMirrored img b then [false, true] else [false]

/-- A moving volume of a step: branch, copy, upstream and downstream end (node × 2 + side), volume. -/
structure Mover where
  b : Nat
  ret : Bool
  up : Nat
  down : Nat
  vol : Nat
  cut : Bool := false
  deriving DecidableEq

/-- The moving volumes of a step of `dt` seconds, under the published flows. -/
def State.movers (s : State) (dt : Rat) : List Mover :=
  (List.range (secCount s.img 2)).flatMap (fun b => (copiesOf s.img b).filterMap (fun ret =>
    let q := s.pubFlow b ret
    let e := brEnds s.img b ret
    let i := 2 * e.1.1 + e.1.2
    let j := 2 * e.2.1 + e.2.2
    let v := (rounding 13 (absQ q * dt * 1000000000)).toNat
    if v = 0 then none else some (if q < 0 then ⟨b, ret, j, i, v, false⟩ else ⟨b, ret, i, j, v, false⟩)))

/-! ## Inputs of cross branches and stores (R129–R131) -/

/-- A channel's report was fresh at the snapshot. -/
def HydSnap.fresh (n : HydSnap) (c : Nat) : Bool :=
  let v := Tab.get {} n.chans c
  v.got && decide (n.start < v.arrival + snapNat n.vals (0x4000 + c) 1 * 1000000)
/-- Value `k` of a channel at the snapshot. -/
def HydSnap.chan (n : HydSnap) (c k : Nat) : Rat := let v := nth (0, 0) (Tab.get {} n.chans c).vals k; wordVal v.1 v.2
/-- A report of the channel was accepted since restart. -/
def HydSnap.got (n : HydSnap) (c : Nat) : Bool := (Tab.get {} n.chans c).got

/-- Source `k` of store `s` in `STORE_INPUTS` (R131). -/
def HydSnap.source (n : HydSnap) (s k : Nat) : Octets :=
  let b := match Tab.find n.vals (key 0x2830 16) with
    | some v => v.octs
    | none => noSources
  slice b (72 * s + 8 * k) 8

/-- A source's value in its own unit (°C for a layer, m³/s for the flow), where it is fresh. -/
def HydSnap.sourceVal (n : HydSnap) (b : Octets) (flow : Bool) : Option Rat :=
  let id := u16At b 0
  if id < 16 then
    let lo := i16At b 4
    let hi := i16At b 6
    let x := (lo : Rat) + ((hi - lo : Int) : Rat) * ratN (Tab.get 0 n.ai id) / 65535
    some (if flow then x / 10000 else x / 100)
  else if 0x1000 ≤ id ∧ id < 0x1200 ∧ n.fresh (id - 0x1000) then some (n.chan (id - 0x1000) (u8At b 2))
  else none

/-- A fresh measurement of layer `k` of store `st`. -/
def HydSnap.layer (n : HydSnap) (st k : Nat) : Option Rat :=
  let c := u16At (recOf n.img 6 st) 36
  if c ≠ 0xFFFF then (if n.fresh c then some (n.chan c k) else none) else n.sourceVal (n.source st k) false

/-- The measured flow of a store, positive when it charges, m³/s. -/
def HydSnap.storeFlow (n : HydSnap) (st : Nat) : Option Rat :=
  let c := u16At (recOf n.img 6 st) 36
  if c ≠ 0xFFFF then
    (let v := Tab.get {} n.chans c
     if n.fresh c ∧ v.flowDt ≠ 0 then some (ratI v.flow 1000000 / (ratN v.flowDt / 1000000000)) else none)
  else n.sourceVal (n.source st 8) true

/-- Layers of a store, their volume in m³, its layer temperatures (a layer nothing has set yet has a free value). -/
def storeLayers (img : Octets) (st : Nat) : Nat := u8At (recOf img 6 st) 5
def layerVol (img : Octets) (st : Nat) : Rat := ratI (u32At (recOf img 6 st) 12) 10 / ratN (storeLayers img st)
def State.layersOf (s : State) (st : Nat) : List Int :=
  match Tab.find s.hyd.layers st with
  | some l => l
  | none => (List.range (storeLayers s.img st)).map (fun k => Config.dryTemp (100000 + 8 * st + k) s.model.gen)

/-- One displacement of volume fraction f through the layers (R130): charging enters at the top. -/
def displace (f tin : Rat) : List Rat → List Rat
  | [] => []
  | t :: r => (f * tin + (1 - f) * t) :: displace f t r

/-- `n` displacements; the mean of what left. -/
def displaceN (f tin : Rat) : Nat → List Rat → Rat → List Rat × Rat
  | 0, l, out => (l, out)
  | n + 1, l, out => displaceN f tin n (displace f tin l) (out + l.getLastD tin)

/-- A volume of `v` m³ passes through a store, in its top to bottom order if it charges (R130): the layers after it, and the
temperature of what leaves. -/
def passStore (layers : List Int) (vl v : Rat) (charge : Bool) (tin : Int) : List Int × Int :=
  let l := (if charge then layers else layers.reverse).map degC
  let n := if vl = 0 then 0 else (v / vl).ceil.toNat
  if n = 0 then (layers, (if charge then layers else layers.reverse).getLastD tin)
  else
    let r := displaceN (v / ratN n / vl) (degC tin) n l 0
    let o := r.1.map microC
    (if charge then o else o.reverse, microC (r.2 / ratN n))

/-! ## The pass over the nodes -/

/-- What a thermal step carries along: parcels, store layers, water that has entered each node end, water for the next step. -/
structure Pass where
  parcels : Tab (List (Nat × Int))
  layers : Tab (List Int)
  inflow : Tab (List (Nat × Int)) := []
  later : List (Nat × Nat × Int) := []
  forced : Nat := 0
  cycles : Nat := 0

/-- Temperature of a node end. -/
def Pass.temp (p : Pass) (seq e : Nat) : Int := (meanTemp (Tab.get [] p.inflow e)).getD (Config.dryTemp (200000 + e) seq)

/-- Parcels of the device-wide pool in use. -/
def parcelCount (t : Tab (List (Nat × Int))) : Nat := (t.map (fun (e : Nat × List (Nat × Int)) => e.2.length)).foldl (· + ·) 0

/-- A volume moves through a pipe copy (R128 steps 2, 4, 5): what leaves it. -/
def State.throughPipe (s : State) (n : HydSnap) (p : Pass) (m : Mover) (t : Int) : Pass × List (Nat × Int) :=
  let c := 2 * m.b + b2n m.ret
  let e := brEnds s.img m.b m.ret
  let fwd := decide (2 * e.1.1 + e.1.2 = m.up)
  let l := Tab.get [] p.parcels c
  let l := if fwd then l else l.reverse
  let r := pushParcel (pipeVol s.img m.b / 8) (1000 * snapNat n.vals 0x2830 8) (decide (65536 ≤ parcelCount p.parcels)) l (m.vol, t)
  let o := popParcels m.vol r.1
  ({ p with parcels := Tab.put [] p.parcels c (if fwd then o.2 else o.2.reverse), forced := p.forced + b2n r.2 }, o.1)

/-- The layers of a store in a pass. -/
def Pass.layersAt (p : Pass) (s : State) (st : Nat) : List Int :=
  match Tab.find p.layers st with
  | some l => l
  | none => s.layersOf st

/-- `v` m³ at temperature `t` pass through a store's layers (R129, R130): charging enters at the top. -/
def State.passLayers (s : State) (p : Pass) (st : Nat) (v : Rat) (charge : Bool) (t : Int) : Pass × Int :=
  let r := passStore (p.layersAt s st) (layerVol s.img st) v charge t
  ({ p with layers := Tab.insert p.layers st r.1 }, r.2)

/-- A volume moves through a cross branch (R129); a store with a measured flow moves by it, in its direction, whatever the solved flow
of its cross branch is (R131; log 98). -/
def State.throughCross (s : State) (n : HydSnap) (dt : Rat) (p : Pass) (m : Mover) (t : Int) : Pass × Int :=
  let el := brElem s.img m.b
  match brKind s.img m.b with
  | 4 => (p, if n.got el then microC (n.chan el 2) else centi (i16At (recOf s.img 0 (brNet s.img m.b)) 6))
  | 5 =>
    let c := u16At (recOf s.img 5 el) 10
    (p, if n.got c then microC (n.chan c 2) else t)
  | 6 =>
    let solved := decide (m.up % 2 = 0)
    match n.storeFlow el with
    | none => s.passLayers p el (ratI m.vol 1000000000) solved t
    | some q =>
      if decide (0 < q) = solved ∨ q = 0 then s.passLayers p el (absQ q * dt) solved t
      else (let r := s.passLayers p el (absQ q * dt) (!solved) (p.temp s.hyd.seq m.down)
            (r.1, (if solved then (r.1.layersAt s el).getLastD t else (r.1.layersAt s el).headD t)))
  | _ => (p, t)

/-- A store whose cross branch carries no solved flow moves by its measured one (R131). -/
def State.stillStore (s : State) (n : HydSnap) (dt : Rat) (ms : List Mover) (p : Pass) (st : Nat) : Pass :=
  let b := u16At (recOf s.img 6 st) 6
  match n.storeFlow st with
  | some q =>
    if q = 0 ∨ ms.any (fun m => decide (m.b = b)) then p
    else (s.passLayers p st (absQ q * dt) (decide (0 < q)) (p.temp s.hyd.seq (2 * brFrom s.img b + b2n (decide (q < 0))))).1
  | none => p

/-- One moving volume, its upstream end being known. -/
def State.moveOne (s : State) (n : HydSnap) (dt : Rat) (p : Pass) (m : Mover) : Pass :=
  let t := p.temp s.hyd.seq m.up
  let r := if holdsWater s.img m.b then s.throughPipe n p m t
    else if brCross s.img m.b then (let o := s.throughCross n dt p m t; (o.1, [(m.vol, o.2)]))
    else (p, [(m.vol, t)])
  if m.cut then { r.1 with later := r.1.later ++ r.2.map (fun (w : Nat × Int) => (m.down, w.1, w.2)) }
  else { r.1 with inflow := Tab.insert r.1.inflow m.down (Tab.get [] r.1.inflow m.down ++ r.2) }

/-- The ends reached from an end along moving volumes. -/
def reached (l : List Mover) : Nat → List Nat → List Nat
  | 0, a => a
  | k + 1, a => reached l k ((l.filter (fun m => a.contains m.up)).foldl (fun (a : List Nat) (m : Mover) => insRising m.down a) a)

/-- The smallest flow that lies on a cycle. -/
def cycleMin (l : List Mover) : Option Mover :=
  (l.filter (fun m => (reached l l.length [m.down]).contains m.up)).foldl (fun (o : Option Mover) (m : Mover) =>
    match o with
    | some x => if m.vol < x.vol then some m else o
    | none => some m) none

/-- The pass (R128 step 3): an end nothing enters any more passes its water on; where every remaining end waits, a cycle is cut. -/
def State.passNodes (s : State) (n : HydSnap) (dt : Rat) : Nat → List Mover → Pass → Pass
  | 0, _, p => p
  | k + 1, l, p =>
    let wait := fun (e : Nat) => l.any (fun m => decide (m.down = e) && !m.cut)
    match l.find? (fun m => !wait m.up) with
    | some m => s.passNodes n dt k (l.filter (fun x => decide (x ≠ m))) (s.moveOne n dt p m)
    | none =>
      match cycleMin (l.filter (fun m => !m.cut)) with
      | some m => s.passNodes n dt k (l.map (fun x => if x = m then { x with cut := true } else x)) { p with cycles := p.cycles + 1 }
      | none => p

/-! ## Cooling and stores -/

/-- Loss multiplier of a branch, 0.001 (R135). -/
def State.lossMult (s : State) (b : Nat) : Int := Tab.get 1000 s.estim.loss b

/-- Ground temperature of a network, µ°C. -/
def groundT (img : Octets) (w : Nat) : Int := centi (i16At (recOf img 0 w) 12)

/-- Cooling of a pipe copy's parcels over `dt` seconds (R128 step 1). -/
def State.coolPipe (s : State) (dt : Rat) (b : Nat) (l : List (Nat × Int)) : List (Nat × Int) :=
  let u := brLossU s.img b * ratI (s.lossMult b) 1000
  let a := piDev * brDia s.img b * brDia s.img b / 4
  let f := expDev (-(u * dt) / (heatCap * a))
  let g := groundT s.img (brNet s.img b)
  l.map (fun (p : Nat × Int) => (p.1, g + rounding 15 (((p.2 - g : Int) : Rat) * f)))

/-- Every pipe copy cools; the heat each network lost, W. -/
def State.coolAll (s : State) (dt : Rat) : State :=
  let cooled := s.hyd.parcels.map (fun (e : Nat × List (Nat × Int)) => (e.1, s.coolPipe dt (e.1 / 2) e.2))
  let lost := fun (w : Nat) => (s.hyd.parcels.zip cooled).foldl (fun (a : Rat) (x : (Nat × List (Nat × Int)) × (Nat × List (Nat × Int))) =>
    if brNet s.img (x.1.1 / 2) = w then
      a + ((x.1.2.zip x.2.2).map (fun (y : (Nat × Int) × (Nat × Int)) => ratI y.1.1 1000000000 * ratI (y.1.2 - y.2.2) 1000000)).foldl (· + ·) 0
    else a) 0 * heatCap / dt
  { s with hyd := { s.hyd with parcels := cooled,
                               lossW := (List.range 4).foldl (fun (t : Tab Int) w => Tab.put 0 t w (rounding 16 (lost w))) [] } }

/-- Mix adjacent layers where the lower is hotter, in one pass from the top (R130). DESIGN CHOICE (log 99): the rule does not say
whether it is repeated; an inversion that the pass itself makes above it stays until the next step. -/
def mixFrom : Int → List Int → List Int
  | a, [] => [a]
  | a, b :: r => if a < b then (let m := rounding 17 (ratI (a + b) 2); m :: mixFrom m r) else a :: mixFrom b r
/-- As `mixFrom`, for every layer of a store. -/
def mixDown : List Int → List Int
  | [] => []
  | a :: r => mixFrom a r

/-- The end of a store's step (R130): losses, mixing, measurements. -/
def State.storeEnd (s : State) (n : HydSnap) (dt : Rat) (st : Nat) : State :=
  let r := recOf s.img 6 st
  let g := groundT s.img (u8At r 4)
  let vl := layerVol s.img st
  let loss := ratI (u32At r 24) 1000 / ratN (storeLayers s.img st)
  let l := (s.layersOf st).map (fun t => t - rounding 18 (loss * ((t - g : Int) : Rat) * dt / (heatCap * vl)))
  let l := mixDown l
  let ms := (List.range l.length).map (n.layer st)
  let l := (l.zip ms).map (fun (x : Int × Option Rat) => match x.2 with
    | some q => microC q
    | none => x.1)
  let mask := ((ms.mapIdx (fun i (o : Option Rat) => if o.isSome then 2 ^ i else 0))).foldl (· + ·) 0
  { s with hyd := { s.hyd with layers := Tab.insert s.hyd.layers st l, measured := Tab.put 0 s.hyd.measured st mask } }

/-- Energy of a store, kWh (R130). -/
def State.storeKWh (s : State) (st : Nat) : Rat :=
  let tm := centi (i16At (recOf s.img 6 st) 22)
  ((s.layersOf st).map (fun t => heatCap * layerVol s.img st * ratI (t - tm) 1000000 / 3600000)).foldl (· + ·) 0

/-- The thermal step of a period (R128). -/
def State.thermalStep (s : State) (n : HydSnap) : State :=
  let dt := ratI (snapNat n.vals 0x2830 1) 1000
  let s := s.coolAll dt
  let ms := s.movers dt
  let start : Pass := { parcels := s.hyd.parcels, layers := s.hyd.layers,
                        inflow := s.hyd.cut.foldl (fun (t : Tab (List (Nat × Int))) (x : Nat × Nat × Int) => Tab.insert t x.1 (Tab.get [] t x.1 ++ [x.2])) [] }
  let p := s.passNodes n dt (2 * ms.length + 1) ms start
  let p := (List.range (secCount s.img 6)).foldl (s.stillStore n dt ms) p
  let s := { s with hyd := { s.hyd with parcels := p.parcels, layers := p.layers, cut := p.later,
                                        nodeT := p.inflow.foldl (fun (t : Tab Int) (e : Nat × List (Nat × Int)) =>
                                          match meanTemp e.2 with
                                          | some v => Tab.insert t e.1 v
                                          | none => t) s.hyd.nodeT,
                                        parcelForced := (s.hyd.parcelForced + p.forced) % 4294967296,
                                        cycles := (s.hyd.cycles + p.cycles) % 4294967296 } }
  (List.range (secCount s.img 6)).foldl (fun s st => s.storeEnd n dt st) s

/-- Every pipe copy refilled at its network's design temperature (R128, an activation that changes topology). -/
def State.refillPipes (s : State) : State :=
  let one := fun (t : Tab (List (Nat × Int))) (b : Nat) =>
    if holdsWater s.img b then
      let r := recOf s.img 0 (brNet s.img b)
      (copiesOf s.img b).foldl (fun (t : Tab (List (Nat × Int))) ret =>
        let c := 2 * b + b2n ret
        let cold := ret || decide (brSide s.img b = 2)
        Tab.insert t c [(pipeVol s.img b, centi (i16At r (if cold then 6 else 4)))]) t
    else t
  { s with hyd := { s.hyd with parcels := (List.range (secCount s.img 2)).foldl one [], cut := [] } }

/-- Parcel volumes scaled by new volume / old volume (R128, an activation without topology change). -/
def State.rescalePipes (s : State) (old : Octets) : State :=
  { s with hyd := { s.hyd with parcels := s.hyd.parcels.map (fun (e : Nat × List (Nat × Int)) =>
      let o := pipeVol old (e.1 / 2)
      let n := pipeVol s.img (e.1 / 2)
      (e.1, if o = n ∨ o = 0 then e.2 else e.2.map (fun (p : Nat × Int) => ((rounding 13 (ratI (p.1 * n) o)).toNat, p.2)))) } }

end Machine
end Sys2Proof
end

