-- ==== Sys2Proof/Machine/Newton.lean ====
section
/-! DEFINITION. The Newton iteration (R119–R122) as primitives of the Loam engine, for the hydraulic job and for the two problems of a
probe (R133). Vector `off` of the job holds the heads (supply and return of each node), vector `off` + 1 the flows (two copies of each
branch), both pinned at the class default; the working vectors and the passes an iteration is cut into are the model's (log 78). -/

namespace Sys2Proof
namespace Machine

/-- What a Newton problem is solved on: the period's snapshot, the copies' temperatures, the fixed flow of each consumer cross, and the
flows it starts from. -/
structure Newton where
  n : HydSnap
  temps : Nat → Rat
  cons : Nat → Rat
  base : Nat → Bool → Rat

/-- The network whose reference node a node record is. -/
def refNetOf (img : Octets) (node : Nat) : Option Nat :=
  (List.range 4).find? (fun w => netUsed img w && decide (u16At (recOf img 0 w) 2 = node))

/-- The known head of a node's side, m: `REF_HEAD` on the return side of a reference node (R82, R122), 0 elsewhere. -/
def knownHead (img : Octets) (h : Nat × Nat) : Rat :=
  match h.2, refNetOf img h.1 with
  | 1, some w => ratI (i32At (recOf img 0 w) 8) 1000
  | _, _ => 0

/-- Flows of the iterate a problem is at. -/
def Newton.prev (p : Newton) (it : Option (Tab Vec)) (off : Nat) : Nat → Bool → Rat :=
  match it with
  | some v => iterFlow v off
  | none => p.base

/-- A real value as the raw word of an input written at scale code `sc` (R187). -/
def inputWord (sc : Int) (q : Rat) : Int := roundRat (q * pow2 (-sc))

/-- w of R121 at a head: a consumer cross withdraws its flow at the supply node and injects it at the return node. -/
def Newton.withdrawal (p : Newton) (h : Nat × Nat) : Rat :=
  sumQ ((List.range (secCount p.n.img 2)).map (fun b =>
    if brKind p.n.img b = 4 ∧ brFrom p.n.img b = h.1 then (if h.2 = 0 then p.cons b else -(p.cons b)) else 0))

/-- The rows of each column of the factor's structure (R196): the rest of the column's supernode, then the rows below it. -/
def Elim.rowsOf (e : Elim) : List (List Nat) :=
  e.supers.flatMap (fun s => (List.range s.width).map (fun k =>
    (List.range (s.width - k)).map (fun i => s.first + k + i) ++ e.below s))

/-- Where a flow of the iterate is found after an iteration: a copy that follows a law in the vector `law` at its place in `lawCopies`, a
consumer cross in the vector `fixed`, none for a copy the branch does not have. -/
def flowPlace (img : Octets) (law fixed : Nat) (b : Nat) (ret : Bool) : Nat × Nat :=
  match (lawCopies img).findIdx? (fun c => decide (c = (b, ret))) with
  | some i => (law, i)
  | none => if brKind img b = 4 ∧ ¬ ret then (fixed, b) else (99, 0)

/-- One iteration of R122 from the iterate `it` (none before the first). -/
def Newton.prims (p : Newton) (off : Nat) (it : Option (Tab Vec)) : List Prim :=
  let img := p.n.img
  let q := p.prev it off
  let hs := imgSc img 1
  let fs := imgSc img 2
  let e := elimOf img
  let u := unknowns img
  let pos := fun (h : Nat × Nat) => (e.posOf u h).getD e.nUnk
  let cs := lawCopies img
  let ends := cs.map (fun c => brEnds img c.1 c.2)
  let edges := ends.map (fun x => (pos x.1, pos x.2))
  let heads := (List.range (secCount img 1)).flatMap (fun n => [(n, 0), (n, 1)])
  let headAt := fun (h : Nat × Nat) => match e.posOf u h with
    | some i => (25, i)
    | none => (26, 2 * h.1 + h.2)
  let law := fun (f : Nat → Bool → Rat → Rat → Rat → Rat) => cs.map (fun c => f c.1 c.2 (p.temps (2 * c.1 + b2n c.2)) (q c.1 c.2) (q c.1 c.2))
  [.load 13 0 [1], .load 14 0 [-1], .load 21 0 [-1, 1], .load 22 0 [-1], .load 23 0 [1],
   -- phi and d; 1/d
   .values ⟨10, none, hs⟩ (law p.n.law),
   .values ⟨11, none, imgSc img 12⟩ (law p.n.slope),
   .rcp ⟨12, none, -44⟩ 11,
   -- known reference heads, moved to the right-hand side with phi
   .load 15 hs (ends.map (fun x => inputWord hs (knownHead img x.2 - knownHead img x.1))),
   .axpby ⟨16, none, hs⟩ 13 10 13 15,
   .mul ⟨17, none, fs⟩ 16 12,
   .load 18 fs (cs.map (fun c => inputWord fs (q c.1 c.2))),
   .axpby ⟨19, none, fs⟩ 13 18 14 17,
   -- rhs := A*(q - phi/d) - w
   .load 20 fs (e.perm.map (fun i => inputWord fs (-(p.withdrawal (nth (0, 0) u i))))),
   .mv ⟨24, none, fs⟩ 20 19 (edges.map (fun x =>
     if x.1 = x.2 then ([], 23)
     else if x.1 < e.nUnk ∧ x.2 < e.nUnk then ([x.1, x.2], 21)
     else if x.1 < e.nUnk then ([x.1], 22) else if x.2 < e.nUnk then ([x.2], 23) else ([], 23))),
   -- m := A*diag(1/d)*transpose(A) and its solve
   .asm 0 e.rowsOf edges 12 (-31),
   .factor 0 0 (-31),
   .solve ⟨25, none, hs⟩ 0 24 fs (-31),
   .load 26 hs (heads.map (fun h => inputWord hs (knownHead img h))),
   .pick ⟨off, some hs, hs⟩ (heads.map headAt),
   -- q := q - (transpose(A)*h + phi)/d
   .pick ⟨27, none, hs⟩ (ends.map (fun x => headAt x.2)),
   .pick ⟨28, none, hs⟩ (ends.map (fun x => headAt x.1)),
   .axpby ⟨29, none, hs⟩ 13 27 14 28,
   .axpby ⟨30, none, hs⟩ 13 29 13 10,
   .mul ⟨31, none, fs⟩ 30 12,
   .axpby ⟨32, none, fs⟩ 13 18 14 31,
   .load 33 fs ((List.range (secCount img 2)).map (fun b => inputWord fs (if brKind img b = 4 then p.cons b else 0))),
   .pick ⟨off + 1, some fs, fs⟩ ((List.range (secCount img 2)).flatMap (fun b => [flowPlace img 32 33 b false, flowPlace img 32 33 b true]))]

/-- Tolerance of R122, m: `HEAD_TOL`, and at least 4 LSB of the head class. -/
def HydSnap.headTol (n : HydSnap) : Rat := maxQ (ratI (snapNat n.vals 0x2830 2) 1000000) (4 * pow2 (imgSc n.img 1))
/-- `RESID_FALLBACK` in m. -/
def HydSnap.fallback (n : HydSnap) : Rat := ratI (snapNat n.vals 0x2830 17) 1000000

/-- Flows of the iterate before the completed one of a problem; those it started from before its first (R120). -/
def Newton.before (p : Newton) (j : Job) (off : Nat) : Nat → Bool → Rat := p.prev (if j.stageIters ≤ 1 then none else j.before) off

/-- `res` of the completed iterate of a problem, in m (R122). -/
def Newton.resOf (p : Newton) (j : Job) (off : Nat) : Rat := p.n.res p.temps (j.done.getD []) off (p.before j off)

/-- The completed iterate converged (R122): `res` within the tolerance, and no check valve changed state. -/
def Newton.converged (p : Newton) (j : Job) (off : Nat) : Bool :=
  j.done.isSome && decide (0 < j.stageIters) && decide (p.resOf j off ≤ p.n.headTol) && !p.n.flipped (j.done.getD []) off (p.before j off)

/-- A problem stops: converged, or `MAX_ITER` iterations done (R122, R123). -/
def Newton.stops (p : Newton) (j : Job) (off : Nat) : Bool := p.converged j off || decide (snapNat p.n.vals 0x2830 3 ≤ j.stageIters)

/-- The completed iterate of a problem is published under R123. -/
def Newton.published (p : Newton) (j : Job) (off : Nat) : Bool :=
  j.done.isSome && decide (0 < j.stageIters) && decide (p.resOf j off ≤ p.n.fallback)

end Machine
end Sys2Proof
end

