-- ==== Sys2Proof/Machine/Hydro.lean ====
section
/-! DEFINITION. The hydraulic period (R113–R126), its publication, and deliverability (R132–R134). The iterations are those of
Machine/Newton.lean: a probe job holds M1 in vectors 0 and 1 and M2 in vectors 2 and 3. -/

namespace Sys2Proof
namespace Machine

/-- Change the hydraulic engine's state. -/
def State.modHyd (s : State) (f : Hyd → Hyd) : State := { s with hyd := f s.hyd }

/-- The opening that the channel of a branch reports (R86, R297): value 5 of the channel of a consumer cross. The other branches that
have a valve record have no channel with an opening among its values: the opening is free there, within 0 to 1 (log 100). -/
def State.chanOpening (s : State) (b : Nat) : Rat :=
  maxQ 0 (minQ 1 (if brKind s.img b = 4 then (let c := s.chanValue (brElem s.img b) 5; wordVal c.1 c.2) else Config.freeOpening b))

/-- Speed or opening of a branch (R117, R118): a loop's speed is clamped to `S_MAX`, a fixed speed is 1.0. -/
def State.brX (s : State) (b : Nat) : Rat :=
  let loop := fun (n : Nat) => outFrac (s.loop n).uPrev
  match pumpOf s.img b with
  | some p => if u16At p 2 < 1024 then minQ (loop (u16At p 2)) (ratI (i16At p 18) 32768) else 1
  | none =>
    match valveOf s.img b with
    | some v => if u16At v 2 < 1024 then loop (u16At v 2) else if u16At v 2 = 0xFFFE then s.chanOpening b else 1
    | none => 1

/-- A consumer cross runs on a held flow or on 0 (R121). -/
def State.consHeldNow (s : State) : Nat :=
  ((List.range (secCount s.img 2)).filter (fun b => decide (brKind s.img b = 4) && !s.chanFresh (brElem s.img b))).length

/-- The snapshot of a period (R113 steps 1 and 2). -/
def State.hydSnap (s : State) (start : Nat) : HydSnap :=
  let n := secCount s.img 2
  let re := s.nat 0x2830 7
  let t := fun (b : Nat) (ret : Bool) => degC (s.copyTemp (2 * b + b2n ret))
  { start := start, vals := s.dict.vals, img := s.img,
    k := (List.range n).map (fun b => (brK s.img re b (s.pubFlow b false) (t b false), brK s.img re b (s.pubFlow b true) (t b true))),
    x := (List.range n).map s.brX, light := s.disp.lightVals.getD s.dict.vals, chans := s.heat.chans, ai := s.ctrl.ai, held := s.consHeldNow }

/-- A consumer cross's fixed flow (R121), m³/s. -/
def HydSnap.consFlow (n : HydSnap) (b : Nat) : Rat := if n.got (brElem n.img b) then n.chan (brElem n.img b) 0 else 0

/-- A configuration value of `0x2830` or `0x2840` as the period in progress took it (R113); as it stands where none has run. -/
def State.hydCfg (s : State) (idx sub : Nat) : Nat :=
  match s.hyd.snap with
  | some n => snapNat n.vals idx sub
  | none => s.nat idx sub

/-- The end of the period in progress. -/
def State.periodEnd (s : State) : Nat :=
  match s.hyd.snap with
  | some n => n.start + snapNat n.vals 0x2830 1 * 1000000
  | none => 0

/-- The multiple of `HYD_PERIOD` at or before the present, where a period begins there (R113): one runs only with an active model, and a
changed period takes effect at its first multiple at or after the end of the period in progress. -/
def State.periodDue (s : State) : Option Nat :=
  let p := s.nat 0x2830 1 * 1000000
  let start := s.clk.dev / p * p
  if s.model.active.isSome ∧ s.up ∧ ¬ s.power.jobsHeld ∧ s.periodEnd ≤ start then some start else none

/-- A period begins (R113 steps 1 to 3): a running probe is aborted (R126), the inputs are taken and the Newton job is submitted. -/
def State.periodBegin (s : State) (start : Nat) : State :=
  let s := (s.abortJob 1).submitJob 0 (start + s.nat 0x2830 4 * 1000000)
  s.modHyd (fun h => { h with snap := some (s.hydSnap start) })

/-! ## The end of the job (R122–R125) -/

/-- Temperatures of the copies in °C. -/
def State.temps (s : State) (c : Nat) : Rat := degC (s.copyTemp c)

/-- The problem of the hydraulic job (R122): from the published flows; cold, every flow is 0. -/
def State.hydNewton (s : State) (n : HydSnap) : Newton := { n := n, temps := s.temps, cons := n.consFlow, base := s.pubFlow }

/-- A value stored at a pinned class scale (R187): half-even, saturating; and whether it saturated. -/
def pinned (v : Vec) (i : Nat) (sc : Int) : Int × Bool := storeWord (nth 0 v.words i) v.sc sc

/-- Heads and flows of an iterate at the scale codes of their classes and elements (R102, R187). -/
def iterHeads (img : Octets) (it : Tab Vec) : List ((Int × Bool) × (Int × Bool)) :=
  (List.range (secCount img 1)).map (fun n => (pinned (Tab.get {} it 0) (2 * n) (headSc img n), pinned (Tab.get {} it 0) (2 * n + 1) (headSc img n)))
def iterFlows (img : Octets) (it : Tab Vec) : List ((Int × Bool) × (Int × Bool)) :=
  (List.range (secCount img 2)).map (fun b => (pinned (Tab.get {} it 1) (2 * b) (flowSc img b),
    if brMirrored img b then pinned (Tab.get {} it 1) (2 * b + 1) (flowSc img b) else (0, false)))

/-- A value of an iterate saturates when it is stored for publication (R123 code 7). -/
def storeSaturates (img : Octets) (it : Tab Vec) : Bool := (iterHeads img it ++ iterFlows img it).any (fun x => x.1.2 || x.2.2)

/-- The status of a job that has come to its end (R123, the highest code that applies), none where it has not. -/
def State.hydEnd (s : State) (n : HydSnap) (j : Job) : Option Nat :=
  let p := s.hydNewton n
  let judged := fun (st : Nat) =>
    if storeSaturates n.img (j.done.getD []) then 7 else if ¬ p.published j 0 then 5 else if p.converged j 0 then (if j.repl = 0 then 1 else 2) else st
  if j.state = 1 then (if p.stops j 0 then some (judged 3) else none)
  else if j.state = 2 then
    match j.reason with
    | some .overflow => some 7
    | some .deadlineEmpty => some 6
    | some .complete => some (judged 3)
    | some .deadlineIterate => some (judged 4)
    | _ => none
  else none

/-- A consumer whose valve is all but fully open (R142, `CONS_SAT`). -/
def State.consSatAt (s : State) (b : Nat) : Bool :=
  decide (brKind s.img b = 4) &&
    (match valveOf s.img b with
     | some v =>
       let e := brEnds s.img b false
       let dh := s.pubHead e.1.1 0 - s.pubHead e.1.1 1
       let k := valveK (valveKv v 1) (s.temps (2 * b))
       let q := s.pubFlow b false
       if dh ≤ 0 then decide (0 ≤ q) else decide (0 ≤ q) && decide (9025 / 10000 * dh ≤ q * q * k)
     | none => false)

/-- Speed, flow, head rise and power of a pump (R118, R142). DESIGN CHOICE (log 101): a stopped pump reports a head rise of 0. -/
def State.pumpState (s : State) (n : HydSnap) (k : Nat) : Rat × Rat × Rat × Rat :=
  let p := recOf s.img 3 k
  let b := u16At p 0
  let x := n.x.getD b 1
  let q := s.pubFlow b false
  let run := pumpRuns p x
  let h := if run then pumpHead p q x else 0
  let eta := ratI (i16At p 24) 32768
  (x, q, h, if 0 < q * h then rhoW (s.temps (2 * b)) * gravity * q * h / eta else 0)

/-- A running pump is off its curve. -/
def State.pumpOff (s : State) (n : HydSnap) (k : Nat) : Bool :=
  let r := s.pumpState n k
  pumpRuns (recOf s.img 3 k) r.1 && (decide (r.2.1 < 0) || decide (r.2.2.1 < 0))

/-- mm, mL/s, 0.01 °C as published. -/
def toMilli (q : Rat) : Octets := leInt 4 (sat32 (rounding 10 (q * 1000)))
def toMicro (q : Rat) : Octets := leInt 4 (sat32 (rounding 10 (q * 1000000)))
def toCenti (t : Int) : Octets := leInt 2 (sat16 (rounding 11 (ratI t 10000)))

/-- The published domains of R142. -/
def State.headsO (s : State) : Octets :=
  leBytes 4 s.hyd.seq ++ (List.range (secCount s.img 1)).flatMap (fun n => toMilli (s.pubHead n 0) ++ toMilli (s.pubHead n 1))
def State.flowsO (s : State) : Octets :=
  leBytes 4 s.hyd.seq ++ (List.range (secCount s.img 2)).flatMap (fun b =>
    toMicro (s.pubFlow b false) ++ (if brMirrored s.img b then toMicro (s.pubFlow b true) else zeros 4))
def State.tempsO (s : State) : Octets :=
  leBytes 4 s.hyd.seq ++ (List.range (secCount s.img 2)).flatMap (fun b =>
    toCenti (s.copyTemp (2 * b)) ++ (if brMirrored s.img b then toCenti (s.copyTemp (2 * b + 1)) else zeros 2))
def State.pumpsO (s : State) (n : HydSnap) : Octets :=
  leBytes 4 s.hyd.seq ++ (List.range (secCount s.img 3)).flatMap (fun k =>
    let r := s.pumpState n k
    leInt 2 (sat16 (rounding 11 (r.1 * 32768))) ++ zeros 2 ++ toMicro r.2.1 ++ toMilli r.2.2.1 ++ leInt 4 (sat32 (rounding 10 r.2.2.2)))
def State.storesO (s : State) : Octets :=
  leBytes 4 s.hyd.seq ++ (List.range 32).flatMap (fun st =>
    if st < secCount s.img 6 then
      let l := s.layersOf st
      (List.range 8).flatMap (fun k => match l[k]? with
        | some t => toCenti t
        | none => zeros 2) ++ leInt 4 (sat32 (rounding 10 (s.storeKWh st))) ++ leBytes 2 (Tab.get 0 s.hyd.measured st) ++ zeros 2
    else zeros 24)

/-- A result is published (R124): the solve number, heads and flows, and the domains, in one step; `STALE` clears (R125). -/
def State.hydPublish (s : State) (n : HydSnap) (it : Tab Vec) : State :=
  let s := s.modHyd (fun h => { h with seq := (h.seq + 1) % 4294967296, time := n.start, heads := (iterHeads s.img it).map (fun x => (x.1.1, x.2.1)),
                                       flows := (iterFlows s.img it).map (fun x => (x.1.1, x.2.1)),
                                       stale := false, lastPub := s.clk.dev })
  s.modHyd (fun h => { h with headsO := s.headsO, flowsO := s.flowsO, tempsO := s.tempsO, pumpsO := s.pumpsO n, storesO := s.storesO,
                              consSat := ((List.range (secCount s.img 2)).filter s.consSatAt).length,
                              offCurve := (List.range (secCount s.img 3)).any (s.pumpOff n) })

/-- The result record is judged and published or refused (R123, R124), then the thermal step runs (R113 step 5). -/
def State.hydFinish (s : State) (n : HydSnap) (j : Job) (st : Nat) : State :=
  let res := if j.done.isSome then (rounding 10 ((s.hydNewton n).resOf j 0 * 1000000)).toNat else 0
  let s := s.handOver 0
  let s := s.modHyd (fun h => { h with status := st, iters := j.iters, resid := res % 4294967296, pivots := j.repl, consHeld := n.held })
  let s := if st ≤ 4 then s.hydPublish n (j.done.getD []) else s
  s.thermalStep n

/-- The consumer crosses of a network. -/
def consumers (img : Octets) (w : Nat) : List Nat :=
  (List.range (secCount img 2)).filter (fun b => decide (brKind img b = 4) && decide (brNet img b = w))

/-- F of a network in the published result, m³/s. -/
def State.consSum (s : State) (w : Nat) : Rat := ((consumers s.img w).map (fun b => s.pubFlow b false)).foldl (· + ·) 0

/-- The window of the last 7 days with the largest F of a network (R132): F and the consumer flows, mL/s. -/
def State.histF (s : State) (w : Nat) : Option (Nat × Tab Nat) :=
  (s.hyd.history.filter (fun x => decide (x.2.1 = w) && decide (s.clk.dev ≤ x.1 + 604800000000000))).foldl
    (fun (o : Option (Nat × Tab Nat)) (x : Nat × Nat × Nat × Tab Nat) =>
      match o with
      | some y => if y.1 < x.2.2.1 then some x.2.2 else o
      | none => some x.2.2) none

/-- The window whose consumer flows the probes of a network use instead of the published ones (R132). -/
def State.probeWindow (s : State) (n : HydSnap) (w : Nat) : Option (Nat × Tab Nat) :=
  if s.consSum w < ratI (snapNat n.vals 0x2830 18) 1000000 then s.histF w else none

/-- What the probes of a period work on (R132): the consumer flows, F, and whether F is historic. -/
def State.takeProbe (s : State) (n : HydSnap) : DelivProbe :=
  { cons := (List.range (secCount s.img 2)).map (fun b =>
      match s.probeWindow n (brNet s.img b) with
      | some h => ratI ((Tab.get 0 h.2 b : Nat) : Int) 1000000
      | none => s.pubFlow b false),
    f := (List.range 4).map (fun w => match s.probeWindow n w with
      | some h => (ratI (h.1 : Int) 1000000, true)
      | none => (s.consSum w, false)) }

/-- The probe job of a period that begins at a multiple of `DELIV_PERIOD` (R113 step 6, R133). -/
def State.hydProbe (s : State) (n : HydSnap) : State :=
  if n.start % (snapNat n.vals 0x2830 19 * 1000000000) = 0 ∧ ¬ s.power.jobsHeld then
    (s.submitJob 1 (n.start + snapNat n.vals 0x2830 4 * 1000000)).modHyd (fun h => { h with probe := some (s.takeProbe n) })
  else s

/-! ## Deliverability (R132–R134) -/

/-- Margin of a consumer cross in an iterate's heads, m. -/
def marginAt (n : HydSnap) (w : Nat) (heads : Vec) (b : Nat) : Rat :=
  let x := brFrom n.img b
  heads.val (2 * x) - heads.val (2 * x + 1) - ratI (snapNat n.vals 0x2830 (9 + w)) 1000

/-- The smallest margin and the channel of its consumer. -/
def margin (n : HydSnap) (w : Nat) (heads : Vec) : Option (Rat × Nat) :=
  (consumers n.img w).foldl (fun (o : Option (Rat × Nat)) (b : Nat) =>
    let m := marginAt n w heads b
    match o with
    | some x => if m < x.1 then some (m, brElem n.img b) else o
    | none => some (m, brElem n.img b)) none

/-- The snapshot with every running pump at `S_MAX`. -/
def HydSnap.pumpsFull (n : HydSnap) : HydSnap :=
  { n with x := n.x.mapIdx (fun b x => match pumpOf n.img b with
      | some p => if pumpRuns p x then ratI (i16At p 18) 32768 else x
      | none => x) }

/-- α of a probe's problem (R133): 1, then `DELIV_ALPHA_T`. -/
def HydSnap.alphaOf (n : HydSnap) (k : Nat) : Rat := if k = 0 then 1 else ratI (snapNat n.vals 0x2830 13) 100

/-- The probe's problem `k` (R132, R133): every consumer flow multiplied by α, every running pump at `S_MAX`. -/
def State.probeNewton (s : State) (n : HydSnap) (p : DelivProbe) (k : Nat) : Newton :=
  { n := n.pumpsFull, temps := s.temps, cons := fun b => n.alphaOf k * p.cons.getD b 0, base := s.pubFlow }

/-- A problem of a stopped or completed probe job is published under R123. -/
def State.probeOk (s : State) (n : HydSnap) (p : DelivProbe) (j : Job) (k : Nat) : Bool :=
  if k < j.stage then j.firstOk else decide (k = j.stage) && (s.probeNewton n p k).published j (2 * k)

/-- T_s0 of a network, °C: the supply temperature of the plan in force, else the design value. -/
def State.supplySet (s : State) (w : Nat) : Rat :=
  let v := s.planValue (0x080 + w)
  if s.disp.plan.inForce then wordVal v.1 v.2 else ratI (i16At (recOf s.img 0 w) 4) 100

/-- T_r of a network, °C: the flow-weighted inlet temperature of its plants (R133); free where nothing flows there. -/
def State.plantReturn (s : State) (n : HydSnap) (w : Nat) : Rat :=
  let ps := (List.range (secCount s.img 5)).filterMap (fun p =>
    let r := recOf s.img 5 p
    if u8At r 5 = w then some (absQ (s.pubFlow (u16At r 8) false),
      if n.got (u16At r 10) then n.chan (u16At r 10) 1 else ratI (i16At (recOf s.img 0 w) 6) 100) else none)
  let q := (ps.map (·.1)).foldl (· + ·) (0 : Rat)
  if q = 0 then degC (Config.dryTemp (300000 + w) s.hyd.seq) else (ps.map (fun (x : Rat × Rat) => x.1 * x.2)).foldl (· + ·) 0 / q

/-- α* of two margins (R133), clamped to [0, 2]. -/
def alphaStar (m1 m2 at_ : Rat) : Rat :=
  if m2 < m1 then
    let a := 1 + (at_ * at_ - 1) * m1 / (m1 - m2)
    if a ≤ 0 then 0 else minQ 2 (sqrtDev a)
  else 2

/-- The record of a network from its two margins (R133, R134). -/
def State.delivRec (s : State) (n : HydSnap) (p : DelivProbe) (w : Nat) (m1 m2 : Rat) (ch : Nat) : Deliv :=
  let f := p.f.getD w (0, false)
  let a := alphaStar m1 m2 (ratI (snapNat n.vals 0x2830 13) 100)
  let q := a * f.1
  let ts := s.supplySet w
  let tr := s.plantReturn n w
  let cool := decide (netMedium s.img w = 1)
  { qMax := (rounding 19 (q * 1000000)).toNat,
    a := sat32 (rounding 20 (heatCap * q * (if cool then tr - ts else ts - tr) / 1000)),
    b := sat32 (rounding 20 (if cool then -(heatCap * q) else heatCap * q)),
    tS0 := sat16 (rounding 11 (ts * 100)), tR := sat16 (rounding 11 (tr * 100)), index := ch,
    alpha := (rounding 19 (a * 1000)).toNat, margin := sat32 (rounding 10 (m1 * 1000)), short := decide (m1 < 0), historic := f.2 }

/-- The record of a network after a probe job (R133): where either problem is not published it keeps its values. -/
def State.delivNext (s : State) (n : HydSnap) (p : DelivProbe) (j : Job) (w : Nat) : Deliv :=
  let old : Deliv := s.hyd.deliv.getD w {}
  let v := j.done.getD []
  if j.reason = some .overflow ∨ ¬ (s.probeOk n p j 0 ∧ s.probeOk n p j 1) then { old with probeFail := true }
  else
    match margin n w (Tab.get {} v 0), margin n w (Tab.get {} v 2) with
    | some a, some b => s.delivRec n p w a.1 b.1 a.2
    | _, _ => old

/-- DELIV_PROBE_END (R133): the job hands over when both its problems have stopped or it has. DESIGN CHOICE (log 102): `HYD_SEQ` at the
head of `DELIV` is that of the probe's base result whether or not the records were replaced. -/
def execDelivProbeEnd (t : Nat) (s : State) : Out :=
  onIsland .solv t s (fun s =>
    let j := s.job 1
    match s.hyd.snap, s.hyd.probe with
    | some n, some p =>
      if ((j.state = 1 ∧ j.met) ∨ (j.state = 2 ∧ j.reason ≠ some .aborted)) ∧ s.mayEnd 1 then
        (s.handOver 1).modHyd (fun h => { h with probe := none, delivSeq := h.seq, deliv := (List.range 4).map (fun w =>
          if netUsed s.img w then s.delivNext n p j w else {}) })
      else s
    | _, _ => s)

/-- HYD_STALE (R125). -/
def execHydStale (t : Nat) (s : State) : Out :=
  onIsland .solv t s (fun s =>
    if s.model.active.isSome ∧ s.up ∧ ¬ s.hyd.stale ∧ s.hyd.lastPub + s.hydCfg 0x2830 15 * 1000000000 ≤ s.clk.dev then
      let f := ratI (s.hydCfg 0x2830 14) 32768
      (s.modHyd (fun h => { h with stale := true, deliv := h.deliv.map (fun d =>
        { d with a := rounding 20 ((d.a : Rat) * f), b := rounding 20 ((d.b : Rat) * f), derated := true }) })).post
          .solv Code.hydStale 0 [.u32 s.hyd.seq]
    else s)

/-! ## Dictionary (R142) -/

/-- A record of `DELIV`. -/
def Deliv.octets (d : Deliv) : Octets :=
  leBytes 4 d.qMax ++ leInt 4 d.a ++ leInt 4 d.b ++ leInt 2 d.tS0 ++ leInt 2 d.tR ++ leBytes 2 d.index ++ leBytes 2 d.alpha ++
    leInt 4 d.margin ++ leBytes 2 (b2n d.probeFail + 2 * b2n d.derated + 4 * b2n d.short + 8 * b2n d.historic) ++ zeros 6

/-- The entries of `0x2830` as read; none for a stored value. -/
def State.hydRead (s : State) (sub : Nat) : Option Octets :=
  let h := s.hyd
  match sub with
  | 0x20 => some (leBytes 1 h.status)
  | 0x21 => some (leBytes 4 h.seq)
  | 0x22 => some (leBytes 8 h.time)
  | 0x23 => some (leBytes 1 h.iters)
  | 0x24 => some (leBytes 4 h.resid)
  | 0x25 => some (leBytes 4 h.pivots)
  | 0x26 => some h.headsO
  | 0x27 => some h.flowsO
  | 0x28 => some h.tempsO
  | 0x29 => some h.pumpsO
  | 0x2A => some (leBytes 4 h.delivSeq ++ h.deliv.flatMap Deliv.octets)
  | 0x2B => some h.storesO
  | 0x2C => some (leBytes 2 h.consHeld)
  | 0x2D => some (leBytes 2 h.consSat)
  | 0x2E => some (leBytes 4 (parcelCount h.parcels))
  | 0x2F => some (leBytes 4 h.parcelForced)
  | 0x30 => some (leBytes 4 h.cycles)
  | 0x31 => some (leBytes 2 (b2n h.stale + 2 * b2n h.offCurve))
  | _ => none

/-- A source of `STORE_INPUTS` has 0 in its reserved fields (R5, R131): octet 3; `VALUE` of an AI source; the interpolation points of a
channel source; all of them where there is no source. -/
def sourceOk (b : Octets) : Bool :=
  let id := u16At b 0
  decide (u8At b 3 = 0) &&
    (if id < 16 then decide (u8At b 2 = 0)
     else if 0x1000 ≤ id ∧ id < 0x1200 then decide (u8At b 2 < 8) && allZero (slice b 4 4)
     else decide (id = 0xFFFF) && allZero (slice b 2 6))

/-- The bounds between entries of `0x2830` (R142). -/
def State.hydWrite (s : State) (sub : Nat) (b : Octets) : WRes :=
  let v := leNat b
  let p := if sub = 1 then v else s.nat 0x2830 1
  let d := if sub = 4 then v else s.nat 0x2830 4
  let q := if sub = 0x13 then v else s.nat 0x2830 0x13
  WRes.unless (decide (sub = 1 ∨ sub = 4) && decide (9 * p < 10 * d)) 0x0A05 s
    (WRes.unless (decide (sub = 1 ∨ sub = 0x13) && decide (q * 1000 % p ≠ 0)) 0x0A05 s
      (WRes.unless (decide (sub = 0x10) && !(List.range 288).all (fun k => sourceOk (slice b (8 * k) 8))) 0x0A05 s .plain))

end Machine
end Sys2Proof
end

