-- ==== Sys2Proof/Machine/Model.lean ====
section
/-! DEFINITION. Chapter 3's dictionary entries: staging and activation of a model image (R106), recipes and assignments
(R94–R96), tariffs and forecasts (R97, R98), and the entries that read the active image (R111). -/

namespace Sys2Proof
namespace Machine

/-! ## Recipes (R94–R96) -/

/-- A recipe's octets. -/
def State.recipe (s : State) (r : Nat) : Octets := s.oct (0x7000 + r) 1

/-- The recipe assigned to group `g`; 0xFFFF none (R96). -/
def State.assigned (s : State) (g : Nat) : Nat := u16At (s.oct 0x2006 2) (2 * g)

/-- Start of segment `k` of a recipe. -/
def segStart (b : Octets) (k : Nat) : Nat := u16At b (56 + 20 * k)
/-- `F_MIN` and `F_MAX` of band `j` in segment `k`. -/
def segMin (b : Octets) (k j : Nat) : Int := i16At b (60 + 20 * k + 4 * j)
def segMax (b : Octets) (k j : Nat) : Int := i16At b (62 + 20 * k + 4 * j)

/-- A used segment satisfies R95; 1.0 is 2¹⁵ in units of 2⁻¹⁵. -/
def segOk (b : Octets) (bands k : Nat) : Bool :=
  (List.range bands).all (fun j => decide (segMin b k j ≤ segMax b k j)) &&
  decide (sumI ((List.range bands).map (segMin b k)) ≤ 32768) &&
  decide (32768 ≤ sumI ((List.range bands).map (segMax b k))) &&
  allZero (slice b (58 + 20 * k) 2) && allZero (slice b (60 + 20 * k + 4 * bands) (16 - 4 * bands))

/-- A recipe satisfies R94 and R95, and its reserved octets are 0 (R5). -/
def recipeOk (b : Octets) : Bool :=
  let bands := u8At b 1
  let segs := u8At b 2
  decide (u8At b 0 = 1) && decide (1 ≤ bands) && decide (bands ≤ 4) && decide (1 ≤ segs) && decide (segs ≤ 24) &&
  decide (u16At b 4 < u16At b 6) && decide (u16At b 6 ≤ 1440) && decide (segStart b 0 = 0) &&
  (List.range (segs - 1)).all (fun k => decide (segStart b k < segStart b (k + 1))) &&
  decide (segStart b (segs - 1) < 1440) &&
  (List.range segs).all (segOk b bands) &&
  (List.range bands).all (fun j => decide (0 < u16At b (14 + 12 * j)) && allZero (slice b (16 + 12 * j) 4)) &&
  decide (u8At b 3 = 0) && allZero (slice b (8 + 12 * bands) (48 - 12 * bands)) && allZero (slice b (56 + 20 * segs) (480 - 20 * segs))

/-- The groups assigned recipe `r`, as a mask (R111). -/
def State.recipeUsers (s : State) (r : Nat) : Nat :=
  ((List.range 32).map (fun g => if s.assigned g = r then 2 ^ g else 0)).foldl (· + ·) 0

/-- `BANDS` of group `g` in the active image, none where it has no such group. -/
def State.groupBands (s : State) (g : Nat) : Option Nat :=
  if g < secCount s.img 8 then some (u8At (recOf s.img 8 g) 4) else none

/-- A write of recipe `r` changes `BANDS` away from a group it is assigned to (R95). -/
def State.recipeClash (s : State) (r : Nat) (b : Octets) : Bool :=
  decide (u8At b 1 ≠ u8At (s.recipe r) 1) &&
  (List.range 32).any (fun g => decide (s.assigned g = r) &&
    (match s.groupBands g with
     | some n => decide (n ≠ u8At b 1)
     | none => false))

/-- The assignments satisfy R96. -/
def State.assignOk (s : State) (b : Octets) : Bool :=
  (List.range 32).all (fun g =>
    let r := u16At b (2 * g)
    decide (r = 65535) || (decide (r < 256) &&
      (match s.groupBands g with
       | some n => decide (u8At (s.recipe r) 1 = n)
       | none => true)))

/-! ## Tariffs and forecasts (R97, R98) -/

/-- Points of a tariff series. -/
def tarCount (b : Octets) : Nat := u16At b 0
/-- Start (device time) and value of point `k`. -/
def tarPoint (b : Octets) (k : Nat) : Nat × Int := (u64At b (4 + 12 * k), i32At b (12 + 12 * k))

/-- The length of a tariff series fits its count. -/
def tarLen (b : Octets) : Bool := decide (tarCount b ≤ 512) && decide (b.length = 4 + 12 * tarCount b)

/-- Starts increase strictly; series 4 to 7 (04 to 07) hold no negative value; octets 2–3 are reserved. -/
def tarOk (j : Nat) (b : Octets) : Bool :=
  allZero (slice b 2 2) &&
  (List.range (tarCount b - 1)).all (fun k => decide ((tarPoint b k).1 < (tarPoint b (k + 1)).1)) &&
  (decide (j < 3) || decide (j = 7) || (List.range (tarCount b)).all (fun k => decide (0 ≤ (tarPoint b k).2)))

/-- Cut a concatenation into `n` pieces whose lengths their own counts give; none where it does not fit. -/
def cutSeries (lenOf : Octets → Nat) : Nat → Octets → Option (List Octets)
  | 0, b => if b.isEmpty then some [] else none
  | n + 1, b =>
    let l := lenOf b
    if b.length < l then none else (cutSeries lenOf n (b.drop l)).map (fun r => b.take l :: r)

/-- Length of the tariff series at the front. -/
def tarLenOf (b : Octets) : Nat := 4 + 12 * tarCount b
/-- Start, step, count of a forecast series. -/
def fcStart (b : Octets) : Nat := u64At b 0
def fcStep (b : Octets) : Nat := u32At b 8
def fcCount (b : Octets) : Nat := u16At b 12
/-- Length of the forecast series at the front. -/
def fcLenOf (b : Octets) : Nat := 16 + 2 * fcCount b
/-- The length fits the count. -/
def fcLen (b : Octets) : Bool := decide (fcCount b ≤ 384) && decide (b.length = fcLenOf b)
/-- The step of a series with values is 60 to 3600 s; octets 14–15 are reserved. -/
def fcOk (b : Octets) : Bool := allZero (slice b 14 2) && (decide (fcCount b = 0) || (decide (60 ≤ fcStep b) && decide (fcStep b ≤ 3600)))
/-- Value `k` of series `q` (0 temperature, 1 irradiance, 2 PAR). -/
def fcValue (q : Nat) (b : Octets) (k : Nat) : Int :=
  if q = 0 then i16At b (16 + 2 * k) else (u16At b (16 + 2 * k) : Int)
/-- Device time at which a forecast series ends. -/
def fcEnd (b : Octets) : Nat := fcStart b + fcCount b * fcStep b * 1000000000

/-- Device time of the end of the plan horizon (R145): `HORIZON` steps from the next grid boundary's step on. DESIGN CHOICE (log 95):
R111 and R112 do not say which plan's horizon they mean; it is that of a re-plan that would start at the present device time. -/
def State.horizonEnd (s : State) : Nat :=
  let d : Int := s.nat 0x2810 4 * 60000000000
  (s.nextMultiple s.clk.dev d + (s.nat 0x2810 3 - 1 : Nat) * d).toNat

/-- `TARIFF_STATE` (R111). -/
def State.tariffState (s : State) : Nat :=
  ((List.range 8).map (fun j =>
    let b := s.oct 0x2007 (1 + j)
    let n := tarCount b
    (if n = 0 then 2 ^ j else 0) + (if n ≠ 0 ∧ (tarPoint b (n - 1)).1 < s.horizonEnd then 2 ^ (8 + j) else 0))).foldl (· + ·) 0

/-- `FC_STATE` (R112). -/
def State.fcState (s : State) : Nat :=
  ((List.range 3).map (fun q =>
    let b := s.oct 0x2008 (1 + q)
    if fcCount b = 0 then 0
    else 2 ^ q + (if fcEnd b < s.horizonEnd then 2 ^ (3 + q) else 0) +
      (if fcEnd b < s.clk.dev then 2 ^ (6 + q) else 0))).foldl (· + ·) 0

/-! ## Writes -/

/-- An accepted operating input is stored and mirrored (R100). -/
def State.storeInput (s : State) (idx sub : Nat) (b : Octets) : State := (s.store idx sub b).mirror (.input idx sub b)

/-- Store consecutive entries. -/
def State.storeAll (s : State) (idx sub : Nat) : List Octets → State
  | [] => s
  | b :: r => State.storeAll (s.storeInput idx sub b) idx (sub + 1) r

/-- The write of an operating input, given its own check (R100): the checks of length and range come before that of the lease, a state
check of its own after it (R62). -/
def State.inputWrite (s : State) (code : Nat) (bad : Bool) (f : State → State) : WRes :=
  if bad ∧ code ≠ 0x0A06 then .refuse code s else if ¬ s.inputsHeld ∨ bad then .refuse 0x0A06 s else .done (f s)

/-- A write of one tariff series (R97). -/
def State.tariffWrite (s : State) (sub : Nat) (b : Octets) : WRes :=
  if ¬ tarLen b then s.inputWrite 0x0A04 true id
  else s.inputWrite 0x0A05 (!tarOk (sub - 1) b) (fun s => s.storeInput 0x2007 sub b)

/-- A write of all tariff series (R97). -/
def State.tariffAll (s : State) (b : Octets) : WRes :=
  match cutSeries tarLenOf 8 b with
  | none => s.inputWrite 0x0A04 true id
  | some l =>
    if ¬ l.all tarLen then s.inputWrite 0x0A04 true id
    else s.inputWrite 0x0A05 (!(List.range 8).all (fun j => tarOk j (nth [] l j))) (fun s => s.storeAll 0x2007 1 l)

/-- A write of one forecast series (R98). -/
def State.fcWrite (s : State) (sub : Nat) (b : Octets) : WRes :=
  if ¬ fcLen b then s.inputWrite 0x0A04 true id
  else s.inputWrite 0x0A05 (!fcOk b) (fun s => s.storeInput 0x2008 sub b)

/-- A write of all forecast series (R98). -/
def State.fcAll (s : State) (b : Octets) : WRes :=
  match cutSeries fcLenOf 3 b with
  | none => s.inputWrite 0x0A04 true id
  | some l =>
    if ¬ l.all fcLen then s.inputWrite 0x0A04 true id
    else s.inputWrite 0x0A05 (!l.all fcOk) (fun s => s.storeAll 0x2008 1 l)

/-- A write of recipe `r` (R95). -/
def State.recipeWrite (s : State) (r : Nat) (b : Octets) : WRes :=
  if b.length ≠ 536 then s.inputWrite 0x0A04 true id
  else if ¬ recipeOk b then s.inputWrite 0x0A05 true id
  else s.inputWrite 0x0A06 (s.recipeClash r b) (fun s => s.storeInput (0x7000 + r) 1 b)

/-- A write of the assignments (R96). -/
def State.assignWrite (s : State) (b : Octets) : WRes :=
  if b.length ≠ 64 then s.inputWrite 0x0A04 true id
  else s.inputWrite 0x0A05 (!s.assignOk b) (fun s => s.storeInput 0x2006 2 b)

/-- Change the model's staging. -/
def State.modModel (s : State) (f : Model → Model) : State := { s with model := f s.model }

/-- The final write of a model image (R106): it is submitted for validation, and the response is owed. -/
def State.imageWrite (s : State) (b : Octets) : WRes :=
  if s.model.stage.status = 3 ∨ s.model.stage.coming.isSome then .refuse 0x0A09 s
  else .later (s.modModel (fun m => { m with stage := { m.stage with coming := some b } }))

/-- The staged image differs in topology from the active one (R106). -/
def State.topoChange (s : State) : Bool :=
  match s.model.active with
  | some a => decide (imgTopo a ≠ imgTopo s.model.stage.image)
  | none => false

/-- An activation that changes topology is in state 3 (R106). -/
def State.activating (s : State) : Bool := decide (s.model.stage.status = 3) && s.topoChange

/-- A write of `ACTIVATE` (R106); `staging` says whether a segmented write of `IMAGE_STAGE` is open. DESIGN CHOICE (log 94): where the
rows for states 0, 2 and 4 and for an open write both apply the answer is 0x0A09, and so it is while an image is being validated. -/
def State.activate (s : State) (v : Nat) (staging : Bool) : WRes :=
  if v ≠ 0x4D0D then .refuse 0x0A05 s
  else if s.model.stage.status = 3 ∨ staging ∨ s.model.stage.coming.isSome then .refuse 0x0A09 s
  else if s.model.stage.status ≠ 1 then .refuse 0x0A06 s
  else if s.topoChange ∧ s.operating then .refuse 0x0A06 s
  else if imgCrcOk s.model.stage.image then
    .done (s.modModel (fun m => { m with stage := { m.stage with status := 3 } }))
  else
    .done ((s.modModel (fun m => { m with stage := { m.stage with status := 4 } })).post .house Code.modelActivationFailed 0 [.u8 1])

/-- The writes of chapter 3's entries. -/
def State.modelWrite (s : State) (idx sub : Nat) (staging : Bool) (b : Octets) : WRes :=
  if idx = 0x2000 then
    match sub with
    | 1 => s.imageWrite b
    | 3 => s.activate (leNat b) staging
    | _ => .plain
  else if idx = 0x2006 then
    match sub with
    | 2 => s.assignWrite b
    | 3 => s.inputWrite 0x0A05 false (fun s => s.storeInput 0x2006 3 b)
    | _ => .plain
  else if idx = 0x2007 then (if sub ≤ 8 then s.tariffWrite sub b else s.tariffAll b)
  else if idx = 0x2008 then (if sub ≤ 3 then s.fcWrite sub b else s.fcAll b)
  else if 0x7000 ≤ idx ∧ idx < 0x7100 then
    (if sub = 1 then s.recipeWrite (idx - 0x7000) b else s.inputWrite 0x0A05 false (fun s => s.storeInput idx sub b))
  else .plain

/-- Validation of the submitted image ends (R104, R106): the status, fault and index; whether it failed. -/
def State.modelValidated (s : State) : State × Bool :=
  match s.model.stage.coming with
  | none => (s, false)
  | some b =>
    match modelFault s.power.straps.pos (s.nat 0x2810 3) b with
    | none => (s.modModel (fun m => { m with stage := { status := 1, image := b } }), false)
    | some (c, i) => (s.modModel (fun m => { m with stage := { status := 2, fault := c, index := i } }), true)

/-! ## Reads (R111) -/

/-- The entries of chapter 3 as read; none for a stored value. -/
def State.modelRead (s : State) (idx sub : Nat) : Option Octets :=
  let img := s.img
  let m := s.model
  if idx = 0x2000 then
    match sub with
    | 1 => some m.stage.image
    | 2 => some img
    | 3 => some (leBytes 4 (b2n (decide (m.stage.status = 3))))
    | 4 => some (leBytes 1 m.stage.status)
    | 5 => some (leBytes 2 m.stage.fault)
    | 6 => some (leBytes 4 m.stage.index)
    | 7 => some (leBytes 4 m.gen)
    | 8 => some (leBytes 4 (if m.active.isSome then imgCrc img else 0))
    | 9 => some (leBytes 4 (imgTopo img))
    | 10 => some (leBytes 4 (imgTopo m.stage.image))
    | 11 => some (leBytes 8 m.switched)
    | 12 => some (section_ img 0)
    | 13 => some (slice img 28 28)
    | _ => none
  else if idx = 0x2001 then some (section_ img 1)
  else if idx = 0x2002 then some (section_ img (if sub < 4 then sub + 1 else 10))
  else if idx = 0x2003 then some (section_ img 5)
  else if idx = 0x2004 then some (section_ img (sub + 5))
  else if idx = 0x2005 then some (section_ img 9)
  else if idx = 0x2006 ∧ sub = 1 then some (section_ img 8)
  else if idx = 0x2007 then
    match sub with
    | 9 => some ((List.range 8).flatMap (fun j => s.oct 0x2007 (1 + j)))
    | 10 => some (leBytes 2 s.tariffState)
    | _ => none
  else if idx = 0x2008 then
    match sub with
    | 4 => some ((List.range 3).flatMap (fun q => s.oct 0x2008 (1 + q)))
    | 5 => some (leBytes 2 s.fcState)
    | _ => none
  else if idx = 0x2009 then some (section_ img 11)
  else if 0x7000 ≤ idx ∧ idx < 0x7100 ∧ sub = 3 then some (leBytes 4 (s.recipeUsers (idx - 0x7000)))
  else none

end Machine
end Sys2Proof
end

