-- ==== Sys2Proof/Machine/Estim.lean ====
section
/-! DEFINITION. What is sampled at every hydraulic period, the estimator (R135–R143), the demand profiles (R151, R152) and the DLI
accumulators (R159). Learned values are kept in the units of their entries; where a formula of the manual gives a real number,
`rounding` gives the integer kept. -/

namespace Sys2Proof
namespace Machine

/-- Change the estimator, the dispatch state. -/
def State.modEstim (s : State) (f : Estim → Estim) : State := { s with estim := f s.estim }
def State.modDisp (s : State) (f : Disp → Disp) : State := { s with disp := f s.disp }

/-- A demand channel: HEAT_SUB or COLD_SUB. -/
def State.isDemand (s : State) (c : Nat) : Bool := decide (s.chanType c = 1) || decide (s.chanType c = 2)

/-! ## Demand profiles -/

/-- Profile slot of a device time (R151): 7 weekdays × 96 quarter-hours. -/
def State.slotOf (s : State) (dev : Int) : Nat := s.weekdayAt dev * 96 + ((s.ofDay dev) / 900000000000).toNat

/-- Base (kW) and sensitivity (kW/K) of a channel's slot; channel 512 is the residual profile. -/
def Disp.profile (d : Disp) (c slot : Nat) : Rat × Rat :=
  (ratI (Tab.get 0 d.profB (672 * c + slot)) 1000000, ratI (Tab.get 0 d.profS (672 * c + slot)) 1000000)

/-- The METER channel of a role (R92), if any. -/
def State.meterOf (s : State) (role : Nat) : Option Nat :=
  (List.range 512).find? (fun c => decide (s.chanType c = 6) && decide ((s.chanOf c).element = role))
/-- The quantity a METER channel of a role last reported; none without one. -/
def State.meterVal (s : State) (role : Nat) : Option Rat :=
  match s.meterOf role with
  | some c => if (s.chan c).got then (let v := s.chanValue c 0; some (wordVal v.1 v.2)) else none
  | none => none
/-- The outdoor temperature as measured, °C: 10 °C without a channel (R152). -/
def State.outdoorNow (s : State) : Rat := (s.meterVal 0).getD 10

/-- Measured thermal power of a demand channel in a period, W (R137). -/
def HydSnap.chanPower (n : HydSnap) (c : Nat) : Rat := heatCap * n.chan c 0 * absQ (n.chan c 1 - n.chan c 2)

/-- The quantity a METER channel of a role last reported at a period's snapshot; none without one. -/
def State.meterIn (s : State) (n : HydSnap) (role : Nat) : Option Rat :=
  match s.meterOf role with
  | some c => if n.got c then some (n.chan c 0) else none
  | none => none
/-- The outdoor temperature at a period's snapshot. -/
def State.outdoorIn (s : State) (n : HydSnap) : Rat := (s.meterIn n 0).getD 10

/-- Active power of a connection point over its last window, W. -/
def State.cpPower (s : State) (c : Nat) : Int :=
  let m := (Tab.get {} s.metr.cps c).meas
  sumI ((List.range 3).map (fun p => i32At m (24 + 24 * p)))

/-- The residual electric load, W (R151): the net import of the connection points, less the modelled loads and generation as their
channels report them. -/
def State.residualLoad (s : State) (n : HydSnap) : Rat :=
  let net := sumI ((List.range 4).map s.cpPower)
  let ch := (List.range 512).foldl (fun (a : Rat) (c : Nat) =>
    let v := fun (k : Nat) => n.chan c k * 1000
    match s.chanType c with
    | 4 => a + v 4
    | 3 => a - (v 0 + v 1 + v 2 + v 3)
    | 5 => if (s.chanOf c).battery then a - v 0 else a
    | _ => a) 0
  ratI net 1 + ch

/-! ## Samples of a period -/

/-- Add to a tabulated pair of a count and a sum. -/
def addPair (t : Tab (Nat × Int)) (k : Nat) (v : Int) : Tab (Nat × Int) :=
  let o : Nat × Int := Tab.get (0, 0) t k
  Tab.insert t k (o.1 + 1, o.2 + v)

/-- Curve value of a plant at output q (kW): `f` 1 electric power, 2 fuel (R87). -/
def curveAt (r : Octets) (f : Nat) (q : Rat) : Rat :=
  let n := u8At r 7
  let pt := fun (k : Nat) => (let p := curvePt r k; (ratI p.1 1, ratI (if f = 1 then p.2.1 else p.2.2) 1))
  let seg := ((List.range n).filter (fun k => decide (1 ≤ k) && decide (q ≤ (pt k).1))).head?.getD (n - 1)
  let a := pt (seg - 1)
  let b := pt seg
  if b.1 = a.1 then a.2 else a.2 + (q - a.1) * (b.2 - a.2) / (b.1 - a.1)

/-- A plant's sample of a period: m and c of R138 in W, where the plant runs above breakpoint 0. -/
def State.plantSample (s : State) (n : HydSnap) (p : Nat) : Option (Rat × Rat) :=
  let r := recOf s.img 5 p
  let c := u16At r 10
  if ¬ n.fresh c then none
  else
    let v := n.chan c
    if v 3 ≤ ratI (curvePt r 0).1 1 then none
    else if u8At r 6 = 1 then some (v 5 * 1000, curveAt r 2 (v 3) * 1000)
    else some (absQ (v 4) * 1000, absQ (curveAt r 1 (v 3)) * 1000)

/-- The residual of a demand channel against its profile, W (R137). -/
def State.biasSample (s : State) (n : HydSnap) (c : Nat) : Int :=
  let p := s.disp.profile c (s.slotOf n.start)
  let x := s.outdoorIn n - ratI (s.num 0x2800 10) 100
  rounding 21 (n.chanPower c - (p.1 + p.2 * x) * 1000)

/-- The node end whose water a channel measures, and the value that measures it (R135): the supply node of a HEAT_SUB or COLD_SUB
channel, value 1; the return node of a plant whose cross branch passes water to the return side, value 2 (its outlet; log 103). -/
def State.measures (s : State) (c : Nat) : Option ((Nat × Nat) × Nat) :=
  let r := s.chanOf c
  if s.isDemand c then some ((r.node, 0), 1)
  else if r.type = 4 ∧ 0 < s.pubFlow r.branch false then some ((brFrom s.img r.branch, 1), 2)
  else none

/-- A temperature sample of a period: measured less modelled, mK. -/
def State.tempSample (s : State) (n : HydSnap) (c : Nat) : Option Int :=
  match s.measures c with
  | some (e, k) => if n.fresh c then some (rounding 21 ((n.chan c k - degC (Tab.get 0 s.hyd.nodeT (2 * e.1 + e.2))) * 1000)) else none
  | none => none

/-- A period's samples enter the estimation window (R135–R138). -/
def State.estimSample (s : State) (n : HydSnap) (published : Bool) : State :=
  let w := s.estim.win
  let chans := (List.range 512).foldl (fun (t : Tab (Nat × Int)) c =>
    if s.isDemand c ∧ n.fresh c then addPair t c (s.biasSample n c) else t) w.chans
  let plants := (List.range (secCount s.img 5)).foldl (fun (t : Tab (Nat × Int × Int)) p =>
    match s.plantSample n p with
    | some x =>
      let o : Nat × Int × Int := Tab.get (0, 0, 0) t p
      Tab.insert t p (o.1 + 1, o.2.1 + rounding 21 (x.2 * x.1), o.2.2 + rounding 21 (x.2 * x.2))
    | none => t) w.plants
  let temps := (List.range 512).foldl (fun (t : Tab (Nat × Int × Nat)) c =>
    match s.tempSample n c with
    | some r =>
      let o : Nat × Int × Nat := Tab.get (0, 0, 0) t c
      Tab.insert t c (o.1 + 1, o.2.1 + r, o.2.2 + r.natAbs * r.natAbs)
    | none => t) w.temps
  let copies := (List.range (secCount s.img 2)).flatMap (fun b => (copiesOf s.img b).map (fun r => (b, r)))
  let flows := copies.foldl (fun (t : Tab Nat) (c : Nat × Bool) =>
    let k := 2 * c.1 + b2n c.2
    Tab.insert t k (Tab.get 0 t k + (rounding 13 (absQ (s.pubFlow c.1 c.2) * 1000000)).toNat)) w.flows
  let copyT := copies.foldl (fun (t : Tab Int) (c : Nat × Bool) =>
    let k := 2 * c.1 + b2n c.2
    Tab.insert t k (Tab.get 0 t k + s.copyTemp k / 1000)) w.copyT
  s.modEstim (fun e => { e with win := { w with periods := w.periods + 1, published := w.published + b2n published, chans := chans,
                                                plants := plants, temps := temps, flows := flows, copyT := copyT } })

/-- A period's samples enter the quarter-hour (R152). -/
def State.quarterSample (s : State) (n : HydSnap) : State :=
  let q := s.disp.quarter
  let chans := (List.range 512).foldl (fun (t : Tab (Nat × Int)) c =>
    if s.isDemand c ∧ n.fresh c then addPair t c (rounding 21 (n.chanPower c)) else t) q.chans
  let mean := fun (role : Nat) => (rounding 21 ((s.meterIn n role).getD 0)).toNat
  s.modDisp (fun d => { d with quarter := { q with
    start := if q.periods = 0 then n.start else q.start,
    periods := q.periods + 1, chans := addPair chans 512 (rounding 21 (s.residualLoad n)),
    outdoor := q.outdoor + rounding 21 (s.outdoorIn n * 100), irr := q.irr + mean 1, par := q.par + mean 2 } })

/-! ## DLI accumulators (R159) -/

/-- A snapshotted entry. -/
def snapVal (vals : Tab Val) (idx sub : Nat) : Val := (Tab.find vals (key idx sub)).getD (dfltOf (key idx sub))

/-- A light group's recipe in a period, none where it has none: the assignments and recipes of the period's snapshot (R99), of which a
change takes effect at the next re-plan (R96). -/
def HydSnap.groupRecipe (n : HydSnap) (g : Nat) : Option Octets :=
  let a := u16At (snapVal n.light 0x2006 2).octs (2 * g)
  if a < 256 then some (snapVal n.light (0x7000 + a) 1).octs else none

/-- Minutes of the light day at a device time (R93). -/
def State.lightMinute (s : State) (dev : Int) : Int :=
  ((s.ofDay dev) / 60000000000 + 1440 - s.num 0x2006 3).emod 1440

/-- A period's start lies in a recipe's photoperiod. -/
def State.lit (s : State) (n : HydSnap) (b : Octets) : Bool :=
  let m := ((s.ofDay n.start) / 60000000000 + 1440 - (snapVal n.vals 0x2006 3).toInt).emod 1440
  decide ((u16At b 4 : Int) ≤ m) && decide (m < (u16At b 6 : Int))

/-- What a group and band gain in `dt` seconds, in 10⁻⁹ mol/m². -/
def State.dliGain (s : State) (n : HydSnap) (b : Octets) (g k : Nat) (dt : Rat) : Int :=
  let r := recOf s.img 8 g
  let p := s.planValue (0x0C0 + 4 * g + k)
  let lamp := ratI (u16At b (14 + 12 * k)) 1000 * (wordVal p.1 p.2 * 1000) / ratN (u32At r 8)
  let sun := if s.lit n b then
      (s.meterIn n 2).getD 0 * ratI (i16At r 12) 32768 * ratI (i16At r (18 + 8 * k)) 32768 else 0
  rounding 24 ((lamp + sun) * dt * 1000)

/-- The accumulators integrate over a period. -/
def State.dliStep (s : State) (n : HydSnap) (dt : Rat) : State :=
  let one := fun (t : Tab Int) (g : Nat) =>
    match n.groupRecipe g with
    | some b => (List.range (u8At (recOf s.img 8 g) 4)).foldl (fun (t : Tab Int) k =>
        Tab.put 0 t (4 * g + k) (Tab.get 0 t (4 * g + k) + s.dliGain n b g k dt)) t
    | none => t
  s.modDisp (fun d => { d with dli := (List.range (secCount s.img 8)).foldl one d.dli })

/-- LIGHT_DAY_START (R96): at `0x2006.03` minutes after midnight the accumulators reset. -/
def execLightDayStart (t : Nat) (s : State) : Out :=
  onIsland .house t s (fun s => if s.lightMinute s.clk.dev = 0 then s.modDisp (fun d => { d with dli := [] }) else s)

/-- HYD_JOB_END (R123): the result is judged, published or refused; the thermal step; the probe job; the period's samples. -/
def execHydJobEnd (t : Nat) (s : State) : Out :=
  onIsland .solv t s (fun s =>
    match s.hyd.snap with
    | none => s
    | some n =>
      match s.hydEnd n (s.job 0) with
      | none => s
      | some st =>
        if ¬ s.mayEnd 0 then s
        else ((((s.hydFinish n (s.job 0) st).hydProbe n).estimSample n (decide (st ≤ 4))).quarterSample n).dliStep n (ratI (snapNat n.vals 0x2830 1) 1000))

/-- The slot of a channel takes the quarter-hour just ended (R152). -/
def State.profileSlot (s : State) (slot c : Nat) : State :=
  let q := s.disp.quarter
  let e : Nat × Int := Tab.get (0, 0) q.chans c
  if e.1 = 0 ∨ 2 * e.1 < q.periods ∨ (c < 512 ∧ ¬ s.isDemand c) then s
  else
    let y := ratI e.2 e.1 / 1000
    let x := ratI q.outdoor (100 * q.periods) - ratI (s.num 0x2800 10) 100
    let m := ratN (s.nat 0x2800 11 * 672)
    let p := s.disp.profile c slot
    let err := y - (p.1 + p.2 * x)
    let b := rounding 23 ((p.1 + err / (m + 1)) * 1000000)
    let v := rounding 23 ((p.2 + err * x / ((m + 1) * (x * x + 25))) * 1000000)
    let v := if c = 512 then 0 else if s.chanType c = 1 then min v 0 else max v 0
    s.modDisp (fun d => { d with profB := Tab.put 0 d.profB (672 * c + slot) b, profS := Tab.put 0 d.profS (672 * c + slot) v })

/-- A poisoned profile word takes the slot's initial value, and the loss is logged (R37, R151). -/
def State.profileLost (s : State) (x : Nat × Nat) : State :=
  let k := 672 * x.1 + x.2
  let s := s.modDisp (fun d => { d with profB := Tab.erase d.profB k, profS := Tab.erase d.profS k })
  (s.post .solv Code.profileLost 0 [.u16 (if x.1 = 512 then 0xFFFF else x.1), .u16 x.2]).dataLoss .solv 3 k 0xFFFF

/-- The quarter-hour's statistics close. -/
def State.quarterEnd (s : State) : State :=
  let q := s.disp.quarter
  let mean := fun (v : Nat) => if q.periods = 0 then 0 else v / q.periods
  let push := fun (l : List Nat) (v : Nat) => (l ++ [v]).drop (l.length + 1 - 96)
  s.modDisp (fun d => { d with quarter := {}, irr24 := push d.irr24 (mean q.irr), par24 := push d.par24 (mean q.par) })

/-- A calendar quarter-hour has ended since the first sample of the statistics was taken (R152). -/
def State.quarterOver (s : State) : Bool :=
  decide (0 < s.disp.quarter.periods) && decide (0 < s.multiplesIn s.disp.quarter.start s.clk.dev 900000000000)

/-- PROFILE_UPDATE (R152): the quarter-hour just ended; `lost` are the poisoned profile words it met (channel, slot; R151). -/
def execProfileUpdate (t : Nat) (lost : List (Nat × Nat)) (soft : Nat) (s : State) : Out :=
  onIsland .solv t s (fun s =>
    if ¬ s.quarterOver then s
    else
      let s := s.softSubsoil soft
      let s := (lost.filter (fun x => decide (x.1 < 513) && decide (x.2 < 672))).foldl State.profileLost s
      let qs := (List.range 513).foldl (fun s c => s.profileSlot (s.slotOf s.disp.quarter.start) c) s
      qs.quarterEnd)

/-! ## The estimator -/

/-- The other lanes do not run the estimator while a holder exists (R141). -/
def State.estimates (s : State) : Bool :=
  s.inputsHeld || !(s.lease.peers.any (fun e => decide (e.2.role = 2) && !e.2.silent))

/-- Σ, and held or clamped counts of a run. -/
structure EstCount where
  updated : Nat := 0
  held : Nat := 0
  clamped : Nat := 0

/-- A channel's learned daily peak, W: the largest base of its profile. -/
def Disp.peak (d : Disp) (c : Nat) : Int :=
  (List.range 672).foldl (fun (m : Int) k => max m (Tab.get 0 d.profB (672 * c + k) / 1000)) 0

/-- The bias update of a channel (R137). -/
def State.biasUpdate (s : State) (r : State × EstCount) (c : Nat) : State × EstCount :=
  let e : Nat × Int := Tab.get (0, 0) s.estim.win.chans c
  if ¬ s.isDemand c then r
  else if e.1 < s.hydCfg 0x2840 11 then (r.1, { r.2 with held := r.2.held + 1 })
  else
    let o := Tab.get 0 s.estim.bias c
    let v := rounding 22 ((o : Rat) + (ratI e.2 e.1 - (o : Rat)) / ratN (s.hydCfg 0x2840 7 + 1))
    let p := s.disp.peak c / 2
    let w := clampI (-p) p v
    (r.1.modEstim (fun x => { x with bias := Tab.put 0 x.bias c w }),
     { r.2 with updated := r.2.updated + 1, clamped := r.2.clamped + b2n (decide (w ≠ v)) })

/-- As `hydCfg`, of an entry of octets. -/
def State.hydOct (s : State) (idx sub : Nat) : Octets :=
  match s.hyd.snap with
  | some n => (snapVal n.vals idx sub).octs
  | none => s.oct idx sub

/-- A range entry of two U16. -/
def rangeOf (b : Octets) : Int × Int := (u16At b 0, u16At b 2)

/-- A step clamped, then the result clamped (R136, R138): the new value, and whether a clamp was met. -/
def clampStep (old step maxStep lo hi : Int) : Int × Bool :=
  let d := clampI (-maxStep) maxStep step
  let v := clampI lo hi (old + d)
  (v, decide (d ≠ step) || decide (v ≠ old + d))

/-- The drift update of a plant (R138). -/
def State.driftUpdate (s : State) (r : State × EstCount) (p : Nat) : State × EstCount :=
  let e : Nat × Int × Int := Tab.get (0, 0, 0) s.estim.win.plants p
  if e.1 < s.hydCfg 0x2840 11 ∨ e.2.2 = 0 then (r.1, { r.2 with held := r.2.held + 1 })
  else
    let o := Tab.get 1000 s.estim.drift p
    let th := (e.2.1 : Rat) * 1000 / (e.2.2 : Rat)
    let st := rounding 22 ((th - (o : Rat)) / ratN (s.hydCfg 0x2840 8 + 1))
    let lim := rangeOf (s.hydOct 0x2840 10)
    let v := clampStep o st ((s.hydCfg 0x2840 9 : Int)) lim.1 lim.2
    (r.1.modEstim (fun x => { x with drift := Tab.put 1000 x.drift p v.1 }),
     { r.2 with updated := r.2.updated + 1, clamped := r.2.clamped + b2n v.2 })

/-! ### Loss groups (R135) -/

/-- How many pipes a node joins. -/
def pipesAt (img : Octets) (n : Nat) : Nat :=
  ((List.range (secCount img 2)).filter (fun b => decide (brKind img b = 0) && (decide (brFrom img b = n) || decide (brTo img b = n)))).length

/-- Label propagation along the chains: each pipe takes the least label of the pipes it meets at a node of exactly two pipes. -/
def groupStep (img : Octets) (l : Tab Nat) : Tab Nat :=
  l.map (fun (e : Nat × Nat) =>
    let meets := l.filter (fun (o : Nat × Nat) =>
      [brFrom img e.1, brTo img e.1].any (fun n => decide (pipesAt img n = 2) && (decide (brFrom img o.1 = n) || decide (brTo img o.1 = n))))
    (e.1, meets.foldl (fun (m : Nat) (o : Nat × Nat) => min m o.2) e.2))

/-- Loss groups: pipe and the least pipe of its chain. -/
def groupsN (img : Octets) : Nat → Tab Nat → Tab Nat
  | 0, l => l
  | n + 1, l => let m := groupStep img l; if m = l then l else groupsN img n m
def lossGroups (img : Octets) : Tab Nat :=
  let ps := (List.range (secCount img 2)).filter (fun b => decide (brKind img b = 0))
  groupsN img ps.length (ps.map (fun b => (b, b)))

/-- The branch copies entering a node's side under the published flows, with their window-mean flow; cross branches end a path. -/
def State.entering (s : State) (n side : Nat) : List ((Nat × Bool) × (Nat × Nat) × Nat) :=
  (List.range (secCount s.img 2)).flatMap (fun b => (copiesOf s.img b).filterMap (fun ret =>
    let e := brEnds s.img b ret
    let fwd := decide (0 ≤ s.pubFlow b ret)
    let up := if fwd then e.1 else e.2
    let down := if fwd then e.2 else e.1
    if down = (n, side) ∧ s.pubFlow b ret ≠ 0 then some ((b, ret), up, Tab.get 0 s.estim.win.flows (2 * b + b2n ret)) else none))

/-- The dominant path upstream of a node's side (R135): the copies it takes. -/
def State.pathUp (s : State) : Nat → Nat × Nat → List (Nat × Bool)
  | 0, _ => []
  | k + 1, p =>
    let best := (s.entering p.1 p.2).foldl (fun (o : Option ((Nat × Bool) × (Nat × Nat) × Nat)) x =>
      match o with
      | some y => if y.2.2 < x.2.2 then some x else o
      | none => some x) none
    match best with
    | none => []
    | some x => if brCross s.img x.1.1 then [] else x.1 :: s.pathUp k x.2.1

/-- The path of a measured channel (R135). -/
def State.chanPath (s : State) (c : Nat) : List (Nat × Bool) :=
  match s.measures c with
  | some (e, _) => s.pathUp (2 * secCount s.img 1) e
  | none => []

/-- Samples per loss group over the measured paths. -/
def State.groupSamples (s : State) : Tab Nat :=
  let gs := lossGroups s.img
  s.estim.win.temps.foldl (fun (t : Tab Nat) (e : Nat × Nat × Int × Nat) =>
    let hit := ((s.chanPath e.1).filterMap (fun b => Tab.find gs b.1)).foldl (fun (l : List Nat) g => insRising g l) []
    hit.foldl (fun (t : Tab Nat) g => Tab.insert t g (Tab.get 0 t g + e.2.1)) t) []

/-- Insert a group into a ranking by samples, then number. -/
def rankIn (x : Nat × Nat) : List (Nat × Nat) → List (Nat × Nat)
  | [] => [x]
  | y :: r => if y.2 < x.2 then x :: y :: r else y :: rankIn x r

/-- The groups solved together, highest ranked first (R135). -/
def State.solvedGroups (s : State) : List Nat :=
  (((s.groupSamples.filter (fun e => decide (s.hydCfg 0x2840 11 ≤ e.2))).foldl (fun (l : List (Nat × Nat)) e => rankIn e l) []).take 1024).map (·.1)

/-- The learned record is written (R140, R541), and the values mirrored (R141). -/
def State.learnedSave (s : State) : State :=
  let r : LearnedRec := { topo := imgTopo s.img, taken := s.clk.dev, loss := s.estim.loss, bias := s.estim.bias, drift := s.estim.drift,
                          profB := s.disp.profB, profS := s.disp.profS }
  ({ s with keep := { s.keep with learned := s.keep.learned.write r } }).mirror
    (.learned s.estim.loss s.estim.bias s.estim.drift s.disp.profB s.disp.profS)

/-- F and the supply-copy flows of the window enter the 7-day record (R132). -/
def State.windowHistory (s : State) (stop : Nat) : State :=
  let w := s.estim.win
  if w.periods = 0 then s
  else
    let mean := fun (b : Nat) => Tab.get 0 w.flows (2 * b) / w.periods
    let ent := (List.range 4).filterMap (fun n =>
      if netUsed s.img n then
        some (stop, n, ((consumers s.img n).map mean).foldl (· + ·) 0, (consumers s.img n).foldl (fun (t : Tab Nat) b => Tab.insert t b (mean b)) [])
      else none)
    s.modHyd (fun h => { h with history := (h.history.filter (fun x => decide (stop ≤ x.1 + 604800000000000))) ++ ent })

/-- The sensitivity of a measured temperature to the multipliers of groups (R135), K per unit: window-mean temperature and residence
time of each copy on its path, θ = C_V·A/U. A copy with no flow in the window, or no loss, gives its limit. -/
def State.lossRow (s : State) (groups : List Nat) (c : Nat) : List Rat :=
  let gs := lossGroups s.img
  let w := s.estim.win
  let path := s.chanPath c
  groups.map (fun g => -(sumQ (path.map (fun (x : Nat × Bool) =>
    if Tab.find gs x.1 ≠ some g then 0
    else
      let k := 2 * x.1 + b2n x.2
      let tb := ratI (Tab.get 0 w.copyT k) (1000 * w.periods)
      let tg := degC (groundT s.img (brNet s.img x.1))
      let u := brLossU s.img x.1 * ratI (s.lossMult x.1) 1000
      let area := piDev * brDia s.img x.1 * brDia s.img x.1 / 4
      let q := ratI ((Tab.get 0 w.flows k : Nat) : Int) (1000000 * w.periods)
      let tau := area * brLen s.img x.1 / q
      (tb - tg) * (1 - (if q = 0 then (if u = 0 then 1 else 0) else expDev (-(tau * u) / (heatCap * area))))))))

/-- The inputs of a loss job (R135). DEDUCED (log 104): every sample is a measurement of its own, with the sensitivity of its window. -/
def State.takeLoss (s : State) (groups : List Nat) : LossJob :=
  let lim := rangeOf (s.hydOct 0x2840 6)
  { groups := groups,
    rows := s.estim.win.temps.map (fun (e : Nat × Nat × Int × Nat) => (e.2.1, ratI e.2.2.1 1000, ratI e.2.2.2 1000000, s.lossRow groups e.1)),
    sigmaLambda := s.hydCfg 0x2840 3, tempSigma := s.hydCfg 0x2840 4, maxStep := (s.hydCfg 0x2840 5 : Int), lo := lim.1, hi := lim.2 }

/-- 1/σ² of `TEMP_SIGMA` and of `SIGMA_LAMBDA`. -/
def LossJob.weight (l : LossJob) : Rat := 10000 / (ratN l.tempSigma * ratN l.tempSigma)
def LossJob.prior (l : LossJob) : Rat := 1000000 / (ratN l.sigmaLambda * ratN l.sigmaLambda)

/-- Entry (i, j) of JᵀWJ + P, entry i of JᵀW·r. -/
def LossJob.entry (l : LossJob) (i j : Nat) : Rat :=
  sumQ (l.rows.map (fun x => ratN x.1 * l.weight * x.2.2.2.getD i 0 * x.2.2.2.getD j 0)) + (if i = j then l.prior else 0)
def LossJob.rhs (l : LossJob) (i : Nat) : Rat := sumQ (l.rows.map (fun x => l.weight * x.2.2.2.getD i 0 * x.2.1))

/-- The one iteration of a loss job (R135): the dense LDLᵀ of JᵀWJ + P in the natural order, and its solve; vector 0 is Δλ. -/
def LossJob.prims (l : LossJob) : List Prim :=
  let n := l.groups.length
  [.matrix 0 ((List.range n).map (fun j => ((List.range (n - j)).map (fun i => j + i), (List.range (n - j)).map (fun i => l.entry (j + i) j)))) (-10),
   .factor 0 0 (-10),
   .values ⟨1, none, -10⟩ ((List.range n).map l.rhs),
   .solve ⟨0, none, -31⟩ 0 1 (-10) (-31)]

/-- The status and counts of a run that is complete but for its loss job. -/
def State.estimDone (s : State) (c : EstCount) (st : Nat) : State :=
  (s.modEstim (fun e => { e with status := st, updated := c.updated, heldN := c.held, clamped := c.clamped })).learnedSave

/-- The biases and drifts of a run. -/
def State.estimUpdates (s : State) : State × EstCount :=
  let en := s.hydCfg 0x2840 2
  let r := if bitOf en 1 then (List.range 512).foldl (fun r c => s.biasUpdate r c) (s, {}) else (s, {})
  if bitOf en 2 then (List.range (secCount s.img 5)).foldl (fun r p => s.driftUpdate r p) r else r

/-- A run over the window just ended (R135–R140). -/
def State.estimRun (s : State) (stop : Nat) : State :=
  let w := s.estim.win
  let groups := s.solvedGroups
  let allG := ((lossGroups s.img).filter (fun e => decide (e.1 = e.2))).length
  let s1 := (s.windowHistory stop).modEstim (fun e => { e with seq := (e.seq + 1) % 4294967296, time := stop, rms := e.rms })
  let fresh := fun (x : State) => x.modEstim (fun e => { e with win := { start := stop } })
  if s.estim.reset then
    fresh ((s1.modEstim (fun e => { e with loss := [], bias := [], drift := [], reset := false })).estimDone {} 1)
  else if w.periods = 0 ∨ 2 * w.published < w.periods then fresh (s1.modEstim (fun e => { e with status := 4 })).learnedSave
  else
    let r := s1.estimUpdates
    let c := r.2
    let c := if bitOf (s.hydCfg 0x2840 2) 0 then { c with held := c.held + (allG - groups.length) } else c
    let x := r.1.estimDone c (if c.held = 0 then 1 else 2)
    if bitOf (s.hydCfg 0x2840 2) 0 ∧ groups ≠ [] then
      ((x.submitJob 3 (stop + s.hydCfg 0x2840 12 * 1000000000)).modEstim (fun e => { e with lossJob := some (s.takeLoss groups), win := { start := stop } }))
    else fresh x

/-- The other lanes keep their window's flows for the probes (R132) and run nothing (R141). -/
def State.windowOnly (s : State) (stop : Nat) : State :=
  (s.windowHistory stop).modEstim (fun e => { e with win := { start := stop } })

/-- ESTIM_RUN (R135). -/
def execEstimRun (t : Nat) (s : State) : Out :=
  onIsland .solv t s (fun s =>
    let p := s.hydCfg 0x2840 1 * 1000000000
    let stop := s.clk.dev / p * p
    if s.model.active.isSome ∧ s.up ∧ ¬ s.power.jobsHeld ∧ s.estim.win.start < stop then
      (if s.estimates then s.estimRun stop else s.windowOnly stop)
    else s)

/-- The multipliers of a loss job's solution (R136): vector 0 holds Δλ of the groups in rank order; the number clamped, and the RMS
temperature residual after the update (R143). -/
def State.lossApply (s : State) (l : LossJob) (it : Tab Vec) : State × Nat :=
  let gs := lossGroups s.img
  let idx := List.range l.groups.length
  let new := idx.map (fun i => clampStep (s.lossMult (l.groups.getD i 0)) (rounding 22 ((Tab.get {} it 0).val i * 1000)) l.maxStep l.lo l.hi)
  let step := idx.map (fun i => ratI ((new.getD i (0, false)).1 - s.lossMult (l.groups.getD i 0)) 1000)
  let fit := l.rows.map (fun x => (x, sumQ ((x.2.2.2.zip step).map (fun y => y.1 * y.2))))
  let n : Nat := (l.rows.map (·.1)).foldl (· + ·) 0
  let sq := sumQ (fit.map (fun y => y.1.2.2.1 - 2 * y.2 * y.1.2.1 + ratN y.1.1 * y.2 * y.2))
  let loss := idx.foldl (fun (t : Tab Int) i =>
    (gs.filter (fun e => decide (e.2 = l.groups.getD i 0))).foldl (fun (t : Tab Int) e => Tab.put 1000 t e.1 (new.getD i (0, false)).1) t) s.estim.loss
  (s.modEstim (fun e => { e with loss := loss, rms := if n = 0 then 0 else (rounding 22 (sqrtDev (sq / ratN n) * 1000)).toNat % 65536 }),
   (new.filter (·.2)).length)

/-- The solution of a loss job is applied (R136). -/
def State.lossEnd (s : State) (l : LossJob) (j : Job) : State :=
  let r := s.lossApply l (j.done.getD [])
  ((r.1.handOver 3).modEstim (fun e => { e with lossJob := none, updated := e.updated + l.groups.length, clamped := e.clamped + r.2 })).learnedSave

/-- ESTIM_LOSS_END (R139): the loss job is not iterative: its one iteration completes it; ended at its deadline without one, or by an
overflow, it is skipped. -/
def execEstimLossEnd (t : Nat) (s : State) : Out :=
  onIsland .solv t s (fun s =>
    let j := s.job 3
    match s.estim.lossJob with
    | none => s
    | some l =>
      if ¬ s.mayEnd 3 then s
      else if ¬ s.estimates ∧ j.alive then
        { (s.handOver 3).modEstim (fun e => { e with lossJob := none }) with lease := { s.lease with discarded := true } }
      else if (j.state = 1 ∧ j.met) ∨ (j.state = 2 ∧ j.reason = some .complete) then s.lossEnd l j
      else if j.state = 2 ∧ j.reason ≠ some .aborted then
        ((s.handOver 3).modEstim (fun e => { e with lossJob := none, status := 3 })).learnedSave
      else s)

/-! ## Dictionary (R143) -/

/-- The entries of `0x2840` as read. -/
def State.estimRead (s : State) (sub : Nat) : Option Octets :=
  let e := s.estim
  match sub with
  | 0x0D => some (leBytes 4 (b2n e.reset))
  | 0x20 => some (leBytes 1 e.status)
  | 0x21 => some (leBytes 4 e.seq)
  | 0x22 => some (leBytes 8 e.time)
  | 0x23 => some (leBytes 4 e.seq ++ (List.range (secCount s.img 2)).flatMap (fun b =>
      leInt 2 (if brKind s.img b = 0 then s.lossMult b else 0)))
  | 0x24 => some (leBytes 4 e.seq ++ (List.range 512).flatMap (fun c => leInt 4 (Tab.get 0 e.bias c)))
  | 0x25 => some (leBytes 4 e.seq ++ (List.range 64).flatMap (fun p => leInt 2 (Tab.get 1000 e.drift p)))
  | 0x26 => some (leBytes 4 e.updated ++ leBytes 4 e.heldN ++ leBytes 4 e.clamped)
  | 0x27 => some (leBytes 2 e.rms)
  | _ => none

/-- Writes of `0x2840`: `ESTIM_RESET` (R140). -/
def State.estimWrite (s : State) (sub : Nat) (b : Octets) : WRes :=
  if sub = 0x0D then
    (if leNat b = 0xE57A then .done (s.modEstim (fun e => { e with reset := true })) else .refuse 0x0A05 s)
  else .plain

end Machine
end Sys2Proof
end

