-- ==== Sys2Proof/Machine/Forecast.lean ====
section
/-! DEFINITION. What a re-plan reads over the steps of its horizon: forecast series (R98), tariffs (R97), demand forecasts (R153),
photoperiods and light days (R93, R94, R159), all over the snapshot of R147. -/

namespace Sys2Proof
namespace Machine

/-- An entry of the snapshot. -/
def ReSnap.nat (r : ReSnap) (idx sub : Nat) : Nat := (snapVal r.vals idx sub).toInt.toNat
def ReSnap.int (r : ReSnap) (idx sub : Nat) : Int := (snapVal r.vals idx sub).toInt
def ReSnap.oct (r : ReSnap) (idx sub : Nat) : Octets := (snapVal r.vals idx sub).octs

/-- Start and end of step `k`, device time. -/
def ReSnap.begins (r : ReSnap) (k : Nat) : Nat := if k = 0 then r.ts else r.ends.getD (k - 1) r.ts
def ReSnap.finish (r : ReSnap) (k : Nat) : Nat := r.ends.getD k r.ts
/-- Length of step `k` in hours. -/
def ReSnap.hours (r : ReSnap) (k : Nat) : Rat := ratI ((r.finish k : Int) - r.begins k) 3600000000000

/-! ## Calendar of the snapshot -/

def ReSnap.ofDay (r : ReSnap) (dev : Int) : Int := (dev - r.calOffset).emod dayNs

/-- Profile slot of a device time (R151), on the calendar of the snapshot. -/
def ReSnap.slotOf (r : ReSnap) (dev : Int) : Nat :=
  let days := (dev - r.calOffset).fdiv dayNs - ((r.ts : Int) - r.calOffset).fdiv dayNs
  (((r.weekday : Int) + days).emod 7).toNat * 96 + (r.ofDay dev / 900000000000).toNat

/-! ## Series -/

/-- The overlap of two spans of time. -/
def overlap (a b c d : Int) : Int := max 0 (min b d - max a c)

/-- ∫ over [a, b) of the values of a forecast series within its own span (value × ns). -/
def fcInside (q : Nat) (b : Octets) (lo hi : Int) : Int :=
  sumI ((List.range (fcCount b)).map (fun (k : Nat) =>
    let s : Int := ((fcStart b + k * fcStep b * 1000000000 : Nat) : Int)
    fcValue q b k * overlap lo hi s (s + fcStep b * 1000000000)))

/-- ∫ over [a, b) of a forecast series as R98 fills it: temperature holds its last value; irradiance and PAR repeat the day before,
and are 0 where that lies before the series; before its start the series states nothing (free). -/
def fcIntegral (q : Nat) (b : Octets) : Nat → Int → Int → Bool → Int
  | 0, _, _, _ => 0
  | n + 1, lo, hi, back =>
    let s : Int := fcStart b
    let e : Int := fcEnd b
    let early := if back then 0 else Config.earlyForecast q (lo.toNat / 3600000000000) * overlap lo hi lo s
    let late := overlap lo hi e hi
    let tail := if late = 0 then 0
      else if q = 0 then fcValue q b (fcCount b - 1) * late
      else fcIntegral q b n (max lo e - dayNs) (hi - dayNs) true
    early + fcInside q b lo hi + tail

/-- The mean of a series over a span, where it was written. -/
def fcMean (q : Nat) (b : Octets) (lo hi : Int) : Rat :=
  if hi ≤ lo then 0 else (fcIntegral q b (((hi - fcEnd b) / dayNs).toNat + 2) lo hi false : Rat) / ((hi - lo : Int) : Rat)

/-- The mean over a span of the measurements of the past 24 h, repeated (R98). DESIGN CHOICE (log 96): they are kept as the 96
quarter-hour means that end at the re-plan's start; one not yet measured takes the oldest mean held. -/
def pastMean (l : List Nat) (ts lo hi : Int) : Rat :=
  if l.isEmpty ∨ hi ≤ lo then 0
  else
    let q : Int := 900000000000
    let n := l.length
    let cells := (((hi - lo) / q) + 2).toNat
    let first := (lo - ts) / q
    let tot := sumI ((List.range cells).map (fun (i : Nat) =>
      let c := first + i
      let v : Nat := l.getD ((c.emod 96).toNat + n - 96) 0
      (v : Int) * overlap lo hi (ts + c * q) (ts + (c + 1) * q)))
    (tot : Rat) / ((hi - lo : Int) : Rat)

/-- Forecast of series `q` averaged over step `k`: °C, W/m², µmol/m²/s. -/
def ReSnap.fc (r : ReSnap) (q k : Nat) : Rat :=
  let b := r.oct 0x2008 (1 + q)
  let lo : Int := r.begins k
  let hi : Int := r.finish k
  if fcCount b ≠ 0 then fcMean q b lo hi / (if q = 0 then 100 else 1)
  else if q = 0 then ratI r.outdoor 100
  else pastMean (if q = 1 then r.irr else r.par) r.ts lo hi

/-- Value of a tariff series at a device time (R97); none where it is empty. -/
def tarAt (b : Octets) (t : Int) : Option Int :=
  if tarCount b = 0 then none
  else
    let ks := (List.range (tarCount b)).filter (fun k => decide (((tarPoint b k).1 : Int) ≤ t))
    some (tarPoint b (ks.getLastD 0)).2

/-- A tariff of step `k`: the value at the step's start. -/
def ReSnap.tariff (r : ReSnap) (j k : Nat) : Option Int := tarAt (r.oct 0x2007 j) (r.begins k)

/-- A forecast or tariff series ended before the horizon (R180). -/
def ReSnap.short (r : ReSnap) : Bool :=
  let e := r.finish (r.n - 1)
  (List.range 3).any (fun q => let b := r.oct 0x2008 (1 + q); decide (fcCount b ≠ 0) && decide (fcEnd b < e)) ||
  (List.range 8).any (fun j => let b := r.oct 0x2007 (1 + j); decide (tarCount b ≠ 0) && decide ((tarPoint b (tarCount b - 1)).1 < e))

/-! ## Demand (R153) -/

/-- Base and sensitivity of a channel averaged over step `k`, weighted by overlap. -/
def ReSnap.profMean (r : ReSnap) (c k : Nat) : Rat × Rat :=
  let lo : Int := r.begins k
  let hi : Int := r.finish k
  let q : Int := 900000000000
  let first := lo - (r.ofDay lo).emod q
  let cells := (((hi - lo) / q) + 2).toNat
  let add := fun (f : Nat → Rat) =>
    (((List.range cells).map (fun (i : Nat) => ((overlap lo hi (first + i * q) (first + (i + 1) * q) : Int) : Rat) * f (r.slotOf (first + i * q)))).foldl (· + ·) 0) /
      ((hi - lo : Int) : Rat)
  (add (fun sl => ratI (Tab.get 0 r.profB (672 * c + sl)) 1000000), add (fun sl => ratI (Tab.get 0 r.profS (672 * c + sl)) 1000000))

/-- D̂ of a channel in step `k`, kW. -/
def ReSnap.demandOf (r : ReSnap) (c k : Nat) : Rat :=
  let p := r.profMean c k
  maxQ 0 (p.1 + p.2 * (r.fc 0 k - ratI (r.int 0x2800 10) 100) + ratI (Tab.get 0 r.bias c) 1000)

/-- D̂ of a network. -/
def ReSnap.netDemand (r : ReSnap) (w k : Nat) : Rat :=
  (List.range 512).foldl (fun (a : Rat) (c : Nat) =>
    let m := imgChan r.img c
    if (m.type = 1 ∨ m.type = 2) ∧ m.network = w then a + r.demandOf c k else a) 0

/-- Ê of step `k`, kW: the residual profile with β = 0. -/
def ReSnap.residualFc (r : ReSnap) (k : Nat) : Rat :=
  let p := r.profMean 512 k
  maxQ 0 (p.1 + p.2 * (r.fc 0 k - ratI (r.int 0x2800 10) 100))

/-! ## Light (R93–R96, R159) -/

/-- A group's recipe in the snapshot. -/
def ReSnap.recipeOf (r : ReSnap) (g : Nat) : Option Octets :=
  let a := u16At (r.oct 0x2006 2) (2 * g)
  if a < 256 then some (r.oct (0x7000 + a) 1) else none

/-- ns since the light-day start at a device time. -/
def ReSnap.lightNs (r : ReSnap) (dev : Int) : Int := (r.ofDay dev - r.int 0x2006 3 * 60000000000).emod dayNs

/-- The fraction of step `k` inside a recipe's photoperiod. -/
def ReSnap.phi (r : ReSnap) (b : Octets) (k : Nat) : Rat :=
  let lo : Int := r.begins k
  let hi : Int := r.finish k
  let d0 := lo - r.lightNs lo
  let a : Int := u16At b 4 * 60000000000
  let z : Int := u16At b 6 * 60000000000
  if hi ≤ lo then 0
  else ((overlap lo hi (d0 + a) (d0 + z) + overlap lo hi (d0 + dayNs + a) (d0 + dayNs + z) : Int) : Rat) / ((hi - lo : Int) : Rat)

/-- The segment in force at the midpoint of step `k`. -/
def ReSnap.segment (r : ReSnap) (b : Octets) (k : Nat) : Nat :=
  let m := r.lightNs (((r.begins k : Int) + r.finish k) / 2) / 60000000000
  ((List.range (u8At b 2)).filter (fun i => decide ((segStart b i : Int) ≤ m))).getLastD 0

/-- A light day starts in (start of step k − 1, start of step k]: the accumulators reset at step k (ρ_k = 0). -/
def ReSnap.resets (r : ReSnap) (k : Nat) : Bool :=
  decide (0 < k) && decide (r.lightNs (r.begins k) < (r.begins k : Int) - r.begins (k - 1))

/-- Step `k` is the last that ends at or before a photoperiod end of the recipe (R159). -/
def ReSnap.target (r : ReSnap) (b : Octets) (k : Nat) : Bool :=
  let e : Int := r.finish k
  let z : Int := u16At b 6 * 60000000000
  let next := e + (z - r.lightNs e).emod dayNs
  decide (next < (if k + 1 < r.n then (r.finish (k + 1) : Int) else e + 1))

end Machine
end Sys2Proof
end

