-- ==== Sys2Proof/Machine/Qp.lean ====
section
/-! DEFINITION. The dispatch programme (R148, R149, R154–R160) over exact rationals, and the publication check that repairs an iterate
(R168). Powers are in kW, energies in kWh, temperatures in °C, DLI in mol/m². Everything is read from the snapshot of R147. -/

namespace Sys2Proof
namespace Machine

/-- A decision variable of a step (R148). -/
inductive QVar where
  | u (p : Nat) | seg (p j : Nat)
  | ch (st : Nat) | dis (st : Nat) | bch (b : Nat) | bdis (b : Nat)
  | gi | ge
  | light (g b : Nat)
  | ts (w : Nat) | off (w : Nat)
  | bnd (n : Nat)
  | su (w : Nat) | sx (w : Nat) | sd (w : Nat) | se | sg (g b : Nat)
  deriving DecidableEq

/-- A state of a step (R148). -/
inductive QState where
  | e (st : Nat) | b (k : Nat) | z (w : Nat) | d (g b : Nat) | q (p : Nat)
  deriving DecidableEq

/-- The used networks, the boundary nodes in boundary order. -/
def usedNets (img : Octets) : List Nat := (List.range 4).filter (netUsed img)
def bndNodes (img : Octets) : List Nat :=
  (List.range 64).filterMap (fun i => (List.range (secCount img 1)).find? (fun n => decide (nodeKind img n = 5) && decide (u8At (recOf img 1 n) 6 = i)))
def points (img : Octets) (p : Nat) : Nat := u8At (recOf img 5 p) 7
def bandsOf (img : Octets) (g : Nat) : Nat := u8At (recOf img 8 g) 4

/-- The decisions of a step in the order of R148. -/
def qVars (img : Octets) : List QVar :=
  (List.range (secCount img 5)).flatMap (fun p => QVar.u p :: (List.range (points img p - 1)).map (fun j => QVar.seg p (j + 1))) ++
  (List.range (secCount img 6)).flatMap (fun s => [QVar.ch s, QVar.dis s]) ++
  (List.range (secCount img 7)).flatMap (fun b => [QVar.bch b, QVar.bdis b]) ++
  [QVar.gi, QVar.ge] ++
  (List.range (secCount img 8)).flatMap (fun g => (List.range (bandsOf img g)).map (QVar.light g)) ++
  (usedNets img).flatMap (fun w => [QVar.ts w, QVar.off w]) ++
  (bndNodes img).map QVar.bnd ++
  (usedNets img).flatMap (fun w => [QVar.su w, QVar.sx w, QVar.sd w]) ++ [QVar.se] ++
  (List.range (secCount img 8)).flatMap (fun g => (List.range (bandsOf img g)).map (QVar.sg g))

/-- The states of a step in the order of R148. -/
def qStates (img : Octets) : List QState :=
  (List.range (secCount img 6)).map QState.e ++ (List.range (secCount img 7)).map QState.b ++ (usedNets img).map QState.z ++
  (List.range (secCount img 8)).flatMap (fun g => (List.range (bandsOf img g)).map (QState.d g)) ++ (List.range (secCount img 5)).map QState.q

/-- Scale code of a decision, of a state (R149): its class, with a plant's or a store's override; Q31 for a commitment. -/
def QVar.sc (img : Octets) : QVar → Int
  | .u _ => -31
  | .seg p _ => elSc img 4 p
  | .ch _ | .dis _ | .off _ | .bnd _ | .su _ | .sx _ | .sd _ => imgSc img 4
  | .bch _ | .bdis _ | .gi | .ge | .light _ _ | .se => imgSc img 5
  | .ts _ => imgSc img 3
  | .sg _ _ => imgSc img 9
def QState.sc (img : Octets) : QState → Int
  | .e st => elSc img 6 st
  | .b _ | .z _ => imgSc img 6
  | .d _ _ => imgSc img 9
  | .q p => elSc img 4 p

/-- The values of a step: decisions and states by variable; 0 where there is none. -/
structure QStep where
  dec : List (QVar × Rat)
  st : List (QState × Rat)

def QStep.v (s : QStep) (x : QVar) : Rat := ((s.dec.find? (fun e => decide (e.1 = x))).map (·.2)).getD 0
def QStep.s (s : QStep) (x : QState) : Rat := ((s.st.find? (fun e => decide (e.1 = x))).map (·.2)).getD 0
def QStep.set (s : QStep) (x : QVar) (v : Rat) : QStep := { s with dec := s.dec.map (fun e => if e.1 = x then (x, v) else e) }

/-! ## Data of the problem -/

/-- Solar factor of a plant (R157). -/
def ReSnap.solar (r : ReSnap) (p k : Nat) : Rat :=
  if u8At (recOf r.img 5 p) 4 = 5 then minQ 1 (r.fc 1 k / 1000) else 1

/-- Breakpoint j of a plant's curve in step k: Q, P, F. -/
def ReSnap.brk (r : ReSnap) (p j k : Nat) : Rat × Rat × Rat :=
  let c := curvePt (recOf r.img 5 p) j
  (ratI c.1 1 * r.solar p k, ratI c.2.1 1, ratI c.2.2 1)

/-- Width of segment j. -/
def ReSnap.segW (r : ReSnap) (p j k : Nat) : Rat := (r.brk p j k).1 - (r.brk p (j - 1) k).1

/-- Output of a plant in a step (R154). -/
def ReSnap.outQ (r : ReSnap) (x : QStep) (p k : Nat) : Rat :=
  x.v (.u p) * (r.brk p 0 k).1 + ((List.range (points r.img p - 1)).map (fun j => x.v (.seg p (j + 1)))).foldl (· + ·) 0

/-- u·f₀ + Σ s_j·(f_j − f_{j−1})/w_j of a curve column (R154). -/
def ReSnap.curveSum (r : ReSnap) (x : QStep) (p k : Nat) (f : Rat × Rat × Rat → Rat) : Rat :=
  x.v (.u p) * f (r.brk p 0 k) + ((List.range (points r.img p - 1)).map (fun j =>
    let w := r.segW p (j + 1) k
    if w = 0 then 0 else x.v (.seg p (j + 1)) * (f (r.brk p (j + 1) k) - f (r.brk p j k)) / w)).foldl (· + ·) 0

/-- θ of a plant (R138). -/
def ReSnap.theta (r : ReSnap) (p : Nat) : Rat := ratI (Tab.get 1000 r.drift p) 1000

/-- Fuel input of a plant (R154). -/
def ReSnap.fuel (r : ReSnap) (x : QStep) (p k : Nat) : Rat := r.theta p * r.curveSum x p k (fun c => c.2.2)
/-- Curve electric power of a plant (R154). The consumption part of a plant without fuel, which θ multiplies, is what its breakpoints
consume (DEDUCED: the programme is linear in them; log 105). -/
def ReSnap.curveP (r : ReSnap) (x : QStep) (p k : Nat) : Rat :=
  r.curveSum x p k (fun c => if u8At (recOf r.img 5 p) 6 ≠ 1 ∧ c.2.1 < 0 then r.theta p * c.2.1 else c.2.1)

/-- A value of a plan step (R170). -/
def planDec (r : ReSnap) (p : Plan) (k : Nat) (x : QVar) : Rat :=
  let i := (qVars r.img).findIdx? (fun y => decide (y = x))
  match i, p.steps[k]? with
  | some i, some s => let v := s.dec.getD i (0, 0); wordVal v.1 v.2
  | _, _ => 0

/-- Grid boundaries between the first step of the previous plan as published and the re-plan's start. -/
def ReSnap.back (r : ReSnap) : Nat := (r.prev.ends.filter (fun e => decide (e ≤ r.ts))).length

/-- The previous plan's step that a warm start puts at step k (R165): the front falls off, the last step is repeated. -/
def ReSnap.warmStep (r : ReSnap) (k : Nat) : Nat := min (k + r.back) (r.prev.steps.length - 1)

/-- Pipe loss of a network in a step, kW (R155). -/
def ReSnap.pipeLoss (r : ReSnap) (x : QStep) (w : Nat) : Rat :=
  let l1 := ((List.range (secCount r.img 2)).map (fun b =>
    if brKind r.img b = 0 ∧ brNet r.img b = w ∧ brSide r.img b ≠ 2 then brLossU r.img b * ratI (Tab.get 1000 r.loss b) 1000 * brLen r.img b else 0)).foldl (· + ·) 0
  let d : Deliv := r.deliv.getD w {}
  ratI (Tab.get 0 r.lossW w) 1000 + l1 / 1000 * (x.v (.ts w) - ratI d.tS0 100)

/-- Supply temperature bounds of a network (R178): `TS_BAND`, each network's `T_SUPPLY` twice where it was never written. -/
def ReSnap.tsBand (r : ReSnap) (w : Nat) : Rat × Rat :=
  let b := r.oct 0x2800 3
  if b.isEmpty then (let t := ratI (i16At (recOf r.img 0 w) 4) 100; (t, t)) else (ratI (i16At b (4 * w)) 100, ratI (i16At b (4 * w + 2)) 100)

/-- `FLEX_CAP`·`COMFORT_BAND` of a network, kWh. -/
def ReSnap.flexMax (r : ReSnap) (w : Nat) : Rat := ratN (u32At (r.oct 0x2800 5) (4 * w)) * ratI (u16At (r.oct 0x2800 4) (2 * w)) 100

/-- Heat capacity of a store, kWh/K; E_max; bounds of E (R155). -/
def storeCap (img : Octets) (st : Nat) : Rat := heatCap * ratI (u32At (recOf img 6 st) 12) 10 / 3600000
def ReSnap.eMax (r : ReSnap) (st : Nat) : Rat := let b := recOf r.img 6 st; storeCap r.img st * ratI (i16At b 20 - i16At b 22) 100
def ReSnap.reserve (r : ReSnap) : Rat := ratI (r.int 0x2800 9) 32768
def ReSnap.bBounds (r : ReSnap) (k : Nat) : Rat × Rat :=
  let b := recOf r.img 7 k
  let cap := ratN (u32At b 8)
  (maxQ (ratI (i16At b 24) 32768) r.reserve * cap, ratI (i16At b 26) 32768 * cap)

/-! ### Commitment (R158) -/

/-- A plant's status bit in the snapshot. -/
def ReSnap.available (r : ReSnap) (p : Nat) : Bool := bitOf (Tab.get 0 r.status p) 0
def ReSnap.running (r : ReSnap) (p : Nat) : Bool := bitOf (Tab.get 0 r.status p) 1
def ReSnap.mustRun (r : ReSnap) (p : Nat) : Bool := bitOf (u16At (recOf r.img 5 p) 16) 1
/-- `MIN_UP` after the last rise, `MIN_DOWN` after the last fall, as device times. -/
def ReSnap.upUntil (r : ReSnap) (p : Nat) : Nat :=
  match Tab.find r.rise p with
  | some t => t + u16At (recOf r.img 5 p) 18 * 60000000000
  | none => 0
def ReSnap.downUntil (r : ReSnap) (p : Nat) : Nat :=
  match Tab.find r.fall p with
  | some t => t + u16At (recOf r.img 5 p) 20 * 60000000000
  | none => 0

/-- Bounds of u in step k: the first row of R158 that applies; a solar plant has u = 1 while available (R157). -/
def ReSnap.uBounds (r : ReSnap) (p k : Nat) : Rat × Rat :=
  if ¬ r.available p then (0, 0)
  else if u8At (recOf r.img 5 p) 4 = 5 then (1, 1)
  else if k = 0 then (if r.running p then (1, 1) else (0, 0))
  else if r.mustRun p then (1, 1)
  else if r.begins k < r.upUntil p then (1, 1)
  else if r.begins k < r.downUntil p then (0, 0)
  else (0, 1)

/-- The upper bound of a light band's power in step k, kW (R159). -/
def ReSnap.lightMax (r : ReSnap) (g b k : Nat) : Rat :=
  match r.recipeOf g with
  | none => 0
  | some c =>
    let m := recOf r.img 8 g
    let phi := r.phi c k
    let eta := ratI (u16At c (14 + 12 * b)) 1000
    let byI := if eta = 0 then 0 else ratN (u16At c (12 + 12 * b)) * phi * ratN (u32At m 8) / eta / 1000
    minQ (ratI (u32At m (20 + 8 * b)) 1000 * phi) byI

/-- Box bounds of a decision in step k; none on a side that is unbounded. -/
def ReSnap.box (r : ReSnap) (k : Nat) : QVar → Option Rat × Option Rat
  | .u p => let b := r.uBounds p k; (some b.1, some b.2)
  | .seg p j => (some 0, some (r.segW p j k))
  | .ch st => (some 0, some (ratN (u32At (recOf r.img 6 st) 28)))
  | .dis st => (some 0, some (ratN (u32At (recOf r.img 6 st) 32)))
  | .bch b => (some 0, some (ratN (u32At (recOf r.img 7 b) 12)))
  | .bdis b => (some 0, some (ratN (u32At (recOf r.img 7 b) 16)))
  | .gi => (some 0, (r.tariff 6 k).map (fun v => ratI v 1))
  | .ge => (some 0, (r.tariff 7 k).map (fun v => ratI v 1))
  | .light g b => (some 0, some (r.lightMax g b k))
  | .ts w => let b := r.tsBand w; (some b.1, some b.2)
  | .off w => if r.flexMax w = 0 then (some 0, some 0) else (none, none)
  | .bnd n =>
    match (Tab.get {} r.bnd n).fixed with
    | some l => let e := ratI (nth (l.getLastD 0) l k) 1; (some e, some e)
    | none => (none, none)
  | .sg g _ =>
    match r.recipeOf g with
    | some c => if r.target c k then (some 0, none) else (some 0, some 0)
    | none => (some 0, some 0)
  | _ => (some 0, none)

/-- A value limited to its box. -/
def boxed (b : Option Rat × Option Rat) (v : Rat) : Rat :=
  let v := match b.2 with
    | some h => minQ h v
    | none => v
  match b.1 with
  | some l => maxQ l v
  | none => v

/-- The midpoint of a decision's bounds, 0 where it is unbounded above (R163). -/
def midpoint (b : Option Rat × Option Rat) : Rat :=
  match b with
  | (l, some h) => (l.getD 0 + h) / 2
  | _ => 0

/-- The decisions a re-plan starts from at step k: a cold start's midpoints (R163), a warm start's shifted plan (R165). -/
def ReSnap.startDec (r : ReSnap) (k : Nat) : QStep :=
  { dec := (qVars r.img).map (fun v => (v, if r.cold then midpoint (r.box k v) else planDec r r.prev (r.warmStep k) v)), st := [] }

/-! ### Electric power (R154) -/

/-- T̄ of a network: the warm start's supply temperature; a cold start's design temperature. -/
def ReSnap.tBar (r : ReSnap) (w k : Nat) : Rat :=
  if r.cold then ratI (i16At (recOf r.img 0 w) 4) 100 else planDec r r.prev (r.warmStep k) (.ts w)

/-- The signed electric power of a plant in the balance, linearised at the start (R154). -/
def ReSnap.powerP (r : ReSnap) (x : QStep) (p k : Nat) : Rat :=
  let rec_ := recOf r.img 5 p
  let w := u8At rec_ 5
  let tau := ratI (i16At rec_ 22) 10000
  let tb := r.tBar w k
  let td := ratI (i16At (recOf r.img 0 w) 4) 100
  r.curveP x p k * (1 + tau * (tb - td)) + r.curveP (r.startDec k) p k * tau * (x.v (.ts w) - tb)

/-! ## State equations (R155, R159) -/

/-- ℓ of a store, kW/K. -/
def lossK (img : Octets) (st : Nat) : Rat := ratI (u32At (recOf img 6 st) 24) 1000000

/-- The states at a step's end from those at its start (`prev`) and its decisions. -/
def ReSnap.stateNext (r : ReSnap) (prev x : QStep) (k : Nat) (q : QState) : Rat :=
  let h := r.hours k
  match q with
  | .e st =>
    let b := recOf r.img 6 st
    let l := lossK r.img st
    let tg := ratI (i16At (recOf r.img 0 (u8At b 4)) 12) 100
    prev.s q * (1 - h * l / storeCap r.img st) + h * (x.v (.ch st) - x.v (.dis st)) - h * l * (ratI (i16At b 22) 100 - tg)
  | .b i =>
    let b := recOf r.img 7 i
    prev.s q + h * (ratI (i16At b 20) 32768 * x.v (.bch i) - (if i16At b 22 = 0 then 0 else x.v (.bdis i) * 32768 / (i16At b 22 : Rat)))
  | .z w => if r.flexMax w = 0 then 0 else prev.s q * (1 - h * 60 / ratN (u16At (r.oct 0x2800 6) (2 * w))) + h * x.v (.off w)
  | .d g b =>
    match r.recipeOf g with
    | none => (if r.resets k then 0 else prev.s q)
    | some c =>
      let m := recOf r.img 8 g
      let lamp := ratI (u16At c (14 + 12 * b)) 1000 * x.v (.light g b) * 1000 / ratN (u32At m 8)
      let sun := r.phi c k * r.fc 2 k * ratI (i16At m 12) 32768 * ratI (i16At m (18 + 8 * b)) 32768
      (if r.resets k then 0 else prev.s q) + 36 / 10000 * h * (lamp + sun)
  | .q p => r.outQ x p k

/-- The initial states (R155). -/
def ReSnap.initial (r : ReSnap) : QStep :=
  { dec := [], st := (qStates r.img).map (fun q => (q, match q with
    | .e st => ratI (Tab.get 0 r.storeWh st) 1000
    | .b k => ratI (Tab.get 0 r.soc k) 32768 * ratN (u32At (recOf r.img 7 k) 8)
    | .z w => if r.cold then 0 else (let v : Int × Int := Tab.get (0, 0) r.prev.z0 w; wordVal v.1 v.2)
    | .d g b => ratI (Tab.get 0 r.dli (4 * g + b)) 1000000000
    | .q p => ratI (Tab.get 0 r.out p) 1000)) }

/-- A store's or battery's charge and discharge reduced until its state meets its bounds (R168 step 2). -/
def limitStore (lo hi gainC gainD h : Rat) (c d e : Rat) : Rat × Rat :=
  if hi < e ∧ 0 < h * gainC then (maxQ 0 (c - (e - hi) / (h * gainC)), d)
  else if e < lo ∧ 0 < h * gainD then (c, maxQ 0 (d - (lo - e) / (h * gainD)))
  else (c, d)

/-- The stores and batteries of a step held within their bounds. -/
def ReSnap.holdStores (r : ReSnap) (prev x : QStep) (k : Nat) : QStep :=
  let h := r.hours k
  let x := (List.range (secCount r.img 6)).foldl (fun (x : QStep) st =>
    let m := r.eMax st
    let y := limitStore (r.reserve * m) m 1 1 h (x.v (.ch st)) (x.v (.dis st)) (r.stateNext prev x k (.e st))
    (x.set (.ch st) y.1).set (.dis st) y.2) x
  (List.range (secCount r.img 7)).foldl (fun (x : QStep) i =>
    let b := recOf r.img 7 i
    let bd := r.bBounds i
    let y := limitStore bd.1 bd.2 (ratI (i16At b 20) 32768) (if i16At b 22 = 0 then 0 else 32768 / (i16At b 22 : Rat)) h
      (x.v (.bch i)) (x.v (.bdis i)) (r.stateNext prev x k (.b i))
    (x.set (.bch i) y.1).set (.bdis i) y.2) x

/-! ## Balances, slacks, remaining constraints -/

/-- The residual of a network balance without its slacks (R155). -/
def ReSnap.netResid (r : ReSnap) (x : QStep) (w k : Nat) : Rat :=
  ((List.range (secCount r.img 5)).map (fun p => if u8At (recOf r.img 5 p) 5 = w then r.outQ x p k else 0)).foldl (· + ·) 0 +
  ((List.range (secCount r.img 6)).map (fun st => if u8At (recOf r.img 6 st) 4 = w then x.v (.dis st) - x.v (.ch st) else 0)).foldl (· + ·) 0 +
  ((bndNodes r.img).map (fun n => if nodeNet r.img n = w then x.v (.bnd n) else 0)).foldl (· + ·) 0 -
  r.netDemand w k - x.v (.off w) - r.pipeLoss x w

/-- The residual of the electric balance without σ_e (R155). -/
def ReSnap.elResid (r : ReSnap) (x : QStep) (k : Nat) : Rat :=
  ((List.range (secCount r.img 5)).map (fun p => r.powerP x p k)).foldl (· + ·) 0 + x.v .gi - x.v .ge +
  ((List.range (secCount r.img 7)).map (fun b => x.v (.bdis b) - x.v (.bch b))).foldl (· + ·) 0 -
  ((List.range (secCount r.img 8)).map (fun g => ((List.range (bandsOf r.img g)).map (fun b => x.v (.light g b))).foldl (· + ·) 0)).foldl (· + ·) 0 -
  r.residualFc k

/-- The residuals go into the slacks (R168 step 3). -/
def ReSnap.fillSlacks (r : ReSnap) (x : QStep) (k : Nat) : QStep :=
  let x := (usedNets r.img).foldl (fun (x : QStep) w =>
    let v := r.netResid x w k
    (x.set (.su w) (maxQ 0 (-v))).set (.sx w) (maxQ 0 v)) x
  x.set .se (maxQ 0 (-(r.elResid x k)))

/-- The ramp range of step 0 is widened (R158). -/
def ReSnap.rampWide (r : ReSnap) (p : Nat) : Bool :=
  let b := recOf r.img 5 p
  let q := ratI (Tab.get 0 r.out p) 1000
  let h := r.hours 0 * 60
  let q0 := (r.brk p 0 0).1
  let ql := (r.brk p (points r.img p - 1) 0).1
  let up := if u32At b 24 = 0 then ql else q + ratN (u32At b 24) * h
  let dn := if u32At b 28 = 0 then 0 else q - ratN (u32At b 28) * h
  decide ((r.uBounds p 0).1 = 1) && (decide (up < q0) || decide (ql < dn))

/-- The violation of each remaining constraint of a step, with the scale code of its class (R168 step 4). -/
def ReSnap.violations (r : ReSnap) (prev x : QStep) (k : Nat) : List (Rat × Int) :=
  let c4 := imgSc r.img 4
  let c5 := imgSc r.img 5
  let c6 := imgSc r.img 6
  let c9 := imgSc r.img 9
  let h := r.hours k * 60
  (List.range (secCount r.img 5)).flatMap (fun p =>
    let b := recOf r.img 5 p
    let dq := x.s (.q p) - prev.s (.q p)
    let wide := decide (k = 0) && r.rampWide p
    (List.range (points r.img p - 1)).map (fun j => (x.v (.seg p (j + 1)) - x.v (.u p) * r.segW p (j + 1) k, c4)) ++
    (if wide then [] else
      (if u32At b 24 = 0 then [] else [(dq - ratN (u32At b 24) * h, c4)]) ++ (if u32At b 28 = 0 then [] else [(-dq - ratN (u32At b 28) * h, c4)]))) ++
  (usedNets r.img).flatMap (fun w =>
    let d : Deliv := r.deliv.getD w {}
    let lim := ratI d.a 1 + ratI d.b 1000 * (x.v (.ts w) - ratI d.tS0 100)
    [(r.netDemand w k + x.v (.off w) - x.v (.su w) - lim - x.v (.sd w), c4)] ++
    (if r.flexMax w = 0 then [] else [(x.s (.z w) - r.flexMax w, c6), (-(x.s (.z w)) - r.flexMax w, c6)])) ++
  (List.range (secCount r.img 6)).flatMap (fun st => [(x.s (.e st) - r.eMax st, c6), (r.reserve * r.eMax st - x.s (.e st), c6)]) ++
  (List.range (secCount r.img 7)).flatMap (fun i => let b := r.bBounds i; [(x.s (.b i) - b.2, c6), (b.1 - x.s (.b i), c6)]) ++
  (List.range (secCount r.img 8)).flatMap (fun g =>
    match r.recipeOf g with
    | none => []
    | some c =>
      let flux := fun (b : Nat) => ratI (u16At c (14 + 12 * b)) 1000 * x.v (.light g b)
      let n := bandsOf r.img g
      let tot := ((List.range n).map flux).foldl (· + ·) 0
      let sg := r.segment c k
      (List.range n).flatMap (fun b =>
        let f := flux b
        [(ratI (segMin c sg b) 32768 * tot - f, c5), (f - ratI (segMax c sg b) 32768 * tot, c5)] ++
        (if r.target c k then
          [(ratI (u32At c (8 + 12 * b)) 1000 * (1 - ratI (r.int 0x2800 8) 1000) - x.v (.sg g b) - x.s (.d g b), c9)] else [])))

/-- The electric balance, beside the constraints of `violations`: what σ_e cannot take (R155, R168 step 4). -/
def ReSnap.elViolation (r : ReSnap) (x : QStep) (k : Nat) : Rat × Int := (r.elResid x k + x.v .se, imgSc r.img 5)

/-- A repaired step, its states, and whether its remaining constraints hold (R168). DESIGN CHOICE (log 106): 'relative to its class' is
relative to 2²⁹ units of the class's default scale code, the full scale of a word. -/
def ReSnap.repairStep (r : ReSnap) (prev x : QStep) (k : Nat) : QStep × Bool :=
  let x := { x with dec := x.dec.map (fun e => (e.1, boxed (r.box k e.1) e.2)) }
  let x := r.holdStores prev x k
  let x := { x with st := (qStates r.img).map (fun q => (q, r.stateNext prev x k q)) }
  let x := r.fillSlacks x k
  let tol := pow2 (-(r.nat 0x2801 9 : Int))
  (x, (r.elViolation x k :: r.violations prev x k).all (fun v => decide (v.1 ≤ tol * pow2 (29 + v.2))))

/-- The repaired iterate, and whether it is accepted. -/
def ReSnap.repair (r : ReSnap) : Nat → QStep → List QStep → List QStep × Bool
  | _, _, [] => ([], true)
  | k, prev, x :: t =>
    let y := r.repairStep prev x k
    let z := r.repair (k + 1) y.1 t
    (y.1 :: z.1, y.2 && z.2)

/-- An iterate as steps: vector i of the job holds variable i over the steps. -/
def ReSnap.iterSteps (r : ReSnap) (it : Tab Vec) : List QStep :=
  let vs := qVars r.img
  (List.range r.n).map (fun k => { dec := vs.mapIdx (fun i x => (x, (Tab.get {} it i).val k)), st := [] })

/-- An iterate passes the publication check (R168). -/
def ReSnap.accepts (r : ReSnap) (it : Tab Vec) : Bool := (r.repair 0 r.initial (r.iterSteps it)).2

/-! ## Objective (R160) -/

/-- A price in mu/MWh of 0.001 mu/MWh. -/
def priceOf (v : Option Int) : Rat := ratI (v.getD 0) 1000

/-- The cost of the boundaries of a round job, added to C_k (R477). -/
def ReSnap.bndCost (r : ReSnap) (x : QStep) (k : Nat) : Rat :=
  if r.round.isNone then 0
  else
    ((bndNodes r.img).map (fun n =>
      let b := Tab.get {} r.bnd n
      if b.fixed.isSome then 0
      else
        let e := x.v (.bnd n)
        let d := (e - ratI (nth 0 b.hat k) 1) / 1000
        ratI (nth 0 b.price k) 1000 * e / 1000 + ratI (r.int 0x6410 7) 1000 * d * d / r.hours k)).foldl (· + ·) 0

/-- The cost of a step without moves and terminal value, mu. -/
def ReSnap.stepCost (r : ReSnap) (x : QStep) (k : Nat) : Rat :=
  let w := ratI (r.int 0x2800 1) 32768
  let fuel := ((List.range (secCount r.img 5)).map (fun p => r.fuel x p k)).foldl (· + ·) 0
  let start := ((List.range (secCount r.img 5)).map (fun p =>
    let b := recOf r.img 5 p
    ratI (u32At b 32) 1000 * x.v (.u p) / maxQ (ratI (u16At b 18) 60) (ratI r.stepLen 60))).foldl (· + ·) 0
  let money := (priceOf (r.tariff 3 k) * fuel + priceOf (r.tariff 1 k) * x.v .gi - priceOf (r.tariff 2 k) * x.v .ge) / 1000 + start
  let co2 := (ratI ((r.tariff 5 k).getD 0) 1 * fuel + ratI ((r.tariff 4 k).getD 0) 1 * x.v .gi) / 1000000
  let quad := ratI (r.int 0x2801 6) 1000
  let slack := fun (wt : Nat) (v : Rat) => (let p := ratI (r.int 0x2801 wt) 1000 / 1000; p * v + quad * p * v * v / 1000)
  let sl := ((usedNets r.img).map (fun n => slack 1 (x.v (.su n)) + slack 2 (x.v (.sx n)) + slack 3 (x.v (.sd n)))).foldl (· + ·) 0 + slack 4 (x.v .se)
  let dli := ((List.range (secCount r.img 8)).map (fun g => ((List.range (bandsOf r.img g)).map (fun b =>
    ratI (r.int 0x2801 5) 1000 * ratN (u32At (recOf r.img 8 g) 8) * x.v (.sg g b))).foldl (· + ·) 0)).foldl (· + ·) 0
  r.hours k * ((1 - w) * (money + r.bndCost x k) + w * ratI (r.int 0x2800 2) 1000 * co2 + sl) + dli

/-- The cost of moves of a step (R160), power in MW. -/
def ReSnap.moveCost (r : ReSnap) (prev x : QStep) : Rat :=
  ((List.range (secCount r.img 5)).map (fun p =>
    let d := (x.s (.q p) - prev.s (.q p)) / 1000
    ratI (r.int 0x2801 7) 1000 * d * d)).foldl (· + ·) 0

/-- The terminal value (R160). -/
def ReSnap.terminal (r : ReSnap) (x : QStep) : Rat :=
  let last := r.n - 1
  let heat := ((List.range (secCount r.img 6)).map (fun st => x.s (.e st))).foldl (· + ·) 0
  let imp := ((List.range r.n).map (fun k => priceOf (r.tariff 1 k) * r.hours k)).foldl (· + ·) 0 /
    ((List.range r.n).map r.hours).foldl (· + ·) 0
  let bat := ((List.range (secCount r.img 7)).map (fun b => ratI (i16At (recOf r.img 7 b) 22) 32768 * x.s (.b b))).foldl (· + ·) 0
  (priceOf (tarAt (r.oct 0x2007 8) (r.finish last)) * heat + imp * bat) / 1000

/-- J of a repaired plan, mu. -/
def ReSnap.objective (r : ReSnap) : Nat → QStep → List QStep → Rat
  | _, prev, [] => -((1 - ratI (r.int 0x2800 1) 32768) * r.terminal prev)
  | k, prev, x :: t => r.stepCost x k + r.moveCost prev x + r.objective (k + 1) x t

end Machine
end Sys2Proof
end

