-- ==== Sys2Proof/Machine/Ipm.lean ====
section
/-! DEFINITION. The primal-dual interior-point method of the dispatch optimiser (R161–R165). Vector i of the job holds decision i of R148
over the steps, vector 1000 + i state i, pinned at their class codes (R149, R185); vectors 2000, 2001 and 2002 hold t, z and y. What the
manual leaves open of the method is the model's (log 78): the Riccati reduction is taken as an exact solve of the KKT system. -/

namespace Sys2Proof
namespace Machine

/-! ## The programme as rows -/

/-- A linear row over the variables of all steps: its coefficients, its constant, the scale code of its class. -/
structure QRow where
  co : List (Nat × Rat)
  c0 : Rat
  sc : Int

/-- The coefficient of a variable, and the value of a row at a point. -/
def QRow.coef (q : QRow) (j : Nat) : Rat := ((q.co.find? (fun e => decide (e.1 = j))).map (·.2)).getD 0
def QRow.dot (q : QRow) (x : List Rat) : Rat := sumQ (q.co.map (fun e => e.2 * x.getD e.1 0))
def QRow.value (q : QRow) (x : List Rat) : Rat := q.dot x + q.c0

/-- Decisions of a step, variables of a step. -/
def ReSnap.nDec (r : ReSnap) : Nat := (qVars r.img).length
def ReSnap.width (r : ReSnap) : Nat := r.nDec + (qStates r.img).length
/-- Variables of the programme. -/
def ReSnap.size (r : ReSnap) : Nat := r.n * r.width

/-- Step k at a point, and the step before it: the initial states before the first. -/
def ReSnap.stepAt (r : ReSnap) (x : List Rat) (k : Nat) : QStep :=
  { dec := (qVars r.img).mapIdx (fun i v => (v, x.getD (k * r.width + i) 0)),
    st := (qStates r.img).mapIdx (fun i q => (q, x.getD (k * r.width + r.nDec + i) 0)) }
def ReSnap.before (r : ReSnap) (x : List Rat) (k : Nat) : QStep := if k = 0 then r.initial else r.stepAt x (k - 1)

/-- A point of steps. -/
def ReSnap.pointOf (r : ReSnap) (l : List QStep) : List Rat := l.flatMap (fun s => (qVars r.img).map s.v ++ (qStates r.img).map s.s)

/-- The unit point of variable j, scaled. -/
def ReSnap.unitAt (r : ReSnap) (j : Nat) (v : Rat) : List Rat := (List.range r.size).map (fun i => if i = j then v else 0)

/-- The variables the constraints of step k speak of: the states before it, its decisions and its states. -/
def ReSnap.localVars (r : ReSnap) (k : Nat) : List Nat :=
  (if k = 0 then [] else (List.range (r.width - r.nDec)).map (fun i => (k - 1) * r.width + r.nDec + i)) ++
  (List.range r.width).map (fun i => k * r.width + i)

/-- The rows of affine functions of step k, with the scale codes of their classes. -/
def ReSnap.rowsOf (r : ReSnap) (k : Nat) (f : QStep → QStep → List (Rat × Int)) : List QRow :=
  let at_ := fun (x : List Rat) => f (r.before x k) (r.stepAt x k)
  let us := (r.localVars k).map (fun j => (j, at_ (r.unitAt j 1)))
  (at_ []).mapIdx (fun i v =>
    { c0 := v.1, sc := v.2,
      co := us.filterMap (fun u => let d := (u.2.getD i v).1 - v.1; if d = 0 then none else some (u.1, d)) })

/-- What is 0 in step k: the state equations, the balances with their slacks, the decisions with no room in their box (R155). -/
def ReSnap.equalities (r : ReSnap) (k : Nat) (prev x : QStep) : List (Rat × Int) :=
  (qStates r.img).map (fun q => (r.stateNext prev x k q - x.s q, q.sc r.img)) ++
  (usedNets r.img).map (fun w => (r.netResid x w k + x.v (.su w) - x.v (.sx w), imgSc r.img 4)) ++ [r.elViolation x k] ++
  (qVars r.img).filterMap (fun v => match r.box k v with
    | (some l, some h) => if h ≤ l then some (x.v v - l, v.sc r.img) else none
    | _ => none)

/-- What is at most 0 in step k: the sides of the boxes that have room, and the constraints of `violations`. -/
def ReSnap.inequalities (r : ReSnap) (k : Nat) (prev x : QStep) : List (Rat × Int) :=
  (qVars r.img).flatMap (fun v => match r.box k v with
    | (some l, some h) => if h ≤ l then [] else [(l - x.v v, v.sc r.img), (x.v v - h, v.sc r.img)]
    | (some l, none) => [(l - x.v v, v.sc r.img)]
    | (none, some h) => [(x.v v - h, v.sc r.img)]
    | (none, none) => []) ++
  r.violations prev x k

/-- The quadratic programme: J is ½·x'Hx + c'x up to a constant. -/
structure Programme where
  n : Nat
  eqs : List QRow
  ins : List QRow
  c : List Rat
  hess : List (List Rat)

/-- The part of J that step k brings (R160), over the states before it and its own variables. -/
def ReSnap.costOf (r : ReSnap) (k : Nat) (prev x : QStep) : Rat :=
  r.stepCost x k + r.moveCost prev x + (if k + 1 = r.n then r.objective r.n x [] else 0)

/-- The linear and the quadratic coefficients of step k's part of J, read off at the unit points. -/
def ReSnap.costTerms (r : ReSnap) (k : Nat) : List (Nat × Rat) × List (Nat × Nat × Rat) :=
  let at_ := fun (x : List Rat) => r.costOf k (r.before x k) (r.stepAt x k)
  let j0 := at_ []
  let vs := (r.localVars k).map (fun i => (i, at_ (r.unitAt i 1), at_ (r.unitAt i (-1))))
  (vs.map (fun u => (u.1, (u.2.1 - u.2.2) / 2)),
   vs.flatMap (fun u => vs.filterMap (fun w =>
     let h := if u.1 = w.1 then u.2.1 + u.2.2 - 2 * j0
       else at_ ((List.range r.size).map (fun i => if i = u.1 ∨ i = w.1 then 1 else 0)) - u.2.1 - w.2.1 + j0
     if h = 0 then none else some (u.1, w.1, h))))

/-- The programme of a snapshot. -/
def ReSnap.programme (r : ReSnap) : Programme :=
  let ts := (List.range r.n).map r.costTerms
  let lin := ts.flatMap (·.1)
  let quad := ts.flatMap (·.2)
  { n := r.size,
    eqs := (List.range r.n).flatMap (fun k => r.rowsOf k (r.equalities k)),
    ins := (List.range r.n).flatMap (fun k => r.rowsOf k (r.inequalities k)),
    c := (List.range r.size).map (fun i => sumQ ((lin.filter (fun e => decide (e.1 = i))).map (·.2))),
    hess := (List.range r.size).map (fun i =>
      let row := quad.filter (fun e => decide (e.1 = i))
      (List.range r.size).map (fun j => sumQ ((row.filter (fun e => decide (e.2.1 = j))).map (·.2.2)))) }

/-! ## Points and residuals -/

/-- A point of the method. -/
structure IpPoint where
  x : List Rat
  t : List Rat
  z : List Rat
  y : List Rat

/-- The dot product of two lists. -/
def dotQ (a b : List Rat) : Rat := sumQ (List.zipWith (· * ·) a b)

/-- Residuals: of the equalities, of the inequalities with t, and of the dual. -/
def Programme.resE (p : Programme) (q : IpPoint) : List Rat := p.eqs.map (fun r => r.value q.x)
def Programme.resI (p : Programme) (q : IpPoint) : List Rat := p.ins.mapIdx (fun i r => r.value q.x + q.t.getD i 0)
def Programme.resD (p : Programme) (q : IpPoint) : List Rat :=
  (List.range p.n).map (fun j =>
    dotQ (p.hess.getD j []) q.x + p.c.getD j 0 + sumQ (p.eqs.mapIdx (fun i r => r.coef j * q.y.getD i 0)) +
      sumQ (p.ins.mapIdx (fun i r => r.coef j * q.z.getD i 0)))

/-- The largest magnitude of a list. -/
def normInf (l : List Rat) : Rat := l.foldl (fun a x => maxQ a (absQ x)) 0

/-- ‖r_p‖∞ with each row relative to the largest right-hand side of its class (R161), which counts at least 1 (log 78). -/
def Programme.primal (p : Programme) (q : IpPoint) : Rat :=
  let rows := p.eqs ++ p.ins
  let rel := fun (r : QRow) (v : Rat) => v / maxQ 1 (normInf ((rows.filter (fun s => decide (s.sc = r.sc))).map (·.c0)))
  normInf (List.zipWith rel rows (p.resE q ++ p.resI q))
/-- ‖r_d‖∞ relative to the largest cost coefficient, which counts at least 1 (log 78). -/
def Programme.dual (p : Programme) (q : IpPoint) : Rat := normInf (p.resD q) / maxQ 1 (normInf p.c)

/-- μ := t'z/m (R161); the products are accumulated in the 72-bit accumulator (R162). 0 without inequalities. -/
def muOf (t z : Vec) : Rat :=
  let a := reduceTerms ((List.range t.words.length).map (fun i => let p := t.at_ i; let q := z.at_ i; termProd p.1 p.2 q.1 q.2))
  if t.words.isEmpty then 0 else wordVal a.1 a.2.1 / ratN t.words.length

/-! ## The vectors of the job -/

/-- The primitives that write a point (R161, R162): x pinned at its class codes; t, z and y floating, re-normalised by the write. -/
def ReSnap.writePoint (r : ReSnap) (q : IpPoint) : List Prim :=
  let along := fun (i : Nat) => (List.range r.n).map (fun k => q.x.getD (k * r.width + i) 0)
  ((qVars r.img).mapIdx (fun i v => Prim.values ⟨i, some (v.sc r.img), v.sc r.img⟩ (along i))) ++
  ((qStates r.img).mapIdx (fun i s => Prim.values ⟨1000 + i, some (s.sc r.img), s.sc r.img⟩ (along (r.nDec + i)))) ++
  [.values ⟨2000, none, -16⟩ q.t, .values ⟨2001, none, -32⟩ q.z, .values ⟨2002, none, -16⟩ q.y]

/-- The point the vectors of a job hold. -/
def ReSnap.readPoint (r : ReSnap) (v : Tab Vec) : IpPoint :=
  let w := fun (i : Nat) => (Tab.get {} v i)
  { x := (List.range r.n).flatMap (fun k => (List.range r.nDec).map (fun i => (w i).val k) ++
           (List.range (r.width - r.nDec)).map (fun i => (w (1000 + i)).val k)),
    t := (w 2000).vals, z := (w 2001).vals, y := (w 2002).vals }

/-- The vectors that hold a point. -/
def ReSnap.vecsOf (r : ReSnap) (q : IpPoint) : Tab Vec := (({ vecs := [], mats := [], facs := [] } : Work).prims 20 (r.writePoint q)).vecs

/-! ## The start (R163, R165) -/

/-- The steps of the start: its decisions, the states from the dynamics. -/
def ReSnap.startSteps (r : ReSnap) : Nat → QStep → Nat → List QStep
  | 0, _, _ => []
  | m + 1, prev, k =>
    let d := r.startDec k
    let x : QStep := { d with st := (qStates r.img).map (fun q => (q, r.stateNext prev d k q)) }
    x :: r.startSteps m x (k + 1)

/-- The cold-start point (R163). -/
def ReSnap.coldPoint (r : ReSnap) : IpPoint :=
  let c := { r with cold := true }
  let p := c.programme
  let x := c.pointOf (c.startSteps c.n c.initial 0)
  { x := x, t := p.ins.map (fun q => maxQ 1 (q.value x)), z := p.ins.map (fun _ => 1), y := p.eqs.map (fun _ => 0) }

/-- μ₀: the complementarity of the cold-start point (R163). -/
def ReSnap.coldMu (r : ReSnap) : Rat :=
  let v := r.vecsOf r.coldPoint
  muOf (Tab.get {} v 2000) (Tab.get {} v 2001)

/-- The warm-start point (R165): the shifted plan, states recomputed, every inequality re-centred. -/
def ReSnap.warmPoint (r : ReSnap) : IpPoint :=
  let c := { r with cold := false }
  let p := c.programme
  let x := c.pointOf (c.startSteps c.n c.initial 0)
  let e := pow2 (-(r.nat 0x2801 12 : Int))
  let t := p.ins.map (fun q => maxQ (-(q.value x)) (e * pow2 (29 + q.sc)))
  { x := x, t := t, z := t.map (fun v => e * r.coldMu / v), y := p.eqs.map (fun _ => 0) }

/-- The warm point is discarded: its primal residual exceeds 2⁸ times the cold start's (R165). -/
def ReSnap.warmBad (r : ReSnap) : Bool :=
  decide (256 * ({ r with cold := true }).programme.primal r.coldPoint < ({ r with cold := false }).programme.primal r.warmPoint)

/-- The vectors a re-plan's job starts from. -/
def ReSnap.startVecs (r : ReSnap) : Tab Vec := r.vecsOf (if r.cold then r.coldPoint else r.warmPoint)

/-! ## One iteration (R161, R162) -/

/-- The scale of the Hessian column a diagonal term is measured by (log 78): of the variable with the row's largest coefficient, the
power of 2 at or above its largest entry; its class's full scale where the column is 0. -/
def Programme.colScale (p : Programme) (r : QRow) : Rat :=
  let j := (r.co.foldl (fun (a : Nat × Rat) e => if a.2 < absQ e.2 then (e.1, absQ e.2) else a) (0, 0)).1
  let m := normInf (p.hess.getD j [])
  if m = 0 then pow2 (29 + r.sc) else (let e := floorLog2 m; if pow2 e = m then m else pow2 (e + 1))

/-- z_i/t_i through the divide unit, clamped to 2^±`SIGMA_SPAN` of its column's scale; and whether it was clamped (R162). -/
def Programme.sigma (p : Programme) (span : Nat) (t z : Vec) : List (Rat × Bool) :=
  p.ins.mapIdx (fun i r =>
    let a := t.at_ i
    let b := z.at_ i
    let q := unitDiv b.1 b.2 a.1 a.2
    let v := wordVal q.1 q.2.1
    let lo := pow2 (-(span : Int)) * p.colScale r
    let hi := pow2 span * p.colScale r
    if v < lo then (lo, true) else if hi < v then (hi, true) else (v, false))

/-- The solution of a linear system whose rows end with the right-hand side; none where it is singular. -/
def linSolve : Nat → List (List Rat) → Option (List Rat)
  | 0, _ => some []
  | n + 1, rows =>
    match rows.findIdx? (fun r => decide (r.headD 0 ≠ 0)) with
    | none => none
    | some i =>
      let p := rows.getD i []
      let rest := (rows.eraseIdx i).map (fun r => List.zipWith (fun a b => a - r.headD 0 / p.headD 0 * b) r.tail p.tail)
      match linSolve n rest with
      | none => none
      | some xs => some (((p.getLastD 0) - dotQ p.tail.dropLast xs) / p.headD 0 :: xs)

/-- A step of the method: dx, dy, dt and dz for a complementarity right-hand side `rc`. -/
structure IpStep where
  dx : List Rat
  dy : List Rat
  dt : List Rat
  dz : List Rat

/-- The KKT system reduced over t and z, with its right-hand side for `rc`. -/
def Programme.kkt (p : Programme) (q : IpPoint) (sig rc : List Rat) : List (List Rat) :=
  let ri := p.resI q
  let rd := p.resD q
  let g := p.ins.mapIdx (fun i _ => rc.getD i 0 / q.t.getD i 1 + sig.getD i 0 * ri.getD i 0)
  ((List.range p.n).map (fun a =>
    (List.range p.n).map (fun b => (p.hess.getD a []).getD b 0 + sumQ (p.ins.mapIdx (fun i r => sig.getD i 0 * r.coef a * r.coef b))) ++
      p.eqs.map (fun r => r.coef a) ++ [-(rd.getD a 0) - sumQ (p.ins.mapIdx (fun i r => r.coef a * g.getD i 0))])) ++
  List.zipWith (fun r e => (List.range p.n).map r.coef ++ p.eqs.map (fun _ => 0) ++ [-e]) p.eqs (p.resE q)

/-- A step of the method. A system whose factorisation replaces pivots has a free solution (R194; log 78). -/
def Programme.step (p : Programme) (q : IpPoint) (sig rc : List Rat) (job it which : Nat) : IpStep :=
  let n := p.n + p.eqs.length
  let free := (List.range n).map (Config.freeStep job it which)
  let s := if 0 < Config.freePivots job it then free else (linSolve n (p.kkt q sig rc)).getD free
  let dx := s.take p.n
  let dt := List.zipWith (fun r e => -e - r.dot dx) p.ins (p.resI q)
  { dx := dx, dy := s.drop p.n, dt := dt, dz := dt.mapIdx (fun i d => rc.getD i 0 / q.t.getD i 1 - sig.getD i 0 * d) }

/-- The steps at which entries of a list reach 0. -/
def stepLimits (v d : List Rat) : List Rat :=
  ((v.zip d).filter (fun e => decide (e.2 < 0))).map (fun e => -e.1 / e.2)

/-- `frac` times the largest step that keeps t and z at or above 0, at most 1. -/
def stepLen (q : IpPoint) (d : IpStep) (frac : Rat) : Rat :=
  (stepLimits (q.t ++ q.z) (d.dt ++ d.dz)).foldl (fun a r => minQ a (frac * r)) 1

/-- v + a·d. -/
def moved (a : Rat) (v d : List Rat) : List Rat := List.zipWith (fun x y => x + a * y) v d

/-- The next point (R161): predictor, centring, corrector with the same factor, step to the boundary. -/
def Programme.next (p : Programme) (q : IpPoint) (sig : List Rat) (mu frac : Rat) (job it : Nat) : IpPoint :=
  let tz := List.zipWith (· * ·) q.t q.z
  let aff := p.step q sig (tz.map (fun v => -v)) job it 0
  let a := stepLen q aff 1
  let m := ratN p.ins.length
  let muAff := dotQ (moved a q.t aff.dt) (moved a q.z aff.dz) / m
  let s := (muAff / mu) * (muAff / mu) * (muAff / mu)
  let d := p.step q sig (List.zipWith (fun v w => -v - w + s * mu) tz (List.zipWith (· * ·) aff.dt aff.dz)) job it 1
  let al := stepLen q d frac
  { x := moved al q.x d.dx, t := moved al q.t d.dt, z := moved al q.z d.dz, y := moved al q.y d.dy }

/-- The vectors the next iteration of a dispatch job starts from: its own, or the start's (R163, R165). -/
def ReSnap.jobVecs (r : ReSnap) (j : Job) : Tab Vec := if j.vecs.isEmpty then r.startVecs else j.vecs

/-- The three tests of R161. -/
def ReSnap.converged (r : ReSnap) (v : Tab Vec) : Bool :=
  let p := r.programme
  let q := r.readPoint v
  let e := fun (sub : Nat) => pow2 (-(r.nat 0x2801 sub : Int))
  decide (p.primal q ≤ e 9) && decide (p.dual q ≤ e 10) && decide (muOf (Tab.get {} v 2000) (Tab.get {} v 2001) ≤ e 11 * r.mu0)

/-- The diagonal of an iteration, with its clamps. -/
def ReSnap.sigma (r : ReSnap) (v : Tab Vec) : List (Rat × Bool) :=
  r.programme.sigma (r.nat 0x2801 21) (Tab.get {} v 2000) (Tab.get {} v 2001)

/-- The primitives of an iteration of a dispatch job. -/
def ReSnap.prims (r : ReSnap) (j : Job) : List Prim :=
  let v := r.jobVecs j
  r.writePoint (r.programme.next (r.readPoint v) ((r.sigma v).map (·.1)) (muOf (Tab.get {} v 2000) (Tab.get {} v 2001))
    (ratI (r.int 0x2801 8) 32768) j.no j.iters)

end Machine
end Sys2Proof
end

