-- ==== Sys2Proof/Machine/Planner.lean ====
section
/-! DEFINITION. Re-plans, publication and delivery of plans, grid boundaries and the dispatch entries (R144–R182). -/

namespace Sys2Proof
namespace Machine

/-! ## The snapshot (R147) and the start (R145, R146, R165) -/

/-- Length of a grid step, ns. -/
def State.gridNs (s : State) : Int := s.nat 0x2810 4 * 60000000000

/-- Ends of the steps of a horizon that starts at `ts` (R145). -/
def State.stepEnds (s : State) (ts : Int) : Nat → List Nat
  | 0 => []
  | n + 1 => let e := s.nextMultiple ts s.gridNs; e.toNat :: s.stepEnds e n

/-- Grid boundaries in (a, b]. -/
def State.boundariesIn (s : State) (a b : Int) : Nat := s.multiplesIn a b s.gridNs

/-- Grid boundaries that lie between a plan's first step in force at publication and a device time. -/
def Plan.passed (p : Plan) (dev : Nat) : Nat :=
  let n := (p.ends.filter (fun e => decide (e ≤ dev))).length
  match p.ends.getLast? with
  | some e => if e ≤ dev then n + (dev - e) / (p.stepLen * 60000000000) else n
  | none => 0

/-- The re-plan at `ts` meets the conditions of a warm start (R165). -/
def State.warmStart (s : State) (ts : Nat) : Bool :=
  let p := s.disp.plan
  p.inForce && !p.withdrawn && !s.disp.forceCold && !s.disp.coldNext && decide (p.topo = imgTopo s.img) && decide (p.horizon = s.nat 0x2810 3) &&
    decide (p.stepLen = s.nat 0x2810 4) && decide (p.calOffset = s.cal.offset) && decide (p.shifted + p.passed ts < p.horizon)

/-- Measured output of a plant, W. -/
def State.plantOut (s : State) (p : Nat) : Int :=
  let c := u16At (recOf s.img 5 p) 10
  if (s.chan c).got then (let v := s.chanValue c 3; rounding 21 (wordVal v.1 v.2 * 1000)) else 0

/-- Tabulate a list of integers; 0 is not listed. -/
def tabOf (n : Nat) (f : Nat → Int) : Tab Int := (List.range n).foldl (fun (t : Tab Int) k => Tab.put 0 t k (f k)) []

/-- What a re-plan at `ts` takes (R147), before it is settled whether its warm point stands. -/
def State.takeInputs (s : State) (ts : Nat) (round : Option Nat) (bnd : Tab BndPlan) : ReSnap :=
  { ts := ts, cold := !s.warmStart ts, warmRejected := false, deadline := 0,
    n := s.nat 0x2810 3, stepLen := s.nat 0x2810 4, img := s.img, vals := s.dict.vals,
    ends := s.stepEnds ts (s.nat 0x2810 3), calOffset := s.cal.offset, deliv := s.hyd.deliv, bias := s.estim.bias, drift := s.estim.drift,
    loss := s.estim.loss, lossW := s.hyd.lossW,
    storeWh := tabOf (secCount s.img 6) (fun st => rounding 18 (s.storeKWh st * 1000)), layers := s.hyd.layers,
    soc := tabOf (secCount s.img 7) (fun k => (s.chanValue (u16At (recOf s.img 7 k) 6) 1).1),
    status := s.disp.pstatus, rise := s.disp.rise, fall := s.disp.fall, dli := s.disp.dli,
    out := tabOf (secCount s.img 5) s.plantOut, profB := s.disp.profB, profS := s.disp.profS, prev := s.disp.plan,
    outdoor := rounding 21 (s.outdoorNow * 100), irr := s.disp.irr24, par := s.disp.par24, round := round, bnd := bnd, weekday := s.weekdayAt ts }

/-- The snapshot of a re-plan (R146, R147): warm or cold, its deadline, and μ₀ (R163, R165). -/
def State.takeSnap (s : State) (ts : Nat) (round : Option Nat) (bnd : Tab BndPlan) (deadline : Option Nat) : ReSnap :=
  let r := s.takeInputs ts round bnd
  let bad := !r.cold && r.warmBad
  let cold := r.cold || bad
  { r with cold := cold, warmRejected := bad, mu0 := r.coldMu,
           deadline := deadline.getD (ts + s.nat 0x2801 (if cold then 15 else 16) * 1000000) }

/-- The dispatch job of a re-plan is submitted at its initial point; one that has converged there stops at once (R161, R163, R165). -/
def State.submitReplan (s : State) (r : ReSnap) (first : Bool) : State :=
  let v := r.startVecs
  let ok := r.converged v && r.accepts v
  ((s.submitJob 2 r.deadline).modJob 2 (fun j => { j with vecs := v, met := ok, conv := ok, done := if ok then some v else none })).modDisp (fun d => { d with
    run := some r, lastStart := r.ts, nowPending := false, forceCold := false, coldNext := false, lightVals := some r.vals,
    colds := d.colds + b2n (first && r.cold), rejections := d.rejections + b2n (first && r.warmRejected) })

/-- A re-plan starts: snapshot, and the dispatch job is submitted. -/
def State.replanStart (s : State) (bnd : Tab BndPlan) : State :=
  s.submitReplan (s.takeSnap s.clk.dev none bnd none) true

/-- A calendar instant of R145 came within the last second and after the last re-plan. -/
def State.replanDue (s : State) : Bool :=
  let lo := max (s.disp.lastStart : Int) ((s.clk.dev : Int) - 1000000000)
  decide (0 < s.multiplesIn lo s.clk.dev (s.nat 0x2810 2 * 1000000000)) || s.isMultiple s.clk.dev (s.nat 0x2810 2 * 1000000000) &&
    decide (s.disp.lastStart < s.clk.dev)

/-- The boundary index, tag and port of a boundary node (R83). -/
def State.bndIndex (s : State) (n : Nat) : Nat := u8At (recOf s.img 1 n) 6
def State.bndTag (s : State) (n : Nat) : Nat := u32At (recOf s.img 1 n) 0
def State.bndPort (s : State) (n : Nat) : Nat := u8At (recOf s.img 1 n) 7

/-- The boundaries of a re-plan outside a round: at the last agreed exchange (R481), an unmatched one at 0 (R475). -/
def State.bndPlans (s : State) : Tab BndPlan :=
  (bndNodes s.img).foldl (fun (t : Tab BndPlan) n =>
    let b := Tab.get {} s.casc.bounds (s.bndIndex n)
    Tab.insert t n { fixed := some (if b.matched then b.agreed else []) }) []

/-- Agreed exchanges and prices shift with a re-plan as a warm start does (R477, R481, R165). -/
def State.shiftBounds (s : State) (ts : Nat) : State :=
  let n := s.boundariesIn s.disp.lastStart ts
  let f := fun (l : List Int) => match l.getLast? with
    | some x => l.drop n ++ List.replicate (min n l.length) x
    | none => []
  { s with casc := { s.casc with bounds := s.casc.bounds.map (fun (e : Nat × Bound) => (e.1, { e.2 with agreed := f e.2.agreed, price := f e.2.price })) } }

/-- REPLAN_START (R145, R146, and R476: with `CASCADE_ENABLE` set, re-plans are rounds): `lost` are the poisoned profile words met (R151).
Only the lease holder runs the optimiser (R177); a dispatch job that still runs lets no second one start. -/
def execReplanStart (t : Nat) (lost : List (Nat × Nat)) (soft : Nat) (s : State) : Out :=
  onIsland .solv t s (fun s =>
    if s.nat 0x6410 1 = 0 ∧ s.model.active.isSome ∧ s.up ∧ ¬ s.power.jobsHeld ∧ s.inputsHeld ∧ s.nat 0x2810 1 = 1 ∧ ¬ (s.job 2).alive ∧ (s.disp.nowPending ∨ s.replanDue) then
      let s := (lost.filter (fun x => decide (x.1 < 513) && decide (x.2 < 672))).foldl State.profileLost
        ((s.softSubsoil soft).shiftBounds s.clk.dev)
      s.replanStart s.bndPlans
    else s)

/-! ## Delivery (R173, R174) -/

/-- A value at the scale code of a class (R187): half-even, saturating. -/
def atScale (sc : Int) (q : Rat) : Int × Int := (clampI (-wordMax) wordMax (roundRat (q * pow2 (-sc))), sc)

/-- The value of a decision or state in step `k` of a plan. -/
def State.planVar (s : State) (p : Plan) (k : Nat) (x : QVar) : Rat :=
  match (qVars s.img).findIdx? (fun y => decide (y = x)), p.steps[k]? with
  | some i, some st => let v := st.dec.getD i (0, 0); wordVal v.1 v.2
  | _, _ => 0
def State.planSt (s : State) (p : Plan) (k : Nat) (x : QState) : Rat :=
  match (qStates s.img).findIdx? (fun y => decide (y = x)), p.steps[k]? with
  | some i, some st => let v := st.st.getD i (0, 0); wordVal v.1 v.2
  | _, _ => 0

/-- Output of a plant in step `k`. -/
def State.planQ (s : State) (p : Plan) (k m : Nat) : Rat := s.planSt p k (.q m)

/-- Signed electric power of a plant in step `k`, as the re-plan had it (R154), kW. -/
def Plan.pelOf (p : Plan) (k m : Nat) : Rat := (p.steps[k]?.bind (fun st => st.pel[m]?)).elim 0 (fun v => wordVal v.1 v.2)

/-- Room offset of a network (R156), K: Z₁ / `FLEX_CAP`. -/
def State.roomOffset (s : State) (p : Plan) (k w : Nat) : Rat :=
  let cap := p.flexCap.getD w 0
  if cap = 0 then 0 else s.planSt p k (.z w) / ratN cap

/-- The plan values of step `k` (R174). -/
def State.planValues (s : State) (p : Plan) (k : Nat) : Tab (Int × Int) :=
  let img := s.img
  let put := fun (t : Tab (Int × Int)) (i : Nat) (q : Rat) => Tab.insert t i (atScale (s.planSc i) q)
  let t : Tab (Int × Int) := []
  let t := (List.range (secCount img 5)).foldl (fun t m => put (put t m (s.planQ p k m)) (0x40 + m) (p.pelOf k m)) t
  let t := (usedNets img).foldl (fun t w => put (put t (0x80 + w) (s.planVar p k (.ts w))) (0x84 + w) (s.roomOffset p k w)) t
  let t := put t 0x88 (s.planVar p k .gi - s.planVar p k .ge)
  let t := (List.range (secCount img 6)).foldl (fun t st => put t (0x90 + st) (s.planVar p k (.ch st) - s.planVar p k (.dis st))) t
  let t := (List.range (secCount img 7)).foldl (fun t b => put t (0xB0 + b) (s.planVar p k (.bch b) - s.planVar p k (.bdis b))) t
  let t := (List.range (secCount img 8)).foldl (fun t g => (List.range (bandsOf img g)).foldl (fun t b => put t (0xC0 + 4 * g + b) (s.planVar p k (.light g b))) t) t
  (bndNodes img).foldl (fun t n => put t (0x140 + u8At (recOf img 1 n) 6) (s.planVar p k (.bnd n))) t

/-- Sum of the weights of a group's channels. -/
def State.groupWeight (s : State) (g : Nat) : Nat :=
  ((List.range 512).map (fun c => let r := s.chanOf c; if r.type = 3 ∧ r.element = g then r.weight else 0)).foldl (· + ·) 0

/-- Write the plan's word `w` of a channel, at a scale code. -/
def State.planWord (s : State) (c w : Nat) (sc : Int) (q : Rat) : State :=
  let v := atScale sc q
  (s.setSpWord c w v.1 v.2).modChan c (fun x => { x with planOwned := x.planOwned ||| 2 ^ w })

/-- The set-points of a channel (R173). -/
def State.deliverChan (s : State) (p : Plan) (k c : Nat) : State :=
  let r := s.chanOf c
  match r.type with
  | 4 => (s.planWord c 0 (elSc s.img 4 r.element) (s.planQ p k r.element)).planWord c 1 (s.classSc 3) (s.planVar p k (.ts r.network))
  | 5 =>
    if r.battery then s.planWord c 0 (s.classSc 5) (s.planVar p k (.bch (r.element - 0x8000)) - s.planVar p k (.bdis (r.element - 0x8000)))
    else s.planWord c 0 (s.classSc 4) (s.planVar p k (.ch r.element) - s.planVar p k (.dis r.element))
  | 3 =>
    (List.range (bandsOf s.img r.element)).foldl (fun s b =>
      s.planWord c b (s.classSc 5) (s.planVar p k (.light r.element b) * ratI r.weight (s.groupWeight r.element))) s
  | 1 | 2 => if s.planWords c = 1 then s.planWord c 0 (s.classSc 3) (s.roomOffset p k r.network) else s
  | _ => s

/-- The step in force is delivered: plan values, hint words, channel set-points in channel order; suppressed in SAFE_HOLD and SERVICE
(R175). -/
def State.deliver (s : State) : State :=
  let p := s.disp.plan
  if ¬ p.inForce ∨ p.withdrawn ∨ s.holding then s
  else
    let s := s.modDisp (fun d => { d with plan := { d.plan with values := s.planValues p p.step, valVersion := p.version },
                                          delVersion := p.version, delStep := p.step, delHints := p.hints })
    (List.range 512).foldl (fun s c => s.deliverChan p p.step c) s

/-! ## Commitment hints (R171, R172) -/

/-- The rounding with hysteresis over steps 1 to 8. -/
def hintBits (on off : Rat) : Bool → List Rat → Nat → Nat
  | _, [], _ => 0
  | cur, u :: t, j =>
    let cur := if ¬ cur ∧ on ≤ u then true else cur
    let cur := if cur ∧ u ≤ off then false else cur
    2 ^ j * b2n cur + hintBits on off cur t (j + 1)

/-- The hint word of a plant. -/
def State.hintOf (s : State) (r : ReSnap) (p : Plan) (m : Nat) : Nat :=
  let run := r.running m
  let bits := hintBits (ratI (r.int 0x2801 17) 32768) (ratI (r.int 0x2801 18) 32768) run
    (((List.range 8).filter (fun j => decide (j + 1 < p.steps.length))).map (fun j => s.planVar p (j + 1) (.u m))) 0
  let act := if ¬ run ∧ bitOf bits 0 ∧ r.downUntil m ≤ r.ts then 1
    else if run ∧ ¬ bitOf bits 0 ∧ r.upUntil m ≤ r.ts ∧ ¬ r.mustRun m then 2 else 0
  bits + 256 * act

/-! ## Publication (R169) -/

/-- The powers of a step's plants (R154). -/
def ReSnap.pels (r : ReSnap) (x : QStep) (k : Nat) : List Rat := (List.range (secCount r.img 5)).map (fun p => r.powerP x p k)

/-- A repaired iterate as plan steps (R170). -/
def stepsOf (r : ReSnap) (l : List QStep) : List PlanStep :=
  l.mapIdx (fun k x => { ms := (((r.finish k : Int) - r.begins k) / 1000000).toNat,
                         dec := (qVars r.img).map (fun v => atScale (v.sc r.img) (x.v v)),
                         st := (qStates r.img).map (fun q => atScale (q.sc r.img) (x.s q)),
                         pel := (r.pels x k).mapIdx (fun p v => atScale (elSc r.img 5 p) v) })

/-- A value saturates when it is stored at a scale code (R187). -/
def scaleOver (sc : Int) (q : Rat) : Bool := decide (wordMax < (roundRat (q * pow2 (-sc))).natAbs)

/-- A value of the repaired iterate saturates when it is stored (R167 code 7). -/
def stepsOver (r : ReSnap) (l : List QStep) : Bool :=
  l.any (fun x => (qVars r.img).any (fun v => scaleOver (v.sc r.img) (x.v v)) || (qStates r.img).any (fun q => scaleOver (q.sc r.img) (x.s q))) ||
  (l.mapIdx (fun k x => (r.pels x k).mapIdx (fun p v => scaleOver (elSc r.img 5 p) v))).any (fun b => b.any id)

/-- Steps, or what goes with them, shifted by the boundaries passed: the front falls off, the last is repeated (R165, R169). -/
def shiftSteps (n : Nat) (l : List PlanStep) : List PlanStep :=
  match l.getLast? with
  | some x => (l.drop n ++ List.replicate (min n l.length) x)
  | none => []

/-- The ends of shifted steps: the repeated steps are grid steps that follow the last. -/
def shiftEnds (n grid : Nat) (l : List Nat) : List Nat :=
  match l.getLast? with
  | some e => l.drop n ++ (List.range (min n l.length)).map (fun i => e + (i + 1) * grid)
  | none => []

/-- A plan shifted at its publication (R169). -/
def Plan.shift (p : Plan) (n : Nat) : Plan :=
  { p with steps := shiftSteps n p.steps, ends := shiftEnds n (p.stepLen * 60000000000) p.ends, shifted := n }

/-- The plan of an accepted iterate, before its version. -/
def State.planOf (s : State) (r : ReSnap) (l : List QStep) (status : Nat) : Plan :=
  let p : Plan := {
    status := status, cold := r.cold, time := s.clk.dev, start := r.ts, first := r.ends.headD r.ts, stepLen := r.stepLen,
    decs := (qVars r.img).length, states := (qStates r.img).length, objective := rounding 25 (r.objective 0 r.initial l * 1000),
    steps := stepsOf r l, ends := r.ends, flexCap := (List.range 4).map (fun w => u32At (r.oct 0x2800 5) (4 * w)),
    step := 0, inForce := true, calOffset := r.calOffset, topo := imgTopo r.img, horizon := r.n,
    z0 := (usedNets r.img).foldl (fun (t : Tab (Int × Int)) w => Tab.put (0, 0) t w (atScale (imgSc r.img 6) (((l.head?).map (fun x => x.s (.z w))).getD 0))) [] }
  { p with hints := (List.range (secCount r.img 5)).foldl (fun (t : Tab Nat) m => Tab.put 0 t m (s.hintOf r p m)) [] }

/-- A plan comes into force (R169) and is delivered (R173, R177). -/
def State.planInForce (s : State) (p : Plan) : State :=
  let s := (s.modDisp (fun d => { d with plan := p })).deliver
  if p.withdrawn then s.modDisp (fun d => { d with delHints := [] }) else s

/-- A plan is published (R169), delivered (R173) and mirrored with its version (R177). -/
def State.publishPlan (s : State) (p : Plan) : State :=
  let p := { p with version := (s.disp.plan.version + 1) % 4294967296, values := s.disp.plan.values, valVersion := s.disp.plan.valVersion }
  let s := (s.modDisp (fun d => { d with published := d.published + 1 })).planInForce p
  s.mirror (.plan s.disp.plan)

/-- The largest power slack of a plan, kW; a DLI slack above 10 mmol/m². -/
def slackMax (img : Octets) (l : List QStep) : Rat :=
  l.foldl (fun (m : Rat) (x : QStep) => (usedNets img).foldl (fun (m : Rat) w => maxQ (x.v (.su w)) (maxQ (x.v (.sx w)) (maxQ (x.v (.sd w)) m))) (maxQ m (x.v .se))) 0
def dliSlack (img : Octets) (l : List QStep) : Bool :=
  l.any (fun x => (List.range (secCount img 8)).any (fun g => (List.range (bandsOf img g)).any (fun b => decide (1 / 100 < x.v (.sg g b)))))

/-- The status flags of a re-plan (R180). -/
def ReSnap.replanFlags (r : ReSnap) (j : Job) (slack missed : Bool) (shift : Nat) : Nat :=
  b2n (decide (0 < j.repl)) + 2 * b2n slack + 4 * b2n r.warmRejected + 8 * b2n r.cold + 16 * b2n (decide (0 < shift)) + 32 * b2n missed +
    64 * b2n r.short + 128 * b2n ((List.range (secCount r.img 5)).any r.rampWide) + 256 * b2n (decide (0 < j.clamps))

/-- How a dispatch job ended (R164, R167, R168): the status of its re-plan; none where it has not ended. `sat`: a value of its repaired
iterate saturates when it is stored. -/
def jobStatus (j : Job) (accepted slack sat : Bool) : Option Nat :=
  let met := if j.conv then (if slack then 3 else if 0 < j.repl then 2 else 1) else 4
  let st : Option Nat :=
    if j.state = 1 then (if j.met then some met else none)
    else if j.state = 2 then
      match j.reason with
      | some .overflow => some 7
      | some .complete => some met
      | some .deadlineIterate => some (if accepted then 5 else 6)
      | some .deadlineEmpty => some 6
      | _ => none
    else none
  st.map (fun c => if c ≤ 5 ∧ sat then 7 else c)

/-- What a dispatch job came to: its repaired steps, whether they are accepted, the status and whether a slack is active. -/
structure Verdict where
  steps : List QStep
  accepted : Bool
  slack : Bool
  status : Option Nat

def ReSnap.verdict (r : ReSnap) (j : Job) : Verdict :=
  let l := r.repair 0 r.initial (r.iterSteps (j.done.getD []))
  let ok := l.2 && j.done.isSome
  let sl := decide (ratN (r.nat 0x2801 19) < slackMax r.img l.1) || dliSlack r.img l.1
  { steps := l.1, accepted := ok, slack := sl, status := jobStatus j ok sl (j.done.isSome && stepsOver r l.1) }

/-- The record of a re-plan that has ended (R179). -/
def State.replanRecord (s : State) (r : ReSnap) (j : Job) (v : Verdict) (st shift : Nat) (missed : Bool) : State :=
  s.modDisp (fun d => { d with
    lastStatus := st, flags := r.replanFlags j v.slack missed shift, iterations := j.iters % 256,
    solveUs := (s.clk.dev - r.ts) / 1000 % 4294967296, pivots := j.repl, clamps := j.clamps,
    slackMax := (rounding 19 (slackMax r.img v.steps)).toNat % 4294967296, run := none })

/-- DISPATCH_JOB_END (R167): the check, the status, rounding, publication and delivery; a round's job is handed to the cascade. -/
def State.dispatchEnd (s : State) : State :=
  match s.disp.run with
  | none => s
  | some r =>
    let j := s.job 2
    let v := r.verdict j
    match v.status with
    | none => s
    | some st =>
      if r.round.isSome ∨ ¬ s.mayEnd 2 then s
      else if ¬ s.inputsHeld then
        { (s.handOver 2).modDisp (fun d => { d with run := none }) with lease := { s.lease with discarded := true } }
      else
        let shift := (r.ends.filter (fun e => decide (e ≤ s.clk.dev))).length
        let s := s.handOver 2
        let s := s.replanRecord r j v st (if st ≤ 5 then shift else 0) false
        if st ≤ 5 then s.publishPlan ((s.planOf r v.steps st).shift shift) else s.modDisp (fun d => { d with notPublished := d.notPublished + 1 })

/-- DISPATCH_JOB_END. -/
def execDispatchJobEnd (t : Nat) (s : State) : Out := onIsland .solv t s State.dispatchEnd

/-! ## The plan in force (R175) -/

/-- The plan as it stands at a device time (R175): the step in force advances by one at each boundary passed since publication; after the
last step it stays, and `EXHAUSTED` is set. -/
def Plan.advanced (p : Plan) (dev : Nat) : Plan :=
  let n := p.passed dev
  { p with past := n, step := min n (p.steps.length - 1), exhausted := decide (p.steps.length ≤ n) }

/-- A grid boundary (R173, R175): the plan in force advances and the step in force is delivered. -/
def State.gridBoundary (s : State) : State :=
  let p := s.disp.plan
  if ¬ p.inForce ∨ p.withdrawn ∨ p.passed s.clk.dev ≤ p.past then s
  else (s.modDisp (fun d => { d with plan := d.plan.advanced s.clk.dev })).deliver

/-- GRID_BOUNDARY (R175). -/
def execGridBoundary (t : Nat) (s : State) : Out := onIsland .house t s State.gridBoundary

/-- PLAN_STALE (R175). -/
def execPlanStale (t : Nat) (s : State) : Out :=
  onIsland .house t s (fun s =>
    let p := s.disp.plan
    if p.inForce ∧ ¬ p.stale ∧ p.time + s.nat 0x2801 20 * 1000000000 ≤ s.clk.dev then
      (s.modDisp (fun d => { d with plan := { d.plan with stale := true } })).post .house Code.planStale 0 [.u32 p.version]
    else s)

/-- The plan is withdrawn (R107, R175): its last values stay, the hint words clear, no set-point is sent. -/
def State.withdrawPlan (s : State) : State :=
  if s.disp.plan.inForce then s.modDisp (fun d => { d with plan := { d.plan with withdrawn := true, hints := [] }, delHints := [], coldNext := true }) else s.modDisp (fun d => { d with coldNext := true })

/-! ## Dictionary (R178–R181) -/

/-- `PLAN_BODY` (R170). -/
def Plan.body (p : Plan) : Octets :=
  if p.steps.isEmpty then []
  else
    leBytes 4 p.version ++ leBytes 1 p.status ++ leBytes 1 (b2n p.cold) ++ leBytes 2 p.steps.length ++ leBytes 2 p.stepLen ++ leBytes 2 p.decs ++
      leBytes 2 p.states ++ zeros 2 ++ leBytes 8 p.start ++ leBytes 8 p.first ++ leInt 8 p.objective ++ zeros 24 ++
      p.steps.flatMap (fun st => leBytes 4 st.ms ++ (st.dec ++ st.st).flatMap (fun v => leInt 4 v.1 ++ leInt 1 v.2))

/-- `PLAN_VALUES` (R174). -/
def State.planValuesO (s : State) : Octets :=
  leBytes 4 s.disp.plan.valVersion ++ (List.range 512).flatMap (fun i => let v := s.planValue i; leInt 4 v.1 ++ leInt 1 v.2)

/-- `TS_BAND` as read. -/
def State.tsBandO (s : State) : Octets :=
  let b := s.oct 0x2800 3
  if b.isEmpty then (List.range 4).flatMap (fun w => let t := if netUsed s.img w then i16At (recOf s.img 0 w) 4 else 0; leInt 2 t ++ leInt 2 t) else b

/-- The entries of `0x2800` to `0x2820` as read; none for a stored value. -/
def State.planRead (s : State) (idx sub : Nat) : Option Octets :=
  let d := s.disp
  let p := d.plan
  if idx = 0x2800 ∧ sub = 3 then some s.tsBandO
  else if idx = 0x2810 ∧ sub = 5 then some (leBytes 4 (b2n d.nowPending))
  else if idx = 0x2810 ∧ sub = 6 then some (leBytes 4 (b2n d.forceCold))
  else if idx = 0x2811 then
    match sub with
    | 1 => some (leBytes 1 d.lastStatus)
    | 2 => some (leBytes 2 d.flags)
    | 3 => some (leBytes 1 d.iterations)
    | 4 => some (leBytes 4 d.solveUs)
    | 5 => some (leBytes 8 d.lastStart)
    | 6 => some (leBytes 4 d.pivots)
    | 7 => some (leBytes 4 d.slackMax)
    | 8 => some (leBytes 4 d.clamps)
    | 9 => some (leBytes 4 d.published ++ leBytes 4 d.notPublished ++ leBytes 4 d.colds ++ leBytes 4 d.rejections)
    | _ => none
  else if idx = 0x2820 then
    match sub with
    | 1 => some (leBytes 4 p.version)
    | 2 => some (leBytes 1 p.status)
    | 3 => some (leBytes 8 p.time)
    | 4 => some (leBytes 8 p.start)
    | 5 => some (leBytes 2 p.step)
    | 6 => some s.planValuesO
    | 7 => some p.body
    | 8 => some (leBytes 4 p.version ++ (List.range 64).flatMap (fun m => leBytes 2 (Tab.get 0 p.hints m)))
    | 9 => some (leBytes 2 p.flags)
    | _ => none
  else none

/-- Elements of an array of `n` values of `w` octets lie in a range. -/
def eachIn (b : Octets) (n w lo hi : Nat) : Bool := (List.range n).all (fun i => let v := leNat (slice b (w * i) w); decide (lo ≤ v) && decide (v ≤ hi))

/-- A changed `FLEX_MASK` takes the word from channels that no longer have it (R173). -/
def State.maskOwners (s : State) : State :=
  (List.range 512).foldl (fun s c =>
    let o := (s.chan c).planOwned
    if o = o &&& s.planWords c then s else s.modChan c (fun v => { v with planOwned := o &&& s.planWords c })) s

/-- The storage rule for a horizon over the active image (check 13 of R104, R150). -/
def State.horizonFits (s : State) (n : Nat) : Bool :=
  match s.model.active with
  | some img => decide (n * (imgDec img + imgStates img) ^ 2 * 4 ≤ 50331648)
  | none => true

/-- Writes of `0x2800`, `0x2801` and `0x2810` with a rule of their own. -/
def State.planWrite (s : State) (idx sub : Nat) (b : Octets) : WRes :=
  let v := leNat b
  if idx = 0x2800 then
    match sub with
    | 3 => WRes.unless ((List.range 4).any (fun w => decide (i16At b (4 * w + 2) < i16At b (4 * w)))) 0x0A05 s .plain
    | 4 => WRes.unless (!eachIn b 4 2 0 500) 0x0A05 s .plain
    | 6 => WRes.unless (!eachIn b 4 2 30 2880) 0x0A05 s .plain
    | 7 => .done ((s.store idx sub b).maskOwners)
    | _ => .plain
  else if idx = 0x2801 then
    match sub with
    | 15 | 16 => WRes.unless (decide (900 * s.nat 0x2810 2 < v)) 0x0A05 s .plain
    | 17 => WRes.unless (decide (i16At b 0 ≤ s.num 0x2801 18)) 0x0A05 s .plain
    | 18 => WRes.unless (decide (s.num 0x2801 17 ≤ i16At b 0)) 0x0A05 s .plain
    | _ => .plain
  else if idx = 0x2810 then
    match sub with
    | 2 => WRes.unless (decide (900 * v < s.nat 0x2801 15 ∨ 900 * v < s.nat 0x2801 16)) 0x0A05 s .plain
    | 3 => if s.horizonFits v then .done ((s.store idx sub b).modDisp (fun d => { d with coldNext := true })) else .refuse 0x0A05 s
    | 4 =>
      if v ≠ 0 ∧ 1440 % v = 0 ∧ s.horizonFits (s.nat 0x2810 3) then .done ((s.store idx sub b).modDisp (fun d => { d with coldNext := true }))
      else .refuse 0x0A05 s
    | 5 => if v = 0x9A1D then .done (s.modDisp (fun d => { d with nowPending := true })) else .refuse 0x0A05 s
    | 6 => if v = 0xC01D then .done (s.modDisp (fun d => { d with forceCold := true })) else .refuse 0x0A05 s
    | _ => .plain
  else .plain

end Machine
end Sys2Proof
end

