-- ==== Sys2Proof/Machine/ModelSwitch.lean ====
section
/-! DEFINITION. Activation of a model image: the end of its keep-store write, the switch and what it carries (R106–R109). -/

namespace Sys2Proof
namespace Machine

/-! ## Learned values (R108) -/

/-- The record of a section of `old` whose tag is that of record `k` in `img`; none for a new element, or one whose flag `RELEARN`
(at `flag`) is set. -/
def sameTag (old img : Octets) (sec flag k : Nat) : Option Nat :=
  let tag := u32At (recOf img sec k) 0
  if bitOf (u16At (recOf img sec k) flag) 0 then none
  else (List.range (secCount old sec)).find? (fun j => decide (u32At (recOf old sec j) 0 = tag))

/-- A channel keeps its learned values: its type exists in both images and `RELEARN` is clear. -/
def sameChan (old img : Octets) (c : Nat) : Bool :=
  decide ((imgChan old c).type = (imgChan img c).type) && !(imgChan img c).relearn

/-- The pipes, the demand channels and the plants of an image. -/
def pipesOf (img : Octets) : List Nat := (List.range (secCount img 2)).filter (fun b => decide (brKind img b = 0))
def demandsOf (img : Octets) : List Nat :=
  (List.range 512).filter (fun c => decide ((imgChan img c).type = 1) || decide ((imgChan img c).type = 2))

/-- Learned values over a new image: a pipe's multiplier and a plant's drift follow the tag, a channel's bias and profile its number
and type. -/
def carryByTag (d : Int) (t : Tab Int) (keys : List Nat) (from_ : Nat → Option Nat) : Tab Int :=
  keys.foldl (fun (n : Tab Int) k =>
    match from_ k with
    | some j => Tab.put d n k (Tab.get d t j)
    | none => n) []

/-- The number of learned values replaced by their initial value: multipliers, biases, drifts and profiles, each as one value. -/
def replacedCount (old img : Octets) : Nat :=
  ((pipesOf img).filter (fun b => (sameTag old img 2 26 b).isNone)).length +
    ((List.range (secCount img 5)).filter (fun p => (sameTag old img 5 16 p).isNone)).length +
    2 * ((demandsOf img).filter (fun c => !sameChan old img c)).length

/-- Learned values are carried (R108). -/
def State.carryLearned (s : State) (old img : Octets) : State :=
  let keepC := fun (c : Nat) => decide (c = 512) || ((demandsOf img).contains c && sameChan old img c)
  let s := s.modEstim (fun e => { e with
    loss := carryByTag 1000 e.loss (pipesOf img) (sameTag old img 2 26),
    drift := carryByTag 1000 e.drift (List.range (secCount img 5)) (sameTag old img 5 16),
    bias := e.bias.filter (fun x => keepC x.1) })
  let s := s.modDisp (fun d => { d with
    profB := d.profB.filter (fun x => keepC (x.1 / 672)),
    profS := d.profS.filter (fun x => keepC (x.1 / 672)) })
  s.post .house Code.learnedReplaced 0 [.u32 (replacedCount old img)]

/-! ## The switch (R107) -/

/-- The first channel named by a source or the destination of a loop whose first 8 octets changed. -/
def State.changedChan (s : State) (old img : Octets) (n : Nat) : Option Nat :=
  ((List.range 6).filterMap (fun i =>
    let r := s.src n i
    if r.kind = (if i = 5 then 3 else 2) ∧ slice (recOf old 9 r.index) 0 8 ≠ slice (recOf img 9 r.index) 0 8 then some r.index
    else none)).head?

/-- Loops that name a changed channel go OFF and are logged. -/
def State.loopsByModel (s : State) (old img : Octets) : State :=
  (List.range 1024).foldl (fun s n =>
    if (s.loop n).state = .off then s
    else
      match s.changedChan old img n with
      | some c => (s.loopOff n).post .ctrl Code.loopOffByModel 0 [.u16 n, .u16 c]
      | none => s) s

/-- The assignment of a group is the one the saved-values record holds; a record that does not list the entry holds its default. -/
def State.assignSaved (s : State) (g : Nat) : Bool :=
  match s.keep.saved.read with
  | some t => decide (s.assigned g = u16At ((Tab.find t (key 0x2006 2)).getD (dfltOf (key 0x2006 2))).octs (2 * g))
  | none => false

/-- Assignments that are not saved take the groups' `DEFAULT_RECIPE` (R96; log 97). -/
def State.defaultRecipes (s : State) : State :=
  s.setVal 0x2006 2 (.oct ((List.range 32).flatMap (fun g =>
    if s.assignSaved g then leBytes 2 (s.assigned g)
    else if g < secCount s.img 8 then slice (recOf s.img 8 g) 14 2 else [0xFF, 0xFF])))

/-- The state of the engines over a new image whose topology is `same` or not. -/
def State.modelTopo (s : State) (old img : Octets) (same : Bool) : State :=
  if same then (s.rescalePipes old).maskOwners
  else
    let s := ((((s.abortJob 0).abortJob 1).abortJob 2).abortJob 3).withdrawPlan
    let s := (s.refillPipes.loopsByModel old img).defaultRecipes
    s.maskOwners

/-- The running model switches to an image (R107, R108): the statuses of the solves are NONE again; a changed topology also restarts the
estimator's window and leaves no published result to start from (R122, R126). -/
def State.switchTo (s : State) (img : Octets) (gen : Nat) : State :=
  let old := s.img
  let same := s.model.active.isSome && decide (imgTopo old = imgTopo img)
  let s := (s.scanSwitched 0x90000000).modModel (fun m => { m with active := some img, gen := gen, switched := s.clk.dev, next := none })
  let s := s.carryLearned old img
  let s := s.modelTopo old img same
  let s := s.modHyd (fun h => if same then { h with status := 0, lastPub := s.clk.dev }
    else { h with status := 0, lastPub := s.clk.dev, layers := [], nodeT := [], heads := [], flows := [] })
  let s := s.modEstim (fun e => if same then { e with status := 0 } else { e with status := 0, win := { start := s.clk.dev } })
  let s := if same then s else s.modCasc (fun c => { c with bounds := [], running := false })
  ([0, 1, 2].foldl (fun s p => s.sendTable p) s).clearHold 4

/-- The keep-store write of an activation ends (R106, R107). -/
def State.modelWritten (s : State) (ok : Bool) : State :=
  if s.model.stage.status ≠ 3 then s
  else if ok then
    let img := s.model.stage.image
    let s := { s with keep := { s.keep with model := s.keep.model.write img } }
    let gen := s.keep.model.gen
    if s.model.active.isNone then (s.modModel (fun m => { m with stage := {} })).switchTo img gen
    else s.modModel (fun m => { m with stage := {}, next := some (gen, img) })
  else (s.modModel (fun m => { m with stage := { m.stage with status := 4 } })).post .house Code.modelActivationFailed 0 [.u8 2]

/-- MODEL_WRITE_DONE (R106): `ok` says how the keep-store write ended. -/
def execModelWriteDone (t : Nat) (ok : Bool) (s : State) : Out := onIsland .mem t s (fun s => s.modelWritten ok)

/-- The switch that waits, at the start of a hydraulic period. -/
def State.switchNow (s : State) : State :=
  match s.model.next with
  | some (g, img) => s.switchTo img g
  | none => s

/-- MODEL_SWITCH (R107): it takes place at the start of a period. -/
def execModelSwitch (t : Nat) (s : State) : Out := onIsland .house t s (fun s => if s.periodDue.isSome then s.switchNow else s)

/-- HYD_PERIOD_START (R113): an activation whose switch waits comes first, and the period uses the new image (R107, R126). -/
def execHydPeriodStart (t : Nat) (s : State) : Out :=
  onIsland .solv t s (fun s =>
    match s.periodDue with
    | some start => s.switchNow.periodBegin start
    | none => s)

/-! ## Activation at a restart (R109) -/

/-- The newest valid model image becomes active; none, or one that fails check 6 or 13 of R104, leaves no model active and adds hold
cause 4. Learned values come from the learned record where its topology is the image's (R140). -/
def State.modelAtBoot (s : State) : State :=
  let none_ := fun (s : State) => (s.modModel (fun m => { m with active := none, gen := 0 })).holdBit 4 true
  match s.keep.model.read with
  | none => none_ (s.keepLost 2)
  | some img =>
    match modelFault s.power.straps.pos (s.nat 0x2810 3) img with
    | some (6, _) => none_ s
    | some (13, _) => none_ s
    | _ =>
      (s.modModel (fun m => { m with active := some img, gen := s.keep.model.gen, switched := s.clk.dev })).refillPipes.defaultRecipes

/-- The learned values at a restart (R140). -/
def State.learnedAtBoot (s : State) : State :=
  match s.keep.learned.read with
  | some r =>
    if s.model.active.isSome ∧ r.topo = imgTopo s.img then
      (s.modEstim (fun e => { e with loss := r.loss, bias := r.bias, drift := r.drift })).modDisp
        (fun d => { d with profB := r.profB, profS := r.profS })
    else s
  | none => s

end Machine
end Sys2Proof
end

