-- ==== Sys2Proof/Machine/Redundancy.lean ====
section
/-! DEFINITION. Duplex and triplex operation (R437–R462): messages, the lease and its timer, refrains, claims and takes, switch-over,
mirroring and voting. -/

namespace Sys2Proof
namespace Machine

/-- Change the lease. -/
def State.modLease (s : State) (f : Lease → Lease) : State := { s with lease := f s.lease }
/-- A lane of the position as this lane knows it. -/
def State.peer (s : State) (x : Nat) : Peer16 := Tab.get {} s.lease.peers x
/-- Change it. -/
def State.modPeer (s : State) (x : Nat) (f : Peer16 → Peer16) : State :=
  s.modLease (fun l => { l with peers := Tab.put {} l.peers x (f (Tab.get {} l.peers x)) })
/-- The other lanes of the position (R437). -/
def State.mates (s : State) : List Nat :=
  if s.single then [] else (List.range (if s.lease.cfg = 2 then 3 else 2)).filter (fun x => decide (x ≠ s.lane))
/-- The other lanes that are admitted. -/
def State.admittedMates (s : State) : List Nat := s.mates.filter (fun x => !bitOf s.lease.excluded x)

/-! ## Lease arithmetic (R438, R443) -/

/-- L·T_R·(1 − ρ), ns. -/
def leaseNs (l tR : Nat) : Nat := l * tR * 9998 / 10
/-- L·T_R·(1 + ρ), ns, rounded up. -/
def refrainNs (l tR : Nat) : Nat := (l * tR * 10002 + 9) / 10
/-- The load of the lease timer. -/
def State.leaseLoad (s : State) : Nat := leaseNs s.lease.l s.lease.tR
/-- Load the timer to at least a raw time. -/
def State.loadTimer (s : State) (e : Nat) : State := s.modLease (fun l => { l with timer := max l.timer e })
/-- Refrain for a lane that announced `l` and `tR` (R443). -/
def State.refrainFor (s : State) (x l tR : Nat) : State :=
  s.modLease (fun v => { v with refrain := Tab.insert v.refrain x (s.now + refrainNs l tR + v.g * v.tR * 1000) })
/-- A refrain runs. -/
def State.refraining (s : State) : Bool := s.lease.refrain.any (fun e => decide (s.now < e.2))
/-- A refrain runs for a lane other than `x`. -/
def State.refrainsOther (s : State) (x : Nat) : Bool := s.lease.refrain.any (fun e => decide (e.1 ≠ x) && decide (s.now < e.2))
/-- The `OWN` pin (R443). -/
def State.ownPin (s : State) : Bool := s.drives

/-! ## Eligibility (R446) -/

/-- The lane that announced holder within the last 3 cycles. -/
def State.holderSeen (s : State) : Option Nat :=
  s.mates.find? (fun x =>
    match (s.peer x).holderAt with
    | some c => decide (s.lease.cycle ≤ c + 3) && decide ((s.peer x).role = 2)
    | none => false)

/-- Check value of the program image in force, 0 without one (`0x5000.07`). -/
def State.progCrc (s : State) : Nat := ((s.logic.loaded).map (·.crc)).getD 0
/-- `0x2000.08`. -/
def State.modelCrc (s : State) : Nat := if s.model.active.isSome then imgCrc s.img else 0

/-- The mismatches with one lane's last message. -/
def State.mismWith (s : State) (x : Nat) : Nat :=
  match (s.peer x).msg with
  | none => 0
  | some m =>
    b2n (decide (m.modelCrc ≠ s.modelCrc)) + 2 * b2n (decide (m.progCrc ≠ s.progCrc)) +
      4 * b2n (decide (m.fw / 65536 ≠ s.power.fwVersion / 65536)) +
      8 * b2n (decide (m.flags / 16 % 4 ≠ s.lease.cfg) || decide (m.tR ≠ s.lease.tR) || decide (m.l ≠ s.lease.l) || decide (m.g ≠ s.lease.g))

/-- The mismatches with the holder, or with every other lane where none holds. -/
def State.mismNow (s : State) : Nat :=
  match s.holderSeen with
  | some h => s.mismWith h
  | none => s.admittedMates.foldl (fun (m : Nat) x => m ||| s.mismWith x) 0

/-- `ELIGIBLE`. -/
def State.eligible (s : State) : Bool := s.up && decide (s.mismNow = 0) && s.lease.resyncDone && decide (s.lease.state ≠ 3)

/-- The mismatches are taken up, and a new one is raised (R446). -/
def State.mismUpdate (s : State) : State :=
  let m := s.mismNow
  let new := m &&& (15 - (s.lease.mism &&& 15))
  let s := s.modLease (fun l => { l with mism := m })
  if new = 0 then s else s.post .house Code.redMismatch 0 []

/-! ## Messages (R439–R441) -/

/-- Octets 0–39 of a message (R440). -/
def RedMsg.octets (m : RedMsg) : Octets :=
  leBytes 1 m.type ++ leBytes 1 m.lane ++ leBytes 1 m.role ++ leBytes 1 m.flags ++ leBytes 4 m.boot ++ leBytes 4 m.cycle ++ leBytes 4 m.req ++
    leBytes 4 m.grant ++ leBytes 1 m.grantTo ++ leBytes 1 m.exclude ++ zeros 2 ++ leBytes 4 m.modelCrc ++ leBytes 4 m.progCrc ++
    leBytes 4 m.fw ++ leBytes 2 m.tR ++ leBytes 1 m.l ++ leBytes 1 m.g

/-- A message from its 48 octets. -/
def redMsgOf (b : Octets) : RedMsg :=
  { type := u8At b 0, lane := u8At b 1, role := u8At b 2, flags := u8At b 3, boot := u32At b 4, cycle := u32At b 8, req := u32At b 12,
    grant := u32At b 16, grantTo := u8At b 20, exclude := u8At b 21, modelCrc := u32At b 24, progCrc := u32At b 28, fw := u32At b 32,
    tR := u16At b 36, l := u8At b 38, g := u8At b 39, tag := slice b 40 8 }

/-- The key of `PAIR_SLOT`. -/
def State.pairKey (s : State) : Option Octets := (Tab.get none s.net.keys (s.nat 0x6400 6)).map (·.key)

/-- The tag of a message; all zero with `PAIR_SLOT` 0xFF (R439). -/
def State.redTag (s : State) (m : RedMsg) : Octets :=
  if s.nat 0x6400 6 = 255 then zeros 8
  else
    match s.pairKey with
    | some k => (hmac k m.octets).take 8
    | none => zeros 8

/-- The tag of a message is valid, or not checked. -/
def State.redTagOk (s : State) (m : RedMsg) : Bool :=
  decide (s.nat 0x6400 6 = 255) || (s.pairKey.isSome && decide (m.tag = s.redTag m))

/-- `FLAGS` of the device's messages. -/
def State.redFlags (s : State) : Nat :=
  b2n s.eligible + 2 * b2n s.refraining + 4 * b2n s.lease.resyncDone + 8 * b2n s.lease.solo + 16 * s.lease.cfg

/-- A message of this lane. -/
def State.redMsg (s : State) (type req grant grantTo : Nat) : RedMsg :=
  let m : RedMsg := {
    type := type, lane := s.lane, role := s.lease.state, flags := s.redFlags, boot := s.dev.bootCount, cycle := s.lease.cycle,
    req := req, grant := grant, grantTo := grantTo, exclude := s.lease.excludeVotes, modelCrc := s.modelCrc, progCrc := s.progCrc,
    fw := s.power.fwVersion, tR := s.lease.tR, l := s.lease.l, g := s.lease.g, tag := [] }
  { m with tag := s.redTag m }

/-- A message leaves on every path (R439, R440). -/
def State.redSend (s : State) (m : RedMsg) : State :=
  let b := m.octets ++ m.tag
  let s := if s.lease.cfg = 2 then (s.jSend 3 3 b).jSend 4 3 b else s.jSend 3 3 b
  match s.heartbeatPort with
  | some p => s.sendCan p 4 5 (s.ownFrame p (canId 1 m.type s.lane 127 (m.cycle % 64)) b) none
  | none => s

/-- A message is not below the last accepted one, and not one already accepted (R441). -/
def Peer16.fresh (v : Peer16) (m : RedMsg) : Bool :=
  match v.last with
  | [] => true
  | n :: _ => (decide (n.boot < m.boot) || (decide (n.boot = m.boot) && decide (n.cycle ≤ m.cycle))) && !v.last.contains m

/-- What an accepted message leaves in the record of its lane. -/
def Peer16.take (v : Peer16) (m : RedMsg) (cycle : Nat) : Peer16 :=
  let same : Bool := match v.last with
    | n :: _ => decide (n.boot = m.boot) && decide (n.cycle = m.cycle)
    | [] => false
  { v with heard := true, last := if same then m :: v.last else [m], role := m.role, flags := m.flags, exclude := m.exclude, msg := some m,
           at_ := cycle, silent := false, holderAt := if m.role = 2 then some cycle else v.holderAt,
           resync := if bitOf m.flags 2 then false else v.resync }

/-- A message of another lane arrives on a path (0 Jiest, 1 CAN): the state after, and whether it is accepted (R441). -/
def State.redAccept (s : State) (path : Nat) (m : RedMsg) : State × Bool :=
  if ¬ s.mates.contains m.lane ∨ (path = 1 ∧ s.heartbeatPort.isNone) then (s, false)
  else if ¬ s.redTagOk m then
    ((s.modLease (fun l => { l with tagFails := l.tagFails + 1 })).post .house Code.redTagFail m.lane [], false)
  else
    let c := s.lease.cycle
    let new := (s.peer m.lane).fresh m
    let s := if new ∨ (s.peer m.lane).last.contains m then s.modPeer m.lane (fun v =>
        if path = 0 then { v with jiestAt := c, jiestLost := false, jiestHeard := true }
        else { v with canAt := c, canLost := false, canHeard := true }) else s
    if new then (s.modPeer m.lane (fun v => v.take m c), true) else (s, false)

/-! ## Taking and losing the lease (R447) -/

/-- The lane is holder; `OWN` rises at the boundary of a cycle (R447). `way`: 0 claim, 1 release, 2 solo. -/
def State.becomeHolder (s : State) (way own : Nat) : State :=
  s.modLease (fun l => { l with
    state := 2, ownAt := some own, way := way, everHeld := true, expired := false, claim := none, released := none, solo := decide (way = 2),
    taken := l.taken + 1, solos := l.solos + b2n (decide (way = 2)), granted := false,
    mirM := [], mirK := [], mirC := [], mirT := [], mirE := [] })

/-- The lease is lost: timer 0, `OWN` low, buffers of classes 0 and 3 cancelled, a running re-plan aborted (R177, R367, R447). -/
def State.leaseLost (s : State) (next : Nat) : State :=
  let had := decide (s.lease.state = 2)
  let s := s.modLease (fun l => { l with state := next, timer := 0, own := false, ownAt := none, solo := false, claim := none, handover := none,
                                         released := none, outbox := [], granted := false })
  if had then ((s.canLeaseLost).abortJob 2).modCasc (fun c => { c with running := false }) else s

/-- LEASE_EXPIRED (R447). -/
def State.leaseExpired (s : State) : State :=
  if s.lease.state = 2 ∧ ¬ s.single ∧ s.lease.timer ≤ s.now then
    ((s.leaseLost 0).modLease (fun l => { l with expired := true, holderExpired := true, expiries := l.expiries + 1 })).post .tbase
      Code.redLeaseExpired 0 []
  else s

/-- LEASE_EXPIRED. -/
def execLeaseExpired (t : Nat) (s : State) : Out := onIsland .tbase t s State.leaseExpired

/-- The lease state was lost (R26): the lane is a non-holder. -/
def State.leaseForgotten (s : State) : State := if s.single then s else s.leaseLost 0

/-- Entry to RUN (R437, R443, R447): single operation takes the lease; else the lane refrains as after a grant and asks for a resync. -/
def State.leaseAtRun (s : State) : State :=
  if s.single then
    (s.modLease (fun l => { l with state := 2, own := true, ownAt := none, everHeld := true, taken := l.taken + 1, rise := s.clk.dev })).loadTimer
      (s.now + s.leaseLoad)
  else
    let s := s.modLease (fun l => { l with state := 0, resyncDone := false, resyncAsked := l.cycle, sentGrant := false, everHeld := false,
                                           expired := false })
    s.mates.foldl (fun s x => s.refrainFor x s.lease.l s.lease.tR) s

/-! ## Grants, claims, releases (R443–R445, R449) -/

/-- A request or claim of lane `x` may be granted (R444). -/
def State.mayGrant (s : State) (x : Nat) : Bool :=
  decide (s.lease.state ≠ 2) && decide (s.lease.state ≠ 3) && !bitOf s.lease.excluded x && !s.refrainsOther x

/-- Grant a request (R443, R444): the refrain starts as the grant leaves. -/
def State.sendGrant (s : State) (m : RedMsg) : State :=
  let s := (s.refrainFor m.lane m.l m.tR).modLease (fun l => { l with grantAt := s.now, sentGrant := true })
  s.redSend (s.redMsg 2 0 m.req m.lane)

/-- Another lane announces holder while this lane holds or claims (R447). -/
def State.holderHeard (s : State) (m : RedMsg) : State :=
  if m.role ≠ 2 then s
  else if s.lease.state = 2 then
    ((s.leaseLost 0).refrainFor m.lane m.l m.tR).post .house Code.redTwoHolders m.lane []
  else if s.lease.state = 1 then s.modLease (fun l => { l with state := 0, claim := none })
  else s

/-- A lane is excluded by the two others (R457). -/
def State.excludeLane (s : State) (x : Nat) : State :=
  if bitOf s.lease.excluded x then s
  else
    ((s.modLease (fun l => { l with excluded := putBit l.excluded x true, exclusions := l.exclusions + 1 })).setCause 6 true).post .house
      Code.redLaneExcluded x []

/-- Exclusion votes are counted (R457, R458): another lane by this lane's vote and the third's; this lane by both others'. An excluded
lane whose number no other lane names any more is readmitted. -/
def State.countVotes (s : State) : State :=
  if s.lease.cfg ≠ 2 ∨ s.single then s
  else
    match s.mates with
    | [x, y] =>
      let both := bitOf (s.peer x).exclude s.lane && bitOf (s.peer y).exclude s.lane
      if s.lease.state ≠ 3 ∧ both then
        (s.leaseLost 3).modLease (fun l => { l with exclusions := l.exclusions + 1 })
      else if s.lease.state = 3 then
        (if bitOf (s.peer x).exclude s.lane ∨ bitOf (s.peer y).exclude s.lane then s
         else s.modLease (fun l => { l with state := 0, resyncDone := false, resyncAsked := l.cycle }))
      else
        let s := if bitOf s.lease.excludeVotes x ∧ bitOf (s.peer y).exclude x then s.excludeLane x else s
        if bitOf s.lease.excludeVotes y ∧ bitOf (s.peer x).exclude y then s.excludeLane y else s
    | _ => s

/-- A lane is readmitted (R458). -/
def State.readmitLane (s : State) (x : Nat) : State :=
  let s := (s.modLease (fun l => { l with excluded := putBit l.excluded x false, excludeVotes := putBit l.excludeVotes x false })).modPeer x
    (fun v => { v with dissent := 0, resync := false })
  if s.lease.excluded = 0 then s.setCause 6 false else s

/-- The holder no longer votes to exclude a lane: it is readmitted here too (R458). -/
def State.followReadmit (s : State) (m : RedMsg) : State :=
  if m.role ≠ 2 ∨ s.lease.state = 3 then s
  else (s.mates.filter (fun x => decide (x ≠ m.lane) && bitOf s.lease.excluded x && !bitOf m.exclude x)).foldl State.readmitLane s

/-- An accepted heartbeat (R444). -/
def State.heartbeat (s : State) (m : RedMsg) : State :=
  let s := ((s.holderHeard m).followReadmit m).countVotes
  if m.role = 2 ∧ m.req ≠ 0 ∧ s.mayGrant m.lane then s.sendGrant m else s

/-- An accepted claim (R444): this lane's own claim yields to a lower letter. -/
def State.claimed (s : State) (m : RedMsg) : State :=
  if s.mayGrant m.lane ∧ (s.lease.state ≠ 1 ∨ m.lane < s.lane) then
    (if s.lease.state = 1 then s.modLease (fun l => { l with state := 0, claim := none }) else s).sendGrant m
  else s

/-- An accepted grant (R443, R447): of the claim, or the first of the last request while the timer runs. -/
def State.granted (s : State) (m : RedMsg) : State :=
  if m.grantTo ≠ s.lane ∨ bitOf s.lease.excluded m.lane then s
  else
    match s.lease.claim with
    | some (q, tq, _) =>
      if s.lease.state = 1 ∧ q = m.grant then (s.loadTimer (tq + s.leaseLoad)).becomeHolder 0 (s.lease.cycle + 1) else s
    | none =>
      if s.lease.state = 2 ∧ s.lease.req = m.grant ∧ ¬ s.lease.granted ∧ s.now < s.lease.timer then
        (s.loadTimer (s.lease.reqAt + s.leaseLoad)).modLease (fun l => { l with granted := true })
      else s

/-- An accepted release (R443, R449): the refrain towards the releaser ends; a lane it names takes the lease at the next boundary. -/
def State.releaseHeard (s : State) (m : RedMsg) : State :=
  let s := (s.modLease (fun l => { l with refrain := Tab.erase l.refrain m.lane })).modPeer m.lane (fun v => { v with holderAt := none })
  if m.grantTo = s.lane ∧ s.lease.state = 0 ∧ s.eligible ∧ ¬ s.refraining then s.modLease (fun l => { l with released := some (m.lane, s.now) }) else s

/-- A redundancy message arrives on a path: what its type does, once it is accepted (R441). -/
def State.redMessage (s : State) (path : Nat) (m : RedMsg) : State :=
  if ¬ s.up then s
  else
    let r := s.redAccept path m
    if ¬ r.2 then r.1
    else
      match m.type with
      | 1 => r.1.heartbeat m
      | 2 => r.1.granted m
      | 3 => (r.1.holderHeard m).claimed m
      | 4 => r.1.releaseHeard m
      | _ => r.1

/-- A redundancy message of the type its command names. -/
def onRed (t path : Nat) (m : RedMsg) (kind : Nat) (s : State) : Out :=
  onIsland .house t s (fun s => if m.type = kind then s.redMessage path m else s)

/-- HEARTBEAT, CLAIM, RELEASE (R443, R444). -/
def execHeartbeat (t path : Nat) (m : RedMsg) (s : State) : Out := onRed t path m 1 s
def execClaim (t path : Nat) (m : RedMsg) (s : State) : Out := onRed t path m 3 s
def execRelease (t path : Nat) (m : RedMsg) (s : State) : Out := onRed t path m 4 s

/-- REFRAIN_END (R443). -/
def execRefrainEnd (t : Nat) (s : State) : Out :=
  onIsland .tbase t s (fun s => s.modLease (fun l => { l with refrain := l.refrain.filter (fun e => decide (s.now < e.2)) }))

/-- CLAIM_TIMEOUT (R447): no grant within 3 cycles; without a holder the claim that failed completes the resync (R455). -/
def execClaimTimeout (t : Nat) (s : State) : Out :=
  onIsland .house t s (fun s =>
    match s.lease.claim with
    | some (_, _, c) =>
      if s.lease.state = 1 ∧ c + 3 ≤ s.lease.cycle then
        s.modLease (fun l => { l with state := 0, claim := none, resyncDone := l.resyncDone || s.holderSeen.isNone })
      else s
    | none => s)

/-- RED_PATH_LOST (R439). -/
def execRedPathLost (t x path : Nat) (s : State) : Out :=
  onUnit (decide (x < 3) && decide (path < 2)) .house t s (fun s =>
    let v := s.peer x
    let at_ := if path = 0 then v.jiestAt else v.canAt
    let lost := if path = 0 then v.jiestLost else v.canLost
    if ¬ s.mates.contains x ∨ lost ∨ (path = 1 ∧ s.heartbeatPort.isNone) ∨ s.lease.cycle < at_ + 3 then s
    else (s.modPeer x (fun v => if path = 0 then { v with jiestLost := true } else { v with canLost := true })).post .house Code.redPathLost x
      [.u8 path])

/-- RED_PARTNER_LOST (R439). -/
def execRedPartnerLost (t x : Nat) (s : State) : Out :=
  onUnit (decide (x < 3)) .house t s (fun s =>
    let v := s.peer x
    if ¬ s.mates.contains x ∨ v.silent ∨ s.lease.cycle < v.at_ + 3 then s
    else (s.modPeer x (fun v => { v with silent := true, silentSince := s.now })).post .house Code.redPartnerLost x [])

/-! ## Mirroring (R453–R455) -/

/-- The item of a loop. -/
def State.mirrorLoop (s : State) (n : Nat) : MirrorItem :=
  let l := s.loop n
  .loop n l.state l.holdCause l.acc l.d l.edPrev l.uPrev l.vals.u l.ovrCount l.rep

/-- The keys whose values differ between two tables. -/
def changedKeys {α : Type} [DecidableEq α] (d : α) (a b : Tab α) : List Nat :=
  ((a.map (·.1)) ++ ((b.map (·.1)).filter (fun k => (Tab.find a k).isNone))).filter (fun k => decide (Tab.get d a k ≠ Tab.get d b k))

/-- The deltas of the logic engine against what was mirrored before. -/
def State.mirrorLogic (s : State) : List MirrorItem :=
  let l := s.logic
  let v := s.lease
  (changedKeys 0 l.m v.mirM).map (fun k => .logicWord 3 k (Tab.get 0 l.m k).toInt) ++
    (changedKeys 0 l.k v.mirK).map (fun k => .logicWord 4 k (Tab.get 0 l.k k)) ++
    (changedKeys {} l.c v.mirC).map (fun k => .logicWord 6 k (Tab.get {} l.c k).count) ++
    (changedKeys {} l.t v.mirT).map (fun k => .timer k (Tab.get {} l.t k)) ++
    (changedKeys {} l.e v.mirE).map (fun k => .detector k (Tab.get {} l.e k)) ++ [.committed l.qc l.cycleNo]

/-- The octets of an item (R453 gives a loop's). -/
def MirrorItem.size : MirrorItem → Nat
  | .loop .. => 64
  | .logicWord .. => Config.mirrorOctets 1 1
  | .timer .. => Config.mirrorOctets 2 1
  | .detector .. => Config.mirrorOctets 3 1
  | .committed q _ => Config.mirrorOctets 4 q.length
  | .change cs _ => Config.mirrorOctets 5 cs.length
  | .forces l => Config.mirrorOctets 6 l.length
  | .plan p => Config.mirrorOctets 7 p.steps.length
  | .input _ _ b => Config.mirrorOctets 8 b.length
  | .learned a .. => Config.mirrorOctets 9 a.length
  | .counters .. => Config.mirrorOctets 10 1
  | .finished => Config.mirrorOctets 11 1

/-- The items that fit in a cycle, in order, and the rest. -/
def fitItems (room : Nat) : List MirrorItem → List MirrorItem × List MirrorItem
  | [] => ([], [])
  | x :: r =>
    if x.size ≤ room then (let y := fitItems (room - x.size) r; (x :: y.1, y.2)) else ([], x :: r)

/-- Entries of operating inputs (R100). -/
def inputKeys : List (Nat × Nat) :=
  [(0x2006, 2), (0x2006, 3)] ++ (List.range 8).map (fun j => (0x2007, j + 1)) ++ (List.range 3).map (fun j => (0x2008, j + 1)) ++
    (List.range 256).map (fun r => (0x7000 + r, 1))

/-- The full content of a resync (R455). -/
def State.mirrorAll (s : State) : List MirrorItem :=
  let l := s.logic
  ((s.ctrl.loops.filter (fun e => decide (e.2.state ≠ .off))).map (fun e => s.mirrorLoop e.1)) ++
    l.m.map (fun e => .logicWord 3 e.1 e.2.toInt) ++ l.k.map (fun e => .logicWord 4 e.1 e.2) ++
    l.c.map (fun e => .logicWord 6 e.1 e.2.count) ++ l.t.map (fun e => .timer e.1 e.2) ++ l.e.map (fun e => .detector e.1 e.2) ++
    [.committed l.qc l.cycleNo, .forces l.forces, .plan s.disp.plan] ++ inputKeys.map (fun k => .input k.1 k.2 (s.stored k.1 k.2)) ++
    [.learned s.estim.loss s.estim.bias s.estim.drift s.disp.profB s.disp.profS, .counters s.disp.plan.version l.changeNo, .finished]

/-- The content a holder takes and sends in this cycle (R453, R454): loop state first, then what waits. -/
def State.mirrorTake (s : State) : State :=
  let duplex := decide (s.lease.cfg = 1)
  let loops := if duplex then (s.ctrl.loops.filter (fun e => decide (e.2.state ≠ .off))).map (fun e => s.mirrorLoop e.1) ++ [.finished] else []
  let logic := if duplex then s.mirrorLogic else []
  let f := fitItems (200 * s.lease.tR) (loops ++ s.lease.outbox ++ logic)
  let load := (f.1.map MirrorItem.size).foldl (· + ·) 0
  let asks := s.admittedMates.filter (fun x => (s.peer x).heard && !bitOf (s.peer x).flags 2 && !(s.peer x).resync)
  let full := if asks.isEmpty then [] else s.mirrorAll
  let s := asks.foldl (fun s x => s.modPeer x (fun v => { v with resync := true })) s
  s.modLease (fun l => { l with
    outbox := f.2, mirrored := f.1 ++ full, load := load, peak := max l.peak load, mirM := s.logic.m, mirK := s.logic.k, mirC := s.logic.c,
    mirT := s.logic.t, mirE := s.logic.e })

/-- One item applied on a lane that is not holder (R453). A mirrored loop drives its destination (R453). -/
def State.mirrorItem (s : State) : MirrorItem → State
  | .loop n st cause acc d ed up u ovr rep =>
    (s.modLoop n (fun l => { l with
      state := st, holdCause := cause, acc := acc, d := d, edPrev := ed, uPrev := up, uHeld := up, vals := { l.vals with u := u }, ovrCount := ovr,
      rep := { rep with table := l.rep.table, poison := l.rep.poison, pre := l.rep.pre } })).handoff n u
  | .logicWord a w v => s.modLogic (fun l => l.putKM a w (BitVec.ofInt 32 v))
  | .timer i x => s.modLogic (fun l => { l with t := Tab.put {} l.t i x })
  | .detector i x => s.modLogic (fun l => { l with e := Tab.put {} l.e i x })
  | .committed q n => (List.range 64).foldl State.plantStatus (s.modLogic (fun l => { l with qc := q, committed := true, cycleNo := n }))
  | .change cs n =>
    if s.lease.cfg = 2 then s.modLogic (fun l => { l with change := some cs }) else s.modLogic (fun l => { l with changeNo := n })
  | .forces f => s.modLogic (fun l => { l with forces := f })
  | .plan p => s.planInForce p
  | .input i j b => s.store i j b
  | .learned a b c p q =>
    (s.modEstim (fun e => { e with loss := a, bias := b, drift := c })).modDisp (fun x => { x with profB := p, profS := q })
  | .counters p c => (s.modDisp (fun x => { x with plan := { x.plan with version := p } })).modLogic (fun l => { l with changeNo := c })
  | .finished => s

/-- Loops the content of a whole cycle does not name are OFF on the holder. -/
def State.mirrorOff (s : State) (items : List MirrorItem) : State :=
  let named := items.filterMap (fun x => match x with
    | .loop n .. => some n
    | _ => none)
  if ¬ items.contains .finished then s
  else (s.ctrl.loops.filter (fun e => decide (e.2.state ≠ .off) && !named.contains e.1)).foldl (fun s e => s.loopOff e.1) s

/-- The content received is applied at a boundary (R453). -/
def State.mirrorApply (s : State) : State :=
  let items := s.lease.inbox
  let s := s.modLease (fun l => { l with inbox := [] })
  if items.isEmpty then s
  else items.foldl State.mirrorItem (if s.lease.cfg = 1 then s.mirrorOff items else s)

/-- Content that is applied as it comes (R453): plans when complete, learned values, the counts. -/
def MirrorItem.atOnce : MirrorItem → Bool
  | .plan _ => true
  | .learned .. => true
  | .counters .. => true
  | _ => false

/-- MIRROR (R453): content from the holder, applied at once or waiting for the next boundary. -/
def execMirror (t x : Nat) (items : List MirrorItem) (s : State) : Out :=
  onUnit (decide (x < 3)) .house t s (fun s =>
    if s.up ∧ s.mates.contains x ∧ s.lease.state ≠ 2 ∧ s.holderSeen = some x then
      (items.filter MirrorItem.atOnce).foldl State.mirrorItem
        (s.modLease (fun l => { l with inbox := l.inbox ++ items.filter (fun i => !i.atOnce) }))
    else s)

/-- RESYNC_DONE (R455). -/
def execResyncDone (t : Nat) (s : State) : Out :=
  onIsland .house t s (fun s =>
    if s.single ∨ s.lease.resyncDone ∨ s.holderSeen.isNone then s
    else s.mirrorApply.modLease (fun l => { l with resyncDone := true, resyncs := l.resyncs + 1 }))

/-! ## Voting (R456, R457) -/

/-- The committed Q words of the output vector. -/
def voteWord (w : Nat) : Bool :=
  decide (w = 0) || decide (0x10 ≤ w ∧ w ≤ 0x1F) || decide (0x100 ≤ w ∧ w ≤ 0x2FF) || decide (0x400 ≤ w ∧ w ≤ 0x7FF) ||
    decide (0x810 ≤ w ∧ w ≤ 0x84F) || decide (w = 0x900)

/-- The output vector of this moment; a Q word of 0 is not listed. -/
def State.outVector (s : State) : List (Nat × Int) :=
  (s.ctrl.loops.filter (fun e => decide (e.2.state ≠ .off))).map (fun e => (e.1, e.2.vals.u)) ++
    (s.logic.qc.filter (fun e => voteWord e.1)).map (fun e => (0x10000 + e.1, (e.2.toNat : Int)))

/-- An element of a vector; a Q word not listed is 0. -/
def vecAt (v : List (Nat × Int)) (k : Nat) : Option Int :=
  match v.find? (fun e => decide (e.1 = k)) with
  | some e => some e.2
  | none => if 0x10000 ≤ k then some 0 else none

/-- The element `k` of lane value `a` agrees in the vote of three. -/
def agrees (tol : Nat) (k : Nat) (a b c : Option Int) : Bool :=
  match a, b, c with
  | some x, some y, some z =>
    if k < 0x10000 then decide ((x - median3 x y z).natAbs ≤ tol) else decide (x = y) || decide (x = z)
  | _, _, _ => false

/-- The elements of three vectors. -/
def voteKeys (a b c : List (Nat × Int)) : List Nat := ((a ++ b ++ c).map (·.1)).eraseDups

/-- A lane's dissent is counted; at `EXCLUDE_AFTER` its bit in `EXCLUDE` is set (R457). -/
def State.dissent (s : State) (x : Nat) (bad : Bool) : State :=
  let n := if bad then (s.peer x).dissent + 1 else 0
  let s := s.modPeer x (fun v => { v with dissent := n })
  if s.nat 0x6400 7 ≤ n then s.modLease (fun l => { l with excludeVotes := putBit l.excludeVotes x true }) else s

/-- The vote of three lanes. -/
def State.voteThree (s : State) (x y : Nat) : State :=
  let a := s.lease.vector
  let b := (s.peer x).vector
  let c := (s.peer y).vector
  let tol := s.nat 0x6400 8
  let ks := voteKeys a b c
  let badX := ks.any (fun k => !agrees tol k (vecAt b k) (vecAt a k) (vecAt c k))
  let badY := ks.any (fun k => !agrees tol k (vecAt c k) (vecAt a k) (vecAt b k))
  let split := ks.any (fun k => decide (0x10000 ≤ k) && decide (vecAt a k ≠ vecAt b k) && decide (vecAt a k ≠ vecAt c k) &&
    decide (vecAt b k ≠ vecAt c k))
  let s := if split then s.modLease (fun l => { l with voteSplit := true }) else s
  ((s.dissent x badX).dissent y badY).countVotes

/-- With one lane excluded, a disagreement of the two that remain sets `VOTE_SPLIT` (R457). -/
def State.voteTwo (s : State) (x : Nat) : State :=
  let a := s.lease.vector
  let b := (s.peer x).vector
  let tol := s.nat 0x6400 8
  let bad := (voteKeys a b []).any (fun k =>
    match vecAt a k, vecAt b k with
    | some u, some v => if k < 0x10000 then decide (tol < (u - v).natAbs) else decide (u ≠ v)
    | _, _ => true)
  if bad then s.modLease (fun l => { l with voteSplit := true }) else s

/-- Another lane's output vector arrives (R456): one a cycle, from a lane whose resync is complete (R458). -/
def State.voteHeard (s : State) (x : Nat) (vec : List (Nat × Int)) : State :=
  if s.lease.cfg ≠ 2 ∨ s.single ∨ ¬ s.up ∨ ¬ s.mates.contains x ∨ bitOf s.lease.excluded x ∨ s.lease.state = 3 ∨ ¬ s.lease.resyncDone ∨
      (s.peer x).vectorAt = s.lease.cycle ∨ ¬ bitOf (s.peer x).flags 2 then s
  else
    let s := s.modPeer x (fun v => { v with vector := vec, vectorAt := s.lease.cycle })
    match s.admittedMates with
    | [a, b] => if (s.peer a).vectorAt = s.lease.cycle ∧ (s.peer b).vectorAt = s.lease.cycle then s.voteThree a b else s
    | [a] => s.voteTwo a
    | _ => s

/-- VOTE (R456). -/
def execVote (t x : Nat) (vec : List (Nat × Int)) (s : State) : Out :=
  onUnit (decide (x < 3)) .house t s (fun s => s.voteHeard x vec)

/-! ## The cycle boundary (R440, R445, R447, R449, R452) -/

/-- `OWN` rises (R447): what a lane does at its first boundary with `OWN` high (R452). -/
def State.ownRise (s : State) : State :=
  match s.lease.ownAt with
  | some c =>
    if s.lease.state = 2 ∧ c ≤ s.lease.cycle ∧ s.now < s.lease.timer then
      (s.modLease (fun l => { l with own := true, ownAt := none, rise := s.clk.dev, gap := (s.now - l.grantAt) / 1000 })).refreshAll
    else s
  | none => s

/-- A release accepted in the last cycle: the lane becomes holder, its lease counted from the release (R445, R449). -/
def State.takeReleased (s : State) : State :=
  match s.lease.released with
  | some (_, at_) =>
    let s := s.modLease (fun l => { l with released := none })
    if s.lease.state = 0 ∧ s.eligible ∧ ¬ s.refraining then (s.loadTimer (at_ + s.leaseLoad)).becomeHolder 1 (s.lease.cycle + 1) else s
  | none => s

/-- Step 2 of a planned switch-over (R449): the lease ends, the release leaves, the former holder refrains from it. -/
def State.handoverStep (s : State) : State :=
  match s.lease.handover with
  | some (x, k) =>
    if s.lease.state = 2 ∧ k + 1 ≤ s.lease.cycle then
      let s := ((s.leaseLost 0).refrainFor x s.lease.l s.lease.tR).modLease (fun l => { l with switches := l.switches + 1, grantAt := s.now, sentGrant := true })
      s.redSend (s.redMsg 4 0 s.lease.req x)
    else s
  | none => s

/-- Silent lanes dissent at every boundary (R457). -/
def State.silentDissent (s : State) : State :=
  if s.lease.cfg ≠ 2 ∨ s.admittedMates.length ≠ 2 ∨ ¬ s.lease.resyncDone then s
  else ((s.admittedMates.filter (fun x => (s.peer x).silent)).foldl (fun s x => s.dissent x true) s).countVotes

/-- Without a holder the resync completes after 3 cycles (R455). -/
def State.resyncAlone (s : State) : State :=
  if ¬ s.lease.resyncDone ∧ s.lease.state ≠ 3 ∧ s.holderSeen.isNone ∧ s.lease.resyncAsked + 3 ≤ s.lease.cycle then
    s.modLease (fun l => { l with resyncDone := true })
  else s

/-- The only other admitted lane is silent. -/
def State.aloneSilent (s : State) : Bool :=
  match s.admittedMates with
  | [x] => (s.peer x).silent
  | _ => false

/-- Since when it is silent. -/
def State.silentSince (s : State) : Nat :=
  match s.admittedMates with
  | [x] => (s.peer x).silentSince
  | _ => s.now

/-- The conditions of a solo take (R445). -/
def State.maySolo (s : State) : Bool :=
  let w := s.nat 0x6400 0x0A
  s.aloneSilent && !(s.lease.expired && decide (w = 0)) &&
    (s.lease.sentGrant || (decide (s.nat 0x6400 9 = 1) && !s.lease.everHeld) ||
      (s.lease.expired && decide (s.silentSince + w * 1000000000 ≤ s.now)))

/-- The request number after a request (R440): one greater, 0 standing for none (log 135). -/
def nextReq (q : Nat) : Nat := if q % 4294967296 = 4294967295 then 1 else q + 1

/-- A standby lane takes the lease solo, or claims it (R445, R447). -/
def State.claimOrSolo (s : State) : State :=
  if s.lease.state ≠ 0 ∨ ¬ s.eligible ∨ s.refraining then s
  else if s.maySolo then (s.loadTimer (s.now + s.leaseLoad)).becomeHolder 2 (s.lease.cycle + 1)
  else if s.holderSeen.isNone then
    let s := s.modLease (fun l => { l with state := 1, req := nextReq l.req, claim := some (nextReq l.req, s.now, l.cycle) })
    s.redSend (s.redMsg 3 s.lease.req 0 255)
  else s

/-- A solo holder renews while its partner is silent; a partner heard again ends solo operation (R445). -/
def State.soloRenew (s : State) : State :=
  if s.lease.state ≠ 2 ∨ ¬ s.lease.solo then s
  else if s.aloneSilent then s.loadTimer (s.now + s.leaseLoad)
  else s.modLease (fun l => { l with solo := false })

/-- The heartbeat of a boundary (R440): the holder's carries a new request. -/
def State.sendHeartbeat (s : State) : State :=
  if s.lease.state = 2 then
    let s := s.modLease (fun l => { l with req := nextReq l.req, reqAt := s.now, granted := false })
    s.redSend (s.redMsg 1 s.lease.req 0 255)
  else s.redSend (s.redMsg 1 0 0 255)

/-- The content of a boundary: the holder's mirror, and in triplex the output vector (R453, R456). -/
def State.boundaryContent (s : State) : State :=
  let s := if s.lease.state = 2 then s.mirrorTake else s.modLease (fun l => { l with mirrored := [] })
  if s.lease.cfg = 2 ∧ s.lease.state ≠ 3 ∧ s.lease.resyncDone then s.modLease (fun l => { l with vector := s.outVector }) else s

/-- The whole T_R that device time has passed: a boundary falls where it grows (R438). -/
def State.boundaryNo (s : State) : Nat := s.clk.dev / (s.lease.tR * 1000)

/-- A redundancy cycle boundary, past the critical record (R438, R440), where one has fallen; the cycle number counts every one. -/
def State.redBoundary (s : State) : State :=
  let n := s.boundaryNo - s.lease.boundary
  let s := s.modLease (fun l => { l with cycle := (l.cycle + n) % 4294967296, boundary := s.boundaryNo })
  if n = 0 ∨ ¬ s.up then s
  else if s.single then (if s.lease.state = 2 then s.loadTimer (s.now + s.leaseLoad) else s)
  else
    let s := (if s.lease.state = 2 then s else s.mirrorApply).ownRise.takeReleased
    let s := s.handoverStep.silentDissent.resyncAlone.mismUpdate
    s.soloRenew.claimOrSolo.sendHeartbeat.boundaryContent

/-! ## Dictionary (R459–R461) -/

/-- `LEASE_FLAGS`. -/
def State.leaseFlags (s : State) : Nat :=
  let l := s.lease
  b2n s.ownPin + 2 * b2n s.refraining + 4 * b2n s.eligible +
    8 * b2n (s.mates.any (fun x => (s.peer x).jiestHeard && !(s.peer x).jiestLost)) +
    16 * b2n (s.mates.any (fun x => (s.peer x).canHeard && !(s.peer x).canLost)) +
    32 * b2n (bitOf s.mismNow 0) + 64 * b2n (bitOf s.mismNow 1) + 128 * b2n (bitOf s.mismNow 2) + 256 * b2n (bitOf s.mismNow 3) +
    512 * b2n l.solo + 1024 * b2n l.voteSplit + 2048 * b2n l.holderExpired + 4096 * b2n l.discarded

/-- `PEERS`. -/
def State.peersO (s : State) : Octets :=
  (List.range 3).flatMap (fun x =>
    let v := s.peer x
    if ¬ v.heard then zeros 8
    else leBytes 1 v.role ++ leBytes 1 v.flags ++ leBytes 1 v.exclude ++ leBytes 1 (b2n (v.jiestHeard && !v.jiestLost) + 2 * b2n (v.canHeard && !v.canLost)) ++
      leBytes 4 (s.lease.cycle - v.at_))

/-- The entries of `0x6401` as read. -/
def State.leaseRead (s : State) (sub : Nat) : Option Octets :=
  let l := s.lease
  match sub with
  | 1 => some (leBytes 1 l.state)
  | 2 => some (leBytes 1 (if s.leaseHolder then s.lane else s.holderSeen.getD 255))
  | 3 => some (leBytes 2 s.leaseFlags)
  | 4 => some (leBytes 4 ((l.timer - s.now) / 1000))
  | 5 => some s.peersO
  | 6 => some ([l.taken, l.switches, l.expiries, l.solos, l.exclusions, l.tagFails, l.resyncs].flatMap (leBytes 4))
  | 7 => some (leBytes 8 l.rise ++ leBytes 1 l.way ++ zeros 3 ++ leBytes 4 l.gap)
  | 8 => some (leBytes 4 l.load ++ leBytes 4 l.peak)
  | _ => none

/-- Writes of `0x6400` and `0x6401` (R437, R449, R458, R459). -/
def State.leaseWrite (s : State) (idx sub : Nat) (b : Octets) : WRes :=
  let v := leNat b
  if idx = 0x6401 then
    .done (s.modLease (fun l => { l with voteSplit := false, holderExpired := false, discarded := false }))
  else
    match sub with
    | 1 | 2 | 3 | 4 => WRes.unless (decide (s.dev.state ≠ .service)) 0x0A06 s .plain
    | 6 =>
      match Tab.get none s.net.keys v with
      | some k => WRes.unless (decide (v ≠ 255) && decide (k.role ≠ 3)) 0x0A05 s .plain
      | none => WRes.unless (decide (v ≠ 255)) 0x0A05 s .plain
    | 0x0B =>
      if s.single ∨ ¬ s.leaseHolder ∨ ¬ s.mates.contains v ∨ ¬ bitOf (s.peer v).flags 0 ∨ (s.peer v).silent then .refuse 0x0A06 s
      else .done (s.modLease (fun l => { l with handover := some (v, l.cycle + 1) }))
    | 0x0C =>
      if s.single ∨ ¬ s.leaseHolder ∨ ¬ s.mates.contains v ∨ ¬ bitOf s.lease.excluded v then .refuse 0x0A06 s
      else .done (s.readmitLane v)
    | _ => .plain

end Machine
end Sys2Proof
end

