-- ==== Sys2Proof/Machine/LogExport.lean ====
section
/-! DEFINITION. The sediment log's reads (R513), the alarm table's entries (R516, R528), subscriptions and the export (R517–R525), the
post-mortem excerpt (R526) and their entries (R527). -/

namespace Sys2Proof
namespace Machine

/-! ## The log (R510, R513) -/

/-- The octets of a log entry (R510). -/
def LogEnt.octets (e : LogEnt) : Octets :=
  leBytes 8 e.admitTime ++ leBytes 4 e.seq ++ leBytes 4 e.lag ++ leBytes 1 e.source ++ leBytes 1 e.unit ++ leBytes 2 e.code ++ e.args

/-- Absolute number of the oldest entry held (R512). -/
def State.logOldest (s : State) : Nat := s.ledger.count - 65536

/-- The entry of an absolute number. -/
def State.logAt (s : State) (n : Nat) : Octets := ((Tab.find s.ledger.log (n % 65536)).map LogEnt.octets).getD (zeros 32)

/-- Entries from a cursor up to the newest; a cursor past the newest has none. -/
def State.logAhead (s : State) (cursor : Nat) : Nat :=
  let d := (s.ledger.count + 4294967296 - cursor % 4294967296) % 4294967296
  if s.ledger.count < d then 0 else d

/-- The gap entry of a read (R513); what the rule does not give of it is free. -/
def gapEntry (cursor skipped : Nat) : Octets :=
  leBytes 8 (Config.gapEntryField 0 cursor) ++ leBytes 4 cursor ++ leBytes 4 (Config.gapEntryField 1 cursor) ++ leBytes 1 5 ++ leBytes 1 0 ++ leBytes 2 Code.eventGap ++ leBytes 4 skipped ++ zeros 8

/-- `LOG_READ` at a cursor (R513): the octets, the cursor after it, and whether a gap entry was returned. -/
def State.logRead (s : State) (cursor : Nat) : Octets × Nat × Bool :=
  let n := s.ledger.count
  let a := n - s.logAhead cursor
  let old := s.logOldest
  if a < old then
    let k := min 31 (n - old)
    (gapEntry cursor (old - a) ++ (List.range k).flatMap (fun i => s.logAt (old + i)), (old + k) % 4294967296, true)
  else
    let k := min 32 (n - a)
    ((List.range k).flatMap (fun i => s.logAt (a + i)), (a + k) % 4294967296, false)

/-- Change a session. -/
def State.modSess (s : State) (n : Nat) (f : Session → Session) : State :=
  { s with net := { s.net with sess := Tab.put {} s.net.sess n (f (Tab.get {} s.net.sess n)) } }
/-- A session. -/
def State.session (s : State) (n : Nat) : Session := Tab.get {} s.net.sess n

/-- A read of `LOG_READ` by a session. -/
def State.readLog (s : State) (sess : Nat) : State × Octets :=
  let r := s.logRead (s.session sess).logCursor
  let s := s.modSess sess (fun v => { v with logCursor := r.2.1 })
  ({ s with ledger := { s.ledger with gapReads := s.ledger.gapReads + b2n r.2.2 } }, r.1)

/-! ## The alarm table (R515, R516, R528) -/

/-- `ALM_FLAGS`. -/
def AlmRow.flags (r : AlmRow) : Nat := b2n r.sticky + 2 * b2n r.active
/-- A row's octets (R515). -/
def AlmRow.octets (r : AlmRow) : Octets := leBytes 1 r.flags ++ zeros 3 ++ leBytes 4 r.count ++ leBytes 8 r.first ++ leBytes 8 r.last

/-- A read of `ALARM_ROWS` by a session (R528). -/
def State.readRows (s : State) (sess : Nat) : State × Octets :=
  let a := (s.session sess).almSelect
  let k := min 40 (4096 - a)
  (s.modSess sess (fun v => { v with almSelect := (a + k) % 4096 }), (List.range k).flatMap (fun i => (s.almRow (a + i)).octets))

/-- A write of `ALARM_ACK` (R516). -/
def State.alarmAck (s : State) (b : Octets) : WRes :=
  let src := u16At b 0
  let n := u32At b 2
  let note := fun (s : State) => { s with ledger := { s.ledger with lastAck := b } }
  if src = 0xFFFF then
    if n ≠ 0 then .refuse 0x0A05 s
    else .done (note (s.ledger.alarms.foldl (fun (s : State) (e : Nat × AlmRow) => s.setAlmRow e.1 { e.2 with sticky := false }) s))
  else if 0x1000 ≤ src then .refuse 0x0A05 s
  else if (s.almRow src).count ≠ n then .refuse 0x0A06 s
  else .done (note (s.setAlmRow src { s.almRow src with sticky := false }))

/-- A row after a reset (R516). -/
def AlmRow.cleared (r : AlmRow) : AlmRow := { r with count := 0, first := 0, last := 0 }

/-- A write of `ALARM_RESET` (R516). -/
def State.alarmReset (s : State) (src : Nat) : WRes :=
  if src = 0xFFFF then .done (s.ledger.alarms.foldl (fun (s : State) (e : Nat × AlmRow) => s.setAlmRow e.1 e.2.cleared) s)
  else if 0x1000 ≤ src then .refuse 0x0A05 s
  else .done (s.setAlmRow src (s.almRow src).cleared)

/-! ## Subscriptions (R517) -/

/-- A subscription's record is in range. -/
def subOk (b : Octets) : Bool :=
  let p := u8At b 0
  decide (p ≤ 10) && decide (u8At b 1 < 8) && (decide (p < 3) || (decide (u32At b 4 < 128) && decide (u16At b 8 = 0))) &&
    decide (1 ≤ u16At b 10) && decide (u16At b 10 ≤ 1000) && decide (1 ≤ u8At b 12) && decide (1 ≤ u8At b 13) &&
    decide (1000 ≤ u32At b 14) && decide (u32At b 14 ≤ 100000000) && decide (u16At b 18 = 0)

/-- The owner of a queue flushes it (R412). -/
def State.flushQ (s : State) (q : QId) : State :=
  (s.setQueue q ((s.queue q).flush s.ps q.ends.2.periodPs (s.delayBack q))).draw

/-- A subscription takes effect (R517): queues, hold and dirty bits emptied, sticky sources dirtied, the bucket full. -/
def State.subApply (s : State) (n : Nat) (b : Octets) : State :=
  let u := s.sub n
  let s := s.setSub n { u with
    path := u8At b 0, content := u8At b 1, islands := u16At b 2, dest := u32At b 4, port := u16At b 8, almRate := u16At b 10,
    burst := u8At b 12, coalesce := u8At b 13, pathRate := u32At b 14, dirty := (s.ledger.alarms.filter (fun e => e.2.sticky)).map (·.1), hold := none, gather := [],
    tokens := u8At b 12 * 1000000000, since := s.now, credit := 0, logLost := 0, logFirstLost := 0, traceLost := 0 }
  (s.flushQ (.logq n)).flushQ (.traceq n)

/-- A write of a subscription. -/
def State.subWrite (s : State) (n : Nat) (b : Octets) : WRes :=
  if subOk b then .done ((s.store 0x6C00 (0x10 + n) b).subApply n b) else .refuse 0x0A05 s

/-- The subscriptions at a restart, from the values in force. -/
def State.subsAtBoot (s : State) : State :=
  (List.range 8).foldl (fun s n => if u8At (s.oct 0x6C00 (0x10 + n)) 0 = 0 then s else s.subApply n (s.oct 0x6C00 (0x10 + n))) s

/-! ## Export (R518–R523) -/

/-- The items (R518). -/
def alarmItem (src : Nat) (r : AlmRow) : Octets :=
  leBytes 1 1 ++ leBytes 1 r.flags ++ leBytes 2 src ++ leBytes 4 r.count ++ leBytes 8 r.first ++ leBytes 8 r.last ++ leBytes 4 r.seq ++ zeros 4
def logItem (h : LogHold) : Octets := leBytes 1 2 ++ zeros 1 ++ leBytes 2 (min 65535 h.repeats) ++ leBytes 4 h.lastSeq ++ h.ent.octets
def traceItem (p : Nat) (recs : List Octets) : Octets := leBytes 1 3 ++ leBytes 1 p ++ leBytes 2 recs.length ++ recs.flatten
def gapItem (content lost first : Nat) : Octets := leBytes 1 4 ++ leBytes 1 content ++ zeros 2 ++ leBytes 4 lost ++ leBytes 4 first ++ zeros 4

/-- The export's producer of a CAN port, by its first buffer, holds no frame that waits for a buffer (R362). -/
def State.noneHeld (s : State) (p first : Nat) : Bool := (s.port p).held.all (fun e => decide (e.1 ≠ first))

/-- The path of a subscription lets an item go now. -/
def State.pathOpen (s : State) (u : Sub) : Bool :=
  decide (u.path ≠ 0) && decide (u.credit ≤ s.now) &&
    (if u.path < 3 then s.macUp (u.path - 1) else decide ((s.port (u.path - 3)).state = .normal) && s.noneHeld (u.path - 3) 22)

/-- An item leaves (R519, R520): `cls` is its CAN class. -/
def State.sendItem (s : State) (n cls : Nat) (b : Octets) : State :=
  let u := s.sub n
  let s := s.setSub n { u with item := u.item + 1, datagram := (u.datagram + 1) % 4294967296,
                               credit := s.now + (b.length * 1000000000 + u.pathRate - 1) / u.pathRate }
  if u.path < 3 then
    s.sendUdp { mac := u.path - 1, srcPort := 47123, ip := u.dest, port := u.port, data := leBytes 2 n ++ leBytes 2 1 ++ leBytes 4 u.datagram ++ b }
  else
    let p := u.path - 3
    let f := s.ownFrame p (canId cls (u8At b 0) s.laneNode u.dest u.item) b
    if cls = 4 then s.sendCan p 22 25 f none else s.sendCan p 26 31 f none

/-- The bucket of a subscription, reckoned up to now (R521). -/
def Sub.refill (u : Sub) (now : Nat) : Sub :=
  { u with tokens := min (u.burst * 1000000000) (u.tokens + u.almRate * (now - u.since)), since := now }

/-- The dirty source served next (R521). -/
def Sub.nextDirty (u : Sub) : Option Nat :=
  match u.dirty.find? (fun x => decide (u.served < x)) with
  | some x => some x
  | none => u.dirty.head?

/-- The alarm that may be sent: its source (R520, R521). -/
def Sub.alarmDue (u : Sub) : Option Nat := if bitOf u.content 0 then u.nextDirty else none

/-- An alarm item is sent. -/
def State.sendAlarm (s : State) (n src : Nat) : State :=
  let u := s.sub n
  let s := s.setSub n { u with dirty := u.dirty.filter (fun x => decide (x ≠ src)), served := src, tokens := u.tokens - 1000000000, waiting := false, sentAlarms := u.sentAlarms + 1 }
  s.sendItem n 4 (alarmItem src (s.almRow src))

/-- A log item, or the gap item before it (R522); a poisoned entry is lost (R37, R410). -/
def State.sendLog (s : State) (n : Nat) : State :=
  let u := s.sub n
  if 0 < u.logLost then
    (s.setSub n { u with logLost := 0, logFirstLost := 0, gaps := u.gaps + 1 }).sendItem n 4 (gapItem 2 u.logLost u.logFirstLost)
  else match s.frontQ (.logq n) with
  | some (.log h, false) => (s.popQ (.logq n)).sendItem n 4 (logItem h)
  | some (_, _) =>
    ((s.popQ (.logq n)).setSub n { u with logLost := u.logLost + 1, lostLog := u.lostLog + 1 }).dataLoss .comm 0 0 0xFFFF
  | none => s

/-- A trace item, or the gap item before it (R523). -/
def State.sendTrace (s : State) (n : Nat) : State :=
  let u := s.sub n
  if 3 ≤ u.path ∧ ¬ s.noneHeld (u.path - 3) 26 then s
  else if 0 < u.traceLost then
    (s.setSub n { u with traceLost := 0, gaps := u.gaps + 1 }).sendItem n 7 (gapItem 3 u.traceLost 0)
  else match s.frontQ (.traceq n) with
  | some (.trace p recs, false) => (s.popQ (.traceq n)).sendItem n 7 (traceItem p recs)
  | some (_, _) =>
    ((s.popQ (.traceq n)).setSub n { u with traceLost := u.traceLost + 1, lostTrace := u.lostTrace + 1 }).dataLoss .comm 0 0 0xFFFF
  | none => s

/-- EXPORT_SEND (R520): the first eligible item of alarm, log and trace; an alarm without a token waits and is counted. -/
def State.exportSend (s : State) (n : Nat) : State :=
  let s := s.setSub n ((s.sub n).refill s.now)
  let u := s.sub n
  if ¬ s.pathOpen u then s
  else
    match u.alarmDue, decide (1000000000 ≤ u.tokens) with
    | some src, true => s.sendAlarm n src
    | d, _ =>
      let s := if d.isSome ∧ ¬ u.waiting then s.setSub n { u with waits := u.waits + 1, waiting := true } else s
      if (s.frontQ (.logq n)).isSome then s.sendLog n
      else if (s.frontQ (.traceq n)).isSome then s.sendTrace n
      else s

/-- EXPORT_SEND. -/
def execExportSend (t n : Nat) (s : State) : Out := onUnit (decide (n < 8)) .comm t s (fun s => s.exportSend n)

/-- COALESCE_EXPIRY (R522). -/
def execCoalesceExpiry (t n : Nat) (s : State) : Out :=
  onUnit (decide (n < 8)) .house t s (fun s =>
    let u := s.sub n
    match u.hold with
    | some h => if h.filled + u.coalesce * 10000000 ≤ s.now then s.pushHold n else s
    | none => s)

/-! ## The excerpt (R526) -/

/-- The sources whose `STICKY` or `ACTIVE` is set. -/
def State.shownRows (s : State) : List (Nat × AlmRow) := s.ledger.alarms.filter (fun e => e.2.sticky || e.2.active)

/-- The payload of the post-mortem record. -/
def State.excerptO (s : State) : Octets :=
  let n := s.ledger.count
  let k := min 256 n
  let rows := s.shownRows
  leBytes 4 s.dev.bootCount ++ leBytes 4 k ++ leBytes 8 s.clk.dev ++ leBytes 4 (min 2046 rows.length) ++ leBytes 1 (b2n (decide (2046 < rows.length))) ++
    zeros 11 ++ (List.range k).flatMap (fun i => s.logAt (n - k + i)) ++ zeros (32 * (256 - k)) ++
    (rows.take 2046).flatMap (fun e => leBytes 2 e.1 ++ zeros 2 ++ e.2.octets)

/-! ## Entries (R525, R527, R528) -/

/-- `CODE_TABLE`: the codes of the chapters, and the application's under the event's name (R511). -/
def codeTableO : Octets :=
  let row := fun (c : Nat) (n : String) => leBytes 2 c ++ leBytes 1 n.length ++ textOctets n
  (Code.table.flatMap (fun x => row x.1 x.2)) ++ (List.range 0xC00).flatMap (fun i => row (0x8000 + i) "LOGIC_EVENT")

/-- The counters of a subscription in `SHED_COUNTS`. -/
def Sub.counts (u : Sub) : Octets :=
  leBytes 4 u.sentAlarms ++ leBytes 4 u.coalesced ++ leBytes 4 u.waits ++ leBytes 4 u.logCoalesced ++ leBytes 4 u.lostLog ++ leBytes 4 u.lostTrace ++ leBytes 4 u.gaps

/-- The entries of `0x6C00` to `0x6C20` as read, those with an effect apart. -/
def State.logEntry (s : State) (sess idx sub : Nat) : Option Octets :=
  if idx = 0x6C00 then
    match sub with
    | 1 => some (leBytes 4 s.logOldest ++ leBytes 4 (s.ledger.count - 1))
    | 2 => some (leBytes 4 (s.session sess).logCursor)
    | 4 => some ((s.keep.excerpt.read).getD [])
    | 5 => some codeTableO
    | _ => none
  else if idx = 0x6C10 then
    match sub with
    | 1 => some (leBytes 2 (s.session sess).almSelect)
    | 3 => some ((List.range 512).flatMap (fun i => leBytes 1 (((List.range 8).map (fun j => b2n (s.almRow (8 * i + j)).sticky * 2 ^ j)).foldl (· + ·) 0)))
    | 4 => some (if s.ledger.lastAck.isEmpty then zeros 6 else s.ledger.lastAck)
    | 5 => some (zeros 2)
    | _ => none
  else if idx = 0x6C20 ∧ sub = 1 then
    some ((List.range 8).flatMap (fun n => (s.sub n).counts) ++ leBytes 4 s.ledger.evLost ++ leBytes 4 s.ledger.gapReads)
  else none

/-- `SHED_CLEAR` (R527). -/
def State.shedClear (s : State) : State :=
  let s := { s with ledger := { s.ledger with evLost := 0, gapReads := 0 } }
  (List.range 8).foldl (fun s n =>
    s.setSub n { s.sub n with sentAlarms := 0, coalesced := 0, waits := 0, logCoalesced := 0, lostLog := 0, lostTrace := 0, gaps := 0 }) s

/-- Writes of the log, alarm and export entries. -/
def State.logWrite (s : State) (sess idx sub : Nat) (b : Octets) : WRes :=
  if idx = 0x6C00 then
    if sub = 2 then .done (s.modSess sess (fun v => { v with logCursor := leNat b }))
    else if 0x10 ≤ sub ∧ sub < 0x18 then s.subWrite (sub - 0x10) b else .plain
  else if idx = 0x6C10 then
    match sub with
    | 1 => .done (s.modSess sess (fun v => { v with almSelect := leNat b }))
    | 4 => s.alarmAck b
    | 5 => s.alarmReset (leNat b)
    | _ => .plain
  else if idx = 0x6C20 ∧ sub = 2 then .done s.shedClear
  else .plain

end Machine
end Sys2Proof
end

