-- ==== Sys2Proof/Machine/Session.lean ====
section
/-! DEFINITION. Sessions, key slots and critical trailers (R384–R397, R400). -/

namespace Sys2Proof
namespace Machine

/-- What a request comes to: result code (0 where it is accepted) and the data of its response. -/
structure Ans where
  s : State
  code : Nat := 0
  data : Octets := []

/-- A refusal. -/
def State.deny (s : State) (code : Nat) : Ans := { s := s, code := code }

/-! ## Key slots (R384–R386) -/

/-- Key slot `k`. -/
def State.keySlot (s : State) (k : Nat) : Option KeySlot := Tab.get none s.net.keys k
/-- Replace a key slot. -/
def State.setKey (s : State) (k : Nat) (v : Option KeySlot) : State :=
  { s with net := { s.net with keys := Tab.put none s.net.keys k v } }

/-- All 64 slots are empty (R386). -/
def State.noKeys (s : State) : Bool := s.net.keys.all (fun e => e.2.isNone)

/-- The slot that 48 wrapped octets give for slot `k`; none where a check of R385 fails. -/
def keyOf (k : Nat) (w : Octets) : Option KeySlot :=
  match keyUnwrap Config.rootKey w with
  | none => none
  | some p =>
    if p.length = 40 ∧ u8At p 34 = k ∧ u8At p 32 ≤ 3 ∧ u8At p 33 < 4 ∧ u8At p 35 = 0 then
      some { key := p.take 32, role := u8At p 32, usage := u8At p 33, partner := u32At p 36 }
    else none

/-- The slot as its keep-store record gives it; empty where the record is invalid or holds none for it (R26, R385). -/
def State.keptKey (s : State) (k : Nat) : Option KeySlot := (s.keep.keys.read.bind (fun l => Tab.find l k)).bind (keyOf k)

/-- Every slot takes the key that the keep store holds for it (R385). -/
def State.keysAtBoot (s : State) : State :=
  let s := if s.keep.keys.read.isNone then s.keepLost 10 else s
  (List.range 64).foldl (fun s k => s.setKey k (s.keptKey k)) s

/-- The wrapped-keys record as it stands. -/
def State.keptKeys (s : State) : Tab Octets := s.keep.keys.read.getD []

/-- A slot is written in the wrapped-keys record, or erased from it (R385, R396). -/
def State.keepKey (s : State) (k : Nat) (w : Option Octets) : State :=
  let l := match w with
    | some b => Tab.insert s.keptKeys k b
    | none => Tab.erase s.keptKeys k
  { s with keep := { s.keep with keys := s.keep.keys.write l } }

/-- A context becomes FREE (R389); what belongs to a session goes with it. The host port keeps its own request, transfer and
read positions: it has them without a session. -/
def State.freeSession (s : State) (n : Nat) : State :=
  if n = 0 then
    s.modSess 0 (fun v => { ({} : Session) with lastReq := v.lastReq, lastResp := v.lastResp, doneTag := v.doneTag, doneResp := v.doneResp,
                                                 logCursor := v.logCursor, almSelect := v.almSelect })
  else
    let s := s.modSess n (fun _ => {})
    { s with logic := { s.logic with winDesc := Tab.put [] s.logic.winDesc n [], winVals := Tab.put [] s.logic.winVals n [] },
             heat := { s.heat with iv := { s.heat.iv with select := Tab.put 0 s.heat.iv.select n 0 } } }

/-- An OPEN session is closed with a cause (R389). -/
def State.closeSession (s : State) (n cause : Nat) : State :=
  (s.freeSession n).post .house Code.sessionClosed 0 [.u8 cause]

/-- Every session opened with slot `k` is closed with cause 3 (R386). -/
def State.closeOfSlot (s : State) (k : Nat) : State :=
  (s.net.sess.filter (fun e => decide (e.2.state = .opened) && decide (e.2.slot = k))).foldl
    (fun s e => s.closeSession e.1 3) s

/-- A write of `KEY_WRAPPED` (R385). -/
def State.keyLoad (s : State) (k : Nat) (w : Octets) : WRes :=
  if w.length ≠ 48 then .refuse 0x0A04 s
  else match keyOf k w with
  | none => .refuse 0x0A12 s
  | some v => .done (((s.setKey k (some v)).keepKey k (some w)).closeOfSlot k)

/-- A write of `KEY_ERASE` (R396). -/
def State.keyErase (s : State) (k v : Nat) : WRes :=
  if v = 0x0000E2A5 then .done (((s.setKey k none).keepKey k none).closeOfSlot k) else .refuse 0x0A05 s

/-- Writes of `0x1800`. -/
def State.keyWrite (s : State) (k sub : Nat) (b : Octets) : WRes :=
  if sub = 1 then s.keyLoad k b else s.keyErase k (leNat b)

/-- `KEY_INFO` (R396). -/
def State.keyRead (s : State) (k sub : Nat) : Option Octets :=
  if sub ≠ 3 then none
  else match s.keySlot k with
  | none => some (zeros 12)
  | some v => some (leBytes 1 1 ++ leBytes 1 v.role ++ leBytes 1 v.usage ++ zeros 1 ++ leBytes 4 v.partner ++ (hmac v.key (textOctets "PXKC")).take 4)

/-! ## Opening and closing (R387–R390) -/

/-- The role of the host port (R77). -/
def State.hostRole (s : State) : Nat := if s.power.straps.hostRole then 2 else 0

/-- The role of a session. -/
def State.roleOf (s : State) (n : Nat) : Nat := if n = 0 then s.hostRole else (s.session n).role

/-- A proof or the session key's message (R388). -/
def proofMsg (label : String) (a b : Octets) (n partner : Nat) : Octets :=
  textOctets label ++ a ++ b ++ leBytes 1 n ++ leBytes 4 partner ++ leBytes 8 Config.serial

/-- The key a context's slot holds now; an empty slot proves nothing. -/
def State.slotKey (s : State) (n : Nat) : Option Octets := (s.keySlot (s.session n).slot).map (·.key)

/-- Idle time of a context in ns (R390). -/
def State.idle (s : State) (n : Nat) : Nat := s.now - (s.session n).idleSince

/-- A context that R390 lets an `OPEN` reclaim: OPEN, no peer session, idle beyond its limit. -/
def State.reclaimable (s : State) (n : Nat) : Bool :=
  decide ((s.session n).state = .opened) && decide ((s.session n).role ≠ 3) && decide (s.nat (0x1400 + n) 7 * 1000000000 < s.idle n)

/-- By how much a context's idle time exceeds its limit. -/
def State.overIdle (s : State) (n : Nat) : Nat := s.idle n - s.nat (0x1400 + n) 7 * 1000000000

/-- The context a network `OPEN` takes (R390): the lowest FREE one, else the one that is idle longest beyond its limit. -/
def State.pickContext (s : State) : Option Nat :=
  let l := (List.range 255).map (· + 1)
  match l.find? (fun n => decide ((s.session n).state = .free)) with
  | some n => some n
  | none =>
    (l.filter s.reclaimable).foldl (fun (b : Option Nat) n =>
      match b with
      | none => some n
      | some m => if s.overIdle m < s.overIdle n then some n else some m) none

/-- The device nonce (R388): a free value. -/
def State.nonce (s : State) : Octets := (List.range 16).map (Config.freeNonce s.draws)

/-- Context `n` enters OPENING for an `OPEN` (R389) and answers with N_d and P_d. -/
def State.enterOpening (s : State) (n : Nat) (src : Peer) (v : KeySlot) (b : Octets) : Ans :=
  let s := if (s.session n).state = .opened then s.closeSession n 5 else s
  let s := s.freeSession n
  let nc := slice b 8 16
  let nd := s.nonce
  let slot := u8At b 0
  let partner := u32At b 4
  let s := (s.modSess n (fun x => { x with
    state := .opening, peer := src, partner := partner, slot := slot, role := v.role, nc := nc, nd := nd, openingSince := s.now })).draw
  { s := s, data := leBytes 1 n ++ leBytes 1 (s.roleOf n) ++ leBytes 2 (s.nat (0x1400 + n) 7) ++ nd ++
      trunc96 (hmac v.key (proofMsg "PXO1" nc nd n partner)) }

/-- SESSION_AUTH_FAIL, and a refusal with 0x0A07. -/
def State.authFail (s : State) : Ans := (s.post .house Code.sessionAuthFail 0 []).deny 0x0A07

/-- An `OPEN` (R389, R390) with its 24 octets. -/
def State.openReq (s : State) (src : Peer) (b : Octets) : Ans :=
  if s.net.rngFailed then s.deny 0x0A09
  else if 63 < u8At b 0 then s.deny 0x0A05
  else match s.keySlot (u8At b 0) with
  | none => s.authFail
  | some v =>
    if ¬ bitOf v.usage 0 ∨ (v.partner ≠ 0 ∧ v.partner ≠ u32At b 4) then s.authFail
    else if src = .host then s.enterOpening 0 src v b
    else match s.pickContext with
    | none => s.deny 0x0A0A
    | some n => s.enterOpening n src v b

/-- The session opens (R388, R389). -/
def State.opened (s : State) (n : Nat) (k : Octets) (p : Pdu) : State :=
  s.modSess n (fun v => { v with
    state := .opened, key := hmac k (proofMsg "PXS1" v.nc v.nd n v.partner), counter := 0, fails := 0, idleSince := s.now,
    openedAt := s.clk.dev, confirm := some p, tokens := 1000000000 * s.nat (0x1400 + n) 6, tokenAt := s.now,
    lastReq := if n = 0 then v.lastReq else none })

/-- A `CONFIRM` (R389). -/
def State.confirmReq (s : State) (n : Nat) (src : Peer) (p : Pdu) : Ans :=
  let v := s.session n
  match v.state with
  | .free => s.deny 0x0A07
  | .opening =>
    if v.peer ≠ src then s.authFail
    else match s.slotKey n with
    | none => (s.freeSession n).authFail
    | some k =>
      if p.data = trunc96 (hmac k (proofMsg "PXO2" v.nd v.nc n v.partner)) then { s := s.opened n k p }
      else (s.freeSession n).authFail
  | .opened =>
    if v.peer ≠ src then s.authFail else if v.confirm = some p then { s := s } else s.deny 0x0A06

/-- A write of `SESSION_KILL` (R395): the context is closed. -/
def State.sessionKill (s : State) (n v : Nat) : WRes :=
  if v ≠ 0x0000C105 then .refuse 0x0A05 s
  else if (s.session n).state = .opened then .done (s.closeSession n 1)
  else .done (s.freeSession n)

/-! ## Critical trailers (R391, R392) -/

/-- The critical block. -/
def critBlock (cs n tag flags idx sub len counter : Nat) (value : Octets) : Octets :=
  textOctets "PXC1" ++ leBytes 1 cs ++ leBytes 1 n ++ leBytes 1 tag ++ leBytes 1 flags ++ leBytes 2 idx ++ leBytes 1 sub ++ leBytes 4 len ++
    leBytes 8 counter ++ value

/-- The trailer of a request over entry `idx.sub` with a whole value (R391): its tag is right. -/
def State.tagOk (s : State) (n cs : Nat) (p : Pdu) (idx sub : Nat) (value : Octets) (t : Trailer) : Bool :=
  decide ((s.session n).state = .opened) &&
  decide (t.tag = trunc96 (hmac (s.session n).key (critBlock cs n p.tag p.flags idx sub value.length t.counter value)))

/-- A wrong tag (R392, R389): the failures in a row are counted, logged, and the eighth closes the session. -/
def State.tagFailed (s : State) (n : Nat) : State :=
  let s := s.post .house Code.sessionAuthFail 0 []
  if (s.session n).state ≠ .opened then s
  else
    let s := s.modSess n (fun v => { v with fails := v.fails + 1, tagFails := v.tagFails + 1 })
    if 8 ≤ (s.session n).fails then s.closeSession n 2 else s

/-- Step 6 of R62 (R392): the state after, and the code. -/
def State.trailer (s : State) (n cs : Nat) (p : Pdu) (idx sub : Nat) (value : Octets) (required : Bool) : State × Nat :=
  match p.trailer with
  | none => (s, if required then 0x0A07 else 0)
  | some t =>
    if ¬ s.tagOk n cs p idx sub value t then (s.tagFailed n, 0x0A07)
    else if t.counter ≤ (s.session n).counter then
      (s.modSess n (fun v => { v with fails := 0, stale := v.stale + 1 }), 0x0A08)
    else (s.modSess n (fun v => { v with fails := 0, counter := t.counter }), 0)

/-- A `CLOSE` (R389): it needs a trailer on every path; its block names index 0; its length is checked after the trailer (R62). -/
def State.closeReq (s : State) (n : Nat) (p : Pdu) : Ans :=
  let r := s.trailer n 0x12 p 0 0 p.data true
  if r.2 ≠ 0 then r.1.deny r.2 else if p.data.length ≠ 0 then r.1.deny 0x0A04 else { s := r.1.closeSession n 0 }

/-! ## Entries (R395) -/

/-- `PARTNER`: transport, node, address, port, partner ID. -/
def partnerO (v : Session) : Octets :=
  (match v.peer with
   | .can p k => leBytes 1 p ++ leBytes 1 k ++ zeros 10
   | .udp m ip port => leBytes 1 (8 + m) ++ zeros 3 ++ beBytes 4 ip ++ leBytes 2 port ++ zeros 2
   | .host => leBytes 1 0x0F ++ zeros 11) ++ leBytes 4 v.partner

/-- Reads of `0x1400`+s; none for a stored value. -/
def State.sessRead (s : State) (n sub : Nat) : Option Octets :=
  let v := s.session n
  let free := decide (v.state = .free)
  match sub with
  | 1 => some (leBytes 1 (match v.state with
      | .free => 0
      | .opening => 1
      | .opened => 2))
  | 2 => some (if free then zeros 16 else partnerO v)
  | 3 => some (leBytes 1 (if free then 255 else v.slot))
  | 4 => some (leBytes 1 (s.roleOf n))
  | 5 => some (leBytes 8 v.counter)
  | 8 => some (leBytes 4 (if v.state = .opened then s.idle n / 1000000000 else 0))
  | 9 => some (leBytes 8 v.openedAt)
  | 0x0A => some ([v.accepted, v.tagFails, v.stale, v.rateRefused].flatMap (leBytes 4))
  | 0x0B => some (zeros 4)
  | _ => none

/-- Writes of `0x1400`+s. -/
def State.sessWrite (s : State) (n sub : Nat) (b : Octets) : WRes :=
  if sub = 0x0B then s.sessionKill n (leNat b) else .plain

/-! ## Commands -/

/-- SESSION_OPEN_TIMEOUT (R389): 2 s in OPENING without a `CONFIRM`. -/
def execSessionOpenTimeout (t n : Nat) (s : State) : Out :=
  onUnit (decide (n < 256)) .house t s (fun s =>
    if (s.session n).state = .opening ∧ (s.session n).openingSince + 2000000000 ≤ s.now then s.freeSession n else s)

/-- RNG_FAULT (R388): the health test has failed. -/
def execRngFault (t : Nat) (s : State) : Out :=
  onIsland .house t s (fun s => ({ s with net := { s.net with rngFailed := true } }).post .house Code.rngFault 0 [])

end Machine
end Sys2Proof
end

