-- ==== Sys2Proof/Machine/Critical.lean ====
section
/-! DEFINITION. Critical records: their two copies, what a read of them gives, and what follows when both are lost (R25, R26). State
holds what the copies hold at rest, where they are equal; a read forms both copies from it and from what befell them. -/

namespace Sys2Proof
namespace Machine

/-! ## A copy (R25) -/

/-- One copy: its 32-bit words with their parity bits, the CRC-32C over the record, its length, the 8-bit write generation. -/
structure CritCopy where
  words : List (Nat × Bool)
  len : Nat
  crc : Nat
  gen : Nat
  deriving DecidableEq, Repr

/-- The copy that a write of some octets leaves. -/
def CritCopy.of (b : Octets) (gen : Nat) : CritCopy :=
  { words := parWords b, len := b.length, crc := crc32c b, gen := gen % 256 }

/-- The octets a copy holds. -/
def CritCopy.octets (c : CritCopy) : Octets := (parOctets c.words).take c.len

/-- The copy after one thing that befell it; a cut write leaves the generation before. -/
def CritCopy.hit (c : CritCopy) (h : CritHit) : CritCopy :=
  match h with
  | .word w b => { c with words := parFlip c.words w b }
  | .crc b => { c with crc := Nat.xor c.crc (2 ^ (b % 32)) }
  | .cut old => CritCopy.of old (c.gen + 255)

/-- Every word's parity and the CRC hold. -/
def CritCopy.good (c : CritCopy) : Bool := parGood c.words && decide (crc32c c.octets = c.crc)

/-- The first rule of R25 that applies: the content used, or lost. -/
def critUse (a b : CritCopy) : Option Octets :=
  if a.good && b.good && decide (a.octets = b.octets) then some a.octets
  else if a.good && !b.good then some a.octets
  else if !a.good && b.good then some b.octets
  else if a.good && b.good && decide (a.gen = (b.gen + 1) % 256) then some a.octets
  else if a.good && b.good && decide (b.gen = (a.gen + 1) % 256) then some b.octets
  else none

/-! ## What the records hold -/

/-- A register of Metr or a channel: 64-bit count and 32-bit residue. -/
def regOctets (r : Nat) : Octets := leBytes 12 r

/-- The octets of critical record `i` of a kind, as written last. Energy registers: 0–111 of Metr (R292), then a channel's each, then a
pulse count each. -/
def State.critContent (s : State) (kind i : Nat) : Octets :=
  match kind with
  | 0 =>
    if i < 112 then regOctets (Tab.get 0 s.metr.regs i)
    else if i < 624 then
      let g := (s.chan (i - 112)).regs
      regOctets g.ePos ++ regOctets g.eNeg ++ regOctets g.vFwd ++ regOctets g.vRev ++ regOctets g.vT
    else leBytes 8 (s.pulse (i - 624)).count
  | 1 =>
    match s.keySlot i with
    | none => []
    | some v => v.key ++ leBytes 1 v.role ++ leBytes 1 v.usage ++ leBytes 4 v.partner
  | 2 => leBytes 1 s.lease.state ++ leBytes 1 (b2n s.lease.own) ++ leBytes 8 s.lease.timer
  | 3 => leBytes 8 (s.session i).counter
  | 4 => leBytes 4 (if i = 0 then s.disp.plan.version else s.logic.changeNo)
  | _ => leBytes 4 (if i = 0 then s.dev.bootCount else (s.cp (i - 1)).clearCount)

/-- A record's content is taken from the copy that was used. -/
def State.critPut (s : State) (kind i : Nat) (b : Octets) : State :=
  match kind with
  | 0 =>
    if i < 112 then { s with metr := { s.metr with regs := Tab.put 0 s.metr.regs i (leNat b) } }
    else if i < 624 then
      let f := fun k => leNat (slice b (12 * k) 12)
      s.modChan (i - 112) (fun v => { v with regs := { ePos := f 0, eNeg := f 1, vFwd := f 2, vRev := f 3, vT := f 4 } })
    else s.setPulse (i - 624) { s.pulse (i - 624) with count := leNat b }
  | 1 =>
    s.setKey i (if b.isEmpty then none else some { key := b.take 32, role := u8At b 32, usage := u8At b 33, partner := u32At b 34 })
  | 2 => s.modLease (fun l => { l with state := u8At b 0, own := decide (u8At b 1 = 1), timer := u64At b 2 })
  | 3 => s.modSess i (fun v => { v with counter := leNat b })
  | 4 =>
    if i = 0 then s.modDisp (fun d => { d with plan := { d.plan with version := leNat b } })
    else s.modLogic (fun l => { l with changeNo := leNat b })
  | _ =>
    if i = 0 then { s with dev := { s.dev with bootCount := leNat b } }
    else s.setCp (i - 1) { s.cp (i - 1) with clearCount := leNat b }

/-- What a read of the two copies comes to (R25): the content used, none where the record is lost. -/
def State.critOutcome (s : State) (c : CritRead) : Option Octets :=
  let w := CritCopy.of (s.critContent c.kind c.index) c.gen
  critUse (c.hits0.foldl CritCopy.hit w) (c.hits1.foldl CritCopy.hit w)

/-! ## A lost record (R26) -/

/-- An energy register is reloaded as at a power restore (R26, R318): only that record's, and the interval record is marked. -/
def State.energyLost (s : State) (i : Nat) : State :=
  let s' := match s.restoreOf with
    | none => s
    | some (r, e, p, _, _) =>
      if i < 112 then { s with metr := { s.metr with regs := Tab.put 0 s.metr.regs i (Tab.get 0 e i) } }
      else if i < 624 then
        let b := Tab.find r.bases (i - 112)
        s.modChan (i - 112) (fun v => { v with regs := Tab.get {} r.chans (i - 112), base := b, savedBase := b.isSome })
      else s.setPulse (i - 624) { s.pulse (i - 624) with count := Tab.get 0 p (i - 624) }
  s'.modIv (fun v => { v with rebuilt := true })

/-- A key slot is unwrapped again from its keep-store record; it is empty where that record is invalid (R26). -/
def State.keyLost (s : State) (k : Nat) : State := s.setKey k (s.keptKey k)

/-- A session counter: the session is closed with cause 4 (R26, R389). -/
def State.counterLost (s : State) (n : Nat) : State := if (s.session n).state = .opened then s.closeSession n 4 else s

/-- The plan counter (0) or the change-set counter (1): the keep-store value plus 2¹⁶ (R26). -/
def State.numberLost (s : State) (i : Nat) : State :=
  if i = 0 then
    let v := (((s.keep.control.read.map (·.planVer)).getD 0) + 65536) % 4294967296
    s.modDisp (fun d => { d with plan := { d.plan with version := v } })
  else
    let v := (((s.keep.retained.read.map (·.changeNo)).getD 0) + 65536) % 4294967296
    s.modLogic (fun l => { l with changeNo := v })

/-- The keep-store copy of a device counter: 0 `BOOT_COUNT`, 1 + cp `CLEAR_COUNT`. -/
def State.deviceCopy (s : State) (i : Nat) : Nat := if i = 0 then s.keep.bootCount else Tab.get 0 s.keep.clearCounts (i - 1)

/-- A device counter takes the value of its copy plus 2¹⁶; the copy follows (R26). -/
def State.deviceLost (s : State) (i : Nat) : State :=
  let v := (s.deviceCopy i + 65536) % 4294967296
  if i = 0 then { s with dev := { s.dev with bootCount := v }, keep := { s.keep with bootCount := v } }
  else
    { s.setCp (i - 1) { s.cp (i - 1) with clearCount := v } with
      keep := { s.keep with clearCounts := Tab.put 0 s.keep.clearCounts (i - 1) v } }

/-- The action of R26 for a lost record. -/
def State.criticalAct (s : State) (c : CritRead) : State :=
  match c.kind with
  | 0 => s.energyLost c.index
  | 1 => s.keyLost c.index
  | 2 => s.leaseForgotten
  | 3 => s.counterLost c.index
  | 4 => s.numberLost c.index
  | _ => s.deviceLost c.index

/-- The arguments of CRITICAL_LOST (R572). -/
def State.criticalArgs (s : State) (c : CritRead) : List EvArg :=
  [.u8 c.kind, .u8 c.index] ++
    (if c.kind = 5 then [.u32 (s.deviceCopy c.index), .u32 ((s.deviceCopy c.index + 65536) % 4294967296)] else [])

/-- A read of a critical record (R25, R26): the content of the copy used stands in both; a record that is lost is logged, sets
`CRITICAL_REBUILT` and takes its action. -/
def State.critRead (s : State) (c : CritRead) : State :=
  match s.critOutcome c with
  | some b => if b = s.critContent c.kind c.index then s else s.critPut c.kind c.index b
  | none => ((s.post .house Code.criticalLost 0 (s.criticalArgs c)).rebuiltCause).criticalAct c

/-- The reads of critical records that a command makes. -/
def State.critReads (s : State) (l : List CritRead) : State := l.foldl State.critRead s

/-- GRANT (R443): what the lane reads of its lease state, then the message. -/
def execGrant (t path : Nat) (m : RedMsg) (crit : List CritRead) (s : State) : Out :=
  onIsland .house t s (fun s => if m.type = 2 then (s.critReads crit).redMessage path m else s)

/-- RED_CYCLE_BOUNDARY (R440). -/
def execRedCycleBoundary (t : Nat) (crit : List CritRead) (s : State) : Out :=
  onIsland .house t s (fun s => (s.critReads crit).redBoundary)

end Machine
end Sys2Proof
end

