-- ==== Sys2Proof/Machine/Firmware.lean ====
section
/-! DEFINITION. The layout of a firmware image and the checks of the boot ROM (R398, R399), with the ECDSA verification over P-256
(FIPS 186) that R398 names. -/

namespace Sys2Proof
namespace Machine

/-! ## P-256 -/

/-- The prime of the field. -/
def p256P : Nat := 0xFFFFFFFF00000001000000000000000000000000FFFFFFFFFFFFFFFFFFFFFFFF
/-- The order of the base point. -/
def p256N : Nat := 0xFFFFFFFF00000000FFFFFFFFFFFFFFFFBCE6FAADA7179E84F3B9CAC2FC632551
/-- The base point. -/
def p256G : Option (Nat × Nat) :=
  some (0x6B17D1F2E12C4247F8BCE6E563A440F277037D812DEB33A0F4A13945D898C296,
        0x4FE342E2FE1A7F9B8EE7EB4A7C0F9E162BCE33576B315ECECBB6406837BF51F5)

/-- A power modulo `m` of an exponent of as many bits as the first argument says. -/
def powMod (m : Nat) : Nat → Nat → Nat → Nat
  | 0, _, _ => 1
  | n + 1, b, e =>
    let r := powMod m n (b * b % m) (e / 2)
    if e % 2 = 1 then b * r % m else r

/-- The inverse modulo a prime of at most 256 bits. -/
def invMod (m a : Nat) : Nat := powMod m 256 (a % m) (m - 2)

/-- The third point of the chord or tangent of slope `l` through two points, mirrored. -/
def chord (l x1 y1 x2 : Nat) : Nat × Nat :=
  let x := (l * l + 2 * p256P - x1 - x2) % p256P
  (x, (l * (x1 + p256P - x) + p256P - y1) % p256P)

/-- The sum of two points of the curve; none is the point at infinity. -/
def addPoint (a b : Option (Nat × Nat)) : Option (Nat × Nat) :=
  match a, b with
  | none, b => b
  | a, none => a
  | some (x1, y1), some (x2, y2) =>
    if x1 = x2 then
      if (y1 + y2) % p256P = 0 then none
      else some (chord ((3 * x1 * x1 + p256P - 3) * invMod p256P (2 * y1) % p256P) x1 y1 x2)
    else some (chord ((y2 + p256P - y1) * invMod p256P (x2 + p256P - x1) % p256P) x1 y1 x2)

/-- A multiple of a point, by a number of as many bits as the first argument says. -/
def mulPoint : Nat → Nat → Option (Nat × Nat) → Option (Nat × Nat)
  | 0, _, _ => none
  | n + 1, k, a =>
    let r := mulPoint n (k / 2) (addPoint a a)
    if k % 2 = 1 then addPoint a r else r

/-- The signature (r, s) of a message with SHA-256 verifies under a public key. -/
def ecdsaOk (key : Nat × Nat) (msg : Octets) (r s : Nat) : Bool :=
  decide (0 < r ∧ r < p256N ∧ 0 < s ∧ s < p256N) &&
    (let w := invMod p256N s
     let u := beNat (sha256 msg) * w % p256N
     let v := r * w % p256N
     match addPoint (mulPoint 256 u p256G) (mulPoint 256 v (some key)) with
     | some (x, _) => decide (x % p256N = r)
     | none => false)

/-! ## The image (R398) -/

/-- The octets of a firmware slot (R39). -/
def fwSlotSize : Nat := 8388608

/-- `IMAGE_LEN`. -/
def fwLength (b : Octets) : Nat := u32At b 8
/-- `FW_VERSION`. -/
def fwVersionOf (b : Octets) : Nat := u32At b 12

/-- The signature at the image's end covers everything before it (R398). -/
def fwSigned (b : Octets) : Bool :=
  let n := fwLength b
  ecdsaOk (Config.vendorKey (u8At b 18)) (b.take (n - 64)) (beNat (slice b (n - 64) 32)) (beNat (slice b (n - 32) 32))

/-- The first check of R399 that an image fails, counted from 1; 0 where it passes. A length that leaves no room for the header and the
signature fails the second (DEDUCED, log 133). -/
def fwFailing (b : Octets) : Nat :=
  if b.take 4 ≠ [0x50, 0x58, 0x46, 0x57] ∨ u16At b 4 ≠ 1 ∨ u16At b 6 ≠ 64 then 1
  else if fwLength b < 128 ∨ fwSlotSize < fwLength b ∨ b.length < fwLength b then 2
  else if u16At b 16 ≠ 0x5120 then 3
  else if 3 < u8At b 18 ∨ slice b 19 45 ≠ zeros 45 then 4
  else if ¬ fwSigned b then 5
  else 0

end Machine
end Sys2Proof
end

