-- ==== Sys2Proof/Machine/Time.lean ====
section
/-! DEFINITION. The calendar, its alarm and the periodic wake, the discipline of device time and PTP (R414–R436). -/

namespace Sys2Proof
namespace Machine

/-- Change the calendar, the synchronisation. -/
def State.modCal (s : State) (f : Cal → Cal) : State := { s with cal := f s.cal }
def State.modSync (s : State) (f : Sync → Sync) : State := { s with sync := f s.sync }

/-! ## Calendar count (R414) -/

/-- A BCD octet as a number. -/
def bcd (v : Nat) : Nat := v / 16 * 10 + v % 16
/-- A number as a BCD octet. -/
def toBcd (v : Nat) : Nat := v / 10 % 10 * 16 + v % 10
/-- Both digits are decimal. -/
def bcdOk (v : Nat) : Bool := decide (v / 16 ≤ 9) && decide (v % 16 ≤ 9)
/-- A leap year (R414). -/
def leapYear (y : Nat) : Bool := (decide (y % 4 = 0) && decide (y % 100 ≠ 0)) || decide (y % 400 = 0)
/-- Days of a month. -/
def monthDays (y m : Nat) : Nat :=
  if m = 2 then (if leapYear y then 29 else 28) else if m = 4 ∨ m = 6 ∨ m = 9 ∨ m = 11 then 30 else 31
/-- Days from 2000-01-01 to the first of January of a year. -/
def yearDays (y : Nat) : Nat := let n := y - 2000; 365 * n + (n + 3) / 4 - (n + 99) / 100 + (n + 399) / 400
/-- Days of a year before a month. -/
def daysBefore (y m : Nat) : Nat := ((List.range (m - 1)).map (fun k => monthDays y (k + 1))).foldl (· + ·) 0
/-- Seconds of the 400 years of the calendar. -/
def calSpan : Nat := 146097 * 86400

/-- The year of the fields. -/
def CalFields.fullYear (f : CalFields) : Nat := bcd f.century * 100 + bcd f.year

/-- The fields are a date and time of R414. -/
def CalFields.ok (f : CalFields) : Bool :=
  [f.sec, f.min, f.hour, f.day, f.month, f.year, f.century].all bcdOk && decide (bcd f.sec < 60) && decide (bcd f.min < 60) &&
    decide (bcd f.hour < 24) && decide (1 ≤ bcd f.month) && decide (bcd f.month ≤ 12) && decide (20 ≤ bcd f.century) &&
    decide (bcd f.century ≤ 23) && decide (1 ≤ bcd f.day) && decide (bcd f.day ≤ monthDays f.fullYear (bcd f.month)) &&
    decide (f.weekday ≤ 6)

/-- Seconds since 2000-01-01 00:00:00. -/
def CalFields.seconds (f : CalFields) : Nat :=
  (yearDays f.fullYear + daysBefore f.fullYear (bcd f.month) + bcd f.day - 1) * 86400 + bcd f.hour * 3600 + bcd f.min * 60 + bcd f.sec

/-- The year that holds a day. -/
def yearOfDay (d : Nat) : Nat := 2000 + ((List.range 400).filter (fun k => decide (yearDays (2001 + k) ≤ d))).length
/-- The month of a day of a year. -/
def monthOfDay (y d : Nat) : Nat := 1 + ((List.range 11).filter (fun k => decide (daysBefore y (k + 2) ≤ d))).length

/-- The fields of a calendar count in s, with a weekday and `SUBSEC` 0. -/
def fieldsOf (sec wd : Nat) : CalFields :=
  let c := sec % calSpan
  let day := c / 86400
  let tod := c % 86400
  let y := yearOfDay day
  let m := monthOfDay y (day - yearDays y)
  { sec := toBcd (tod % 60), min := toBcd (tod / 60 % 60), hour := toBcd (tod / 3600), day := toBcd (day - yearDays y - daysBefore y m + 1),
    month := toBcd m, year := toBcd (y % 100), century := toBcd (y / 100), weekday := wd, subsec := 0 }

/-- `SUBSEC` as it stands: held under HALT. -/
def State.subsec (s : State) : Nat := if s.cal.halt then s.cal.f.subsec else min 1023 ((s.now - s.cal.since) * 1024 / 1000000000)

/-- The block as it stands. -/
def State.calBlock (s : State) : CalFields := { s.cal.f with subsec := s.subsec }

/-- A host error of the calendar (R419): within its bounds every result is free. -/
def State.calHostError (s : State) : State :=
  let v := fun (i : Nat) => Config.freeCalendar s.draws i
  let n := fun (i m : Nat) => (v i).toNat % m
  (s.modCal (fun c => { c with
    f := { sec := n 0 256, min := n 1 256, hour := n 2 256, day := n 3 256, month := n 4 256, year := n 5 256, century := n 6 256,
           weekday := n 7 256, subsec := n 8 1024 },
    offset := v 9, almf := decide (v 10 ≠ 0), wakeOut := decide (v 11 ≠ 0) })).draw

/-! ## Alarm (R422–R424) -/

/-- A field of the alarm matches: its enable is clear, or the values agree. -/
def almField (a : Octets) (i v : Nat) : Bool := !bitOf (u8At a 6) i || decide (u8At a i = v)

/-- The alarm has an enable set and matches the fields. -/
def almMatch (a : Octets) (f : CalFields) : Bool :=
  decide (u8At a 6 % 64 ≠ 0) && almField a 0 f.sec && almField a 1 f.min && almField a 2 f.hour && almField a 3 f.day &&
    almField a 4 f.month && almField a 5 f.weekday

/-- Some second of a day from `lo` to `hi` matches the alarm's time of day. -/
def almTod (a : Octets) (lo hi : Nat) : Bool :=
  (List.range 24).any (fun h => almField a 2 (toBcd h) && (List.range 60).any (fun m => almField a 1 (toBcd m) &&
    (List.range 60).any (fun x =>
      let t := h * 3600 + m * 60 + x
      almField a 0 (toBcd x) && decide (lo ≤ t) && decide (t ≤ hi))))

/-- Some second strictly between two calendar counts matches (R424); the weekday is the current one. 3000 days hold every date. -/
def almSkipped (a : Octets) (wd lo hi : Nat) : Bool :=
  decide (u8At a 6 % 64 ≠ 0) && almField a 5 wd && decide (lo + 1 < hi) &&
    (List.range (min 3000 ((hi - 1) / 86400 - (lo + 1) / 86400 + 1))).any (fun k =>
      let d := (lo + 1) / 86400 + k
      let f := fieldsOf (d * 86400) wd
      almField a 3 f.day && almField a 4 f.month &&
        almTod a (if d * 86400 < lo + 1 then lo + 1 - d * 86400 else 0) (min 86399 (hi - 1 - d * 86400)))

/-- The device is in standby: its main supplies are off. -/
def State.standby (s : State) : Bool := !s.power.supplies

/-- The alarm fires (R422). -/
def State.almFire (s : State) : State :=
  let s := s.modCal (fun c => { c with almf := true })
  if s.standby then (if bitOf (u8At s.cal.alarm 6) 7 then s.modCal (fun c => { c with wakeOut := true }) else s)
  else s.post .backup Code.calAlarm 0 []

/-- The alarm after a set, a step or a jump from `old` to `new` (R424). -/
def State.almMoved (s : State) (old new : Nat) : State :=
  let a := s.cal.alarm
  let here := almMatch a s.cal.f
  if old < new then
    if almSkipped a s.cal.f.weekday old new then
      let s := s.modCal (fun c => { c with almskip := true })
      let s := if s.standby then s else s.post .backup Code.calAlarmSkipped 0 []
      if here ∨ bitOf (u8At a 6) 6 then s.almFire else s
    else if here then s.almFire else s
  else s

/-! ## Rollover (R414, R418, R421) -/

/-- ppm of the temperature term and of the steering term (R421, R426). -/
def State.tempTerm (s : State) : Rat :=
  let b := s.oct 0x6001 7
  if u8At b 0 = 0 then 0
  else
    let d := ratI (s.cal.temp - i16At b 2) 100
    ratI (u16At b 4) 10000 * d * d
def State.steerTerm (s : State) : Rat :=
  if s.cal.steering then ratI (clampI (-256 * 16) (256 * 16) s.cal.dev) 16 else 0

/-- `CORRECTION` (R426), in 2⁻²³. -/
def State.correction (s : State) : Int :=
  clampI (-4295) 4295 (s.num 0x6001 6 + rounding 26 ((s.tempTerm + s.steerTerm) * 8388608 / 1000000))

/-- The error of a measurement of the deviation: a free value within 1 µs (R421). -/
def devError (k : Nat) : Int := clampI (-1000) 1000 (Config.freeDeviation k)

/-- The deviation at a rollover and what follows from it (R421). -/
def State.deviation (s : State) : State :=
  if s.standby ∨ s.sync.state = 4 then s.modCal (fun c => { c with steering := false })
  else
    let d : Int := (s.clk.dev : Int) - s.cal.offset - s.cal.f.seconds * 1000000000 + devError s.draws
    let s := s.draw
    let us := sat32 (d.tdiv 1000)
    if -1000000000 < d ∧ d < 1000000000 then s.modCal (fun c => { c with dev := us, steering := true })
    else s.modCal (fun c => { c with dev := us, steering := false, jump := true })

/-- The second entered at a rollover (R414, R418, R421): by counting, by a jump, and by a step on top. -/
def State.enterSecond (s : State) : State :=
  let c := s.cal
  let would := c.f.seconds + 1
  let wd := if would % 86400 = 0 then (c.f.weekday + 1) % 7 else c.f.weekday
  let base : Int := if c.jump then ((s.clk.dev : Int) - c.offset).fdiv 1000000000 else (would : Int)
  let step := c.step.getD 0
  let new := ((base + step) % (calSpan : Int)).toNat
  let moved := c.jump || c.step.isSome
  let s := s.modCal (fun x => { x with
    f := fieldsOf new wd, since := s.now, valid := x.valid && decide (0 ≤ base + step ∧ base + step < calSpan), offset := x.offset - step * 1000000000,
    step := none, jump := false, jumped := x.jumped || c.jump, alarm := x.alarmNew.getD x.alarm, alarmNew := none })
  let s := if c.jump ∧ ¬ s.standby then s.post .backup Code.calJump 0 [] else s
  if moved then (s.almMoved would new).ivClockSet
  else if almMatch s.cal.alarm s.cal.f then s.almFire else s

/-- 1024 × 10⁶ × n periods of the prescaler have passed since a raw time, within the ±512 ppm of R426 (log 134). -/
def State.prescaled (s : State) (since n : Nat) : Bool := decide (n * 1000000000 * 999488 ≤ (s.now - since) * 1024 * 1000000)

/-- CAL_SECOND (R421), a second after the last rollover. Fields that are no date count on from what R419 leaves. -/
def execCalSecond (t : Nat) (s : State) : Out :=
  onIsland .backup t s (fun s =>
    if s.cal.halt ∨ ¬ s.prescaled s.cal.since 1024 then s else if s.cal.f.ok then s.enterSecond.deviation else s.calHostError)

/-- CAL_TEMP_READ (R426): the sensor's reading in 0.01 °C, 64 s after the last one. -/
def execCalTempRead (t : Nat) (temp : Int) (s : State) : Out :=
  onIsland .backup t s (fun s =>
    match s.cal.tempAt with
    | some a => if s.prescaled a 65536 then s.modCal (fun c => { c with temp := sat16 temp, tempAt := some s.now }) else s
    | none => s.modCal (fun c => { c with temp := sat16 temp, tempAt := some s.now }))

/-! ## Setting (R417, R418) -/

/-- HALT is set (R417): counting holds, steering is suspended, a pending step is discarded and logged. -/
def State.haltSet (s : State) : State :=
  if s.cal.halt then s
  else
    let st := s.cal.step
    let s := s.modCal (fun c => { c with
      f := { c.f with subsec := s.subsec }, halt := true, haltAt := c.f.seconds, haltRaw := s.now, step := none, jump := false,
      steering := false })
    match st with
    | some v => s.post .backup Code.calStepDiscarded 0 [.i32 v]
    | none => s

/-- HALT is cleared (R417): counting restarts, `CAL_OFFSET` is set, the alarm is compared, the set is logged. -/
def State.haltClear (s : State) : State :=
  if ¬ s.cal.halt then s
  else if ¬ s.cal.f.ok then (s.modCal (fun c => { c with halt := false, valid := true, since := s.now })).calHostError
  else
    let old := s.cal.haltAt.toNat
    let new := s.cal.f.seconds
    let s := s.modCal (fun c => { c with
      f := { c.f with subsec := 0 }, halt := false, since := s.now, valid := true, offset := (s.clk.dev : Int) - new * 1000000000,
      wakeStart := c.wakeStart + (s.now - max c.haltRaw c.wakeStart) })
    let s := s.post .backup Code.calSet 0 [.cal old, .cal new]
    let s := if old < new then s.almMoved old new else if almMatch s.cal.alarm s.cal.f then s.almFire else s
    s.ivClockSet

/-- A field of the block is written (R419): unchecked under HALT; without HALT a host error. -/
def State.calField (s : State) (sub v : Nat) : State :=
  if ¬ s.cal.halt then s.calHostError
  else
    s.modCal (fun c => { c with f :=
      match sub with
      | 1 => { c.f with sec := v }
      | 2 => { c.f with min := v }
      | 3 => { c.f with hour := v }
      | 4 => { c.f with day := v }
      | 5 => { c.f with month := v }
      | 6 => { c.f with year := v }
      | 7 => { c.f with century := v }
      | _ => { c.f with weekday := v } })

/-! ## Wake (R425) -/

/-- The wake interval in periods of 1/1024 s. -/
def wakePeriods (b : Octets) : Nat :=
  u16At b 0 * (match u8At b 2 with
    | 0 => 1
    | 1 => 1024
    | 2 => 61440
    | _ => 3686400)

/-- A value of `WAKE` is in range. -/
def wakeOk (b : Octets) : Bool := decide (1 ≤ u16At b 0) && decide (u8At b 2 ≤ 3) && decide (u8At b 3 ≤ 1)

/-- WAKE_EXPIRY (R425): where the interval has been counted, within the ±512 ppm of R426. -/
def execWakeExpiry (t : Nat) (s : State) : Out :=
  onIsland .backup t s (fun s =>
    let b := s.oct 0x6001 5
    if s.cal.halt ∨ ¬ bitOf (u8At b 3) 0 ∨ ¬ s.prescaled s.cal.wakeStart (wakePeriods b) then s
    else
      let s := s.modCal (fun c => { c with wakeStart := s.now })
      if s.standby then s.modCal (fun c => { c with wakeOut := true }) else s.post .backup Code.calWake 0 [])

/-! ## Calendar entries (R433, R434) -/

/-- `CAL_STATUS`. -/
def Cal.status (c : Cal) : Nat :=
  b2n c.valid + 2 * b2n c.halt + 4 * b2n c.almskip + 8 * b2n c.almf + 16 * b2n c.steering + 32 * b2n c.jumped + 64 * b2n c.step.isSome

/-- Field `sub` of a block. -/
def CalFields.at_ (f : CalFields) : Nat → Octets
  | 1 => leBytes 1 f.sec
  | 2 => leBytes 1 f.min
  | 3 => leBytes 1 f.hour
  | 4 => leBytes 1 f.day
  | 5 => leBytes 1 f.month
  | 6 => leBytes 1 f.year
  | 7 => leBytes 1 f.century
  | 8 => leBytes 1 f.weekday
  | _ => leBytes 2 f.subsec

/-- `CAL_BLOCK` of a block. -/
def CalFields.block (f : CalFields) : Octets := (List.range 9).flatMap (fun i => f.at_ (i + 1))

/-- A block the fields held at some moment since the last latch (R416, a host error): the free choice of a count from the latch to
now. -/
def State.someBlock (s : State) : CalFields :=
  let a := s.cal.shadow
  let b := s.calBlock
  let k := Config.freeHostChoice s.draws
  if a.seconds < b.seconds then { fieldsOf (a.seconds + k % (b.seconds - a.seconds + 1)) b.weekday with subsec := k / 16777216 % 1024 }
  else { b with subsec := a.subsec + k % (b.subsec - a.subsec + 1) }

/-- Reads of `0x6000` on a path (R416): the state after, and the octets. -/
def State.calRead (s : State) (path sub : Nat) : State × Octets :=
  let latch := s.modCal (fun c => { c with shadow := s.calBlock })
  if sub = 1 then (latch.modCal (fun c => { c with latched := insRising path c.latched }), latch.cal.shadow.at_ 1)
  else if sub = 0x0A then (latch, latch.cal.shadow.block)
  else if s.cal.latched.contains path then (s, s.cal.shadow.at_ sub)
  else (s.draw, s.someBlock.at_ sub)

/-- Reads of `0x6001`; none for a stored value. -/
def State.calStatusRead (s : State) (sub : Nat) : Option Octets :=
  match sub with
  | 1 => some (leBytes 1 (b2n s.cal.halt))
  | 2 => some (leBytes 2 s.cal.status)
  | 8 => some (leInt 8 s.cal.offset)
  | 9 => some (leInt 4 (s.cal.step.getD 0))
  | 0x0A => some (leInt 4 s.cal.dev)
  | 0x0B => some (leInt 2 s.cal.temp)
  | 0x0C => some (leInt 2 s.correction)
  | _ => none

/-- Writes of `0x6000` and `0x6001`. -/
def State.calWrite (s : State) (idx sub : Nat) (b : Octets) : WRes :=
  if idx = 0x6000 then .done (s.calField sub (leNat b))
  else
    match sub with
    | 1 => .done (if leNat b = 1 then s.haltSet else s.haltClear)
    | 3 => .done (s.modCal (fun c => { c with almf := false, almskip := false, jumped := false }))
    | 4 => .done ((s.store idx sub b).modCal (fun c => { c with alarmNew := some b }))
    | 5 =>
      if wakeOk b then .done ((s.store idx sub b).modCal (fun c => { c with wakeStart := s.now })) else .refuse 0x0A05 s
    | 7 => WRes.unless (decide (1 < u8At b 0) || decide (u8At b 1 ≠ 0)) 0x0A05 s .plain
    | 9 =>
      let v := i32At b 0
      if v = 0 then .refuse 0x0A05 s
      else if s.cal.halt then .refuse 0x0A06 s
      else if s.cal.step.isSome then .refuse 0x0A09 s
      else .done (s.modCal (fun c => { c with step := some v }))
    | _ => .plain

/-! ## The servo (R428–R430) -/

/-- The servo at a measurement (R429): f in 2⁻¹⁶ ppb, r in ppb, clamped to ±500 ppm. -/
def Sync.servo (y : Sync) (θ : Int) (interval : Nat) : Sync :=
  let f := y.f + rounding 27 (ratI (θ * interval * 65536) 256000000000)
  let r := rounding 28 (ratI f 65536 + ratI θ 4)
  { y with f := f, rate := clampI (-500000) 500000 r, slewing := decide (r ≤ -500000) || decide (500000 ≤ r) }

/-- The state after a measurement (R428). -/
def State.syncMeasured (s : State) (θ : Int) : State :=
  match s.sync.state with
  | 0 => s.syncTo 1 false
  | 1 =>
    if -100 ≤ θ ∧ θ ≤ 100 then
      (if s.sync.good + 1 = 8 then s.syncTo 2 false else s.modSync (fun y => { y with good := y.good + 1 }))
    else s.modSync (fun y => { y with good := 0 })
  | 2 => if θ < -1000 ∨ 1000 < θ then (s.modSync (fun y => { y with losses := y.losses + 1 })).syncTo 1 true else s
  | 3 => s.syncTo 1 false
  | _ => s

/-- A measurement θ (R429, R430): before RUN a θ above 1 µs steps device time forward; every other one drives the servo. -/
def State.measure (s : State) (θ : Int) : State :=
  if s.nat 0x6010 2 = 0 ∨ s.sync.state = 4 then s
  else
    let s := s.modSync (fun y => { y with
      theta := θ, measured := true, measurements := y.measurements + 1, lastMeas := s.now })
    let s := if 1000 < θ ∧ ¬ s.up then
        (({ s with clk := { s.clk with dev := s.clk.dev + θ.toNat } }).modSync (fun y => { y with stepped := true, steps := y.steps + 1 })).post
          .tbase Code.timeStep 0 [.i64 θ]
      else
        let y := s.sync.servo θ s.sync.interval
        { s with sync := y, clk := { s.clk with rate := y.rate } }
    s.syncMeasured θ

/-- SYNC_HOLDOVER (R428): no measurement for 3 expected intervals. -/
def execSyncHoldover (t : Nat) (s : State) : Out :=
  onIsland .tbase t s (fun s =>
    if (s.sync.state = 1 ∨ s.sync.state = 2) ∧ s.sync.lastMeas + 3 * s.sync.interval ≤ s.now then
      (s.modSync (fun y => { y with losses := y.losses + b2n (decide (y.state = 2)) })).syncTo 3 true
    else s)

/-- LOCK_WAIT_EXPIRY (R430). -/
def execLockWaitExpiry (t : Nat) (s : State) : Out :=
  onIsland .tbase t s (fun s =>
    match s.sync.lockWaitEnd with
    | some e => if e ≤ s.now then s.modSync (fun y => { y with lockWaitEnd := none }) else s
    | none => s)

/-- A write of `TIME_SOURCE` (R428): the servo is reset. -/
def State.timeSource (s : State) (b : Octets) : WRes :=
  let s := (s.store 0x6010 2 b).modSync (fun y => { y with
    f := 0, rate := 0, theta := 0, good := 0, slewing := false, pend := none, req := none, jdelays := [] })
  let s := { s with clk := { s.clk with rate := 0 } }
  .done (s.syncTo 0 false)

/-- Reads of `0x6010` and `0x6020`; none for a stored value. -/
def State.syncRead (s : State) (idx sub : Nat) : Option Octets :=
  let y := s.sync
  if idx = 0x6010 then
    match sub with
    | 1 => some (leBytes 8 s.clk.dev)
    | 3 => some (leBytes 1 y.state)
    | 4 => some (leInt 8 y.theta)
    | 5 => some (leInt 4 y.rate)
    | 8 => some (leBytes 2 (b2n (decide ((s.nat 0x6010 7 : Int) < y.theta.natAbs)) + 2 * b2n y.stepped + 4 * b2n y.slewing))
    | 9 => some (leBytes 4 y.measurements ++ leBytes 4 y.losses ++ leBytes 4 y.steps)
    | _ => none
  else
    match sub with
    | 2 => some y.master
    | 3 => some (leBytes 4 y.pathDelay.toNat)
    | 4 => some (leBytes 4 y.syncs ++ leBytes 4 y.follows ++ leBytes 4 y.resps ++ leBytes 4 y.announces)
    | _ => none

/-! ## PTP (R431), its messages as IEEE 1588-2019 lays them out (PRESUMED) -/

/-- Big-endian field of a message. -/
def be (b : Octets) (o n : Nat) : Nat := beNat (slice b o n)
/-- Nanoseconds of device time of a 10-octet PTP timestamp: PTP counts from 1970, device time from 2000, both in TAI. -/
def ptpTime (b : Octets) (o : Nat) : Int := ((be b o 6 : Int) - 946684800) * 1000000000 + be b (o + 6) 4
/-- `correctionField` in whole ns. -/
def ptpCorr (b : Octets) : Int := (signed 64 (be b 8 8)).fdiv 65536
/-- An interval of 2^n s, in ns. -/
def logNs (n : Int) : Nat := if 0 ≤ n then 1000000000 * 2 ^ (min n 16).toNat else 1000000000 / 2 ^ (min (-n) 16).toNat
/-- `clockIdentity` (8 octets) and port number of the sender. -/
def ptpSource (b : Octets) : Octets := slice b 20 10
/-- The device's own port identity. -/
def ownPort (m : Nat) : Octets := let a := beBytes 6 (Config.macAddress m).toNat; a.take 3 ++ [0xFF, 0xFE] ++ a.drop 3 ++ [0, 1]

/-- A message of a type that the device takes: source 1, the MAC that carries PTP, version 2, the domain. -/
def State.ptpTaken (s : State) (m kind : Nat) (b : Octets) : Bool :=
  decide (s.nat 0x6010 2 = 1) && decide (s.nat 0x1102 1 = m) && decide (34 ≤ b.length) && decide (u8At b 0 % 16 = kind) &&
    decide (u8At b 1 % 16 = 2) && decide (u8At b 4 = s.nat 0x6020 1)

/-- The message is from the selected master. -/
def State.fromMaster (s : State) (b : Octets) : Bool := decide (s.sync.master.take 10 = ptpSource b) && decide (s.sync.foreign ≠ [])

/-- The measurement of a Sync: source time less device time (R428). -/
def State.ptpMeasure (s : State) (t1 t2 : Int) : State :=
  (s.modSync (fun y => { y with t1 := t1.toNat, t2 := t2.toNat })).measure (t1 + s.sync.pathDelay - t2)

/-- A Sync. -/
def State.ptpSync (s : State) (m : Nat) (b : Octets) : State :=
  if ¬ s.ptpTaken m 0 b ∨ ¬ s.fromMaster b then s
  else
    let s := s.modSync (fun y => { y with syncs := y.syncs + 1, interval := logNs (signed 8 (u8At b 33)) })
    if bitOf (u8At b 6) 1 then s.modSync (fun y => { y with pend := some (be b 30 2, (s.clk.dev - ptpCorr b).toNat) })
    else s.ptpMeasure (ptpTime b 34 + ptpCorr b) s.clk.dev

/-- A Follow_Up. -/
def State.ptpFollow (s : State) (m : Nat) (b : Octets) : State :=
  if ¬ s.ptpTaken m 8 b ∨ ¬ s.fromMaster b then s
  else
    let s := s.modSync (fun y => { y with follows := y.follows + 1 })
    match s.sync.pend with
    | some (n, t2) =>
      if n = be b 30 2 then (s.modSync (fun y => { y with pend := none })).ptpMeasure (ptpTime b 34 + ptpCorr b) t2 else s
    | none => s

/-- A Delay_Resp to the last Delay_Req: the mean path delay. -/
def State.ptpResp (s : State) (m : Nat) (b : Octets) : State :=
  if ¬ s.ptpTaken m 9 b ∨ ¬ s.fromMaster b ∨ slice b 44 10 ≠ ownPort m then s
  else
    match s.sync.req with
    | some (n, t3) =>
      if n = be b 30 2 then
        s.modSync (fun y =>
          let d := ((y.t2 : Int) - y.t1) + (ptpTime b 34 - ptpCorr b - t3)
          { y with resps := y.resps + 1, req := none, reqLog := signed 8 (u8At b 33), pathDelay := max 0 (rounding 29 (ratI d 2)) })
      else s
    | none => s

/-- The octets that Announces are compared over: priority 1, clock quality, priority 2, identity of the grandmaster, steps removed. -/
def announceRank (b : Octets) : Octets := slice b 47 14 ++ slice b 61 2

/-- The selected master: the best of the qualified foreign masters. -/
def bestMaster (l : List Foreign) : Octets :=
  match (l.filter (·.ready)).foldl (fun (a : Option Foreign) f =>
      match a with
      | some g => if beNat f.rank < beNat g.rank then some f else some g
      | none => some f) none with
  | some f => f.id ++ zeros 2
  | none => zeros 12

/-- The foreign masters and the selection after a change of the list. -/
def State.selectMaster (s : State) (l : List Foreign) : State :=
  let m := bestMaster l
  let s := s.modSync (fun y => { y with foreign := l })
  if m = s.sync.master then s else s.modSync (fun y => { y with master := m, pend := none, req := none })

/-- An Announce. -/
def State.ptpAnnounce (s : State) (m : Nat) (b : Octets) : State :=
  if ¬ s.ptpTaken m 11 b then s
  else
    let s := s.modSync (fun y => { y with announces := y.announces + 1 })
    let iv := logNs (signed 8 (u8At b 33))
    let id := ptpSource b
    match s.sync.foreign.find? (fun f => decide (f.id = id)) with
    | some f =>
      let f' : Foreign := { id := id, rank := announceRank b, last := s.now, interval := iv,
                            ready := f.ready || decide (s.now ≤ f.last + 4 * f.interval) }
      s.selectMaster (s.sync.foreign.map (fun x => if x.id = id then f' else x))
    | none =>
      if s.sync.foreign.length < 4 then
        s.selectMaster (s.sync.foreign ++ [{ id := id, rank := announceRank b, last := s.now, interval := iv, ready := false }])
      else s

/-- The Delay_Req message. -/
def delayReq (dom m no : Nat) : Octets :=
  [1, 2] ++ beBytes 2 44 ++ leBytes 1 dom ++ zeros 15 ++ ownPort m ++ beBytes 2 no ++ [1, 0x7F] ++ zeros 10

/-- A PTP message on port 319 or 320 (R377, R431); other types are ignored. -/
def State.ptpMessage (s : State) (m : Nat) (b : Octets) : State :=
  match u8At b 0 % 16 with
  | 0 => s.ptpSync m b
  | 8 => s.ptpFollow m b
  | 9 => s.ptpResp m b
  | 11 => s.ptpAnnounce m b
  | _ => s

/-- PTP_SYNC, PTP_FOLLOW_UP, PTP_DELAY_RESP and PTP_ANNOUNCE (R431): the message that arrived at MAC m. -/
def execPtpSync (t m : Nat) (b : Octets) (s : State) : Out := onUnit (decide (m < 2)) .tbase t s (fun s => s.ptpSync m b)
def execPtpFollowUp (t m : Nat) (b : Octets) (s : State) : Out := onUnit (decide (m < 2)) .tbase t s (fun s => s.ptpFollow m b)
def execPtpDelayResp (t m : Nat) (b : Octets) (s : State) : Out := onUnit (decide (m < 2)) .tbase t s (fun s => s.ptpResp m b)
def execPtpAnnounce (t m : Nat) (b : Octets) (s : State) : Out := onUnit (decide (m < 2)) .tbase t s (fun s => s.ptpAnnounce m b)

/-- The master's interval has passed since the last Delay_Req (R431). -/
def State.delayReqDue (s : State) : Bool :=
  match s.sync.reqAt with
  | some a => decide (a + logNs s.sync.reqLog ≤ s.now)
  | none => true

/-- PTP_DELAY_REQ (R431): a request leaves and its departure is stamped. -/
def execPtpDelayReq (t : Nat) (s : State) : Out :=
  onIsland .tbase t s (fun s =>
    let m := s.nat 0x1102 1
    if s.nat 0x6010 2 = 1 ∧ m < 2 ∧ s.sync.syncs ≠ 0 ∧ (s.sync.foreign.any (·.ready)) ∧ s.delayReqDue then
      let n := s.sync.reqNo
      (s.modSync (fun y => { y with req := some (n, s.clk.dev), reqNo := (n + 1) % 65536, reqAt := some s.now })).emit (.ptp m 1 (delayReq (s.nat 0x6020 1) m n))
    else s)

/-- PTP_ANNOUNCE_TIMEOUT (R431): masters silent for 3 announce intervals leave the selection. -/
def execPtpAnnounceTimeout (t : Nat) (s : State) : Out :=
  onIsland .tbase t s (fun s =>
    s.selectMaster (s.sync.foreign.filter (fun f => decide (s.now < f.last + 3 * f.interval))))

end Machine
end Sys2Proof
end

