-- ==== Sys2Proof/Machine/Cascade.lean ====
section
/-! DEFINITION. The cascade: device time over the tree (R473), forwarded core samples (R474), and price-coordinated dispatch in
rounds (R475–R481) with its entries (R482, R483). A `ROUND` message that the manual lays out in part only is laid out in the order
of its table (DESIGN CHOICE, assumption log). -/

namespace Sys2Proof
namespace Machine

/-! ## Parties and ports -/

/-- The master plans at its own instants: position 0, or a device whose U side is invalid (R471, R476). -/
def State.isMaster (s : State) : Bool := decide (s.pos = 0) || s.casc.topoBad

/-- A `ROUND` message is sent on some ports, and on the pair ports for the other lanes to relay (R479). -/
def State.sendRound (s : State) (ps : List Nat) (b : Octets) : State :=
  (ps ++ (if s.single then [] else [3, 4])).foldl (fun s p => s.jSend p 6 b) s

/-- The pair port that leads to the lease holder's lane (R463). -/
def State.holderPort (s : State) : Option Nat :=
  s.holderSeen.map (fun x => if s.lease.cfg = 2 ∧ x = (s.lane + 2) % 3 then 4 else 3)

/-- A lane without the lease relays (R479): from the holder to its own D ports and U port, from these to the holder. -/
def State.relay (s : State) (p : Nat) (b : Octets) : State :=
  match s.holderPort with
  | some h => if p < 3 then s.jSend h 6 b else if p = h then [1, 2, 0].foldl (fun s q => s.jSend q 6 b) s else s
  | none => s

/-- The boundary nodes of the active image on a port, with their boundary records. -/
def State.bound (s : State) (i : Nat) : Bound := Tab.get {} s.casc.bounds i
/-- Change the boundary of an index. -/
def State.modBound (s : State) (i : Nat) (f : Bound → Bound) : State :=
  s.modCasc (fun c => { c with bounds := Tab.put {} c.bounds i (f (Tab.get {} c.bounds i)) })
/-- The node of a tag among the boundary nodes. -/
def State.tagNode (s : State) (tag : Nat) : Option Nat := (bndNodes s.img).find? (fun n => decide (s.bndTag n = tag))

/-- The boundaries of a port take no prices (R471, R481). -/
def State.bndFixed (s : State) (p : Nat) : Bool := !s.jUp p || (decide (p = 0) && (s.casc.parMismatch || s.casc.topoBad))

/-- A boundary takes part in the rounds. -/
def State.priced (s : State) (n : Nat) : Bool := (s.bound (s.bndIndex n)).matched && !s.bndFixed (s.bndPort n)

/-- The priced boundary nodes of the D ports and of the U port. -/
def State.lowerNodes (s : State) : List Nat := (bndNodes s.img).filter (fun n => decide (s.bndPort n ≠ 0) && s.priced n)
def State.upperNodes (s : State) : List Nat := (bndNodes s.img).filter (fun n => decide (s.bndPort n = 0) && s.priced n)

/-! ## Boundary tables (R475) -/

/-- The tags of a boundary table. -/
def tableTags (b : Octets) : List Nat := (List.range ((b.length - 12) / 5)).map (fun i => u32At b (12 + 5 * i))

/-- A neighbour's boundary table: boundaries are matched by tag; those of its port without a partner are unmatched. A table that
another lane relays only matches. A table that does not answer the own one is answered (R475). -/
def State.boundaryTable (s : State) (p : Nat) (b : Octets) : State :=
  let tags := tableTags b
  let s := (bndNodes s.img).foldl (fun s n =>
    if s.bndPort n = p then s.modBound (s.bndIndex n) (fun v => { v with matched := tags.contains (s.bndTag n) })
    else if 3 ≤ p ∧ tags.contains (s.bndTag n) then s.modBound (s.bndIndex n) (fun v => { v with matched := true })
    else s) s
  let answer := decide (p < 3) && !(s.jport p).tableSent
  let s := s.modJport p (fun v => { v with tableHeard := true, tableSent := false })
  let s := if answer then s.putTable p else s
  let bad := (bndNodes s.img).any (fun n => (s.jport (s.bndPort n)).tableHeard && !(s.bound (s.bndIndex n)).matched)
  s.modCasc (fun c => { c with mismatch := bad })

/-! ## Messages (R478) -/

/-- The header of a message of the present re-plan. -/
def State.roundHead (s : State) (kind no : Nat) (body : Octets) : Octets := roundMsg kind no s.casc.par.ts body

/-- `PRICES` and `FLOWS`: the boundary values of some nodes. -/
def State.valuesMsg (s : State) (kind no : Nat) (ns : List Nat) (f : Bound → List Int) : Octets :=
  s.roundHead kind no (leBytes 1 ns.length ++ zeros 3 ++ ns.flatMap (fun n =>
    leBytes 4 (s.bndTag n) ++ (List.range s.casc.par.horizon).flatMap (fun k => leInt 4 (nth 0 (f (s.bound (s.bndIndex n))) k))))

/-- The values a `PRICES` or `FLOWS` message carries, by tag. -/
def valuesOf (b : Octets) (n : Nat) : List (Nat × List Int) :=
  (List.range (u8At b 12)).map (fun i =>
    let o := 16 + i * (4 + 4 * n)
    (u32At b o, (List.range n).map (fun k => i32At b (o + 4 + 4 * k))))

/-- `START`. -/
def RoundPar.octets (r : RoundPar) : Octets :=
  leBytes 2 r.horizon ++ leBytes 1 r.stepLen ++ leBytes 4 r.period ++ leBytes 2 r.roundMs ++ leBytes 1 r.roundsMax ++ leBytes 4 r.tol
/-- The parameters of a `START`. -/
def roundParOf (b : Octets) : RoundPar :=
  { ts := u64At b 4, horizon := u16At b 12, stepLen := u8At b 14, period := u32At b 15, roundMs := u16At b 19, roundsMax := u8At b 21, tol := u32At b 22 }
/-- The master's own parameters. -/
def State.ownPar (s : State) (ts : Nat) : RoundPar :=
  { ts := ts, horizon := s.nat 0x2810 3, stepLen := s.nat 0x2810 4, period := s.nat 0x2810 2, roundMs := s.nat 0x6410 3, roundsMax := s.nat 0x6410 4, tol := s.nat 0x6410 5 }

/-- b_r. -/
def RoundPar.at_ (r : RoundPar) (n : Nat) : Nat := r.ts + (n - 1) * r.roundMs * 1000000

/-- The deadline of R146 of the present re-plan. -/
def State.cascDeadline (s : State) : Nat :=
  let cold := match s.disp.run with
    | some r => r.cold
    | none => !s.warmStart s.casc.par.ts
  s.casc.par.ts + s.nat 0x2801 (if cold then 15 else 16) * 1000000

/-! ## Round jobs -/

/-- What a round's job takes of the boundaries (R477, R481, R475). -/
def State.roundBounds (s : State) : Tab BndPlan :=
  (bndNodes s.img).foldl (fun (t : Tab BndPlan) n =>
    let b := s.bound (s.bndIndex n)
    Tab.insert t n (if ¬ s.priced n then { fixed := some (if b.matched then b.agreed else []) } else { price := b.price, hat := b.agreed })) []

/-- The present round's job has been started. -/
def State.roundStarted (s : State) : Bool :=
  match s.disp.run with
  | some r => decide (r.round = some s.casc.round)
  | none => false

/-- The snapshot a round works on: that of t_s, taken with the first job; later rounds warm-start from their predecessor. -/
def State.roundSnap (s : State) : ReSnap :=
  let c := s.casc
  let d := c.par.at_ c.round + c.par.roundMs * 800000
  match s.disp.run with
  | some r => { r with round := some c.round, bnd := s.roundBounds, deadline := d }
  | none => s.takeSnap c.par.ts (some c.round) s.roundBounds (some d)

/-- The round's job starts once every U price is in (R476 row 3). -/
def State.tryRound (s : State) : State :=
  let c := s.casc
  if ¬ c.running ∨ s.roundStarted ∨ c.par.roundsMax < c.round ∨ s.model.active.isNone ∨ ¬ s.up ∨ s.power.jobsHeld then s
  else if c.pricesRound ≠ c.round ∧ s.upperNodes ≠ [] then s
  else
    s.submitReplan s.roundSnap s.disp.run.isNone

/-- The prices of the D boundaries are sent (R476 row 2). -/
def State.sendPrices (s : State) : State :=
  if s.lowerNodes = [] then s else s.sendRound [1, 2] (s.valuesMsg 1 s.casc.round s.lowerNodes (·.price))

/-- λ¹ of the D boundaries (R477). -/
def State.firstPrices (s : State) (cold : Bool) : State :=
  let r := s.takeInputs s.casc.par.ts none []
  s.lowerNodes.foldl (fun s n =>
    let b := s.bound (s.bndIndex n)
    if cold ∨ b.price = [] then
      s.modBound (s.bndIndex n) (fun v => { v with price := (List.range r.n).map (fun k => (r.tariff 1 k).getD 0) })
    else s) s

/-- A cascade re-plan starts at a device, or is joined by a new holder, with round `no` (R476 row 1 and 2, R484): parameters taken,
prices set and sent, the job started where no U price is awaited. -/
def State.cascBegin (s : State) (r : RoundPar) (no : Nat) : State :=
  let own := s.ownPar r.ts
  let mis := decide (r.horizon ≠ own.horizon) || decide (r.stepLen ≠ own.stepLen) || decide (r.period ≠ own.period)
  let s := if (s.job 2).alive then s.abortJob 2 else s
  let s := (s.shiftBounds r.ts).modDisp (fun d => { d with run := none })
  let s := s.modCasc (fun c => { c with
    par := if mis then { r with horizon := own.horizon } else r, running := true, round := no, heard := none, rounds := 0, ended := 0, finalZ := 0, reports := [], reported := false,
    ownZ := 0, missedNow := false, pricesRound := 0, best := [], parMismatch := mis, nowAt := none,
    bounds := c.bounds.map (fun (e : Nat × Bound) => (e.1, { e.2 with missed := 0, z := [], own := [], otherRound := 0 })) })
  let s := s.firstPrices (s.takeSnap r.ts none [] none).cold
  (s.sendPrices).tryRound

/-- The master's re-plan instant has come (R145, R481). -/
def State.masterDue (s : State) : Bool :=
  s.replanDue || (match s.casc.nowAt with
    | some a => decide (a ≤ s.clk.dev)
    | none => false)

/-- A message is of a kind and of the re-plan that runs. -/
def State.ofRun (s : State) (kind : Nat) (b : Octets) : Bool := decide (u8At b 0 = kind) && s.casc.running && decide (u64At b 4 = s.casc.par.ts)

/-- ROUND_START (R476 row 1): the master starts at its instant; another device takes a `START` that arrives. -/
def State.roundStart (s : State) (p : Nat) (b : Octets) : State :=
  if s.nat 0x6410 1 = 0 ∨ s.model.active.isNone ∨ ¬ s.up then s
  else if s.isMaster then
    if s.masterDue ∧ s.nat 0x2810 1 = 1 ∧ ¬ (s.job 2).alive then
      let r := s.ownPar s.clk.dev
      (s.sendRound [1, 2] (roundMsg 0 1 r.ts r.octets)).cascBegin r 1
    else s
  else if u8At b 0 ≠ 0 ∨ b.length ≠ 26 ∨ p = 1 ∨ p = 2 ∨ (s.casc.running ∧ u64At b 4 ≤ s.casc.par.ts) then s
  else (s.sendRound [1, 2] b).cascBegin (roundParOf b) 1

/-- ROUND_PRICES (R476 row 3, R477). -/
def State.roundPrices (s : State) (b : Octets) : State :=
  let no := u8At b 1
  if ¬ s.ofRun 1 b ∨ no < s.casc.round then s
  else
    let l := valuesOf b s.casc.par.horizon
    let s := s.upperNodes.foldl (fun s n =>
      match l.find? (fun x => decide (x.1 = s.bndTag n)) with
      | some x => s.modBound (s.bndIndex n) (fun v => { v with price := x.2 })
      | none => s) s
    let s := if s.upperNodes.any (fun n => l.any (fun x => decide (x.1 = s.bndTag n))) then s.modCasc (fun c => { c with pricesRound := no }) else s
    s.tryRound

/-- Exchange of a boundary per step of repaired steps, kW. -/
def flowsOf (l : List QStep) (n : Nat) : List Int := l.map (fun x => rounding 32 (x.v (.bnd n)))

/-- ROUND_JOB_END (R476 row 4, R480): the plan of the round, if publishable, is kept, and the flows are sent on U. -/
def State.roundJobEnd (s : State) : State :=
  match s.disp.run with
  | some r =>
    if r.round ≠ some s.casc.round ∨ ¬ s.casc.running then s
    else
      let j := s.job 2
      let v := r.verdict j
      match v.status with
      | none => s
      | some st =>
        if ¬ s.mayEnd 2 then s
        else if ¬ s.inputsHeld then
          { (s.handOver 2).modDisp (fun d => { d with run := none }) with lease := { s.lease with discarded := true } }
        else
          let s := ((s.handOver 2).replanRecord r j v st 0 false).modDisp (fun d => { d with run := some r })
          if 5 < st then s
          else
            let s := s.modCasc (fun c => { c with best := (c.round, s.planOf r v.steps st) :: c.best.take 1 })
            let s := (bndNodes s.img).foldl (fun s n => s.modBound (s.bndIndex n) (fun b => { b with own := flowsOf v.steps n })) s
            if s.upperNodes = [] then s else s.sendRound [0] (s.valuesMsg 2 s.casc.round s.upperNodes (·.own))
  | none => s

/-- ROUND_FLOWS (R476 row 4 and 5); at b_{r+1} they are late (R484). -/
def State.roundFlows (s : State) (b : Octets) : State :=
  let no := u8At b 1
  if ¬ s.ofRun 2 b ∨ no < s.casc.round ∨ s.casc.par.at_ (no + 1) ≤ s.clk.dev then s
  else
    let l := valuesOf b s.casc.par.horizon
    s.lowerNodes.foldl (fun s n =>
      match l.find? (fun x => decide (x.1 = s.bndTag n)) with
      | some x => s.modBound (s.bndIndex n) (fun v => { v with other := x.2, otherRound := no })
      | none => s) s

/-! ## The end of a round (R476 rows 5 to 7, R477) -/

/-- An upper end's boundary at b_{r+1}: mismatch, miss, agreed exchange and the next price. -/
def State.boundEnd (s : State) (n : Nat) : State :=
  let lo := i32At (s.oct 0x6410 8) 0
  let hi := i32At (s.oct 0x6410 8) 4
  let ks := List.range s.casc.par.horizon
  s.modBound (s.bndIndex n) (fun v =>
    let z := ks.map (fun k => nth 0 v.own k + nth 0 v.other k)
    { v with z := z, missed := v.missed + b2n (decide (v.otherRound ≠ s.casc.round)),
             agreed := ks.map (fun k => rounding 31 (ratI (nth 0 v.own k - nth 0 v.other k) 2)),
             price := ks.map (fun k => clampI lo hi (nth 0 v.price k + s.num 0x6410 6 * nth 0 z k)) })

/-- A lower end's boundary at b_{r+1}: its agreed exchange; no message carries the upper end's. -/
def State.lowerEnd (s : State) (n : Nat) : State :=
  (s.modBound (s.bndIndex n) (fun v => { v with
    agreed := (List.range s.casc.par.horizon).map (fun k => rounding 31 (ratI (nth 0 v.own k - Config.upperExchange s.draws k) 2)) })).draw

/-- The largest |z| of a device's own boundaries. -/
def State.largestZ (s : State) : Nat := (s.lowerNodes.flatMap (fun n => (s.bound (s.bndIndex n)).z.map Int.natAbs)).foldl max 0

/-- Publication of a cascade plan (R480): that of the committed round or the latest before it. -/
def State.cascPublish (s : State) (no : Nat) (reused : Bool) (code : Nat) : State :=
  let pick := s.casc.best.find? (fun x => decide (x.1 ≤ no))
  let late := match pick with
    | some x => (x.2.ends.filter (fun e => decide (e ≤ s.clk.dev))).length
    | none => 0
  let s := s.abortJob 2
  let s := s.modDisp (fun d => { d with run := none })
  let missed : Bool := match pick with
    | some x => reused || decide (x.1 ≠ no)
    | none => false
  let s := s.modCasc (fun c => { c with running := false, rounds := no, ended := code, roundMissed := missed, best := [] })
  let flag := fun (f : Nat) => f ||| (16 * b2n (decide (0 < late)) + 32 * b2n missed)
  match pick with
  | some x =>
    let st := if missed then 5 else x.2.status
    (s.modDisp (fun d => { d with lastStatus := st, flags := flag d.flags })).publishPlan
      ({ x.2 with status := st, time := s.clk.dev }.shift late)
  | none => s.modDisp (fun d => { d with lastStatus := 6, notPublished := d.notPublished + 1 })

/-- The `REPORT` of the subtree is sent up (R476 row 6). -/
def State.sendReport (s : State) : State :=
  if s.isMaster ∨ s.casc.reported then s
  else
    let m := s.casc.reports.foldl (fun (a : Nat × Bool) (e : Nat × (Nat × Bool)) => (max a.1 e.2.1, a.2 || e.2.2)) (s.casc.ownZ, s.casc.missedNow)
    (s.sendRound [0] (s.roundHead 3 (s.casc.round - 1) (leBytes 4 m.1 ++ leBytes 1 (b2n m.2)))).modCasc (fun c => { c with reported := true, finalZ := m.1 })

/-- Every UP child has reported. -/
def State.allReported (s : State) : Bool := [1, 2].all (fun p => !s.jUp p || (Tab.find s.casc.reports p).isSome)

/-- The end of a round at a device whose re-plan still has time. -/
def State.roundTurn (s : State) : State :=
  let r := s.casc.round
  let missed := s.lowerNodes.any (fun n => decide ((s.bound (s.bndIndex n)).otherRound ≠ r))
  let s := s.lowerNodes.foldl State.boundEnd s
  let s := s.upperNodes.foldl State.lowerEnd s
  let s := s.modCasc (fun c => { c with round := r + 1, reports := [], reported := false, ownZ := s.largestZ, missedNow := missed, finalZ := s.largestZ })
  let s := if r < s.casc.par.roundsMax then (s.sendPrices).tryRound else s
  if s.allReported then s.sendReport else s

/-- A new holder joins a re-plan that runs at the next round's beginning, with the mirrored plan (R484): `START` parameters it relayed. -/
def State.cascJoin (s : State) : State :=
  match s.casc.heard with
  | none => s
  | some r =>
    let no := (s.clk.dev - r.ts) / (r.roundMs * 1000000) + 1
    if r.roundMs = 0 ∨ s.clk.dev < r.ts ∨ r.roundsMax < no ∨ s.nat 0x6410 1 = 0 ∨ s.model.active.isNone ∨ ¬ s.up then s
    else s.cascBegin r no

/-- ROUND_BOUNDARY (R476 row 5, R480): without a `COMMIT` by the deadline the device publishes what it has. -/
def State.roundBoundary (s : State) : State :=
  let c := s.casc
  if ¬ s.inputsHeld then s
  else if ¬ c.running then s.cascJoin
  else if s.cascDeadline ≤ s.clk.dev then s.cascPublish (min c.round c.par.roundsMax) true 4
  else if c.par.at_ (c.round + 1) ≤ s.clk.dev ∧ c.round ≤ c.par.roundsMax then s.roundTurn
  else s

/-- ROUND_REPORT (R476 row 6): of the round that has just ended. -/
def State.roundReport (s : State) (p : Nat) (b : Octets) : State :=
  if ¬ s.ofRun 3 b ∨ u8At b 1 + 1 ≠ s.casc.round ∨ p = 0 then s
  else
    let s := s.modCasc (fun c => { c with reports := Tab.insert c.reports p (u32At b 12, decide (u8At b 16 ≠ 0)) })
    if s.allReported then s.sendReport else s

/-- ROUND_REPORT_TIMEOUT (R476 row 6). -/
def State.roundReportLate (s : State) : State :=
  let c := s.casc
  if c.running ∧ 1 < c.round ∧ c.par.at_ c.round + 1000000 ≤ s.clk.dev then s.sendReport else s

/-- ROUND_DECISION (R476 row 7). -/
def State.roundDecision (s : State) : State :=
  let c := s.casc
  let r := c.round - 1
  if ¬ c.running ∨ ¬ s.isMaster ∨ c.round < 2 ∨ s.clk.dev < c.par.at_ c.round + 2000000 then s
  else
    let z := c.reports.foldl (fun (a : Nat) (e : Nat × (Nat × Bool)) => max a e.2.1) c.ownZ
    let s := s.modCasc (fun c => { c with finalZ := z, rounds := r })
    let code := if z ≤ c.par.tol then 1 else if r = c.par.roundsMax then 2
      else if s.cascDeadline < c.par.at_ (c.round + 1) + 2000000 + s.nat 0x6410 9 * 1000000 then 3 else 0
    if code = 0 then s.sendRound [1, 2] (s.roundHead 6 r [])
    else (s.sendRound [1, 2] (s.roundHead 5 r [])).cascPublish r c.missedNow code

/-- ROUND_COMMIT (R480). -/
def State.roundCommit (s : State) (b : Octets) : State :=
  let c := s.casc
  if ¬ s.ofRun 5 b ∨ s.isMaster ∨ u8At b 1 + 1 < c.round then s
  else
    let r := u8At b 1
    (s.sendRound [1, 2] b).cascPublish r c.missedNow (if c.finalZ ≤ c.par.tol then 1 else if r = c.par.roundsMax then 2 else 3)

/-- ROUND_CONTINUE (R476 row 7): the next round goes on. -/
def State.roundContinue (s : State) (b : Octets) : State :=
  if ¬ s.ofRun 6 b ∨ s.isMaster ∨ u8At b 1 + 1 < s.casc.round then s
  else ((s.sendRound [1, 2] b).modCasc (fun c => { c with rounds := u8At b 1 })).tryRound

/-- A lane without the lease notes a `START` it relays until the `COMMIT` (R484). -/
def State.hearStart (s : State) (b : Octets) : State :=
  s.modCasc (fun c => { c with
    heard := if u8At b 0 = 0 ∧ b.length = 26 then some (roundParOf b) else if u8At b 0 = 5 then none else c.heard })

/-- A `ROUND` message arrives: a lane without the lease relays it (R479). -/
def State.roundIn (s : State) (p kind : Nat) (b : Octets) (f : State → State) : State :=
  if u8At b 0 ≠ kind then s else if s.inputsHeld then f s else (s.hearStart b).relay p b

/-- A `ROUND` message of any kind. -/
def State.roundMessage (s : State) (p : Nat) (b : Octets) : State :=
  match u8At b 0 with
  | 0 => s.roundIn p 0 b (fun s => if s.isMaster then s else s.roundStart p b)
  | 1 => s.roundIn p 1 b (fun s => s.roundPrices b)
  | 2 => s.roundIn p 2 b (fun s => s.roundFlows b)
  | 3 => s.roundIn p 3 b (fun s => s.roundReport p b)
  | 4 => let s := s.boundaryTable p b; if s.inputsHeld then s else s.relay p b
  | 5 => s.roundIn p 5 b (fun s => s.roundCommit b)
  | 6 => s.roundIn p 6 b (fun s => s.roundContinue b)
  | _ => s

/-- BOUNDARY_TABLE (R475). -/
def execBoundaryTable (t p : Nat) (b : Octets) (s : State) : Out :=
  onMessage t p s (fun s => if u8At b 0 = 4 then s.roundMessage p b else s)
/-- ROUND_START (R476): the master's own instant, or a `START` that arrives. -/
def execRoundStart (t p : Nat) (b : Octets) (s : State) : Out :=
  onJiest t p s (fun s =>
    if s.isMaster ∧ s.inputsHeld then s.roundStart p b
    else if s.jUp p then s.roundIn p 0 b (fun s => if s.isMaster then s else s.roundStart p b) else s)
/-- ROUND_PRICES (R477). -/
def execRoundPrices (t p : Nat) (b : Octets) (s : State) : Out :=
  onMessage t p s (fun s => s.roundIn p 1 b (fun s => s.roundPrices b))
/-- ROUND_FLOWS (R476). -/
def execRoundFlows (t p : Nat) (b : Octets) (s : State) : Out := onMessage t p s (fun s => s.roundIn p 2 b (fun s => s.roundFlows b))
/-- ROUND_REPORT (R476). -/
def execRoundReport (t p : Nat) (b : Octets) (s : State) : Out := onMessage t p s (fun s => s.roundIn p 3 b (fun s => s.roundReport p b))
/-- ROUND_COMMIT (R480). -/
def execRoundCommit (t p : Nat) (b : Octets) (s : State) : Out := onMessage t p s (fun s => s.roundIn p 5 b (fun s => s.roundCommit b))
/-- ROUND_CONTINUE (R476). -/
def execRoundContinue (t p : Nat) (b : Octets) (s : State) : Out := onMessage t p s (fun s => s.roundIn p 6 b (fun s => s.roundContinue b))
/-- ROUND_JOB_END (R476). -/
def execRoundJobEnd (t : Nat) (s : State) : Out := onIsland .solv t s State.roundJobEnd
/-- ROUND_BOUNDARY (R477). -/
def execRoundBoundary (t : Nat) (s : State) : Out := onIsland .house t s State.roundBoundary
/-- ROUND_REPORT_TIMEOUT (R476). -/
def execRoundReportTimeout (t : Nat) (s : State) : Out := onIsland .house t s State.roundReportLate
/-- ROUND_DECISION (R476). -/
def execRoundDecision (t : Nat) (s : State) : Out := onIsland .house t s State.roundDecision

/-! ## Time over the tree (R473) -/

/-- 10 ms of device time have passed since the last TIME sends. -/
def State.timeDue (s : State) : Bool :=
  match s.casc.timeAt with
  | some a => decide (a + 10000000 ≤ s.clk.dev)
  | none => true

/-- TIME_PERIOD (R473): a send on each UP D port, with the arrival time of the last echo in octets 16 to 23. -/
def State.timePeriod (s : State) : State :=
  if ¬ s.timeDue then s
  else
  [1, 2].foldl (fun s p =>
    if s.jUp p then
      (s.jSend p 2 (leBytes 1 0 ++ zeros 7 ++ leBytes 8 s.clk.dev ++ leBytes 8 (Tab.get 0 s.casc.t4 p) ++ zeros 8)).modCasc
        (fun c => { c with t1 := Tab.insert c.t1 p s.clk.dev, t4 := Tab.erase c.t4 p })
    else s) (s.modCasc (fun c => { c with timeAt := some s.clk.dev }))

/-- The delay of a completed exchange, when its t₄ arrives. -/
def State.takeDelay (s : State) (t4 : Nat) : State :=
  if t4 = 0 ∨ s.sync.jt1 = 0 then s
  else
    let y := s.sync
    let d := ((t4 : Int) - y.jt1 - ((y.jt3 : Int) - y.jt2)).fdiv 2
    s.modSync (fun y => { y with jdelays := (d :: y.jdelays).take 8 })

/-- A `TIME` send (R473): the echo goes back at once, and with `TIME_SOURCE` 2 θ is measured. -/
def State.timeSend (s : State) (b : Octets) : State :=
  if b.length < 24 ∨ u8At b 0 ≠ 0 then s
  else
    let t1 := u64At b 8
    let t2 := s.clk.dev
    let s := s.takeDelay (u64At b 16)
    let s := s.jSend 0 2 (leBytes 1 1 ++ zeros 7 ++ leBytes 8 t1 ++ leBytes 8 t2 ++ leBytes 8 t2)
    let s := s.modSync (fun y => { y with jt1 := t1, jt2 := t2, jt3 := t2 })
    let n := s.sync.jdelays.length
    if s.nat 0x6010 2 ≠ 2 ∨ n = 0 then s
    else
      let delay := rounding 30 (ratI (sumI s.sync.jdelays) n)
      (s.modSync (fun y => { y with interval := 10000000 })).measure ((t1 : Int) + delay - t2)

/-- An echo arrives (R473). -/
def State.timeEcho (s : State) (p : Nat) (b : Octets) : State :=
  if (p = 1 ∨ p = 2) ∧ u8At b 0 = 1 ∧ b.length = 32 ∧ Tab.find s.casc.t1 p = some (u64At b 8) then s.modCasc (fun c => { c with t4 := Tab.insert c.t4 p s.clk.dev }) else s

/-- TIME_PERIOD (R473). -/
def execTimePeriod (t : Nat) (s : State) : Out := onIsland .comm t s State.timePeriod
/-- TIME_SEND (R473). -/
def execTimeSend (t : Nat) (b : Octets) (s : State) : Out := onMessage t 0 s (fun s => s.timeSend b)
/-- TIME_ECHO (R473). -/
def execTimeEcho (t p : Nat) (b : Octets) (s : State) : Out := onMessage t p s (fun s => s.timeEcho p b)

/-! ## Core samples over the tree (R474) -/

/-- A `CORE` frame: forwarded once per number on the D ports, and taken. -/
def State.coreFrame (s : State) (p n time : Nat) : State :=
  if s.casc.lastCore = n ∨ (3 ≤ p ∧ s.pos ≠ 0) then s
  else
    let s := s.modCasc (fun c => { c with lastCore := n })
    ([1, 2].foldl (fun s q => s.jSend q 4 (leBytes 4 n ++ leBytes 8 time)) s).csFromMaster n time

/-- CORE_FRAME (R474). -/
def execCoreFrame (t p n time : Nat) (s : State) : Out := onMessage t p s (fun s => s.coreFrame p n time)

/-! ## Frames (R464, R467) -/

/-- A message that a Jiest port has delivered (R465). Votes and mirror content, whose layout the manual does not give, arrive by
commands of their own. -/
def State.jDelivered (s : State) (p kind : Nat) (b : Octets) : State :=
  match kind with
  | 1 => s.jIdentity p b
  | 2 => if u8At b 0 = 0 then (if p = 0 then s.timeSend b else s) else s.timeEcho p b
  | 3 => if 3 ≤ p then s.redMessage 0 (redMsgOf b) else s
  | 4 => if b.length = 12 then s.coreFrame p (u32At b 0) (u64At b 4) else s
  | 6 => s.roundMessage p b
  | _ => s

/-- JIEST_FRAME_RECEIVE (R467). -/
def execJiestFrameReceive (t p : Nat) (b : Octets) (viol : Bool) (s : State) : Out :=
  onJiest t p s (fun s =>
    match s.jReceive p (jframeOf b viol) with
    | (s, some m) => s.jDelivered p m.1 m.2
    | (s, none) => s)

/-! ## Entries (R482, R483) -/

/-- `REPLAN_NOW` with the cascade enabled (R481). -/
def State.cascNow (s : State) (b : Octets) : WRes :=
  if leNat b ≠ 0x9A1D then .refuse 0x0A05 s
  else if s.isMaster then .done (s.modCasc (fun c => { c with nowAt := some ((s.clk.dev / 1000000000 + 1) * 1000000000) }))
  else .refuse 0x0A06 s

/-- Writes of `0x6410` with a rule of their own, and of `REPLAN_NOW`. -/
def State.cascWrite (s : State) (idx sub : Nat) (b : Octets) : WRes :=
  if idx = 0x6410 ∧ sub = 2 then .done ((s.store idx sub b).jiestPorts (leNat b))
  else if idx = 0x6410 ∧ sub = 8 then WRes.unless (decide (i32At b 4 ≤ i32At b 0)) 0x0A05 s .plain
  else if idx = 0x2810 ∧ sub = 5 ∧ s.nat 0x6410 1 ≠ 0 then s.cascNow b
  else .plain

/-- The lanes of a direction in use: the lane under test is covered by the spare, or missing (R498, R501). -/
def State.lanesNow (s : State) (p : Nat) (rx : Bool) : List Nat :=
  let base := 6 * p + (if rx then 0 else 3)
  let l := if rx then (s.jport p).rx else (s.jport p).tx
  match (s.poolTest 6).run with
  | some r =>
    if l.any (fun x => decide (base + x = r.elem)) then
      (match r.cover with | some c => insRising (c - base) (l.filter (fun x => decide (base + x ≠ r.elem))) | none => l.filter (fun x => decide (base + x ≠ r.elem)))
    else l
  | none => l

/-- Lanes as a mask. -/
def laneMask (l : List Nat) : Nat := l.foldl (fun (m : Nat) x => m ||| 2 ^ x) 0

/-- The boundary node of an index, if it is in use. -/
def State.bndNodeAt (s : State) (i : Nat) : Option Nat := (bndNodes s.img).find? (fun n => decide (s.bndIndex n = i))

/-- `BOUNDARY_STATE` of one index. -/
def State.bndState (s : State) (i : Nat) : Octets :=
  match s.bndNodeAt i with
  | none => zeros 16
  | some n =>
    let v := s.bound i
    let st := if s.bndFixed (s.bndPort n) then 2 else if v.matched then 1 else 3
    leBytes 4 (s.bndTag n) ++ leInt 4 (nth 0 v.price 0) ++ leInt 4 (nth 0 v.z 0) ++ leBytes 1 st ++ leBytes 1 v.missed ++ zeros 2

/-- `CASCADE_FLAGS`. -/
def State.cascFlags (s : State) : Nat :=
  let c := s.casc
  b2n ((List.range 5).any (fun p => decide ((s.jport p).state = 3))) + 2 * b2n c.mismatch + 4 * b2n c.parMismatch + 8 * b2n c.roundMissed +
    16 * b2n ((bndNodes s.img).any (fun n => s.bndFixed (s.bndPort n))) + 32 * b2n c.topoBad + 64 * b2n c.laneDegraded

/-- The entries of `0x6411` as read. -/
def State.cascRead (s : State) (sub : Nat) : Option Octets :=
  let c := s.casc
  let per := fun (f : JPort → Octets) => some ((List.range 5).flatMap (fun p => f (s.jport p)))
  match sub with
  | 1 => per (fun v => leBytes 1 v.state)
  | 2 => some ((List.range 5).flatMap (fun p =>
      let v := s.jport p
      leBytes 2 v.nPos ++ leBytes 1 v.nLane ++ leBytes 1 (laneMask (s.lanesNow p false) + 8 * laneMask (s.lanesNow p true)) ++ leBytes 4 v.nSerial))
  | 3 => per (fun v => leBytes 4 v.sent ++ leBytes 4 v.recv ++ leBytes 4 v.failed ++ leBytes 4 v.retrains)
  | 4 => some (leBytes 8 c.par.ts ++ leBytes 1 c.rounds ++ leBytes 1 c.ended ++ zeros 2 ++ leBytes 4 c.finalZ)
  | 5 => some ((List.range 64).flatMap s.bndState)
  | 6 => some (leBytes 2 s.cascFlags)
  | _ => none

end Machine
end Sys2Proof
end

