-- ==== Sys2Proof/Machine/Integrity.lean ====
section
/-! DEFINITION. The CRC unit (R485–R491), self-test over the spare pools (R497–R502), lock-step (R495), wear and the thermal record
(R503, R504) and their entries (R506–R508). Chapter 18. -/

namespace Sys2Proof
namespace Machine

/-! ## The CRC unit (R485–R491) -/

/-- A CRC of width `w`, one bit entering at the top (R485). -/
def crcBit (w poly r : Nat) (b : Bool) : Nat :=
  let top := bitOf r (w - 1) != b
  let r := (2 * r) % 2 ^ w
  if top then Nat.xor r poly else r

/-- The bits of an octet in the order they enter. -/
def bitsIn (refin : Bool) (b : Octet) : List Bool :=
  (List.range 8).map (fun i => b.toNat.testBit (if refin then i else 7 - i))

/-- A value reversed over `w` bits. -/
def reverseBits (w v : Nat) : Nat := (List.range w).foldl (fun (a : Nat) i => 2 * a + b2n (bitOf v i)) 0

/-- The CRC of a stream (R485). -/
def crcOf (w poly init xorout : Nat) (refin refout : Bool) (bs : Octets) : Nat :=
  let r := bs.foldl (fun (r : Nat) b => (bitsIn refin b).foldl (crcBit w poly) r) init
  Nat.xor (if refout then reverseBits w r else r) xorout

/-- A channel's configuration. -/
def State.crcCfg (s : State) (c : Nat) : Octets := s.oct (0x6800 + c) 1

/-- A configuration is in range (R485, R491). -/
def crcCfgOk (b : Octets) : Bool :=
  let w := u8At b 32
  decide (3 ≤ w) && decide (w ≤ 64) && decide (u64At b 8 < 2 ^ w) && decide (u64At b 16 < 2 ^ w) && decide (u64At b 24 < 2 ^ w) &&
    decide (u8At b 33 < 16) && decide (6 ≤ u8At b 34) && decide (u8At b 34 ≤ 16) && (slice b 35 5).all (fun o => decide (o = 0))

/-- The regions of the scan space: first address and length (R487); the model image ends where the active image ends. -/
def State.scanRegions (s : State) : List (Nat × Nat) :=
  [ (0x00000000, 0x08000000), (0x10000000, 0x10000000), (0x20000000, 0x08000000), (0x28000000, 0x08000000), (0x30000000, 0x10000000),
    (0x40000000, 0x08000000), (0x48000000, 0x08000000), (0x80000000, 0x00100000), (0x90000000, s.img.length), (0xA0000000, 0x00200000) ]

/-- A scan stays inside one region and has a length (R487). -/
def State.scanOk (s : State) (b : Octets) : Bool :=
  let a := u32At b 0
  let n := u32At b 4
  decide (1 ≤ n) && decide (n ≤ 2 ^ 30) && s.scanRegions.any (fun r => decide (r.1 ≤ a) && decide (a + n ≤ r.1 + r.2))

/-- Where the wrapped keys, the spare sectors and the system area of the keep store begin (R39, R487). -/
def keepZero : Nat := 0x066A2000

/-- An octet of the repetitive tables: loop n's at offset n × 128 KiB, 2 octets a position, a poisoned word as delivered (R247, R487,
R488); beyond the table's positions nothing is stated. -/
def State.scanTable (s : State) (a : Nat) : Octet :=
  let n := (a - 0x28000000) / 131072
  let k := (a - 0x28000000) % 131072 / 2
  let r := (s.loop n).rep
  if k < (s.repCfg n).p then
    nth 0 (leInt 2 (if r.poison.contains k then sat16 (Config.poisonWord n k) else Tab.get 0 r.table k)) (a % 2)
  else Config.scanOctet s.draws a

/-- The octet a scan reads (R487, R488). -/
def State.scanOctet (s : State) (a : Nat) : Octet :=
  if 0x90000000 ≤ a ∧ a < 0x90000000 + s.img.length then nth 0 s.img (a - 0x90000000)
  else if keepZero ≤ a ∧ a < 0x08000000 then 0
  else if 0x48000000 ≤ a ∧ a < 0x50000000 then 0
  else if 0x80000000 ≤ a ∧ a < 0x80100000 then
    match s.logic.loaded.bind (fun p => p.code[(a - 0x80000000) / 4]?) with
    | some w => BitVec.ofNat 8 (w.toNat / 256 ^ (a % 4))
    | none => Config.scanOctet s.draws a
  else if 0x28000000 ≤ a ∧ a < 0x30000000 then s.scanTable a
  else Config.scanOctet s.draws a

/-- Block numbers before their blocks (R486). -/
def foldSeq (b : Nat) : Nat → Nat → Octets → Octets
  | 0, _, _ => []
  | fuel + 1, n, d => if d.isEmpty then [] else leBytes 4 n ++ d.take b ++ foldSeq b fuel (n + 1) (d.drop b)

/-- The stream of a channel (R486). -/
def State.crcStream (s : State) (b : Octets) : Octets :=
  let a := u32At b 0
  let d := (List.range (u32At b 4)).map (fun i => s.scanOctet (a + i))
  (if bitOf (u8At b 33) 2 then leBytes 4 a else []) ++ (if bitOf (u8At b 33) 3 then foldSeq (2 ^ u8At b 34) d.length 0 d else d)

/-- A channel. -/
def State.crcChan (s : State) (c : Nat) : CrcChan := Tab.get {} s.health.crc c
/-- Replace a channel. -/
def State.setCrc (s : State) (c : Nat) (v : CrcChan) : State := s.modHealth (fun h => { h with crc := Tab.put {} h.crc c v })

/-- CRC_SCAN_DONE (R490): the result is latched; `poisoned` says that a subsoil word of the range came with a poison mark. -/
def State.crcDone (s : State) (c : Nat) (poisoned : Bool) : State :=
  let v := s.crcChan c
  if v.state ≠ 1 then s
  else
    let b := s.crcCfg c
    let d := s.crcStream b
    let o := u8At b 33
    (s.setCrc c { v with state := 2, poisoned := poisoned, fed := d.length % 4294967296, endAt := s.clk.dev,
                         result := crcOf (u8At b 32) (u64At b 8) (u64At b 16) (u64At b 24) (bitOf o 0) (bitOf o 1) d }).draw

/-- What a scan in progress met in memory words: the poisoned ones are lost by their use and word address, the soft errors counted
(R37, R488, R496). -/
def State.scanWords (s : State) (lost : List (Nat × Nat)) (softSub softKeep : Nat) : State :=
  lost.foldl (fun s x => s.dataLoss .house x.1 x.2 0xFFFF) ((s.softSubsoil softSub).softKeep softKeep)

/-- CRC_SCAN_DONE. -/
def execCrcScanDone (t c : Nat) (lost : List (Nat × Nat)) (softSub softKeep : Nat) (s : State) : Out :=
  onUnit (decide (c < 4)) .house t s (fun s =>
    if (s.crcChan c).state = 1 then (s.scanWords lost softSub softKeep).crcDone c (!lost.isEmpty) else s)

/-- A write of `CRC_CMD` (R490): start, or abort. -/
def State.crcCmd (s : State) (c v : Nat) : WRes :=
  let x := s.crcChan c
  if v = 1 then
    if ¬ s.scanOk (s.crcCfg c) then .refuse 0x0A05 s
    else if x.state = 1 then .refuse 0x0A09 s
    else .done (s.setCrc c { x with state := 1, cause := 0, poisoned := false, fed := 0, endAt := 0 })
  else if v = 2 then
    .done (if x.state = 1 then s.setCrc c { x with state := 3, cause := 0, fed := s.scanProgress c, endAt := s.clk.dev }
      else if x.state = 2 then s.setCrc c { x with late := true } else s)
  else .refuse 0x0A05 s

/-- Writes of the CRC entries (R485, R490, R491). -/
def State.crcWrite (s : State) (c sub : Nat) (b : Octets) : WRes :=
  match sub with
  | 1 => if ¬ crcCfgOk b then .refuse 0x0A05 s else if (s.crcChan c).state = 1 then .refuse 0x0A06 s else .plain
  | 2 => s.crcCmd c (leNat b)
  | 5 => .done (s.setCrc c { s.crcChan c with late := false })
  | _ => .plain

/-- The CRC entries as read. -/
def State.crcRead (s : State) (c sub : Nat) : Option Octets :=
  let v := s.crcChan c
  match sub with
  | 3 => some (leBytes 1 v.state ++ leBytes 1 v.cause ++ leBytes 2 (b2n v.poisoned + 2 * b2n v.late) ++ leBytes 4 (if v.state = 1 then s.scanProgress c else v.fed) ++ leBytes 8 v.endAt)
  | 4 => some (leBytes 8 v.result)
  | _ => none

/-! ## Replacement of an element (R492–R494) -/

/-- The elements of an instance that are in service, where its own chapter holds no map: those not out, in order. -/
def State.servingLocal (s : State) (p u : Nat) : List Nat :=
  ((List.range (poolEach p)).filter (fun l => !(s.poolOut p u).contains l)).take (poolIn p)

/-- An element, numbered as in `AGEING`, is in service. -/
def State.inService (s : State) (p e : Nat) : Bool :=
  match p with
  | 1 => decide (s.loam.divider = e)
  | 2 => decide (s.ctrl.pipe0 = e) || decide (s.ctrl.pipe1 = e)
  | 3 => if e = 8 then s.net.sparePort.isSome else decide ((s.port e).controller ≠ 8)
  | 4 => (List.range 28).any (fun i => decide (s.modOf i = e))
  | 5 => decide (s.ctrl.conv0 = e) || decide (s.ctrl.conv1 = e)
  | 6 => let v := s.jport (e / 6)
         if e % 6 < 3 then v.rx.contains (e % 3) else v.tx.contains (e % 3)
  | 7 => decide (e % 2 = b2n (s.dev.onSpare.contains (e / 2)))
  | _ => (s.servingLocal p (poolUnit p e)).contains (poolLocal p e)

/-- An element leaves service for good at once, because of a fault (0) or wear (1), as its pool's rules say. -/
def State.replaceElem (s : State) (p e why : Nat) : State :=
  if (s.poolOut p (poolUnit p e)).contains (poolLocal p e) then s
  else if ¬ s.inService p e then
    match p with
    | 0 => (s.modLoam (fun l => { l with lanesOut := insRising e l.lanesOut })).retireElem 0 e why
    | 1 => (s.modLoam (fun l => { l with dividersOut := insRising e l.dividersOut })).retireElem 1 e why
    | 3 => if e = 8 then ({ s with net := { s.net with spareFailed := true } }).retireElem 3 8 why else s.retireElem 3 e why
    | _ => s.retireElem p e why
  else
    match p with
    | 0 => if why = 1 ∧ s.sparesFree 0 0 = 0 then s
           else s.retireLane e why
    | 1 => s.switchDivider why
    | 2 => s.replacePipe (if s.ctrl.pipe0 = e then 0 else 1) why
    | 3 => if why = 0 then s.controllerFault e
           else if s.spareFree then (s.startTakeover e).retireElem 3 e 1 else s
    | 4 => s.retireModulator e why
    | 5 => s.replaceConv (if s.ctrl.conv0 = e then 0 else 1) why
    | 6 => if why = 1 ∧ s.sparesFree 6 (e / 3) = 0 then s else s.laneSpared (e / 6) (decide (e % 6 < 3)) (e % 3) why
    | 7 => if s.spareClock (e / 2) then (s.toSpareClock (e / 2)).retireElem 7 e why
           else if why = 1 then s
           else ({ s with dev := { s.dev with dead := insRising (e / 2) s.dev.dead } }).retireElem 7 e why
    | _ => s.retireElem p e why

/-- SAR_CONVERTER_FAULT (R492): of converter 0 or 1. -/
def execSarConverterFault (t k : Nat) (s : State) : Out := onUnit (decide (k < 2)) .ctrl t s (fun s => s.replaceConv k 0)

/-- A wear threshold (R492): a rotating element is replaced at once, another waits for the next warm restart. -/
def State.wearOut (s : State) (p e : Nat) : State :=
  if rotating p then s.replaceElem p e 1
  else if s.health.pending.contains (p, e) ∨ (s.poolOut p (poolUnit p e)).contains (poolLocal p e) then s
  else s.modHealth (fun h => { h with pending := h.pending ++ [(p, e)] })

/-- The replacements that waited are applied in SELFTEST; one without a free spare is dropped and logged (R494). -/
def State.applyPending (s : State) : State :=
  let l := s.health.pending
  l.foldl (fun s x =>
    if s.sparesFree x.1 (poolUnit x.1 x.2) = 0 then s.post .house Code.pendingDropped x.1 [.u8 (if x.1 = 7 then x.2 / 2 else x.2)]
    else s.replaceElem x.1 x.2 1) (s.modHealth (fun h => { h with pending := [] }))

/-! ## Self-test (R498–R502) -/

/-- A write of `ST_REQUEST` (R500): pool, element, options. -/
def State.stRequest (s : State) (b : Octets) : WRes :=
  let p := u8At b 0
  let e := u8At b 1
  let force := bitOf (u8At b 2) 0
  if 8 < p ∨ (e ≠ 0xFF ∧ poolElems p ≤ e) ∨ 1 < u8At b 2 ∨ u8At b 3 ≠ 0 then .refuse 0x0A05 s
  else if e ≠ 0xFF ∧ ¬ rotating p ∧ s.inService p e then .refuse 0x0A06 s
  else if force ∧ s.dev.state ≠ .service then .refuse 0x0A06 s
  else if 32 ≤ s.health.queue.length then .refuse 0x0A09 s
  else if s.poolGone p ∧ ¬ force then .refuse 0x0A13 s
  else .done (s.modHealth (fun h => { h with lastReq := b, queue := h.queue ++ [{ pool := p, elem := e, force := force }] }))

/-- The element whose turn is next in a pool: out of service elements and, in a pool that does not rotate, those in service, are
passed over. -/
def State.nextTurn (s : State) (p : Nat) : Option Nat :=
  let n := poolElems p
  let t := Tab.get 0 s.health.turn p
  ((List.range n).map (fun i => (t + i) % max 1 n)).find? (fun e =>
    !(s.poolOut p (poolUnit p e)).contains (poolLocal p e) && (rotating p || !s.inService p e))

/-- The element of the background's turn, and whether it begins a pass: a pass goes through the pool once in index order, and one begins
at the earliest `BG_PERIOD` after the last began (R498). -/
def State.bgNext (s : State) (p : Nat) : Option (Nat × Bool) :=
  let n := poolElems p
  let fit := fun (e : Nat) => !(s.poolOut p (poolUnit p e)).contains (poolLocal p e) && (rotating p || !s.inService p e)
  let began := Tab.find s.health.passAt p
  match (match began with
    | some _ => ((List.range n).drop (Tab.get 0 s.health.turn p)).find? fit
    | none => none) with
  | some e => some (e, false)
  | none =>
    let due := match began with
      | some a => decide (a + s.nat 0x6810 4 * 3600000000000 ≤ s.now)
      | none => true
    if due then ((List.range n).find? fit).map (fun e => (e, true)) else none

/-- The background's turn has come to an element. -/
def State.bgTook (s : State) (p : Nat) (x : Nat × Bool) : State :=
  s.modHealth (fun h => { h with turn := Tab.insert h.turn p (x.1 + 1), passAt := if x.2 then Tab.insert h.passAt p s.now else h.passAt })

/-- A spare of an instance that is free to cover. -/
def State.freeSpare (s : State) (p u : Nat) : Option Nat :=
  ((List.range (poolEach p)).map (fun l => u * poolEach p + l)).find? (fun e => !s.inService p e && !(s.poolOut p u).contains (poolLocal p e))

/-- A test starts. -/
def State.startTest (s : State) (p e : Nat) (force background : Bool) : State :=
  let cover := if s.inService p e then s.freeSpare p (poolUnit p e) else none
  let bare := s.inService p e && cover.isNone
  let v := s.poolTest p
  s.setPoolTest p { v with run := some { elem := e, cover := cover, forced := bare, background := background, start := s.clk.dev }, elem := e,
                           forced := v.forced || (bare && force) }

/-- A queued test reaches its slot (R500): without a free spare and without `FORCE` it ends refused. -/
def State.startQueued (s : State) (r : StReq) : State :=
  let s := s.modHealth (fun h => { h with queue := h.queue.erase r })
  match (if r.elem = 0xFF then s.nextTurn r.pool else some r.elem) with
  | none => s
  | some e =>
    if s.inService r.pool e ∧ (s.freeSpare r.pool (poolUnit r.pool e)).isNone ∧ ¬ (r.force ∧ s.dev.state = .service) then
      (s.setPoolTest r.pool { s.poolTest r.pool with elem := e, outcome := 4, endAt := s.clk.dev }).post .house Code.stRefused r.pool [.u8 e]
    else (if r.elem = 0xFF then s.modHealth (fun h => { h with turn := Tab.insert h.turn r.pool (e + 1) }) else s).startTest r.pool e r.force false

/-- A modulator under test is calibrated (R498, R500): its request joins METR's queue; the spare modulators are calibrated idle. -/
def State.startModulator (s : State) (e : Nat) (force : Bool) : State :=
  match (List.range 28).find? (fun i => decide (s.modOf i = e)) with
  | some i =>
    if s.freeModulator.isSome then
      (if s.metr.calQueue.length < 30 then { s with metr := { s.metr with calQueue := s.metr.calQueue ++ [i] } } else s)
    else if force ∧ s.dev.state = .service then
      (({ s with metr := { s.metr with dead := insRising i s.metr.dead } }).startTest 4 e true false).post .metr Code.metrInputLost 0 [.u32 1792]
    else (s.setPoolTest 4 { s.poolTest 4 with elem := e, outcome := 4, endAt := s.clk.dev }).post .house Code.stRefused 4 [.u8 e]
  | none => s.startTest 4 e force false

/-- A modulator's request can leave the queue of requests: METR's queue has room for it, or no spare is left to wait for (R500). -/
def State.modulatorSlot (s : State) (e : Nat) (force : Bool) : Bool :=
  !s.inService 4 e || (if s.freeModulator.isSome then decide (s.metr.calQueue.length < 30) else (force && decide (s.dev.state = .service)) || s.poolGone 4)

/-- BG_TEST (R498, R500): the pool's rotation slot; a requested test goes before the background's. -/
def State.bgTest (s : State) (p : Nat) : State :=
  if (s.poolTest p).run.isSome then s
  else
    match s.health.queue.find? (fun r => decide (r.pool = p)) with
    | some r =>
      if p ≠ 4 then s.startQueued r
      else
        (match (if r.elem = 0xFF then s.nextTurn 4 else some r.elem) with
        | some e => if s.modulatorSlot e r.force then (s.modHealth (fun h => { h with queue := h.queue.erase r })).startModulator e r.force else s
        | none => s.modHealth (fun h => { h with queue := h.queue.erase r }))
    | none =>
      if s.nat 0x6810 5 = 0 then s
      else match s.bgNext p with
      | none => s
      | some x =>
        if p = 4 then (if ¬ s.inService 4 x.1 ∨ (s.freeModulator.isSome ∧ s.metr.calQueue.length < 30) then (s.startModulator x.1 false).bgTook 4 x else s)
        else if s.inService p x.1 ∧ (s.freeSpare p (poolUnit p x.1)).isNone then s.bgTook p x
        else (s.startTest p x.1 false true).bgTook p x

/-- BG_TEST. -/
def execBgTest (t p : Nat) (s : State) : Out := onUnit (decide (p < 9)) .house t s (fun s => s.bgTest p)

/-- The element's ageing monitor is read at the end of each test (R498, R503): frequency loss in 0.01 %, against `AGE_WARN`. -/
def State.ageNote (s : State) (i age : Nat) : State :=
  let old := Tab.get 0 s.health.ageing i
  let warn := u16At (s.oct 0x6830 1) 0
  let s := s.modHealth (fun h => { h with ageing := Tab.put 0 h.ageing i age })
  if warn ≤ age ∧ old < warn then s.post .house Code.wearWarn 0 [.u8 i] else s

/-- SELFTEST_DONE (R502, R509): the verdict, with the ageing read; an element that failed, or that crossed `AGE_REPLACE`, stays out. A
forced test of a modulator lasts 1.792 s (R501). -/
def State.selftestDone (s : State) (p : Nat) (pass : Bool) (age : Nat) : State :=
  let v := s.poolTest p
  match v.run with
  | none => s
  | some r =>
    if p = 4 ∧ r.forced ∧ s.clk.dev < r.start + 1792000000 then s
    else
    let s := s.ageNote (ageIndex p r.elem) age
    let s := s.setPoolTest p { v with run := none, elem := r.elem, outcome := if pass then 1 else 2, tests := v.tests + 1, endAt := s.clk.dev }
    let s := if p = 4 ∧ r.forced then
        { s with metr := { s.metr with dead := s.metr.dead.filter (fun i => decide (s.modOf i ≠ r.elem)) } }
      else s
    if ¬ pass then s.replaceElem p r.elem 0
    else if u16At (s.oct 0x6830 1) 2 ≤ Tab.get 0 s.health.ageing (ageIndex p r.elem) then s.wearOut p r.elem
    else s

/-- SELFTEST_DONE. -/
def execSelftestDone (t p : Nat) (pass : Bool) (age : Nat) (s : State) : Out :=
  onUnit (decide (p < 9)) .house t s (fun s => s.selftestDone p pass (age % 65536))

/-- A test of a pool ends ABORTED (R502). -/
def State.testAborted (s : State) (p : Nat) (r : TestRun) : State :=
  let s := s.setPoolTest p { s.poolTest p with run := none, elem := r.elem, outcome := 3, endAt := s.clk.dev }
  if p = 4 ∧ r.forced then { s with metr := { s.metr with dead := s.metr.dead.filter (fun i => decide (s.modOf i ≠ r.elem)) } } else s

/-- A write of `ST_ABORT` (R502): running, queued, done, or none. -/
def State.stAbort (s : State) (p : Nat) : WRes :=
  let v := s.poolTest p
  if 8 < p then .refuse 0x0A05 s
  else match v.run with
  | some r => .done (s.testAborted p r)
  | none =>
    if p = 4 ∧ s.metr.cal.isSome then
      .done (match s.metr.cal with
        | some r => (s.calAborted r).setPoolTest 4 { v with elem := r.old, outcome := 3, endAt := s.clk.dev }
        | none => s)
    else match s.health.queue.find? (fun r => decide (r.pool = p)) with
    | some r => .done ((s.modHealth (fun h => { h with queue := h.queue.erase r })).setPoolTest p { v with elem := r.elem, outcome := 3, endAt := s.clk.dev })
    | none => .done (if v.outcome = 1 ∨ v.outcome = 2 then s.setPoolTest p { v with late := true } else s)

/-- A write of `FULL_BIST` (R506). -/
def State.fullBistWrite (s : State) (v : Nat) : WRes :=
  if v ≠ 0xB157 then .refuse 0x0A05 s
  else if s.dev.state ≠ .service then .refuse 0x0A06 s
  else .done (s.modHealth (fun h => { h with fullBist := true }))

/-! ## Lock-step, memories, wear and temperature (R495, R496, R503, R504) -/

/-- HOUSE_MISMATCH (R495): the core that the re-run shows to disagree; without a spare, whether the re-run disagrees again. -/
def State.houseMismatch (s : State) (core : Nat) (again : Bool) : State :=
  if 0 < s.sparesFree 8 0 then s.retireElem 8 core 0
  else
    let second := match s.health.mismatchAt with
      | some a => decide (s.now < a + 1000000000)
      | none => false
    let s := (s.countFault 8).modHealth (fun h => { h with mismatchAt := some s.now })
    if second || again then s.holdOnset 3 else s

/-- HOUSE_MISMATCH. -/
def execHouseMismatch (t core : Nat) (again : Bool) (s : State) : Out := onUnit (decide (core < 3)) .house t s (fun s => s.houseMismatch core again)

/-- SRAM_SCRUB (R496): a word's read was good (0), a soft error (1) or hard (2), whose row is repaired while spare rows are provided; `isl`
is the word's island. -/
def execSramScrub (t isl result : Nat) (s : State) : Out :=
  onUnit (decide (isl < 8)) (islandOf isl) t s (fun s =>
    s.modHealth (fun h =>
      match result with
      | 1 => { h with softSram := h.softSram + 1 }
      | 2 => { h with sramRows := min Config.sramSpares (h.sramRows + 1) }
      | _ => h))

/-- Pool and element of a place in `AGEING` (R508). -/
def elemOfAge (i : Nat) : Nat × Nat :=
  let p := (List.range 9).filter (fun p => decide (ageIndex p 0 ≤ i))
  let q := p.length - 1
  (q, i - ageIndex q 0)

/-- AGE_READ (R503): an element's frequency loss against `AGE_WARN` and `AGE_REPLACE`; of an element under test the replacement waits
for the test's end (R509). -/
def State.ageRead (s : State) (i age : Nat) : State :=
  let lim := s.oct 0x6830 1
  let x := elemOfAge i
  let s := s.ageNote i age
  let tested : Bool := match (s.poolTest x.1).run with
    | some r => decide (r.elem = x.2)
    | none => false
  if u16At lim 2 ≤ age ∧ ¬ tested then s.wearOut x.1 x.2 else s

/-- AGE_READ. -/
def execAgeRead (t i age : Nat) (s : State) : Out := onUnit (decide (i < 164)) .house t s (fun s => s.ageRead i (age % 65536))

/-- WEAR_EM (R503): a canary of an island opens. -/
def execWearEm (t isl : Nat) (s : State) : Out :=
  onUnit (decide (isl < 9)) .house t s (fun s =>
    let n := Tab.get 0 s.health.canaries isl
    if 3 ≤ n then s
    else (s.modHealth (fun h => { h with canaries := Tab.insert h.canaries isl (n + 1) })).post .house Code.wearEm 0 [])

/-- The temperature band of a junction, 0.01 °C: of `THERMAL_HOURS` (R508), and of the refresh rate (R38). -/
def thermBand (t : Int) : Nat := if t ≤ 8500 then 0 else if t ≤ 10500 then 1 else if t ≤ 12500 then 2 else if t ≤ 15000 then 3 else 4
def refreshOf (t : Int) : Nat := min 3 (thermBand t)

/-- Powered seconds, and those of a band. -/
def State.powered (s : State) : Nat := s.health.keptSeconds + s.health.seconds
def State.inBand (s : State) (k : Nat) : Nat := Tab.get 0 s.health.keptBands k + Tab.get 0 s.health.bands k

/-- The profile flags that hold now (R504). -/
def State.profileNow (s : State) (temp : Int) : Nat :=
  let hot := s.inBand 2 + s.inBand 3 + s.inBand 4
  b2n (decide (8760 * 3600 ≤ s.powered ∧ s.powered < 10 * hot)) + 2 * b2n (decide (7000 * 3600 < s.inBand 3 + s.inBand 4)) +
    4 * b2n (decide (15000 < temp))

/-- A profile flag is set once, with its alarm. -/
def State.profileFlag (s : State) (now k code : Nat) : State :=
  if bitOf now k ∧ ¬ bitOf s.health.thermFlags k then
    (s.modHealth (fun h => { h with thermFlags := putBit h.thermFlags k true })).post .house code 0 []
  else s

/-- THERMAL_SAMPLE (R504, R38): the hottest junction in 0.01 °C; whether the retention-margin monitors raise the refresh rate, and the
subsoil rows that fail their margin (R503). -/
def State.thermalSample (s : State) (temp : Int) (raised : Bool) (rows : List Nat) : State :=
  let k := thermBand temp
  let s := s.modHealth (fun h => { h with
    thermAt := some s.now, seconds := h.seconds + 1, bands := Tab.insert h.bands k (Tab.get 0 h.bands k + 1), hottest := max h.hottest temp,
    refreshBand := min 3 (refreshOf temp + b2n raised), bandRaised := raised, marginRows := h.marginRows + rows.length })
  let s := rows.foldl (fun s r => s.retireRow r) s
  let f := s.profileNow temp
  ((s.profileFlag f 0 Code.profileHot).profileFlag f 1 Code.profile125).profileFlag f 2 Code.over150

/-- A second has passed since the last sample (R504). -/
def State.thermDue (s : State) : Bool :=
  match s.health.thermAt with
  | some a => decide (a + 1000000000 ≤ s.now)
  | none => true

/-- THERMAL_SAMPLE. -/
def execThermalSample (t : Nat) (temp : Int) (raised : Bool) (rows : List Nat) (s : State) : Out :=
  onIsland .house t s (fun s => if s.thermDue then s.thermalSample temp raised rows else s)

/-- THERMAL_HOURS_WRITE (R504), once an hour of seconds has gathered; `remaps` are the sectors that the write remapped, `wear` the highest write count after it. -/
def execThermalHoursWrite (t : Nat) (remaps : List Nat) (wear : Nat) (s : State) : Out :=
  onIsland .mem t s (fun s =>
    if s.health.seconds < 3600 then s
    else
    let s := remaps.foldl State.remapSector s
    s.modHealth (fun h => { h with
      keptSeconds := h.keptSeconds + h.seconds, keptHottest := max h.keptHottest h.hottest, seconds := 0, bands := [], wearMax := max wear h.wearMax,
      keptBands := (List.range 5).foldl (fun (b : Tab Nat) k => Tab.put 0 b k (Tab.get 0 h.keptBands k + Tab.get 0 h.bands k)) [] }))

/-! ## Entries (R506–R508) -/

/-- `ST_STATUS` of a pool. -/
def State.stStatus (s : State) (p : Nat) : Octets :=
  let v := s.poolTest p
  let cal := decide (p = 4) && s.metr.cal.isSome
  let wait := s.health.queue.any (fun r => decide (r.pool = p)) || (decide (p = 4) && !s.metr.calQueue.isEmpty)
  let st := if v.run.isSome || cal then 2 else if wait then 1 else 0
  let e := match v.run with
    | some r => r.elem
    | none => if cal then (s.metr.cal.map (·.old)).getD 0 else v.elem
  leBytes 1 st ++ leBytes 1 e ++ leBytes 1 v.outcome ++ leBytes 1 (b2n v.late + 2 * b2n v.forced) ++ leBytes 4 v.tests ++ leBytes 8 v.endAt

/-- `POOL_k`. -/
def State.poolO (s : State) (p : Nat) : Octets :=
  let us := List.range (poolUnits p)
  let sum := fun (f : Nat → Nat) => (us.map f).foldl (· + ·) 0
  let st := s.poolStat p
  let el := match (s.poolTest p).run with
    | some r => r.elem
    | none => if p = 4 then (s.metr.cal.map (·.old)).getD 0xFF else 0xFF
  leBytes 1 (sum (fun u => min (poolIn p) (poolEach p - (s.poolOut p u).length))) ++ leBytes 1 (sum (fun u => s.sparesFree p u)) ++
    leBytes 1 (sum (fun u => s.permanent p u)) ++ leBytes 1 el ++ leBytes 4 st.faults ++ leBytes 4 st.wear ++ leBytes 4 st.subst ++ leBytes 8 st.lastChange

/-- `PENDING`: a mask for each of pools 1, 3, 8 and 7, the rest of the 16 octets reserved (DEDUCED: the list in R507 sums to another
length). -/
def State.pendingO (s : State) : Octets :=
  let mask := fun (p : Nat) => s.health.pending.foldl (fun (m : Nat) x => if x.1 = p then m ||| 2 ^ (if p = 7 then x.2 / 2 else x.2) else m) 0
  leBytes 2 (mask 1) ++ leBytes 2 (mask 3) ++ leBytes 2 (mask 8) ++ leBytes 2 (mask 7) ++ zeros 8

/-- The entries of `0x6810` to `0x6830` as read. -/
def State.healthRead (s : State) (idx sub : Nat) : Option Octets :=
  let h := s.health
  if idx = 0x6810 then
    match sub with
    | 1 => some h.lastReq
    | 3 => some ((List.range 9).flatMap s.stStatus)
    | 7 => some (leBytes 4 (b2n h.fullBist))
    | 8 => some (leBytes 1 h.bistKind ++ leBytes 1 h.bistOutcome ++ leBytes 2 h.bistReplaced ++ leBytes 4 h.bistUs ++ leBytes 4 h.bistRows ++ zeros 4)
    | _ => none
  else if idx = 0x6820 then
    if 1 ≤ sub ∧ sub ≤ 9 then some (s.poolO (sub - 1))
    else match sub with
    | 0x0A => some (leBytes 4 h.sramRows ++ leBytes 4 Config.sramSpares ++ leBytes 4 h.sramCols ++ leBytes 4 h.subsoilRows ++
        leBytes 4 Config.reserveRows ++ leBytes 2 h.keepRemaps ++ leBytes 2 64)
    | 0x0B => some (leBytes 4 h.softSram ++ leBytes 4 h.softSubsoil ++ leBytes 4 h.softKeep)
    | 0x0C => some s.pendingO
    | _ => none
  else if idx = 0x6830 then
    match sub with
    | 2 => some ((List.range 164).flatMap (fun i => leBytes 2 (Tab.get 0 h.ageing i)))
    | 3 => some ((List.range 9).flatMap (fun i => leBytes 1 (Tab.get 0 h.canaries i)))
    | 4 => some (leBytes 8 h.wearMax ++ leBytes 4 h.wearSector ++ leBytes 2 h.keepRemaps ++ zeros 2)
    | 5 => some (leBytes 1 h.refreshBand ++ leBytes 1 (b2n h.bandRaised) ++ zeros 2 ++ leBytes 4 h.marginRows)
    | 6 => some (leBytes 4 (s.powered / 3600) ++ (List.range 5).flatMap (fun k => leBytes 4 (s.inBand k / 3600)) ++
        leInt 2 (max h.hottest h.keptHottest) ++ leBytes 2 h.thermFlags ++ zeros 4)
    | _ => none
  else none

/-- Writes of `0x6810` and `0x6830`. -/
def State.healthWrite (s : State) (idx sub : Nat) (b : Octets) : WRes :=
  if idx = 0x6810 then
    match sub with
    | 1 => s.stRequest b
    | 2 => s.stAbort (leNat b)
    | 6 => .done ((List.range 9).foldl (fun s p => s.setPoolTest p { s.poolTest p with late := false }) s)
    | 7 => s.fullBistWrite (leNat b)
    | _ => .plain
  else if idx = 0x6830 ∧ sub = 1 then WRes.unless (decide (u16At b 2 ≤ u16At b 0)) 0x0A05 s .plain
  else .plain

end Machine
end Sys2Proof
end

