-- ==== Sys2Proof/Machine/Range.lean ====
section
/-! DEFINITION. Whether a value lies within its entry's range (R49, R51, R62 step 8). -/

namespace Sys2Proof
namespace Machine

/-- raw × 2^sc lies within lo … hi, exactly. -/
def fxWithin (lo hi raw sc : Int) : Bool :=
  if 0 ≤ sc then decide (lo ≤ raw * 2 ^ sc.toNat) && decide (raw * 2 ^ sc.toNat ≤ hi)
  else decide (lo * 2 ^ (-sc).toNat ≤ raw) && decide (raw ≤ hi * 2 ^ (-sc).toNat)

/-- The value lies within the entry's range; a domain within its length. -/
def Ent.within (e : Ent) (v : Val) : Bool :=
  match v with
  | .num n => decide (e.lo ≤ n) && decide (n ≤ e.hi)
  | .fx r sc => fxWithin e.lo e.hi r sc
  | .oct b => decide (b.length ≤ e.maxLen)

end Machine
end Sys2Proof
end

