-- ==== Sys2Proof/Machine/Boot.lean ====
section
/-! DEFINITION. Power-up, boot, restart, saves and standby (R530–R548), the supply of the BACKUP domain (R415, R555). -/

namespace Sys2Proof
namespace Machine

/-- Change the power state. -/
def State.modPower (s : State) (f : Power → Power) : State := { s with power := f s.power }

/-! ## Entry to BOOT (R533, R536 step 1) -/

/-- Device time at entry to BOOT (R420): the calendar count plus `CAL_OFFSET`, or `CAL_OFFSET` where `CAL_VALID` is clear. -/
def State.bootTime (s : State) : Nat :=
  if s.cal.valid then ((s.cal.f.seconds : Int) * 1000000000 + s.subsec * 1000000000 / 1024 + s.cal.offset).toNat else s.cal.offset.toNat

/-- The values a restart keeps: those of the backup domain (R433). -/
def State.backupVals (s : State) : Tab Val :=
  s.dict.vals.filter (fun e => decide (e.1 / 256 = 0x6001) && !(s.dict.restorePending && ((entOf 0x6001 (e.1 % 256)).map (·.save)).getD false))

/-- What of chapter 18 outlasts a restart. -/
def Health.atBoot (h : Health) : Health :=
  { ({} : Health) with
    stat := h.stat, out := h.out, fullBist := h.fullBist, pending := h.pending, sramRows := h.sramRows, sramCols := h.sramCols,
    subsoilRows := h.subsoilRows, keepRemaps := h.keepRemaps, ageing := h.ageing, canaries := h.canaries, wearMax := h.wearMax,
    wearSector := h.wearSector, thermFlags := h.thermFlags, keptSeconds := h.keptSeconds, keptBands := h.keptBands, keptHottest := h.keptHottest,
    hottest := h.keptHottest }

/-- A CAN port at a restart: OFF, served as before. -/
def CanPort.atBoot (v : CanPort) : CanPort := { ({} : CanPort) with controller := v.controller, lostCtl := v.lostCtl }

/-- A Jiest port at a restart: DOWN, its lanes as they serve. -/
def JPort.atBoot (v : JPort) : JPort := { ({} : JPort) with tx := v.tx, rx := v.rx, txOut := v.txOut, rxOut := v.rxOut }

/-- `SAVE_INFO` of the next boot (R548): the save of this session, or the one reported before. -/
def Power.saveInfo (p : Power) : Nat × Nat × Nat × Nat :=
  if p.saveTrigger = 0 then (p.infoTrigger, p.infoRecords, p.infoDuration, p.infoT0)
  else (p.saveTrigger, 2 ^ p.saveRecords - 1, if p.saveRecords = 4 then p.saveDur else 0, p.saveT0)

/-- Power state at the boot instant. -/
def Power.atBoot (p : Power) (now cause : Nat) : Power :=
  let i := p.saveInfo
  { ({} : Power) with
    vbat := p.vbat, backupOn := true, straps := p.straps, bootAt := now, started := true, cause := cause, restartReq := p.restartReq,
    infoTrigger := i.1, infoRecords := i.2.1, infoDuration := i.2.2.1, infoT0 := i.2.2.2 }

/-- The device state at entry to BOOT (R42, R46, R47): the causes that outlast a restart stay, cause 5 until the
program has left HALT. -/
def State.devAtBoot (s : State) (dev : Nat) : Dev :=
  { ({} : Dev) with
    state := .boot, prev := if s.power.resetN then s.dev.state else s.dev.prev, stateTime := dev, degraded := s.dev.degraded % 8,
    hold := (if s.clk.refclk then 0 else 4) + 32 * b2n (bitOf s.dev.hold 5), bootCount := (s.dev.bootCount + 1) % 4294967296, onSpare := s.dev.onSpare, dead := s.dev.dead }

/-- Everything that a restart keeps; the rest is at its value at reset (R536). -/
def State.cleared (s : State) (cause : Nat) : State :=
  let dev := s.bootTime
  { ({} : State) with
    pending := s.pending, draws := s.draws, keep := s.keep, tap := { s.tap with drive := 0, held := [] },
    clk := { raw := s.clk.raw, dev := dev, refclk := s.clk.refclk, unsync := !s.clk.refclk },
    dev := s.devAtBoot dev, dict := { vals := s.backupVals },
    loam := { lanesOut := s.loam.lanesOut, divider := s.loam.divider, dividersOut := s.loam.dividersOut },
    metr := { serves := s.metr.serves, dead := s.metr.dead, trims := s.metr.trims,
              cps := s.keep.clearCounts.map (fun e => (e.1, { clearCount := e.2 })) },
    heat := { retA := s.heat.retA, retB := s.heat.retB, iv := { s.heat.iv with powerCut := true, select := [] } },
    lease := { boundary := dev / 1000000 },
    health := s.health.atBoot, cal := { s.cal with wakeOut := false, latched := [], alarm := if s.dict.restorePending then zeros 7 else s.cal.alarm },
    sync := { state := if s.clk.refclk then 0 else 4 },
    casc := { ports := s.casc.ports.map (fun e => (e.1, e.2.atBoot)) },
    net := { host := { hrdyFrom := s.clk.raw, hrdyBy := s.clk.raw + 20000000 }, sent := s.net.sent, sparePort := s.net.sparePort, spareFailed := s.net.spareFailed,
             ports := s.net.ports.map (fun e => (e.1, e.2.atBoot)) },
    ctrl := { pipe0 := s.ctrl.pipe0, pipe1 := s.ctrl.pipe1, conv0 := s.ctrl.conv0, conv1 := s.ctrl.conv1 },
    power := s.power.atBoot s.clk.raw cause }

/-- The boot event (R28): sequence number 0, with the boot count. -/
def State.bootEvent (s : State) : State :=
  s.admitEvent .house { code := Code.boot, unit := 0, args := [.u32 s.dev.bootCount], edge := .plain, capture := s.clk.dev, unseen := false, eligible := s.now }

/-- Entry to BOOT with a cause (R536 step 1, R548). -/
def State.enterBoot (s : State) (cause : Nat) : State :=
  let s := s.cleared cause
  ({ s with keep := { s.keep with bootCount := s.dev.bootCount } }).bootEvent

/-- The strap levels as their balls carry them: POS[8:0], LANE[1:0], CFG[2:0] (R535). -/
def strapsOf (pos lane cfg : Nat) (hostRole hTrust : Bool) : Straps :=
  { pos := pos % 512, lane := lane % 4, cfg := cfg % 8, hostRole := hostRole, hTrust := hTrust }

/-- A boot instant: the straps are sampled as they stand there (R535), and the device enters BOOT. -/
def State.bootInstant (s : State) (x : Straps) (cause : Nat) : State :=
  (s.modPower (fun p => { p with straps := strapsOf x.pos x.lane x.cfg x.hostRole x.hTrust })).enterBoot cause

/-- The cause that the detector's release gives a boot (R548, R547, R531). -/
def State.powerCause (s : State) : Nat :=
  if s.cal.wakeOut then 5 else if s.power.lossReset then 2 else if ¬ s.power.resetN then 1 else 0

/-- POWER_ON (R530, R535): the boot instant, with the straps sampled there. -/
def execPowerOn (t pos lane cfg : Nat) (hostRole hTrust : Bool) (s : State) : Out :=
  atMoment t s (fun s => if s.dev.state = .off ∨ ¬ s.power.resetN ∨ ¬ s.power.started then
      s.bootInstant { pos := pos, lane := lane, cfg := cfg, hostRole := hostRole, hTrust := hTrust } s.powerCause
    else s)

/-! ## Firmware, BIST, training (R497, R537, R538) -/

/-- The image in slot `k`. -/
def State.fwImage (s : State) (k : Nat) : Octets := ((s.keep.fw[k]?).map (·.image)).getD []

/-- Firmware runs from slot `k`. -/
def State.runSlot (s : State) (k : Nat) : State :=
  (s.modPower (fun p => { p with fwSlot := k, fwVersion := fwVersionOf (s.fwImage k) })).enter .selftest

/-- The first failing check of slot `k`, 0 where the image passes. -/
def State.failing (s : State) (k : Nat) : Nat := fwFailing (s.fwImage k)

/-- The choice of R537. -/
def State.chooseFirmware (s : State) : State :=
  let a := if bitOf s.power.straps.cfg 1 then 1 else 0
  if s.failing a = 0 then s.runSlot a
  else
    let s := s.post .house Code.bootFallback 0 [.u8 a, .u8 (s.failing a)]
    if s.failing (1 - a) = 0 then (s.modPower (fun p => { p with fallback := true })).runSlot (1 - a)
    else s.modPower (fun p => { p with halted := true })

/-- FIRMWARE_VERIFIED (R537, R399): the octets that image slots A and B hold at this boot, which no command of the block writes (log 29);
the boot ROM checks them. -/
def execFirmwareVerified (t : Nat) (a b : Octets) (s : State) : Out :=
  onIsland .house t s (fun s =>
    if s.dev.state = .boot ∧ ¬ s.power.halted then
      ({ s with keep := { s.keep with fw := [{ image := a }, { image := b }] } }).chooseFirmware
    else s)

/-- The elements that failed the BIST are replaced where a free spare exists (R497): how many were, and whether one was not. -/
def State.bistReplace (s : State) (l : List (Nat × Nat)) : State × Nat × Bool :=
  l.foldl (fun (r : State × Nat × Bool) x =>
    let free := decide (0 < r.1.sparesFree x.1 (poolUnit x.1 x.2))
    (r.1.replaceElem x.1 x.2 0, r.2.1 + b2n free, r.2.2 || !free)) (s, 0, false)

/-- QUICK_BIST_DONE (R497, R494): the failing elements by pool, the duration, the SRAM rows repaired. -/
def execQuickBistDone (t : Nat) (fails : List (Nat × Nat)) (us rows : Nat) (s : State) : Out :=
  onIsland .house t s (fun s =>
    if s.dev.state = .selftest ∧ ¬ s.power.halted ∧ ¬ s.power.bisted then
      let l := fails.filter (fun x => decide (x.1 < 9) && decide (x.2 < poolElems x.1))
      let r := s.bistReplace l
      let kind := b2n s.health.fullBist
      ((r.1.applyPending).modHealth (fun h => { h with
        fullBist := false, bistKind := kind, bistOutcome := if l.isEmpty then 1 else if r.2.2 then 3 else 2, bistReplaced := r.2.1, bistUs := us,
        bistRows := rows, sramRows := h.sramRows + rows })).modPower (fun p => { p with bisted := true })
    else s)

/-! ## Saved values and configuration at step 6 (R58, R437, R536) -/

/-- A saved value is applied (R58): of a saveable entry, within its range. -/
def savedOk (k : Nat) (v : Val) : Bool :=
  match entOf (k / 256) (k % 256) with
  | some e => e.save && e.within v
  | none => false

/-- One saved value; one out of range takes its default and is logged. -/
def State.applySaved1 (s : State) (k : Nat) (v : Val) : State :=
  if k / 256 = 0x6001 ∧ s.cal.valid then s
  else if savedOk k v then { s with dict := { s.dict with vals := Tab.put (dfltOf k) s.dict.vals k v } }
  else s.post .house Code.savedValueDefaulted 0 [.u16 (k / 256), .u8 (k % 256)]

/-- The newest valid saved-values record is applied (R58, R433). -/
def State.applySaved (s : State) : State :=
  let s := if s.cal.valid then s else { s with dict := { s.dict with vals := [] } }
  match s.keep.saved.read with
  | none => s.keepLost 3
  | some l =>
    let s := l.foldl (fun s e => s.applySaved1 e.1 e.2) s
    if s.cal.valid then s else s.modCal (fun c => { c with alarm := s.oct 0x6001 4, wakeStart := s.now })

/-- The redundancy configuration that holds until the next restart (R437). -/
def State.leaseConfig (s : State) : State :=
  let lane := s.power.straps.lane
  let cfg := s.nat 0x6400 1
  let bad := decide (lane = 3) || (decide (lane = 2) && decide (cfg = 1))
  let s := s.modLease (fun l => { l with cfg := cfg, tR := s.nat 0x6400 2, l := s.nat 0x6400 3, g := s.nat 0x6400 4, strapBad := bad,
                                         boundary := s.clk.dev / (s.nat 0x6400 2 * 1000) })
  if bad then s.post .house Code.redStrapInvalid 0 [] else s

/-- The connection points take their saved configuration; the input states settle (R273, R289). -/
def State.cpsAtBoot (s : State) : State :=
  (List.range 4).foldl (fun s c =>
    let s := s.applyCpCfg c
    s.setCp c { s.cp c with settleUntil := s.now + 4000000000, watch := s.clk.dev, calAt := s.now }) s

/-- The CAN ports that are enabled start integrating (R361). -/
def State.portsAtBoot (s : State) : State :=
  (List.range 8).foldl (fun s p =>
    if s.nat (0x1200 + p) 1 = 1 then
      match s.portEnable p 1 with
      | .done s' => s'
      | _ => s
    else s) s

/-- What step 6 does at its beginning. -/
def State.initBegin (s : State) : State :=
  let s := s.keysAtBoot.ringAtBoot.leaseConfig.modelAtBoot.learnedAtBoot.cpsAtBoot.portsAtBoot.subsAtBoot
  if s.nat 0x6010 2 = 0 then s
  else s.modSync (fun y => { y with lockWaitEnd := some (s.now + s.nat 0x6010 6 * 1000000000) })

/-! ## Warm or cold (R539) -/

/-- The model image that R109 would activate. -/
def State.bootImage (s : State) : Option Octets :=
  match s.keep.model.read with
  | none => none
  | some img =>
    match modelFault s.power.straps.pos (s.nat 0x2810 3) img with
    | some (6, _) => none
    | some (13, _) => none
    | _ => some img

/-- Age above `WARM_MAX_AGE`, or negative, or no valid calendar (row 7). -/
def State.tooOld (s : State) (r : ControlRec) : Bool :=
  !s.cal.valid || decide (s.clk.dev < r.taken) || decide (s.nat 0x5001 6 * 1000000000 < s.clk.dev - r.taken)

/-- The reason code; 0 decides warm. -/
def State.restartReason (s : State) : Nat :=
  if bitOf s.power.straps.cfg 0 then 1
  else if s.power.restartReq = 2 then 2
  else if s.power.cause ≤ 1 ∧ s.nat 0x5001 5 = 1 then 3
  else match s.keep.control.read with
  | none => 4
  | some r =>
    match s.bootImage with
    | none => 5
    | some img =>
      if imgTopo img ≠ r.topo then 5
      else if r.fw / 65536 ≠ s.power.fwVersion / 65536 then 6
      else if s.tooOld r then 7 else 0

/-- Slots of the keep store fail their check as they are read at step 5 (R40). -/
def State.keepBad (s : State) (bad : List (Nat × Nat)) : State :=
  { s with keep := bad.foldl (fun k x => k.fail x.1 x.2) s.keep }

/-- The records that have no other reader at a restart: excerpt and learned record, logged where lost (R40, R140). -/
def State.keepChecked (s : State) : State :=
  let s := if s.keep.learned.read.isNone then s.keepLost 8 else s
  if s.keep.excerpt.read.isNone then s.keepLost 9 else s

/-- Step 5: the decision, and the entry to COLD_INIT or WARM_INIT. A checkpoint without a valid control record is lost (R40). -/
def State.decideRestart (s : State) : State :=
  let s := s.applySaved
  let s := (if s.keep.control.read.isNone then s.keepLost 8 else s).keepChecked
  let why := s.restartReason
  let s := s.modPower (fun p => { p with
    decision := if why = 0 then 2 else 1, reason := why, restartReq := 0,
    takenUsed := if why = 0 then (s.keep.control.read.map (·.taken)).getD 0 else 0 })
  (s.enter (if why = 0 then .warmInit else .coldInit)).initBegin

/-- SUBSOIL_TRAINED (R538): the junction temperature and whether the margin monitors raise the band; up to three attempts. After it the
keep store is read; `bad` are the slots whose check then fails, by record and slot (R40). -/
def execSubsoilTrained (t : Nat) (ok : Bool) (temp : Int) (raised : Bool) (bad : List (Nat × Nat)) (s : State) : Out :=
  onIsland .mem t s (fun s =>
    if s.dev.state = .selftest ∧ s.power.bisted ∧ ¬ s.power.halted ∧ ¬ s.power.trained then
      let s := s.modPower (fun p => { p with trainTries := p.trainTries + 1, trained := ok })
      if ok then ((s.modHealth (fun h => { h with refreshBand := min 3 (refreshOf temp + b2n raised), bandRaised := raised })).keepBad bad).decideRestart
      else if s.power.trainTries < 3 then s
      else (s.modPower (fun p => { p with halted := true })).post .mem Code.subsoilTrainFail 0 []
    else s)

/-! ## The checkpoint (R541, R239, R176) -/

/-- The control record. -/
def State.controlRec (s : State) : ControlRec :=
  { topo := if s.model.active.isSome then imgTopo s.img else 0, fw := s.power.fwVersion, boot := s.dev.bootCount, taken := s.clk.dev,
    planVer := s.disp.plan.version, loops := if s.power.saving then s.power.saveLoops.getD s.everyCkpt else s.everyCkpt, plan := s.disp.plan }

/-- Write the control record. -/
def State.writeControl (s : State) : State := { s with keep := { s.keep with control := s.keep.control.write s.controlRec } }

/-- CHECKPOINT_WRITE (R541): every `CHECKPOINT_PERIOD`. -/
def execCheckpointWrite (t : Nat) (s : State) : Out :=
  onIsland .house t s (fun s =>
    if s.up ∧ ¬ s.power.saving ∧ s.power.checkpointAt + s.nat 0x5001 7 * 1000000000 ≤ s.now then
      (s.writeControl).modPower (fun p => { p with checkpointAt := s.now })
    else s)

/-- A loop of the checkpoint (R239): one that was not OFF opens with `MAN` its checkpointed u; a CLOSED one that recloses closes. -/
def State.restoreLoop (s : State) (c : LoopCkpt) : State :=
  if c.state = .off then s
  else
    let close := decide (c.state = .closed) && (s.coef c.n).reclose
    ((s.setMan c.n c.uPrev).setLoop c.n { ({} : Loop) with
      state := if close then .closed else .opened, req := if close then 2 else 1, uPrev := c.uPrev, uHeld := c.uPrev, first := true,
      firstClose := close }).readmitAtRestart c.n

/-- The loops of the checkpoint, in the order of R239. -/
def State.restoreLoops (s : State) (l : List LoopCkpt) : State :=
  (s.restartOrder (l.map (·.n))).foldl (fun s n =>
    match l.find? (fun c => decide (c.n = n)) with
    | some c => s.restoreLoop c
    | none => s) s

/-- The plan of the checkpoint (R176): in force again after a warm restart, its step from device time; its version continues. -/
def State.restorePlan (s : State) (warm : Bool) : State :=
  match s.keep.control.read with
  | none => s
  | some r =>
    if warm then
      let p := r.plan
      s.modDisp (fun d => { d with plan := if p.inForce ∧ ¬ p.withdrawn then p.advanced s.clk.dev else p })
    else s.modDisp (fun d => { d with plan := { version := r.planVer } })

/-- The checkpoint restored on a warm restart. -/
def State.restoreControl (s : State) (warm : Bool) : State :=
  let s := s.restorePlan warm
  if warm then
    match s.keep.control.read with
    | some r => s.restoreLoops r.loops
    | none => s
  else s

/-! ## The end of initialisation (R536, R44, R535) -/

/-- Intervals from READY on (R307): the first boundary after it. -/
def State.ivAtBoot (s : State) : State :=
  let len := s.nat 0x48F0 0x10
  s.modIv (fun v => { v with len := len, next := s.nextBoundary s.clk.dev len })

/-- The hold causes present at the end of initialisation take the device to SAFE_HOLD (R47, R535). -/
def State.holdAtRun (s : State) : State :=
  let s := if bitOf s.power.straps.cfg 2 then s.holdBit 1 true else s
  if s.dev.hold ≠ 0 then (s.enter .safeHold).ctrlHold else s

/-- READY. -/
def State.runEntry (s : State) : State :=
  let s := (s.enter (if s.dev.degraded = 0 then .run else .degraded)).leaseAtRun.holdAtRun
  (if s.operating then s.deliver else s).modPower (fun p => { p with readyUs := (s.now - s.power.bootAt) / 1000, checkpointAt := s.now })

/-- Hold cause 5 outlasts the restart only where the program is still in HALT (R47, R328). -/
def State.haltCause (s : State) : State := if s.logic.prog = .halt then s else s.holdBit 5 false

/-- Step 6 and its end; `ret` are the bits of the retention RAM that fail as it is read (R41). -/
def State.initDone (s : State) (ret : List (Nat × Nat × Nat)) (crit : List CritRead) : State :=
  let warm := decide (s.dev.state = .warmInit)
  (((((((s.retHit ret).critReads crit).restoreEnergy).logicRestart warm).haltCause).restoreControl warm).ivAtBoot).runEntry

/-- `LOCK_WAIT` is over (R430). -/
def State.lockOver (s : State) : Bool :=
  s.sync.measured || (match s.sync.lockWaitEnd with
    | some e => decide (e ≤ s.now)
    | none => true)

/-- INIT_DONE (R536). -/
def execInitDone (t : Nat) (ret : List (Nat × Nat × Nat)) (crit : List CritRead) (s : State) : Out :=
  onIsland .house t s (fun s =>
    if (s.dev.state = .coldInit ∨ s.dev.state = .warmInit) ∧ s.lockOver then s.initDone ret crit else s)

/-! ## Saves (R542, R544–R546) -/

/-- Step 1 of a save (R542): registers latched, power-quality events ended, every Loam job aborted. -/
def State.saveStart (s : State) (trigger then_ : Nat) : State :=
  let h := s.latchShadow s.heat.cs.epoch 0 s.clk.dev 2
  let s := s.pqTruncate
  let s := (((s.abortJob 0).abortJob 1).abortJob 2).abortJob 3
  s.modPower (fun p => { p with
    saving := true, saved := false, saveTrigger := trigger, saveThen := then_, saveT0 := s.clk.dev, saveRaw := s.now, saveLatch := some h,
    saveRecords := 0, saveDur := 0, saveLoops := none, jobsHeld := true })

/-- Record `k` of a save: energy, retained, control, excerpt. -/
def State.saveRecord (s : State) (k : Nat) : State :=
  let s := s.modPower (fun p => { p with saveRecords := k + 1 })
  match k with
  | 0 =>
    match s.power.saveLatch with
    | some h => s.writeEnergy h 2
    | none => s
  | 1 => s.writeRetained
  | 2 => s.writeControl
  | _ => { s with keep := { s.keep with excerpt := s.keep.excerpt.write s.excerptO } }

/-- The records of a save up to `n` of them. -/
def State.saveUpTo (s : State) (n : Nat) : State :=
  ((List.range 4).filter (fun k => decide (s.power.saveRecords ≤ k) && decide (k < n))).foldl State.saveRecord s

/-- The lowest lane to which R542 releases. -/
def State.releaseTo (s : State) : Option Nat :=
  if s.single ∨ ¬ s.leaseHolder then none
  else s.mates.find? (fun x => bitOf (s.peer x).flags 0 && !(s.peer x).silent && !bitOf s.lease.excluded x)

/-- Step 2 of R542: `RELEASE`, and `OWN` drops. -/
def State.pfailRelease (s : State) : State :=
  match s.releaseTo with
  | none => s
  | some x =>
    let s := ((s.leaseLost 0).refrainFor x s.lease.l s.lease.tR).modLease (fun l => { l with grantAt := s.now, sentGrant := true })
    s.redSend (s.redMsg 4 0 s.lease.req x)

/-- PFAIL (R542, R544): a fall starts a save from RUN, DEGRADED, SAFE_HOLD or SERVICE where none runs; `remaps`
are the sectors that its writes remapped (R499). -/
def execPfail (t : Nat) (remaps : List Nat) (s : State) : Out :=
  onIsland .house t s (fun s =>
    let was := s.power.pfailN
    let s := s.modPower (fun p => { p with pfailN := false })
    if was ∧ s.up ∧ ¬ s.power.saving then
      (((remaps.foldl State.remapSector s).saveStart 1 0).post .house Code.pfail 0 []).pfailRelease else s)

/-- The supplies stay after a save (R544). -/
def State.pfailRecover (s : State) : State :=
  (s.modPower (fun p => { p with jobsHeld := false, saved := false })).post .house Code.pfailRecovered 0 []

/-- The pins from the detector's first action to `READY`, in a halted state and in PARKED (R533): AO at code 0, PW and PO low, DIO high
impedance until a commit drives it, `OWN` low. (`READY` follows the device state, `CANp_TX` a port that is OFF.) -/
def State.pinsIdle (s : State) : State :=
  { s with
    ctrl := { s.ctrl with ao := [], pwm := [], pwPeriod := [], pwHigh := [] }, logic := { s.logic with committed := false },
    metr := { s.metr with pos := s.metr.pos.map (fun e => (e.1, { e.2 with level := false, left := 0 })) },
    lease := { s.lease with own := false, ownAt := none } }

/-- PARKED (R546): ports OFF, outputs as in R533, the lease gone. -/
def State.park (s : State) : State :=
  let s := (List.range 8).foldl (fun s p => s.portOff p) s
  let s := (s.modLease (fun l => { l with state := 0, timer := 0 })).enter .parked
  (s.modPower (fun p => { p with parkedAt := s.now })).pinsIdle

/-- The interval records and the clear that waited (R544). -/
def State.saveDeferred (s : State) : State :=
  let l := s.power.deferIv
  let c := s.power.deferClear
  let s := s.modPower (fun p => { p with deferIv := [], deferClear := false })
  let s := l.foldl State.ivEnd s
  if c then s.clearRecord else s

/-- Step 7 of a save. -/
def State.saveEnd (s : State) (x : Straps) : State :=
  let s := (s.saveUpTo 4).modPower (fun p => { p with saving := false, saveDur := (s.now - p.saveRaw) / 1000 })
  if s.power.saveThen = 1 then s.bootInstant x 3
  else
    let s := s.saveDeferred
    if s.power.saveThen = 2 then s.park
    else
      let s := s.modPower (fun p => { p with saved := true })
      if s.power.pfailN then s.pfailRecover else s

/-- SAVE_COMPLETE (R542, R545, R546), with the straps as they stand, for a save that a boot follows (R535). -/
def execSaveComplete (t : Nat) (straps : Straps) (s : State) : Out :=
  onIsland .house t s (fun s => if s.power.saving then s.saveEnd straps else s)

/-- PFAIL_RECOVERED (R544): `PFAIL_N` rises with the supplies present; during a save it takes effect at its end. -/
def execPfailRecovered (t : Nat) (s : State) : Out :=
  onIsland .house t s (fun s =>
    let s := s.modPower (fun p => { p with pfailN := true })
    if s.power.saved ∧ ¬ s.power.saving ∧ s.up then s.pfailRecover else s)

/-! ## Loss of supply, reset, parking -/

/-- The BACKUP domain has lost its supply (R415, R555): the calendar, its output and the retention copies are lost. -/
def State.backupLost (s : State) : State :=
  let k := s.draws
  let f := fun i => (Config.freeCalendar k i).toNat % 256
  let s := s.draw
  { s with
    cal := { ({} : Cal) with
      f := { sec := f 0, min := f 1, hour := f 2, day := f 3, month := f 4, year := f 5, century := f 6, weekday := f 7, subsec := f 8 * 4 },
      offset := Config.freeCalendar k 9, valid := decide (Config.freeCalendar k 12 = 1), since := s.now },
    dict := { s.dict with vals := s.dict.vals.filter (fun e => decide (e.1 / 256 ≠ 0x6001)) },
    heat := { s.heat with retA := [], retB := [] },
    power := { s.power with backupOn := false } }

/-- The keep-store writes in progress are cut (R40, R106): a store's, an activation's of a model or a program, and record number
`saveRecords` of a save. -/
def State.writesCut (s : State) : State :=
  let k := s.keep
  let k := if s.dict.storing.isSome then { k with saved := k.saved.torn } else k
  let k := if s.model.stage.status = 3 then { k with model := k.model.torn } else k
  let k := if s.logic.stage.status = 3 then { k with prog := k.prog.torn } else k
  let k := if s.power.saving then
      (match s.power.saveRecords with
       | 0 => { k with energy := k.energy.torn }
       | 1 => { k with retained := k.retained.torn }
       | 2 => { k with control := k.control.torn }
       | 3 => { k with excerpt := k.excerpt.torn }
       | _ => k)
    else k
  { s with keep := k }

/-- The main supplies are gone: OFF. -/
def State.goOff (s : State) (reset : Bool) : State :=
  let s := s.writesCut
  let s := s.modPower (fun p => { p with supplies := false, lossReset := reset, saving := false, saved := false, restartReq := 0 })
  let s := { s.pinsIdle with dev := { s.dev with state := .off, prev := s.dev.state }, cal := { s.cal with steering := false } }
  let s := { s with lease := { s.lease with state := 0, timer := 0 } }
  if s.power.vbat then s else s.backupLost

/-- The keep-store writes as a cut finds them: `done` records of a running save are complete; where an interval boundary has come and its
command has not, `ring` says that its record was written without the ring head (R310). -/
def State.cutAt (s : State) (done : Nat) (ring : Bool) : State :=
  let s := if s.power.saving then s.saveUpTo (min done 4) else s
  if ring ∧ s.up ∧ ¬ s.power.saving ∧ s.heat.iv.next ≤ s.clk.dev then s.ivCut else s

/-- RESET_ASSERT (R532): `RESET_N` low for 1 µs; no save, and one in progress is cut after `done` of its records. -/
def execResetAssert (t done : Nat) (ring : Bool) (s : State) : Out :=
  atMoment t s (fun s => if s.dev.state = .off ∨ ¬ s.power.resetN then s
    else
      let s := (s.cutAt done ring).writesCut
      let s := s.modPower (fun p => { p with resetN := false, saving := false, saved := false, halted := false })
      let s := { s.pinsIdle with dev := { s.dev with state := .boot, prev := s.dev.state } }
      { s with lease := { s.lease with state := 0, timer := 0 } })

/-- SUPPLY_LOSS (R531): a main supply leaves tolerance before a save is complete; `done` of its records are. -/
def execSupplyLoss (t done : Nat) (ring : Bool) (s : State) : Out :=
  atMoment t s (fun s => if s.dev.state = .off ∨ s.dev.state = .parked ∨ s.power.saved then s
    else (s.cutAt done ring).goOff true)

/-- MAIN_SUPPLY_LOST (R44): after a completed power-fail save, or in PARKED. -/
def execMainSupplyLost (t : Nat) (s : State) : Out :=
  atMoment t s (fun s => if s.dev.state = .parked ∨ s.power.saved then s.goOff false else s)

/-- PARK_TIMEOUT (R546): the supplies are still there; the straps as they stand (R535). -/
def execParkTimeout (t : Nat) (straps : Straps) (s : State) : Out :=
  onIsland .house t s (fun s =>
    if s.dev.state = .parked ∧ s.power.parkedAt + s.nat 0x5001 0x0C * 1000000000 ≤ s.now then s.bootInstant straps 4 else s)

/-- VBAT_LOST (R555): VBAT is removed while VIO33 is absent. -/
def execVbatLost (t : Nat) (s : State) : Out :=
  atMoment t s (fun s => if s.power.supplies then s
    else
      let s := s.modPower (fun p => { p with vbat := false })
      if s.power.backupOn then s.backupLost else s)

/-- BACKUP_DOMAIN_START (R415): the domain powers up after both of its supplies were absent; without VBAT the calendar is reset. -/
def execBackupDomainStart (t : Nat) (without : Bool) (s : State) : Out :=
  atMoment t s (fun s => if s.power.backupOn then s
    else
      let s := s.modPower (fun p => { p with backupOn := true, vbat := !without })
      if without then { s with cal := { ({} : Cal) with since := s.now } } else s.modCal (fun c => { c with since := s.now }))

/-! ## Requests (R545, R546) and entries (R548) -/

/-- `RESTART_REQ`. -/
def State.restartRequest (s : State) (v : Nat) : WRes :=
  if v < 1 ∨ 2 < v then .refuse 0x0A05 s
  else if s.dev.state ≠ .service then .refuse 0x0A06 s
  else if s.power.saving then .refuse 0x0A09 s
  else .done ((s.modPower (fun p => { p with restartReq := v })).saveStart 2 1)

/-- `STANDBY_REQ`. -/
def State.standbyRequest (s : State) (v : Nat) : WRes :=
  if v ≠ 0x000057B0 then .refuse 0x0A05 s
  else if ¬ s.holding then .refuse 0x0A06 s
  else if s.power.saving then .refuse 0x0A09 s
  else .done (s.saveStart 3 2)

/-- Reads of `0x5001`; none for a stored value and for those of the logic engine. -/
def State.powerRead (s : State) (sub : Nat) : Option Octets :=
  let p := s.power
  match sub with
  | 1 => some (leBytes 1 p.restartReq)
  | 8 => some (leBytes 1 p.cause ++ leBytes 1 p.decision ++ leBytes 1 p.reason ++ leBytes 1 (b2n p.fallback) ++ leBytes 4 s.dev.bootCount ++
      leBytes 4 p.readyUs ++ leBytes 8 p.takenUsed ++ zeros 4)
  | 9 => some (leBytes 1 p.infoTrigger ++ leBytes 1 p.infoRecords ++ zeros 2 ++ leBytes 4 p.infoDuration ++ leBytes 8 p.infoT0)
  | 0x0A => some (zeros 4)
  | 0x0B => some (leBytes 1 (if s.dev.state = .parked then 2 else if p.saving ∧ p.saveThen = 2 then 1 else 0))
  | _ => none

/-- Writes of `0x5001.01` and `.0A`. -/
def State.powerWrite (s : State) (sub : Nat) (b : Octets) : WRes :=
  match sub with
  | 1 => s.restartRequest (leNat b)
  | 0x0A => s.standbyRequest (leNat b)
  | _ => .plain

end Machine
end Sys2Proof
end

