-- ==== Sys2Proof/Machine/Wire.lean ====
section
/-! DEFINITION. DAP protocol data units as octets (R64, R65), their responses and aborts, and the way back to their source
(R70, R71, R74). -/

namespace Sys2Proof
namespace Machine

/-! ## Protocol data units -/

/-- The PDU that octets spell (R64); none where they are too few for the header, the data and the trailer it names. Octets beyond
them are padding, which is not checked. -/
def pduOf (b : Octets) : Option Pdu :=
  let n := u16At b 8
  let crit := bitOf (u8At b 3) 0
  if b.length < 10 + n + 20 * b2n crit ∨ b.length < 10 then none
  else some {
    cs := u8At b 0, session := u8At b 1, tag := u8At b 2, flags := u8At b 3, index := u16At b 4, sub := u8At b 6, resv := u8At b 7,
    length := n, data := slice b 10 n,
    trailer := if crit then some { counter := u64At b (10 + n), tag := slice b (18 + n) 12 } else none }

/-- The octets of a PDU (R64). -/
def Pdu.octets (p : Pdu) : Octets :=
  leBytes 1 p.cs ++ leBytes 1 p.session ++ leBytes 1 p.tag ++ leBytes 1 p.flags ++ leBytes 2 p.index ++ leBytes 1 p.sub ++
  leBytes 1 p.resv ++ leBytes 2 p.length ++ p.data ++
  (match p.trailer with
   | some t => leBytes 8 t.counter ++ t.tag
   | none => [])

/-- `CRIT` (R64). -/
def Pdu.crit (p : Pdu) : Bool := bitOf p.flags 0
/-- `LAST` (R64). -/
def Pdu.last (p : Pdu) : Bool := bitOf p.flags 1
/-- `OFFSET` of a SEGMENT (R64). -/
def Pdu.offset (p : Pdu) : Nat := p.index + 65536 * p.sub + 16777216 * p.resv

/-- The request specifiers R65 and R387 define. -/
def csDefined (cs : Nat) : Bool := (decide (1 ≤ cs) && decide (cs ≤ 7)) || (decide (0x10 ≤ cs) && decide (cs ≤ 0x12))

/-- An access as a PDU. -/
def Acc.pdu (a : Acc) (cs flags idx sub : Nat) (b : Octets) : Pdu :=
  { cs := cs, session := a.session, tag := a.tag, flags := flags + b2n a.crit.isSome, index := idx, sub := sub, resv := 0,
    length := b.length, data := b, trailer := a.crit }

/-- A SEGMENT (R64): octets 4 to 7 hold the offset. -/
def Acc.segment (a : Acc) (offset : Nat) (last : Bool) (b : Octets) : Pdu :=
  { (a.pdu 5 (2 * b2n last) 0 0 b) with
    index := offset % 65536, sub := offset / 65536 % 256, resv := offset / 16777216 % 256 }

/-- The CAN class that carries a PDU (R70). -/
def Pdu.cls (p : Pdu) : Nat := if p.crit then 2 else 6

/-- A PDU with the source and class it comes in. -/
def Acc.req (a : Acc) (p : Pdu) : Req :=
  { src := a.src, cls := match a.src with
      | .can _ _ => p.cls
      | _ => 0,
    pdu := p }

/-- A response to a PDU (R64, R65): `SESSION`, `TAG` and octets 4 to 6 echoed, octet 7 of a SEGMENT too. -/
def Pdu.respond (p : Pdu) (cs session flags : Nat) (b : Octets) : Octets :=
  leBytes 1 cs ++ leBytes 1 session ++ leBytes 1 p.tag ++ leBytes 1 flags ++ leBytes 2 p.index ++ leBytes 1 p.sub ++
  leBytes 1 (if p.cs = 5 then p.resv else 0) ++ leBytes 2 b.length ++ b

/-- The successful response to a PDU. -/
def Pdu.good (p : Pdu) (flags : Nat) (b : Octets) : Octets :=
  p.respond (p.cs + 0x80) (if p.cs = 0x10 then 0 else p.session) flags b

/-- The ABORT that refuses a PDU (R65, R72). -/
def Pdu.abort (p : Pdu) (code : Nat) : Octets := p.respond 7 p.session 0 (leBytes 2 code)

/-- The session context a request belongs to: 0 on the host port. -/
def Req.ctx (r : Req) : Nat := if r.src = .host then 0 else r.pdu.session

/-- Whether a request comes over a network path. -/
def Req.net (r : Req) : Bool := decide (r.src ≠ .host)

/-- Send octets to a peer as the answer to a PDU (R70, R71, R74). -/
def State.sendTo (s : State) (dst : Peer) (p : Pdu) (b : Octets) : State :=
  match dst with
  | .can q node => s.sendCan q 6 13 (s.ownFrame q (canId p.cls 1 s.laneNode node p.tag) b) none
  | .udp m ip port => s.sendUdp { mac := m, srcPort := 47121, ip := ip, port := port, data := b }
  | .host => { s with net := { s.net with host := { s.net.host with resp := some b, busy := false } } }

/-- Answer a request. -/
def State.answer (s : State) (r : Req) (b : Octets) : State := s.sendTo r.src r.pdu b

/-! ## Limits (R67) -/

/-- The expedited data limit of a path. DESIGN CHOICE (log 88): the table of R67 has no row for the host port; it takes the 1024 octets
that its PDU length limit (R74) leaves, here and for segments. -/
def Req.limit (r : Req) : Nat :=
  match r.src with
  | .can _ _ => if r.pdu.crit then 34 else 54
  | _ => 1024

/-- The most data a response carries: a `READ`, and one SEGMENT of a read; a response has no trailer (R65, log 88). -/
def Req.segment (r : Req) : Nat :=
  match r.src with
  | .can _ _ => 54
  | _ => 1024

/-! ## Text -/

/-- One character in UTF-8. -/
def utf8Char (c : Nat) : Octets :=
  if c < 0x80 then leBytes 1 c
  else if c < 0x800 then leBytes 1 (0xC0 + c / 64) ++ leBytes 1 (0x80 + c % 64)
  else if c < 0x10000 then leBytes 1 (0xE0 + c / 4096) ++ leBytes 1 (0x80 + c / 64 % 64) ++ leBytes 1 (0x80 + c % 64)
  else leBytes 1 (0xF0 + c / 262144) ++ leBytes 1 (0x80 + c / 4096 % 64) ++ leBytes 1 (0x80 + c / 64 % 64) ++ leBytes 1 (0x80 + c % 64)

/-- A text in UTF-8. -/
def utf8Octets (t : String) : Octets := t.toList.flatMap (fun c => utf8Char c.toNat)

/-- Octets are UTF-8, given how many continuation octets are awaited and the range of the next one. -/
def utf8From : Nat → Nat → Nat → Octets → Bool
  | k, _, _, [] => decide (k = 0)
  | 0, _, _, b :: r =>
    let v := b.toNat
    if v < 0x80 then utf8From 0 0 0 r
    else if 0xC2 ≤ v ∧ v ≤ 0xDF then utf8From 1 0x80 0xBF r
    else if 0xE0 ≤ v ∧ v ≤ 0xEF then utf8From 2 (if v = 0xE0 then 0xA0 else 0x80) (if v = 0xED then 0x9F else 0xBF) r
    else if 0xF0 ≤ v ∧ v ≤ 0xF4 then utf8From 3 (if v = 0xF0 then 0x90 else 0x80) (if v = 0xF4 then 0x8F else 0xBF) r
    else false
  | k + 1, lo, hi, b :: r => decide (lo ≤ b.toNat) && decide (b.toNat ≤ hi) && utf8From k 0x80 0xBF r

/-- Octets are UTF-8 (R50). -/
def utf8Ok (b : Octets) : Bool := utf8From 0 0 0 b

end Machine
end Sys2Proof
end

