-- ==== Sys2Proof/Machine/Owner.lean ====
section
/-! DEFINITION. The entries of the dictionary and their owners: which row an access names, what a read returns, what a write
does, the store and restore commands, DESCRIBE (R48–R58, R66). -/

namespace Sys2Proof
namespace Machine

/-! ## Entries (R48, R52, R59) -/

/-- The rows at an index; none where the index is reserved. -/
def rowsAt (idx : Nat) : Option (List Ent) :=
  if 1 ≤ idx ∧ idx ≤ 16 then some [⟨1, 1, .u32, .ro, false, false, false, 0, .num 0, 0, 4294967295, ""⟩]
  else if idx = 0x5808 then some (ents5800.filter (fun e => decide (e.sub ≤ 3)))
  else (groupOf idx).map (·.2)

/-- The highest sub-index in use among rows (R48). -/
def highestSub (l : List Ent) : Nat := l.foldl (fun (m : Nat) e => max m (e.sub + e.n - 1)) 0

/-- The row of an entry, sub-index 0 included (R48); none where the entry is absent. -/
def entAt (idx sub : Nat) : Option Ent :=
  if sub = 0 then
    (rowsAt idx).map (fun l => ⟨0, 1, .u8, .ro, false, false, false, 0, .num (highestSub l), 0, 255, ""⟩)
  else entOf idx sub

/-- The code of a type (R50). -/
def DTy.code : DTy → Nat
  | .bool => 1 | .u8 => 2 | .u16 => 3 | .u32 => 4 | .u64 => 5 | .i8 => 6 | .i16 => 7 | .i32 => 8 | .i64 => 9 | .q15 => 10
  | .q31 => 11 | .fx32 => 12 | .bcd8 => 13 | .time64 => 14 | .octets => 15 | .string => 16

/-- The octet size of the type of a code, 0 for OCTETS and STRING (R52). -/
def typeSize (c : Nat) : Nat :=
  nth 0 [0, 1, 1, 2, 4, 8, 1, 2, 4, 8, 2, 4, 5, 1, 8, 0, 0] c

/-- The code of an access right (R66). -/
def Right.code : Right → Nat
  | .ro => 0 | .rw => 1 | .wo => 2 | .rwc => 3

/-- A bound of a numeric entry in its encoding; an FX32 at the scale code of its default. -/
def Ent.bound (e : Ent) (v : Int) : Octets :=
  match e.dflt with
  | .fx _ sc => leInt 4 (sat32 (scaleBy v (-sc))) ++ leInt 1 sc
  | _ => leInt (e.ty.size.getD 0) v

/-- The attributes of an entry (R66). -/
def Ent.describe (e : Ent) : Octets :=
  let numeric := e.ty.size.isSome && decide (e.ty ≠ .bool)
  let u := (utf8Octets e.unit).take 16
  leBytes 1 e.ty.code ++ leBytes 1 e.right.code ++ leBytes 1 (b2n e.expert) ++ leBytes 1 (b2n e.save + 2 * b2n e.service) ++
  leBytes 4 (e.ty.size.getD e.maxLen) ++
  (if numeric then encVal e.ty e.dflt ++ e.bound e.lo ++ e.bound e.hi else []) ++ leBytes 1 u.length ++ u

/-! ## Reads -/

/-- The straps as `STRAPS` packs them. -/
def Straps.word (v : Straps) : Nat :=
  v.pos % 512 + 512 * (v.lane % 4) + 2048 * (v.cfg % 8) + 16384 * b2n v.hostRole + 32768 * b2n v.hTrust

/-- The identity entries. -/
def State.identityRead (s : State) (sub : Nat) : Option Octets :=
  match sub with
  | 3 => some (leBytes 2 Config.stepping)
  | 4 => some (leBytes 8 Config.serial)
  | 5 => some (leBytes 4 s.power.fwVersion)
  | 6 => some (leBytes 1 s.power.fwSlot)
  | 7 => some (leBytes 2 s.power.straps.word)
  | _ => none

/-- The entries of the device state (R45). -/
def State.devRead (s : State) (sub : Nat) : Option Octets :=
  match sub with
  | 1 => some (leBytes 1 s.dev.state.code)
  | 2 => some (leBytes 1 s.dev.prev.code)
  | 3 => some (leBytes 8 s.dev.stateTime)
  | 4 => some (leBytes 4 s.dev.degraded)
  | 5 => some (leBytes 2 s.dev.hold)
  | 6 => some (leBytes 1 s.dev.lastRequest)
  | 7 => some (leBytes 4 s.dev.bootCount)
  | _ => none

/-- The path a request comes by, as the calendar tells paths apart (R416). -/
def Peer.path : Peer → Nat
  | .can p _ => p
  | .udp _ _ _ => 8
  | .host => 9

/-- Every entry whose value its owner makes, those whose read has an effect apart; none for a stored value. -/
def State.ownedRead (s : State) (n idx sub : Nat) : Option Octets :=
  if idx < 0x1000 then some (leBytes 4 (typeSize idx))
  else if idx = 0x1000 then s.identityRead sub
  else if idx = 0x1001 then s.devRead sub
  else if idx = 0x1010 then
    (if sub = 1 then some (leBytes 4 (b2n s.dict.storing.isSome)) else some (leBytes 1 s.dict.storeResult))
  else if idx = 0x1011 then some (leBytes 4 (b2n s.dict.restorePending))
  else if idx < 0x1200 then s.ethRead idx sub
  else if idx < 0x1400 then s.canRead idx sub
  else if idx < 0x1800 then s.sessRead (idx - 0x1400) sub
  else if idx < 0x2000 then s.keyRead (idx - 0x1800) sub
  else if idx < 0x2800 then s.modelRead idx sub
  else if idx < 0x2830 then s.planRead idx sub
  else if idx < 0x2840 then s.hydRead sub
  else if idx < 0x3000 then s.estimRead sub
  else if idx < 0x4000 then s.ctrlRead idx sub
  else if idx < 0x4800 then s.heatRead idx sub
  else if 0x4830 ≤ idx ∧ idx < 0x4850 then s.heatRead idx sub
  else if idx < 0x48F0 then s.metrRead idx sub
  else if idx = 0x48F0 then s.csRead n sub
  else if idx = 0x5001 then (match s.powerRead sub with
    | some b => some b
    | none => s.logicRead n idx sub)
  else if idx < 0x5800 then s.logicRead n idx sub
  else if idx < 0x6000 then s.canRead idx sub
  else if idx = 0x6001 then s.calStatusRead sub
  else if idx < 0x6400 then s.syncRead idx sub
  else if idx = 0x6401 then s.leaseRead sub
  else if idx = 0x6411 then s.cascRead sub
  else if 0x6800 ≤ idx ∧ idx < 0x6804 then s.crcRead (idx - 0x6800) sub
  else if 0x6810 ≤ idx ∧ idx < 0x6C00 then s.healthRead idx sub
  else if 0x6C00 ≤ idx ∧ idx < 0x7000 then s.logEntry n idx sub
  else if 0x7000 ≤ idx then s.modelRead idx sub
  else none

/-- A read of an entry by session context `n`: the state after it, and the value's octets. -/
def State.readEntry (s : State) (src : Peer) (n idx sub : Nat) : State × Octets :=
  if sub = 0 then (s, leBytes 1 (match rowsAt idx with
    | some l => highestSub l
    | none => 0))
  else if idx = 0x6C00 ∧ sub = 3 then s.readLog n
  else if idx = 0x6C10 ∧ sub = 2 then s.readRows n
  else if idx = 0x6000 then s.calRead src.path sub
  else (s, (s.ownedRead n idx sub).getD (s.stored idx sub))

/-- A waveform capture is running (R284). -/
def State.waveBusy (s : State) : Bool := decide (s.metr.wave.state = 2)

/-- The code with which the owner's state refuses a read, 0 where it does not (R62, check 9). -/
def State.readRefusal (s : State) (n idx sub : Nat) : Nat :=
  if idx = 0x48F0 then (s.csReadRefused n sub).getD 0
  else if idx = 0x4880 ∧ sub = 5 ∧ s.waveBusy then 0x0A06
  else (s.ctrlReadRefused idx sub).getD 0

/-! ## Store and restore (R56, R57) -/

/-- The current value of every saveable entry that is not at its default. -/
def State.saveable (s : State) : Tab Val :=
  s.dict.vals.filter (fun e => match entOf (e.1 / 256) (e.1 % 256) with
    | some r => r.save
    | none => false)

/-- A write of `STORE_ALL` (R56). -/
def State.storeCmd (s : State) (v : Nat) : WRes :=
  if v ≠ 0x5AFE then .refuse 0x0A05 s
  else if s.dict.storing.isSome then .refuse 0x0A09 s
  else .done { s with dict := { s.dict with storing := some s.saveable } }

/-- A write of `RESTORE_DEFAULTS` (R57). -/
def State.restoreCmd (s : State) (v : Nat) : WRes :=
  if v ≠ 0xD3FA then .refuse 0x0A05 s
  else if s.dict.storing.isSome then .refuse 0x0A09 s
  else .done { s with keep := { s.keep with saved := {} }, dict := { s.dict with restorePending := true } }

/-- The keep-store write of a store ends (R56): complete, it is the newest saved record and cancels a pending restore (R57). -/
def State.storeEnded (s : State) (ok : Bool) : State :=
  match s.dict.storing with
  | none => s
  | some v =>
    if ok then
      { s with keep := { s.keep with saved := s.keep.saved.write v },
               dict := { s.dict with storing := none, storeResult := 1, restorePending := false } }
    else
      ({ s with dict := { s.dict with storing := none, storeResult := 2 } }).post .house Code.storeFailed 0 [.u32 (s.keep.saved.gen + 1)]

/-! ## Writes -/

/-- A segmented write of an entry is open (R106, R349). -/
def State.stagingOpen (s : State) (idx sub : Nat) : Bool :=
  s.net.sess.any (fun e => match e.2.xfer with
    | some x => x.write && decide (x.index = idx) && decide (x.sub = sub)
    | none => false)

/-- A segmented read of an entry is open; `big` asks for one that reads in place (R69). -/
def State.readOpen (s : State) (idx sub : Nat) (big : Bool) : Bool :=
  s.net.sess.any (fun e => match e.2.xfer with
    | some x => !x.write && decide (x.index = idx) && decide (x.sub = sub) && (x.inPlace || !big)
    | none => false)

/-- `ENERGY_CLEAR` (R278): pending up to the next window boundary; a connection point that is off has none and clears at once. -/
def State.energyClear (s : State) (c : Nat) : State :=
  if cfgPhases (s.cp c).cfg = 0 then s.cpClear c s.clk.dev
  else if (s.cp c).clearPending then s
  else s.setCp c { s.cp c with clearPending := true, clearSkip := (s.cp c).ended.length }

/-- `CAL_CLEAR` (R288). -/
def State.calLateClear (s : State) (c : Nat) : State :=
  (List.range 7).foldl (fun s k => s.setCalStatus (7 * c + k) { s.calSt (7 * c + k) with late := false }) s

/-- Writes of a connection point's entries (R288–R290). -/
def State.cpEntry (s : State) (c sub : Nat) (b : Octets) : WRes :=
  match sub with
  | 0x30 => s.calRequest c (leNat b)
  | 0x31 => .done (s.calAbort (7 * c + leNat b))
  | 0x33 => .done (s.calLateClear c)
  | _ => if sub ≤ 0x0A then s.cpWrite c sub b else .plain

/-- Writes of metering entries. -/
def State.metrWrite (s : State) (idx sub : Nat) (b : Octets) : WRes :=
  if idx < 0x4804 then s.cpEntry (idx - 0x4800) sub b
  else if idx < 0x4814 then .done (s.energyClear (idx - 0x4810))
  else if idx = 0x4820 then s.poWrite (sub - 1) b
  else if idx = 0x4880 ∧ sub = 3 then s.waveArm (leNat b) (s.readOpen 0x4880 5 false)
  else .plain

/-- `REPLAN_NOW` is the cascade's where the cascade is enabled (R481); every other planner entry is the planner's. -/
def State.planEntry (s : State) (idx sub : Nat) (b : Octets) : WRes :=
  if idx = 0x2810 ∧ sub = 5 ∧ s.nat 0x6410 1 ≠ 0 then s.cascWrite idx sub b else s.planWrite idx sub b

/-- A write of `STATE_REQUEST` (R44, R45): a device that operates again actuates its plan (R173). -/
def State.requestState (s : State) (n : Nat) (b : Octets) : WRes :=
  match s.stateRequest (leNat b) (s.roleOf n) s.activating with
  | .done t => .done (if s.holding && t.operating then t.deliver else t)
  | r => r

/-- The device entries: state request, store, restore. -/
def State.devWrite (s : State) (n idx sub : Nat) (b : Octets) : WRes :=
  if idx = 0x1001 then s.requestState n b
  else if idx = 0x1010 ∧ sub = 1 then s.storeCmd (leNat b)
  else if idx = 0x1011 then s.restoreCmd (leNat b)
  else .plain

/-- What the owner of an entry makes of a write by session context `n` (R62, checks 8 to 10 of the owner). -/
def State.ownerWrite (s : State) (n idx sub : Nat) (b : Octets) : WRes :=
  if idx < 0x1100 then s.devWrite n idx sub b
  else if idx < 0x1200 then .plain
  else if idx < 0x1400 then s.canWrite idx sub b
  else if idx < 0x1800 then s.sessWrite (idx - 0x1400) sub b
  else if idx < 0x2000 then s.keyWrite (idx - 0x1800) sub b
  else if idx < 0x2800 then s.modelWrite idx sub (s.stagingOpen 0x2000 1) b
  else if idx < 0x2830 then s.planEntry idx sub b
  else if idx < 0x2840 then s.hydWrite sub b
  else if idx < 0x3000 then s.estimWrite sub b
  else if idx < 0x4000 then s.ctrlWrite idx sub b
  else if idx < 0x4800 then s.heatWrite n idx sub b
  else if 0x4830 ≤ idx ∧ idx < 0x4850 then s.heatWrite n idx sub b
  else if idx < 0x48F0 then s.metrWrite idx sub b
  else if idx = 0x48F0 then s.heatWrite n idx sub b
  else if idx = 0x5001 then s.powerWrite sub b
  else if idx < 0x5800 then s.logicWrite n idx sub (s.stagingOpen 0x5000 3) b
  else if idx < 0x6000 then s.canWrite idx sub b
  else if idx < 0x6010 then s.calWrite idx sub b
  else if idx = 0x6010 then (if sub = 2 then s.timeSource b else .plain)
  else if idx < 0x6400 then .plain
  else if idx < 0x6410 then s.leaseWrite idx sub b
  else if idx < 0x6800 then s.cascWrite idx sub b
  else if idx < 0x6810 then s.crcWrite (idx - 0x6800) sub b
  else if idx < 0x6C00 then s.healthWrite idx sub b
  else if idx < 0x7000 then s.logWrite n idx sub b
  else s.modelWrite idx sub false b

/-- A write that passed the checks before its owner's: the owner's answer, a value without behaviour of its own stored. -/
def State.applyWrite (s : State) (n idx sub : Nat) (b : Octets) : WRes :=
  match s.ownerWrite n idx sub b with
  | .plain => .done (s.store idx sub b)
  | r => r

end Machine
end Sys2Proof
end

