-- ==== Sys2Proof/Machine/Access.lean ====
section
/-! DEFINITION. The dictionary server (R60–R69): the checks of R62 in their order, expedited accesses, segmented transfers, the
repeat of R63, session PDUs, and the transport's refusals (R61, R394). -/

namespace Sys2Proof
namespace Machine

/-- What the server answers a request with: an abort; a successful response with its flags and data; octets that answer as they
are; nothing now, the response being owed. -/
inductive Reply where
  | abort (code : Nat)
  | good (flags : Nat) (b : Octets)
  | octets (b : Octets)
  | owed
  deriving DecidableEq, Repr

/-- A state and a reply. -/
structure Served where
  s : State
  reply : Reply

/-- Refuse. -/
def State.no (s : State) (code : Nat) : Served := { s := s, reply := .abort code }
/-- Answer. -/
def State.yes (s : State) (flags : Nat) (b : Octets) : Served := { s := s, reply := .good flags b }

/-! ## Checks 1 to 6 (R62) -/

/-- A session PDU (R387). -/
def Pdu.isSession (p : Pdu) : Bool := decide (0x10 ≤ p.cs)

/-- The CAN class of a request does not fit its `CRIT` (R70). -/
def Req.wrongClass (r : Req) : Bool :=
  match r.src with
  | .can _ _ => decide (r.cls ≠ r.pdu.cls)
  | _ => false

/-- A session PDU is malformed (R387). -/
def Pdu.badSession (p : Pdu) : Bool :=
  decide (p.index ≠ 0) || decide (p.sub ≠ 0) || decide (p.resv ≠ 0) ||
  (decide (p.cs = 0x10) && (decide (p.session ≠ 0) || decide (slice p.data 1 3 ≠ zeros (min 3 (p.data.length - 1))))) ||
  (decide (p.cs ≠ 0x12) && p.crit)

/-- Check 1 (R62, R64, R70, R387): the PDU is malformed. -/
def Req.malformed (r : Req) : Bool :=
  let p := r.pdu
  !csDefined p.cs || decide (4 ≤ p.flags) || r.wrongClass ||
  (if p.isSession then p.badSession
   else if p.cs = 5 then p.crit && !p.last
   else decide (p.resv ≠ 0))

/-- Check 2 (R62, R389): the session is open and the source is its partner. -/
def State.authentic (s : State) (r : Req) : Bool :=
  decide (1 ≤ r.pdu.session) && decide ((s.session r.pdu.session).state = .opened) && decide ((s.session r.pdu.session).peer = r.src)

/-- The entry is a key slot's `KEY_WRAPPED`. -/
def keyWrapped (idx sub : Nat) : Bool := decide (0x1800 ≤ idx) && decide (idx < 0x1840) && decide (sub = 1)

/-- A write of an entry by a request is the first key load (R386): no slot holds a key, and on a network path it is an expedited
WRITE with `SESSION` 0. -/
def State.firstLoad (s : State) (r : Req) (idx sub : Nat) : Bool :=
  s.noKeys && keyWrapped idx sub && (!r.net || (decide (r.pdu.cs = 2) && decide (r.pdu.session = 0)))

/-- The groups that a peer reaches (R54). -/
def peerGroup (idx : Nat) : Bool := (decide (0x6000 ≤ idx) && decide (idx ≤ 0x6020)) || (decide (0x6400 ≤ idx) && decide (idx ≤ 0x6411))

/-- The entry alters protected state (R55): key slots, energy registers and channel and pulse counts, the lease commands. -/
def isProtected (idx sub : Nat) : Bool :=
  (decide (0x1800 ≤ idx) && decide (idx < 0x1840) && decide (sub ≤ 2)) ||
  (decide (0x4810 ≤ idx) && decide (idx < 0x4814) && decide (sub = 0x1E)) ||
  (decide (0x4200 ≤ idx) && decide (idx < 0x4400) && decide (sub = 6)) ||
  (decide (0x4830 ≤ idx) && decide (idx < 0x4850) && decide (sub = 4)) ||
  (decide (idx = 0x6400) && (decide (sub = 0x0B) || decide (sub = 0x0C)))

/-- What an access does with its entry. -/
inductive Way where
  | read | write | describe
  deriving DecidableEq, Repr

/-- The context's slot has `KEY_ADMIN` (R386). -/
def State.keyAdmin (s : State) (n : Nat) : Bool :=
  decide ((s.session n).state = .opened) &&
  (match s.keySlot (s.session n).slot with
   | some k => bitOf k.usage 1
   | none => false)

/-- A kill of a peer session from a network path (R395). -/
def State.peerKill (s : State) (r : Req) (idx sub : Nat) : Bool :=
  r.net && decide (0x1400 ≤ idx) && decide (idx < 0x1500) && decide (sub = 0x0B) && decide ((s.session (idx - 0x1400)).role = 3) &&
  decide ((s.session (idx - 0x1400)).state ≠ .free)

/-- Check 4 (R62): role and level. -/
def State.roleCode (s : State) (r : Req) (w : Way) (idx sub : Nat) (e : Ent) : Nat :=
  let role := s.roleOf r.ctx
  if decide (w = .write) && s.firstLoad r idx sub then 0
  else if role = 3 ∧ ¬ peerGroup idx then 0x0A0F
  else if e.service ∧ role ≠ 2 then 0x0A0F
  else if decide (w = .write) && s.peerKill r idx sub then 0x0A0F
  else if w = .write ∧ 0x1800 ≤ idx ∧ idx < 0x1840 ∧ sub ≤ 2 ∧ sub ≠ 0 ∧ ¬ s.keyAdmin r.ctx then 0x0A0F
  else if role = 0 ∧ e.expert then 0x0A03
  else 0

/-- Check 5 (R62): direction. -/
def dirCode (w : Way) (e : Ent) : Nat :=
  match w, e.right with
  | .write, .ro => 0x0A02
  | .read, .wo => 0x0A0B
  | _, _ => 0

/-- Checks 3 to 5 of an access to an entry: the row, or the code. -/
def State.entryCode (s : State) (r : Req) (w : Way) (idx sub : Nat) : Option Ent × Nat :=
  match entAt idx sub with
  | none => (none, 0x0A01)
  | some e =>
    let c := s.roleCode r w idx sub e
    (some e, if c ≠ 0 then c else dirCode w e)

/-- A critical trailer is required for a write (R53, R55, R77, R386). -/
def State.needsTrailer (s : State) (r : Req) (idx sub : Nat) (e : Ent) : Bool :=
  !s.firstLoad r idx sub &&
  (isProtected idx sub || (decide (e.right = .rwc) && !(decide (r.src = .host) && s.power.straps.hTrust)))

/-- Check 6 (R392): the state after, and the code. A trailer that is present is checked even where none is required (R77). -/
def State.trailerCheck (s : State) (r : Req) (cs idx sub : Nat) (value : Octets) (required : Bool) : State × Nat :=
  s.trailer r.ctx cs r.pdu idx sub value required

/-! ## Checks 7 to 10 (R62) -/

/-- An OCTETS entry of one fixed length: its default fills it, or its owner's layout does. -/
def Ent.fixed (e : Ent) (idx sub : Nat) : Bool :=
  decide (e.ty = .octets) && decide (0 < e.maxLen) &&
  (decide (e.dflt.octs.length = e.maxLen) || (decide (idx = 0x2800) && decide (sub = 3)) ||
   (decide (0x5840 ≤ idx) && decide (idx < 0x5848) && decide (sub = 0x41)))

/-- Check 7 of a value: its length does not fit the entry. -/
def Ent.badLength (e : Ent) (idx sub : Nat) (b : Octets) : Bool :=
  match e.ty.size with
  | some n => decide (b.length ≠ n)
  | none => decide (e.maxLen < b.length) || decide ((b.length : Int) < e.lo) || (e.fixed idx sub && decide (b.length ≠ e.maxLen))

/-- Check 7 of a `WRITE_INIT`: its total does not fit the entry. -/
def Ent.badTotal (e : Ent) (n : Nat) : Bool :=
  match e.ty.size with
  | some k => decide (n ≠ k)
  | none => decide (e.maxLen < n)

/-- Check 8 of a value. -/
def Ent.badValue (e : Ent) (b : Octets) : Bool := !e.within (decVal e.ty b) || (decide (e.ty = .string) && !utf8Ok b)

/-- In PARKED only these entries are accessible (R546). -/
def State.shut (s : State) (idx : Nat) : Bool :=
  decide (s.dev.state = .parked) && !(decide (idx = 0x1000) || decide (idx = 0x1001) || decide (idx = 0x5001))

/-- The code with which a write is refused while PARKED: the owner's length and range checks (7, 8) come first, then check 9. -/
def shutCode : WRes → Nat
  | .refuse 0x0A04 _ => 0x0A04
  | .refuse 0x0A05 _ => 0x0A05
  | _ => 0x0A06

/-- Checks 7 (of the value) to 10 of a write, and its effect. DESIGN CHOICE (log 90): R69 names `WRITE_INIT` and `WRITE` where an entry
is being read in place; the `LAST` SEGMENT of a write opened before that read is refused in the same way. -/
def State.writeValue (s : State) (r : Req) (idx sub : Nat) (e : Ent) (b : Octets) (flags : Nat) : Served :=
  if e.badLength idx sub b then s.no 0x0A04
  else if e.badValue b then s.no 0x0A05
  else if s.shut idx then s.no (shutCode (s.applyWrite r.ctx idx sub b))
  else match s.applyWrite r.ctx idx sub b with
  | .refuse c s => s.no c
  | .plain => s.yes flags []
  | .done t => if s.readOpen idx sub true then s.no 0x0A09 else t.yes flags []
  | .later t => if s.readOpen idx sub true then s.no 0x0A09 else { s := t, reply := .owed }

/-! ## Expedited accesses (R65–R67) -/

/-- A `WRITE`. -/
def State.serveWrite (s : State) (r : Req) : Served :=
  let p := r.pdu
  match s.entryCode r .write p.index p.sub with
  | (some e, 0) =>
    let c := s.trailerCheck r 2 p.index p.sub p.data (s.needsTrailer r p.index p.sub e)
    if c.2 ≠ 0 then c.1.no c.2
    else if r.limit < p.data.length then c.1.no 0x0A04
    else c.1.writeValue r p.index p.sub e p.data 0
  | (_, c) => s.no c

/-- What a read would come to after checks 3 to 6: state and value, or the code. -/
def State.readValue (s : State) (r : Req) (limit : Nat) : Served :=
  let p := r.pdu
  match s.entryCode r .read p.index p.sub with
  | (some _, 0) =>
    let c := s.trailerCheck r p.cs p.index p.sub [] false
    if c.2 ≠ 0 then c.1.no c.2
    else
      let v := c.1.readEntry r.src r.ctx p.index p.sub
      if p.data.length ≠ 0 ∨ limit < v.2.length then c.1.no 0x0A04
      else if c.1.shut p.index then c.1.no 0x0A06
      else if c.1.readRefusal r.ctx p.index p.sub ≠ 0 then c.1.no (c.1.readRefusal r.ctx p.index p.sub)
      else v.1.yes 0 v.2
  | (_, c) => s.no c

/-- A `DESCRIBE` (R66). -/
def State.serveDescribe (s : State) (r : Req) : Served :=
  let p := r.pdu
  match s.entryCode r .describe p.index p.sub with
  | (some e, 0) =>
    let c := s.trailerCheck r 6 p.index p.sub [] false
    if c.2 ≠ 0 then c.1.no c.2
    else if p.data.length ≠ 0 then c.1.no 0x0A04
    else if c.1.shut p.index then c.1.no 0x0A06
    else c.1.yes 0 e.describe
  | (_, c) => s.no c

/-! ## Segmented transfers (R68, R69) -/

/-- Set the transfer of a context. -/
def State.setXfer (s : State) (n : Nat) (x : Option Transfer) : State := s.modSess n (fun v => { v with xfer := x })

/-- The transfer of a context is discarded, and the request refused. -/
def State.dropXfer (s : State) (n code : Nat) : Served := (s.setXfer n none).no code

/-- A transfer is completed: the `TAG` and the final response stay (R68). -/
def State.finishXfer (s : State) (n : Nat) (p : Pdu) (b : Octets) : State :=
  s.modSess n (fun v => { v with xfer := none, doneTag := some p.tag, doneResp := b })

/-- A `READ_INIT`. -/
def State.serveReadInit (s : State) (r : Req) : Served :=
  let p := r.pdu
  match s.readValue r 4294967295 with
  | { s := t, reply := .good _ b } =>
    if (s.session r.ctx).xfer.isSome then (s.trailerCheck r 3 p.index p.sub [] false).1.no 0x0A09
    else
      (t.setXfer r.ctx (some
        { write := false, index := p.index, sub := p.sub, total := b.length, next := 0, prev := none, prevResp := [],
          data := if b.length ≤ 65536 then b else [], inPlace := decide (65536 < b.length), tag := p.tag, since := s.now })).yes 0
        (leBytes 4 b.length)
  | v => v

/-- The octets staged for the open write transfers of all sessions (R68). -/
def State.staged (s : State) : Nat :=
  (s.net.sess.map (fun e => match e.2.xfer with
    | some x => if x.write then x.total else 0
    | none => 0)).sum

/-- The staging there is (R68, R72): room for the largest entry, and a free amount beyond it (log 91). -/
def stagingRoom : Nat := 16777216 + Config.freeStaging

/-- The owner's state forbids a write of an entry whatever its value (R62, check 9): writing the value the entry holds is refused with
0x0A06. -/
def State.stateForbids (s : State) (r : Req) (idx sub : Nat) (e : Ent) : Bool :=
  decide (e.right ≠ .wo) &&
  (match s.applyWrite r.ctx idx sub (s.readEntry r.src r.ctx idx sub).2 with
   | .refuse c _ => decide (c = 0x0A06)
   | _ => false)

/-- A `WRITE_INIT`. -/
def State.serveWriteInit (s : State) (r : Req) : Served :=
  let p := r.pdu
  match s.entryCode r .write p.index p.sub with
  | (some e, 0) =>
    let c := s.trailerCheck r 4 p.index p.sub p.data false
    if c.2 ≠ 0 then c.1.no c.2
    else if p.data.length ≠ 4 ∨ e.badTotal (leNat p.data) then c.1.no 0x0A04
    else if c.1.shut p.index ∨ c.1.stateForbids r p.index p.sub e then c.1.no 0x0A06
    else if (c.1.session r.ctx).xfer.isSome ∨ c.1.readOpen p.index p.sub true ∨
        (p.index = 0x2000 ∧ p.sub = 1 ∧ c.1.model.stage.status = 3) ∨
        (p.index = 0x5000 ∧ p.sub = 3 ∧ c.1.logic.stage.status = 3) then c.1.no 0x0A09
    else if stagingRoom < c.1.staged + leNat p.data then c.1.no 0x0A0A
    else
      (c.1.setXfer r.ctx (some
        { write := true, index := p.index, sub := p.sub, total := leNat p.data, next := 0, prev := none, prevResp := [],
          data := [], inPlace := false, tag := p.tag, since := c.1.now })).yes 0 []
  | (_, c) => s.no c

/-- The `LAST` SEGMENT of a write: trailer, range and state checks, and the effect. -/
def State.completeWrite (s : State) (r : Req) (x : Transfer) : Served :=
  let v := x.data ++ r.pdu.data
  let s := s.setXfer r.ctx none
  match entAt x.index x.sub with
  | none => s.no 0x0A01
  | some e =>
    let c := s.trailerCheck r 4 x.index x.sub v (s.needsTrailer r x.index x.sub e)
    if c.2 ≠ 0 then c.1.no c.2
    else
      match c.1.writeValue r x.index x.sub e v 2 with
      | { s := t, reply := .good f b } => (t.modSess r.ctx (fun v => { v with doneTag := some r.pdu.tag, doneResp := r.pdu.good f b })).yes f b
      | w => w

/-- A SEGMENT at the expected offset of an open write. -/
def State.writeSegment (s : State) (r : Req) (x : Transfer) : Served :=
  let p := r.pdu
  let e := x.next + p.data.length
  if p.last then (if e = x.total then s.completeWrite r x else s.dropXfer r.ctx 0x0A04)
  else if x.total < e then s.dropXfer r.ctx 0x0A04
  else
    (s.setXfer r.ctx (some { x with
      data := x.data ++ p.data, prev := some x.next, prevResp := p.good 0 [], next := e, tag := p.tag, since := s.now })).yes 0 []

/-- The value a read transfer returns from: its snapshot, or the entry as it stands (R69). -/
def State.xferData (s : State) (r : Req) (x : Transfer) : Octets :=
  if x.inPlace then (s.readEntry r.src r.ctx x.index x.sub).2 else x.data

/-- A SEGMENT at the next offset of an open read. -/
def State.readSegment (s : State) (r : Req) (x : Transfer) : Served :=
  let n := min r.segment (x.total - x.next)
  let b := slice (s.xferData r x) x.next n
  if x.next + n = x.total then
    (s.finishXfer r.ctx r.pdu (r.pdu.good 2 b)).yes 2 b
  else
    (s.setXfer r.ctx (some { x with
      prev := some x.next, prevResp := r.pdu.good 0 b, next := x.next + n, tag := r.pdu.tag, since := s.now })).yes 0 b

/-- A SEGMENT whose offset is the previous one: the previous response again, under the repeat's own header (R68). -/
def State.again (s : State) (r : Req) (x : Transfer) : Served :=
  { s := s.setXfer r.ctx (some { x with tag := r.pdu.tag, since := s.now }),
    reply := .good (u8At x.prevResp 3) (x.prevResp.drop 10) }

/-- A SEGMENT that meets an open transfer (R68). -/
def State.segment (s : State) (r : Req) (x : Transfer) : Served :=
  let p := r.pdu
  if p.offset = x.next then (if x.write then s.writeSegment r x else s.readSegment r x)
  else if x.prev = some p.offset then s.again r x
  else s.dropXfer r.ctx 0x0A0C

/-- A `SEGMENT` (R68). A trailer on the `LAST` SEGMENT of a write is checked over the whole value where the write is applied; one on
a SEGMENT of a read is checked here (R77), with no value (log 92). -/
def State.serveSegment (s : State) (r : Req) : Served :=
  let p := r.pdu
  match (s.session r.ctx).xfer with
  | none => s.no 0x0A0C
  | some x =>
    if p.crit ∧ ¬ p.last then s.dropXfer r.ctx 0x0A0E
    else if r.limit < p.data.length ∨ (¬ x.write ∧ p.data.length ≠ 0) then s.dropXfer r.ctx 0x0A04
    else if x.write then s.segment r x
    else
      let c := s.trailerCheck r 5 x.index x.sub [] false
      if c.2 ≠ 0 then c.1.no c.2 else c.1.segment r x

/-- The echo of an `ABORT`: a response never carries a critical trailer (R65). -/
def Pdu.echo (p : Pdu) : Octets := { p with flags := p.flags - b2n p.crit, trailer := none }.octets

/-- An `ABORT` from the client (R68); a trailer it carries is checked (R77). -/
def State.serveAbort (s : State) (r : Req) : Served :=
  let c := s.trailerCheck r 7 r.pdu.index r.pdu.sub r.pdu.data false
  let v := c.1.session r.ctx
  if c.2 ≠ 0 then c.1.no c.2
  else if v.xfer.isSome then { s := c.1.setXfer r.ctx none, reply := .octets r.pdu.echo }
  else if v.doneTag = some r.pdu.tag then { s := c.1, reply := .octets v.doneResp }
  else { s := c.1, reply := .octets r.pdu.echo }

/-! ## Session PDUs (R387, R389) -/

/-- The data length of a session PDU (R387). -/
def sessionLength (cs : Nat) : Nat := if cs = 0x10 then 24 else if cs = 0x11 then 12 else 0

/-- An answer of chapter 13 as a reply. -/
def Ans.served (a : Ans) : Served := if a.code = 0 then a.s.yes 0 a.data else a.s.no a.code

/-- A `CLOSE`: on a network path its session must be open with the source as partner. -/
def State.serveClose (s : State) (r : Req) : Served :=
  if r.net ∧ ¬ s.authentic r then s.no 0x0A07
  else (s.closeReq r.ctx r.pdu).served

/-- An `OPEN`, `CONFIRM` or `CLOSE` that is well formed. -/
def State.serveSession (s : State) (r : Req) : Served :=
  let p := r.pdu
  if p.cs = 0x12 then s.serveClose r
  else if p.data.length ≠ sessionLength p.cs then s.no 0x0A04
  else if p.cs = 0x10 then (s.openReq r.src p.data).served
  else if r.net ∧ p.session = 0 then s.no 0x0A07
  else (s.confirmReq r.ctx r.src p).served

/-! ## A request (R60–R63) -/

/-- The request by its specifier, after checks 1 and 2. -/
def State.serveCs (s : State) (r : Req) : Served :=
  match r.pdu.cs with
  | 1 => s.readValue r r.segment
  | 2 => s.serveWrite r
  | 3 => s.serveReadInit r
  | 4 => s.serveWriteInit r
  | 5 => s.serveSegment r
  | 6 => s.serveDescribe r
  | 7 => s.serveAbort r
  | _ => s.serveSession r

/-- The octets of a reply to a request; none where the response is owed. -/
def Reply.bytes (p : Pdu) : Reply → Option Octets
  | .abort c => some (p.abort c)
  | .good f b => some (p.good f b)
  | .octets b => some b
  | .owed => none

/-- A reply counts as accepted (R395): it is no ABORT. -/
def Reply.counts : Reply → Bool
  | .abort _ => false
  | _ => true

/-- The context still belongs to the requester: the host's always, another's while its session is open. -/
def State.stillOf (s : State) (r : Req) : Bool := !r.net || decide ((s.session r.ctx).state = .opened)

/-- The request and its response are kept for a repeat (R63). -/
def State.remember (s : State) (r : Req) (v : Reply) : State :=
  if s.stillOf r then
    s.modSess r.ctx (fun x => { x with
      lastReq := some r, lastResp := (v.bytes r.pdu).getD [],
      accepted := if x.state = .opened ∧ v.counts then x.accepted + 1 else x.accepted })
  else s

/-- Send a reply; an owed one waits under its entry's key. -/
def State.reply (s : State) (r : Req) (v : Reply) (k : Nat) : State :=
  match v.bytes r.pdu with
  | some b => s.answer r b
  | none => { s with net := { s.net with owed := Tab.insert s.net.owed k r } }

/-- The key under which a request's response would be owed: its entry, or the entry of its open transfer. -/
def State.owedKey (s : State) (r : Req) : Nat :=
  match r.pdu.cs, (s.session r.ctx).xfer with
  | 5, some x => key x.index x.sub
  | _, _ => key r.pdu.index r.pdu.sub

/-- A request that belongs to a context, after check 2: the idle time restarts (R390), a repeat gets its response again (R63,
R393), anything else is served and remembered. -/
def State.serveIn (s : State) (r : Req) : State :=
  let s := s.modSess r.ctx (fun v => { v with idleSince := s.now })
  let v := s.session r.ctx
  if v.lastReq = some r then (if v.lastResp.isEmpty then s else s.answer r v.lastResp)
  else
    let k := s.owedKey r
    let a := s.serveCs r
    (a.s.remember r a.reply).reply r a.reply k

/-- Only reads of the identity and device-state entries are served before initialisation begins (R536, R537). -/
def Req.early (r : Req) : Bool :=
  ((decide (r.pdu.cs = 1) || decide (r.pdu.cs = 3)) && (decide (r.pdu.index = 0x1000) || decide (r.pdu.index = 0x1001))) ||
  decide (r.pdu.cs = 5) || decide (r.pdu.cs = 7)

/-- The device is in a state before its initialisation. -/
def State.booting (s : State) : Bool :=
  decide (s.dev.state = .off) || decide (s.dev.state = .boot) || decide (s.dev.state = .selftest)

/-- The path carries requests in the device's state (R536, R546). -/
def State.pathServed (s : State) (src : Peer) : Bool :=
  match src with
  | .host => true
  | .udp _ _ _ => !s.booting
  | .can _ _ => !s.booting && decide (s.dev.state ≠ .parked)

/-- An abort that belongs to no context. -/
def State.turnAway (s : State) (r : Req) (code : Nat) : State := s.answer r (r.pdu.abort code)

/-- A CRIT on a SEGMENT without LAST discards the open transfer of its session (R68). -/
def State.dropBadSegment (s : State) (r : Req) : State :=
  if r.pdu.cs = 5 ∧ r.pdu.crit ∧ ¬ r.pdu.last ∧ s.authentic r then s.setXfer r.ctx none else s

/-- A request of a network path: checks 1 and 2, then its session (R62). -/
def State.serveNet (s : State) (r : Req) : State :=
  if r.malformed then (s.dropBadSegment r).turnAway r 0x0A0E
  else if r.pdu.isSession ∧ ¬ (r.pdu.cs = 0x12 ∧ s.authentic r) then
    let a := s.serveSession r
    a.s.reply r a.reply 0
  else if s.firstLoad r r.pdu.index r.pdu.sub then
    let a := s.serveWrite r
    a.s.reply r a.reply 0
  else if ¬ s.authentic r then s.turnAway r 0x0A07
  else s.serveIn r

/-- A request of the host port (R77): checks 1 and 2 do not apply. -/
def State.serveHost (s : State) (r : Req) : State :=
  if s.booting && !r.early then s.turnAway r 0x0A06 else s.serveIn r

/-- The dictionary server serves one request (R60). -/
def State.serveReq (s : State) (r : Req) : State :=
  if ¬ s.pathServed r.src then s else if r.net then s.serveNet r else s.serveHost r

/-! ## Subsoil words that stay bad (R37) -/

/-- The subsoil words of an entry's readout that stay bad after three re-reads (R37), by the number of the element they hold: trace
records (R264) and positions of a repetitive table. -/
def State.readLoss (s : State) (idx sub : Nat) (bad : List Nat) : State :=
  if 0x3C00 ≤ idx ∧ idx < 0x3C20 ∧ sub = 4 then bad.foldl (fun s i => s.traceLoss (idx - 0x3C00) i) s
  else if 0x3800 ≤ idx ∧ idx < 0x3C00 ∧ sub = 5 then bad.foldl (fun s i => s.tableLoss (idx - 0x3800) i) s
  else s

/-- Those of some elements of a readout that lie in octets `[off, off + n)`. -/
def elemsIn (idx off n : Nat) (bad : List Nat) : List Nat :=
  let k := if 0x3C00 ≤ idx then 4 else 2
  bad.filter (fun i => decide (off < k * (i + 1)) && decide (k * i < off + n))

/-- A request served, `bad` being the elements whose words stay bad when it reads them: an expedited read, a `READ_INIT` that takes a
snapshot, a `SEGMENT` of a read in place. A request that reads nothing, or is a retransmission, meets none. -/
def State.lossy (s : State) (r : Req) (bad : List Nat) (f : State → State) : State :=
  let u := f s
  match r.pdu.cs with
  | 1 =>
    if (s.session r.ctx).lastReq = some r then u
    else match (s.readValue r r.segment).reply with
    | .good _ b => f (s.readLoss r.pdu.index r.pdu.sub (elemsIn r.pdu.index 0 b.length bad))
    | _ => u
  | 3 =>
    match (s.session r.ctx).xfer, (u.session r.ctx).xfer with
    | none, some x => if x.write || x.inPlace then u else f (s.readLoss x.index x.sub bad)
    | _, _ => u
  | 5 =>
    match (s.session r.ctx).xfer with
    | none => u
    | some x =>
      if x.write ∨ ¬ x.inPlace ∨ r.pdu.offset ≠ x.next ∨ (u.session r.ctx).xfer = some x then u
      else f (s.readLoss x.index x.sub (elemsIn x.index x.next r.segment bad))
  | _ => u

/-! ## Transport (R61, R394) -/

/-- The token bucket of a session after the time that has passed, in 10⁻⁹ of a request. -/
def State.tokensNow (s : State) (n : Nat) : Nat :=
  let v := s.session n
  let rate := s.nat (0x1400 + n) 6
  min (1000000000 * rate) (v.tokens + (s.now - v.tokenAt) * rate)

/-- The context whose bucket a request draws on: an open session with the source as partner. -/
def State.metered (s : State) (r : Req) : Bool :=
  decide ((s.session r.ctx).state = .opened) && decide ((s.session r.ctx).peer = r.src)

/-- The bucket of R394: the state after, and whether the request may go on. -/
def State.takeToken (s : State) (r : Req) : State × Bool :=
  if ¬ s.metered r then (s, true)
  else
    let t := s.tokensNow r.ctx
    if t < 1000000000 then
      (s.modSess r.ctx (fun v => { v with tokens := t, tokenAt := s.now, rateRefused := v.rateRefused + 1 }), false)
    else (s.modSess r.ctx (fun v => { v with tokens := t - 1000000000, tokenAt := s.now }), true)

/-- A request completely received (R60, R61, R394): refused by the transport, or queued. -/
def State.transport (s : State) (r : Req) : State :=
  if ¬ s.pathServed r.src then s
  else if ¬ s.hasRoom .request then s.turnAway r 0x0A09
  else
    let a := s.takeToken r
    if ¬ a.2 then a.1.turnAway r 0x0A09
    else
      let s := a.1.pushQ .request (.req r)
      if r.net then s else { s with net := { s.net with host := { s.net.host with busy := true } } }

/-- A poisoned request is discarded and counted as malformed on its path (R410). -/
def State.reqPoisoned (s : State) (src : Peer) : State :=
  match src with
  | .can p _ => s.modPort p (fun v => { v with malformed := v.malformed + 1 })
  | .udp m _ _ => s.modMac m (fun v => { v with dapBad := v.dapBad + 1 })
  | .host => { s with net := { s.net with host := { s.net.host with busy := false } } }

/-- The server takes the oldest request that is visible to it; `bad` are the elements whose words stay bad as it reads them. -/
def State.serveNext (s : State) (bad : List Nat) : State :=
  match s.frontQ .request with
  | none => s
  | some (.req r, false) => (s.popQ .request).lossy r bad (fun s => s.serveReq r)
  | some (.req r, true) => (s.popQ .request).reqPoisoned r.src
  | some _ => s.popQ .request

/-- An access made by a command: the transport's bucket, then the server (R60, R394). -/
def State.access (s : State) (r : Req) : State :=
  if ¬ s.pathServed r.src then s
  else
    let a := s.takeToken r
    if a.2 then a.1.serveReq r else a.1.turnAway r 0x0A09

/-! ## Time and validations -/

/-- No SEGMENT for 1 s (R68): the transfer is discarded, and `ABORT` 0x0A0D is sent. DESIGN CHOICE (log 89): the host port holds one
response (R74), so there the ABORT is not sent while a request is queued or a response waits. -/
def State.xferTimeout (s : State) (n : Nat) : State :=
  match (s.session n).xfer with
  | none => s
  | some x =>
    if s.now < x.since + 1000000000 then s
    else
      let p : Pdu := { cs := 7, session := n, tag := x.tag, flags := 0, index := x.index, sub := x.sub, resv := 0, length := 2,
                       data := leBytes 2 0x0A0D, trailer := none }
      let dst := if n = 0 then Peer.host else (s.session n).peer
      let s := s.setXfer n none
      if n = 0 ∧ (s.net.host.busy ∨ s.net.host.resp.isSome) then s else s.sendTo dst p (p.respond 7 n 0 p.data)

/-- The response owed for an entry is sent (R106, R349): success, or an abort code. -/
def State.answerOwed (s : State) (k : Nat) (v : Reply) : State :=
  match Tab.find s.net.owed k with
  | none => s
  | some r =>
    let s := { s with net := { s.net with owed := Tab.erase s.net.owed k } }
    let b := (v.bytes r.pdu).getD []
    let s := if s.stillOf r ∧ (s.session r.ctx).lastReq = some r then
        s.modSess r.ctx (fun x => { x with
          lastResp := b,
          doneTag := if r.pdu.cs = 5 ∧ v.counts then some r.pdu.tag else x.doneTag,
          doneResp := if r.pdu.cs = 5 ∧ v.counts then b else x.doneResp })
      else s
    s.answer r b

end Machine
end Sys2Proof
end

