-- ==== Sys2Proof/Machine/Dap.lean ====
section
/-! DEFINITION. The accesses as commands: expedited and segmented reads and writes, DESCRIBE, ABORT, session PDUs, and what ends them.
A command that names an access stands for the moment at which the server takes it. -/

namespace Sys2Proof
namespace Machine

/-- One access at a moment. -/
def accessCmd (t : Nat) (r : Req) (s : State) : Out := onIsland .house t s (fun s => s.access r)

/-- The most data that the path of an access carries in a SEGMENT, in one with `LAST`, and in an expedited write (R67). -/
def Acc.room (a : Acc) (crit : Bool) : Nat :=
  match a.src with
  | .can _ _ => if crit then 34 else 54
  | _ => 1024

/-- The SEGMENTs of a write from an offset on: full ones, then the `LAST` one with the trailer. -/
def State.sendSegments (s : State) (a : Acc) : Nat → Nat → Octets → State
  | 0, _, _ => s
  | k + 1, off, b =>
    if b.length ≤ a.room a.crit.isSome then s.access (a.req (a.segment off true b))
    else
      let n := a.room false
      let c := { a with crit := none }
      (s.access (c.req (c.segment off false (b.take n)))).sendSegments a k (off + min n b.length) (b.drop n)

/-- A whole value written (R67, R68): in one expedited `WRITE` where the path's limit allows it, else in a segmented transfer, each of
its PDUs an access. -/
def State.writeWhole (s : State) (a : Acc) (idx sub : Nat) (b : Octets) : State :=
  if b.length ≤ a.room a.crit.isSome then s.access (a.req (a.pdu 2 0 idx sub b))
  else
    let c := { a with crit := none }
    (s.access (c.req (c.pdu 4 0 idx sub (leBytes 4 b.length)))).sendSegments a (b.length + 1) 0 b

/-- A command that writes a value to an entry; `ok` says whether the units it names exist. -/
def writeCmd (ok : Bool) (t : Nat) (a : Acc) (idx sub : Nat) (b : Octets) (s : State) : Out :=
  onUnit ok .house t s (fun s => s.writeWhole a idx sub b)

/-- WRITE (R62): an expedited write of any entry; `crit` is what the access finds of the critical records it reads (R25). -/
def execWrite (t : Nat) (a : Acc) (idx sub : Nat) (v : Octets) (crit : List CritRead) (s : State) : Out :=
  onIsland .house t s (fun s => (s.critReads crit).access (a.req (a.pdu 2 0 idx sub v)))

/-- READ_INIT (R68, R37). -/
def execReadInit (t : Nat) (a : Acc) (idx sub : Nat) (bad : List Nat) (s : State) : Out :=
  onIsland .house t s (fun s => s.lossy (a.req (a.pdu 3 0 idx sub [])) bad (fun s => s.access (a.req (a.pdu 3 0 idx sub []))))
/-- WRITE_INIT (R68). -/
def execWriteInit (t : Nat) (a : Acc) (idx sub total : Nat) (s : State) : Out :=
  accessCmd t (a.req (a.pdu 4 0 idx sub (leBytes 4 total))) s
/-- SEGMENT_WRITE (R68). -/
def execSegmentWrite (t : Nat) (a : Acc) (offset : Nat) (last : Bool) (b : Octets) (s : State) : Out :=
  accessCmd t (a.req (a.segment offset last b)) s
/-- SEGMENT_READ (R68, R37). -/
def execSegmentRead (t : Nat) (a : Acc) (offset : Nat) (bad : List Nat) (s : State) : Out :=
  onIsland .house t s (fun s => s.lossy (a.req (a.segment offset false [])) bad (fun s => s.access (a.req (a.segment offset false []))))
/-- DESCRIBE (R66). -/
def execDescribe (t : Nat) (a : Acc) (idx sub : Nat) (s : State) : Out := accessCmd t (a.req (a.pdu 6 0 idx sub [])) s
/-- ABORT (R68) from the client, with its code. -/
def execAbort (t : Nat) (a : Acc) (idx sub code : Nat) (s : State) : Out := accessCmd t (a.req (a.pdu 7 0 idx sub (leBytes 2 code))) s
/-- TRANSFER_TIMEOUT (R68) of session context `n`. -/
def execTransferTimeout (t n : Nat) (s : State) : Out :=
  onUnit (decide (n < 256)) .house t s (fun s => s.xferTimeout n)

/-- LOG_READ (R513). -/
def execLogRead (t : Nat) (a : Acc) (s : State) : Out := accessCmd t (a.req (a.pdu 1 0 0x6C00 3 [])) s
/-- ALARM_ROWS (R528). -/
def execAlarmRows (t : Nat) (a : Acc) (s : State) : Out := accessCmd t (a.req (a.pdu 1 0 0x6C10 2 [])) s
/-- CAL_LATCH_READ (R416): a read of `SEC`. -/
def execCalLatchRead (t : Nat) (a : Acc) (s : State) : Out := accessCmd t (a.req (a.pdu 1 0 0x6000 1 [])) s
/-- CAL_BLOCK (R416). -/
def execCalBlock (t : Nat) (a : Acc) (s : State) : Out := accessCmd t (a.req (a.pdu 1 0 0x6000 0x0A [])) s

/-! ## Session PDUs (R387) -/

/-- OPEN (R389): key slot, partner ID and client nonce, from a source. -/
def execOpen (t : Nat) (src : Peer) (tag slot partner : Nat) (nonce : Octets) (s : State) : Out :=
  let a : Acc := { src := src, session := 0, tag := tag, crit := none }
  accessCmd t (a.req (a.pdu 0x10 0 0 0 (leBytes 1 slot ++ zeros 3 ++ leBytes 4 partner ++ nonce))) s
/-- CONFIRM (R389) with a client proof. -/
def execConfirm (t : Nat) (a : Acc) (proof : Octets) (s : State) : Out := accessCmd t (a.req (a.pdu 0x11 0 0 0 proof)) s
/-- CLOSE (R389). -/
def execClose (t : Nat) (a : Acc) (s : State) : Out := accessCmd t (a.req (a.pdu 0x12 0 0 0 [])) s

/-! ## Images, and the keep-store write of a store -/

/-- MODEL_IMAGE_STAGE (R106): the final SEGMENT of a write to the model's `IMAGE_STAGE`. -/
def execModelImageStage (t : Nat) (a : Acc) (offset : Nat) (b : Octets) (s : State) : Out :=
  accessCmd t (a.req (a.segment offset true b)) s
/-- PROG_IMAGE_STAGE (R349): the final SEGMENT of a write to the program's `IMAGE_STAGE`. -/
def execProgImageStage (t : Nat) (a : Acc) (offset : Nat) (b : Octets) (s : State) : Out :=
  accessCmd t (a.req (a.segment offset true b)) s

/-- The reply to a staged image: 0x0A10 or 0x0A11 where it failed. -/
def stageReply (failed : Bool) (code : Nat) : Reply := if failed then .abort code else .good 2 []

/-- MODEL_IMAGE_VALIDATED (R104, R106). -/
def execModelImageValidated (t : Nat) (s : State) : Out :=
  onIsland .house t s (fun s =>
    let r := s.modelValidated
    r.1.answerOwed (key 0x2000 1) (stageReply r.2 0x0A10))
/-- PROG_IMAGE_VALIDATED (R348, R349). -/
def execProgImageValidated (t : Nat) (s : State) : Out :=
  onIsland .house t s (fun s =>
    let r := s.progValidated
    r.1.answerOwed (key 0x5000 3) (stageReply r.2 0x0A11))

/-- STORE_DONE (R56): the keep-store write ends well or not; `remaps` are the sectors it remapped (R499). -/
def execStoreDone (t : Nat) (ok : Bool) (remaps : List Nat) (s : State) : Out :=
  onIsland .mem t s (fun s => (remaps.foldl State.remapSector s).storeEnded ok)

end Machine
end Sys2Proof
end

