-- ==== Sys2Proof/Machine/Fabric.lean ====
section
/-! DEFINITION. The word fabric (R17–R23) and the order of events (R27–R31): crossings with their replay, event queues, the
arbiter. -/

namespace Sys2Proof
namespace Machine

/-! ## Crossings (R17–R23) -/

/-- The number of the crossing from island `a` to island `b`. -/
def crossNo (a b : Nat) : Nat := 9 * a + b

/-- A crossing. -/
def State.crossing (s : State) (k : Nat) : Crossing := Tab.get {} s.fabric k
/-- Replace a crossing. -/
def State.setCrossing (s : State) (k : Nat) (c : Crossing) : State := { s with fabric := Tab.put {} s.fabric k c }

/-- The word starts a message. -/
def FabWord.starts (w : FabWord) : Bool :=
  match w.kind with
  | .head | .evhead | .sole | .poison => true
  | _ => false

/-- The word ends a message. -/
def FabWord.ends (w : FabWord) : Bool :=
  match w.kind with
  | .tail | .sole | .poison => true
  | _ => false

/-- The sequence of the oldest word of the sender's window (R19). -/
def Crossing.base (c : Crossing) : Nat := (c.sent + 32 - c.window.length % 32) % 32

/-- The place in the window of a sequence; none where the window does not hold it. -/
def Crossing.place (c : Crossing) (seq : Nat) : Option Nat :=
  let k := (seq + 32 - c.base) % 32
  if k < c.window.length then some k else none

/-- A `POISON` word for a message whose first word is `w` (R19). -/
def poisonOf (w : FabWord) : FabWord := { tag := 6, data := BitVec.ofNat 32 ((256 * w.unit + w.msgKind) * 65536) }

/-- The words of the window from the next message start on. -/
def fromStart : List FabWord → List FabWord
  | [] => []
  | w :: r => if w.starts then w :: r else fromStart r

/-- The sender's side of a faulted word (R22): acknowledged words before it go, its message is flushed, and sending resumes at the
next message, whose first word takes the sequence after the faulted one. Words that were sent before and still wait in the crossing are
of the window: they are flushed or sent again. -/
def Crossing.flushFrom (c : Crossing) (seq : Nat) : Crossing :=
  match c.place seq with
  | none => c
  | some k =>
    let rest := fromStart (c.window.drop (k + 1))
    let whole := ((c.window.drop k).takeWhile (fun w => !w.ends)).length < (c.window.drop k).length
    { c with window := rest, sent := (seq + 1 + rest.length) % 32, resend := if rest.isEmpty then none else some 0,
             flushing := !whole, faultAt := none, fifo := [] }

/-- The receiver takes a good word that it expects (R20, R22). -/
def Crossing.take (c : Crossing) (w : FabWord) : Crossing :=
  let c := { c with expect := (c.expect + 1) % 32, waiting := false, failed := 0, repeats := 0,
                    reverse := c.reverse ++ [.ack c.expect] }
  if c.discard ∧ ¬ w.starts then c
  else if w.ends then { c with discard := false, delivered := c.delivered ++ c.partialMsg ++ [w], partialMsg := [] }
  else { c with discard := false, partialMsg := if w.starts then [w] else c.partialMsg ++ [w] }

/-- The receiver asks for the expected word again (R21). -/
def Crossing.ask (c : Crossing) (now : Nat) : Crossing :=
  { c with waiting := true, askedAt := now, reverse := c.reverse ++ [.replay c.expect] }

/-- The first word of the message that a word belongs to: what the receiver holds of it, else the word. -/
def Crossing.headOf (c : Crossing) (w : FabWord) : FabWord := (c.partialMsg.head?).getD w

/-- The receiver's side of a faulted word (R22): `FAULT`, the message discarded, a `POISON` word for it. Until the sender has taken the
`FAULT`, every forward word is one sent before it and is discarded. -/
def Crossing.faulted (c : Crossing) (w : FabWord) : Crossing :=
  { c with expect := (c.expect + 1) % 32, waiting := false, failed := 0, repeats := 0, partialMsg := [], discard := true,
           faultAt := some c.expect, delivered := c.delivered ++ [poisonOf (c.headOf w)], reverse := c.reverse ++ [.fault c.expect] }

/-- An event of island `i` that is lost on its way is counted in the island's gap event (R31, R22, R410). -/
def State.evLostOn (s : State) (i : Nat) : State :=
  { s.setLost (islandOf i) (s.lostOf (islandOf i) + 1) with
    ledger := { (s.setLost (islandOf i) (s.lostOf (islandOf i) + 1)).ledger with evLost := s.ledger.evLost + 1 } }

/-- FABRIC_FAULT (R22, R46, R572); an event record lost with it is counted in the sender's gap event. -/
def State.fabricFault (s : State) (a b : Nat) (w : FabWord) (deliveries : Nat) : State :=
  let s := (s.post (islandOf b) Code.fabricFault 0
    [.u8 a, .u8 b, .u8 w.msgKind, .u8 deliveries]).fabricCause
  if w.kind = .evhead then s.evLostOn a else s

/-- The word that arrives next: one of the window that is being resent, else a new one, which the sender keeps; none while its
window is full or it flushes the rest of a faulted message (R20, R22). -/
def Crossing.next (c : Crossing) (w : FabWord) : Option (Crossing × Nat × FabWord) :=
  match c.resend with
  | some k =>
    match c.window[k]? with
    | some x => some ({ c with resend := if k + 1 < c.window.length then some (k + 1) else none }, (c.base + k) % 32, x)
    | none => none
  | none =>
    if 16 ≤ c.window.length ∨ (c.flushing ∧ ¬ w.starts) then none
    else some ({ c with window := c.window ++ [w], sent := (c.sent + 1) % 32, flushing := false }, c.sent % 32, w)

/-- The received bits are a good word of the forward direction: their parity holds and their tag is not reserved (R21, R23). -/
def goodWord (v : BitVec 37) : Bool := parityHolds v && (FabWord.ofBits v).kind.forward

/-- The receiver takes up a word that has crossed (R21, R22, R23): its sequence, the word as sent, the bits received. -/
def State.wordCrosses (s : State) (a b : Nat) (seq : Nat) (x : FabWord) (v : BitVec 37) : State :=
  let k := crossNo a b
  let c := s.crossing k
  if c.faultAt = some seq then s.setCrossing k { c with reverse := c.reverse ++ [.fault seq] }
  else if c.faultAt.isSome ∨ seq ≠ c.expect then s
  else if goodWord v then s.setCrossing k (c.take (FabWord.ofBits v))
  else if 3 ≤ c.failed then (s.setCrossing k (c.faulted x)).fabricFault a b (c.headOf x) 4
  else s.setCrossing k ({ c with failed := c.failed + 1, repeats := 0 }.ask s.now)

/-- The words that waited while the receiving island was stopped are taken up in their order (R15). -/
def State.crossWaiting (s : State) (a b : Nat) : State :=
  let k := crossNo a b
  (s.crossing k).fifo.foldl (fun s e => s.wordCrosses a b e.1 e.2.1 e.2.2) (s.setCrossing k { s.crossing k with fifo := [] })

/-- A forward word is sent (R15, R20): it waits in the crossing where the receiving island does not run, unless the crossing is full, and
is taken up after those waiting where it does. `err` are the bits that changed on the way. -/
def State.wordArrives (s : State) (a b : Nat) (w : FabWord) (err : BitVec 37) : State :=
  let k := crossNo a b
  let on := s.runs (islandOf b)
  let s := if on then s.crossWaiting a b else s
  match (s.crossing k).next w with
  | none => s
  | some (c, seq, x) =>
    if on then (s.setCrossing k c).wordCrosses a b seq x (x.bits ^^^ err)
    else if 32 ≤ c.fifo.length then s
    else s.setCrossing k { c with fifo := c.fifo ++ [(seq, x, x.bits ^^^ err)] }

/-- A `REPLAY` stayed unanswered for 32 receiver cycles (R21, R22). -/
def State.replayTimeout (s : State) (a b : Nat) : State :=
  let k := crossNo a b
  let s := s.crossWaiting a b
  let c := s.crossing k
  if ¬ c.waiting ∨ s.ps < c.askedAt * 1000 + 32 * (islandOf b).periodPs then s
  else if 3 ≤ c.repeats then
    let w := match c.place c.expect with
      | some i => (c.window[i]?).getD {}
      | none => {}
    (s.setCrossing k (c.faulted w)).fabricFault a b (c.headOf w) c.failed
  else s.setCrossing k ({ c with repeats := c.repeats + 1 }.ask s.now)

/-- Both islands exist and differ. -/
def crossOk (a b : Nat) : Bool := decide (a < 9) && decide (b < 9) && decide (a ≠ b)

/-- FABRIC_WORD_RECEIVE (R15, R21): a forward word comes to the receiving island, or waits for it. -/
def execFabricWordReceive (t a b : Nat) (w : FabWord) (err : BitVec 37) (s : State) : Out :=
  if crossOk a b then atMoment t s (fun s => s.wordArrives a b w err) else .fault .noSuchUnit

/-- REPLAY_TIMEOUT (R21, R22). -/
def execReplayTimeout (t a b : Nat) (s : State) : Out :=
  onUnit (crossOk a b) (islandOf b) t s (fun s => s.replayTimeout a b)

/-- The 37 bits of a reverse word as received: its `PAR` bit, its tag and `DATA` (R17, R18). -/
def reverseRaw (par : Bool) (tag : BitVec 4) (data : BitVec 32) : BitVec 37 := BitVec.ofBool par ++ (tag ++ data : BitVec 36)

/-- A reverse word at the sender: what it does with the sequence it names, `DATA[4:0]`; one whose parity fails is ignored (R23). -/
def onReverse (t a b : Nat) (tag : BitVec 4) (data : BitVec 32) (par : Bool) (s : State) (f : Nat → Crossing → Crossing) : Out :=
  onUnit (crossOk a b) (islandOf a) t s (fun s =>
    if parityHolds (reverseRaw par tag data) then
      s.setCrossing (crossNo a b) (f (data.toNat % 32) (s.crossing (crossNo a b)))
    else s)

/-- Every word up to the acknowledged one leaves the window (R20). -/
def Crossing.ackTo (c : Crossing) (seq : Nat) : Crossing :=
  match c.place seq with
  | none => c
  | some k => { c with window := c.window.drop (k + 1),
                       resend := c.resend.bind (fun i =>
                         if i - (k + 1) < (c.window.drop (k + 1)).length then some (i - (k + 1)) else none) }

/-- The sender resends its window from the named word on (R21). -/
def Crossing.replayFrom (c : Crossing) (seq : Nat) : Crossing :=
  { c with resend := match c.place seq with
    | some k => some k
    | none => c.resend }

/-- The sender takes a reverse word from its queue; a poisoned one is ignored as one whose parity fails (R18, R23, R410). -/
def State.reverseTaken (s : State) (a b : Nat) (w : FabWord) (bad : Bool) : State :=
  let k := crossNo a b
  let c := s.crossing k
  let q := w.data.toNat % 32
  if bad then s
  else if w.tag = 7 then s.setCrossing k (c.ackTo q)
  else if w.tag = 8 then s.setCrossing k (c.replayFrom q)
  else if w.tag = 9 then s.setCrossing k (c.flushFrom q)
  else s

/-- ACK (R20). -/
def execAck (t a b : Nat) (data : BitVec 32) (par : Bool) (s : State) : Out :=
  onReverse t a b 7 data par s (fun seq c => c.ackTo seq)

/-- REPLAY (R21). -/
def execReplay (t a b : Nat) (data : BitVec 32) (par : Bool) (s : State) : Out :=
  onReverse t a b 8 data par s (fun seq c => c.replayFrom seq)

/-- FAULT (R22, R23). -/
def execFault (t a b : Nat) (data : BitVec 32) (par : Bool) (s : State) : Out :=
  onReverse t a b 9 data par s (fun seq c => c.flushFrom seq)

/-! ## Events (R27–R31) -/

/-- EVENT_POST (R27, R31). -/
def execEventPost (t isl code unit : Nat) (args : List EvArg) (edge : EvEdge) (s : State) : Out :=
  onUnit (decide (isl < 9)) (islandOf isl) t s (fun s => s.postE (islandOf isl) code unit args edge)

/-- EVENT_GAP (R31). -/
def execEventGap (t isl : Nat) (s : State) : Out :=
  onUnit (decide (isl < 9)) (islandOf isl) t s (fun s => s.gapEv (islandOf isl))

/-- An event as HOUSE sees it: where it is one of BACKUP seen for the first time, HOUSE fills in its capture timestamp (R30). -/
def State.seen (s : State) (e : Ev) : Ev := if e.unseen then { e with capture := s.clk.dev, unseen := false } else e

/-- The head entry of a queue as HOUSE has seen it. -/
def Queue.seenBy (q : Queue) (s : State) : Queue :=
  match q.head with
  | (.ev e, p) :: r => { q with head := (.ev (s.seen e), p) :: r }
  | _ => q

/-- HOUSE sees the head of BACKUP's queue once it is visible on the arbiter's side (R30). -/
def State.lookBackup (s : State) : State :=
  if (s.frontQ (.island 8)).isSome then s.setQueue (.island 8) ((s.queue (.island 8)).seenBy s) else s

/-- The arbiter takes the head of an island's queue (R28, R410). -/
def State.admitHead (s : State) (i : Nat) : State :=
  match s.frontQ (.island i) with
  | some (.ev e, false) => (s.popQ (.island i)).admitEvent (islandOf i) (s.seen e)
  | some _ => (s.popQ (.island i)).evLostOn i
  | none => s

/-- The slot in which an island's head became eligible; none where it has no eligible head in the slot of `now` (R27). -/
def State.eligibleAt (s : State) (i : Nat) : Option Nat :=
  match s.frontQ (.island i) with
  | some (.ev e, _) => if e.eligible ≤ s.now / 8 * 8 then some e.eligible else none
  | some _ => some 0
  | none => none

/-- The head that is admitted next: the earliest slot, then the rank of R27. -/
def State.arbiterPick (s : State) : Option Nat :=
  let c := (List.range 9).filterMap (fun i => (s.eligibleAt i).map (fun x => (x * 16 + (islandOf i).rank, i)))
  match c with
  | [] => none
  | e :: r => some (r.foldl (fun (a b : Nat × Nat) => if b.1 < a.1 then b else a) e).2

/-- EVENT_ADMIT (R27, R28): at most one event in a slot. -/
def State.arbitrate (s : State) : State :=
  let s := s.lookBackup
  let slot := s.now / 8
  if s.ledger.lastSlot = some slot then s
  else match s.arbiterPick with
  | none => s
  | some i => ({ s with ledger := { s.ledger with lastSlot := some slot } }).admitHead i

/-- EVENT_ADMIT. -/
def execEventAdmit (t : Nat) (s : State) : Out := onIsland .house t s (fun s => s.arbitrate)

end Machine
end Sys2Proof
end

