-- ==== Sys2Proof/Machine/Deliver.lean ====
section
/-! DEFINITION. The queue instances as commands with what a pop hands to its owner (R401–R413), the dispatch of CAN entries (R371),
received Ethernet frames (R376–R378), channel reports (R296) and window ends (R277, R278). -/

namespace Sys2Proof
namespace Machine

/-! ## CAN entries (R371) -/

/-- The monitor ring takes an entry that a pair with `MONITOR` passed: the latest 256. -/
def CanPort.watch (v : CanPort) (e : CanRx) : CanPort :=
  if e.monitor then
    { v with monitor := (v.monitor ++ [e]).drop (v.monitor.length + 1 - 256), monCount := (v.monCount + 1) % 4294967296 }
  else v

/-- The function, source node and destination of an extended identifier (R359). -/
def fnOf (id : Nat) : Nat := id / 1048576 % 64
/-- See `fnOf`. -/
def srcOf (id : Nat) : Nat := id / 8192 % 128
/-- See `fnOf`. -/
def dstOf (id : Nat) : Nat := id / 64 % 128

/-- A frame whose consumer finds it too short or too long. -/
def State.canMalformed (s : State) (p : Nat) : State := s.modPort p (fun v => { v with malformed := v.malformed + 1 })

/-- An entry reaches its consumer (R371). -/
def State.canConsume (s : State) (p : Nat) (e : CanRx) : State :=
  let f := e.frame
  let c := classOf f.id
  if f.ext ∧ c = 1 then (if f.data.length = 48 then s.redMessage 1 (redMsgOf f.data) else s)
  else if f.ext ∧ (c = 2 ∨ c = 6) ∧ fnOf f.id = 0 ∧ dstOf f.id = s.laneNode then
    match pduOf f.data with
    | some q => s.transport { src := .can p (srcOf f.id), cls := c, pdu := q }
    | none => s.canMalformed p
  else if f.ext ∧ c = 5 ∧ fnOf f.id = 1 ∧ dstOf f.id = 127 then
    (if f.data.length = 48 then s.channelReport (.can p (srcOf f.id)) f.data else s.canMalformed p)
  else s.modPort p (fun v => { v with unclaimed := v.unclaimed + 1 })

/-- A poisoned entry is discarded and counted with the port's overruns; the next stored one carries `LOST_BEFORE` (R410). -/
def State.canPoisoned (s : State) (p : Nat) (inB : Bool) : State :=
  s.modPort p (fun v => if inB then { v with overrunB := true, ovrB := v.ovrB + 1, lostB := true }
    else { v with overrunA := true, ovrA := v.ovrA + 1, lostA := true })

/-- COMM takes the head of one of a port's queues. -/
def State.canTake (s : State) (p : Nat) (inB : Bool) : State :=
  let q : QId := if inB then .canB p else .canA p
  match s.frontQ q with
  | some (.rx e, false) => ((s.popQ q).modPort p (fun v => v.watch e)).canConsume p e
  | some _ => (s.popQ q).canPoisoned p inB
  | none => s

/-- COMM serves a port (R371): queue A's head whenever queue A is not empty, queue B's otherwise. -/
def State.canDispatch (s : State) (p : Nat) : State :=
  if (s.frontQ (.canA p)).isSome then s.canTake p false else s.canTake p true

/-- CAN_DISPATCH (R371). -/
def execCanDispatch (t p : Nat) (s : State) : Out := onPort t p s (fun s => s.canDispatch p)

/-! ## Ethernet frames (R376–R378) -/

/-- A DAP datagram (R71): one whose length or `CS` is wrong is discarded and counted. -/
def State.udpDap (s : State) (m sip sport : Nat) (b : Octets) : State :=
  match pduOf b with
  | some p =>
    if b.length = 10 + p.length + 20 * b2n p.crit ∧ csDefined p.cs then s.transport { src := .udp m sip sport, cls := 0, pdu := p }
    else s.modMac m (fun v => { v with dapBad := v.dapBad + 1 })
  | none => s.modMac m (fun v => { v with dapBad := v.dapBad + 1 })

/-- A report datagram (R295). -/
def State.udpReport (s : State) (m sip sport : Nat) (b : Octets) : State :=
  if b.length = 52 ∧ u16At b 2 = 0 then s.channelReport (.udp m (u16At b 0) sip sport) (b.drop 4)
  else s.modMac m (fun v => { v with reportBad := v.reportBad + 1 })

/-- A UDP datagram whose checks passed reaches its port's consumer (R378); PTP is served on the MAC of `PTP_MAC`. -/
def State.udpConsume (s : State) (m sip sport dport : Nat) (b : Octets) : State :=
  if dport = 47121 then s.udpDap m sip sport b
  else if s.dev.state = .parked then s
  else if dport = 47122 then s.udpReport m sip sport b
  else if (dport = 319 ∨ dport = 320) ∧ s.nat 0x1102 1 = m then s.ptpMessage m b
  else s.modMac m (fun v => { v with wrongPort := v.wrongPort + 1 })

/-- The IPv4 addresses a MAC takes datagrams for: its own, and PTP's multicast address for the PTP ports. -/
def State.ipMine (s : State) (m dip dport : Nat) : Bool :=
  decide (dip = s.ipAddr m) || (decide (dip = 0xE0000181) && (decide (dport = 319) || decide (dport = 320)))

/-- A frame addressed to a MAC that is in service with its link up (R376–R378). -/
def State.ethFrame (s : State) (m : Nat) (x : EthBody) : State :=
  if ¬ s.macUp m then s
  else
    let s := s.modMac m (fun v => { v with rx := v.rx + 1 })
    match x with
    | .udp sip sport dip dport sumOk b =>
      if ¬ s.ipMine m dip dport ∨ ¬ sumOk then s.modMac m (fun v => { v with ipBad := v.ipBad + 1 })
      else s.udpConsume m sip sport dport b
    | x => s.ethOther m x

/-- The MACs are served wherever COMM runs, and in PARKED for the dictionary (R546). -/
def State.macServed (s : State) : Bool :=
  s.runs .comm || (decide (s.dev.state = .parked) && s.runs .house)

/-- ETH_FRAME_RECEIVE (R376–R378). -/
def execEthFrameReceive (t m : Nat) (x : EthBody) (s : State) : Out :=
  if m < 2 then
    atMoment t s (fun s => if s.macServed then s.ethFrame m x else s)
  else .fault .noSuchUnit

/-! ## Metering (R277, R278, R296) -/

/-- CHANNEL_REPORT (R296): a report at METR, with what it finds of the critical records it reads (R25). -/
def execChannelReport (t : Nat) (src : RepSrc) (b : Octets) (crit : List CritRead) (s : State) : Out :=
  onIsland .metr t s (fun s => (s.critReads crit).channelReport src b)

/-- The interval record's flags of a connection point gather what the window shows (R308). -/
def State.windowFlags (s : State) (c : Nat) : State :=
  let m := s.cp c
  let f := b2n m.lost + 2 * b2n (m.vClip || m.iClip) + 8 * b2n (decide (s.now < m.settleUntil))
  s.modIv (fun v => { v with cpFlags := Tab.put 0 v.cpFlags c (Tab.get 0 v.cpFlags c ||| f) })

/-- A window that has ended is routed and reported (R277–R280, R285); a pending clear follows its increment (R278). -/
def State.windowEnd (s : State) (c : Nat) : State :=
  match (s.cp c).ended with
  | [] => s
  | w :: rest =>
    let s := (s.routeWindow c w rest).windowFlags c
    if ¬ (s.cp c).clearPending then s
    else if (s.cp c).clearSkip = 0 then s.cpClear c w.endAt
    else s.setCp c { s.cp c with clearSkip := (s.cp c).clearSkip - 1 }

/-- WINDOW_END (R277), with what the registers' read finds (R25). -/
def execWindowEnd (t c : Nat) (crit : List CritRead) (s : State) : Out :=
  onUnit (decide (c < 4)) .metr t s (fun s => (s.critReads crit).windowEnd c)

/-! ## The queue primitive (R402–R412) -/

/-- An instance of R413 and R524. -/
def QId.ok : QId → Bool
  | .island i => decide (i < 9)
  | .request => true
  | .canA p => decide (p < 8)
  | .canB p => decide (p < 8)
  | .capture => true
  | .logq n => decide (n < 8)
  | .traceq n => decide (n < 8)
  | .fabFwd a b => crossOk a b
  | .fabRev a b => crossOk a b

/-- QUEUE_PUSH (R402, R405). -/
def execQueuePush (t : Nat) (q : QId) (x : QItem) (s : State) : Out :=
  onUnit q.ok q.ends.1 t s (fun s => s.pushQ q x)

/-- The head entry's word fails parity at the pop (R410). -/
def Queue.spoil (v : Queue) : Queue :=
  match v.head with
  | (x, _) :: r => { v with head := (x, true) :: r }
  | [] => v

/-- A capture record leaves for subsoil; a poisoned one is lost and counted in its probe's next gap record (R262, R410). -/
def State.captureTake (s : State) : State :=
  match s.frontQ .capture with
  | some (.raw (p :: _), true) =>
    let s := s.popQ .capture
    s.setProbe p.toNat { s.probe p.toNat with lost := (s.probe p.toNat).lost + 1, gap := true }
  | _ => s.popQ .capture

/-- A fabric word leaves its queue for the island that consumes it; a poisoned one comes with its parity broken (R410). -/
def State.popWord (s : State) (q : QId) (f : State → FabWord → Bool → State) : State :=
  match s.frontQ q with
  | some (.word w, bad) => f (s.popQ q) w bad
  | _ => s.popQ q

/-- A pop of an entry that is there: its owner takes it. A request that reads subsoil meets the bad words of the elements `lost` (R37). -/
def State.popTo (s : State) (q : QId) (lost : List Nat) : State :=
  match q with
  | .island i => if s.arbiterPick = some i then s.arbitrate else s
  | .request => s.serveNext lost
  | .canA p => s.canTake p false
  | .canB p => if (s.frontQ (.canA p)).isSome then s else s.canTake p true
  | .capture => s.captureTake
  | .logq n => s.sendLog n
  | .traceq n => s.sendTrace n
  | .fabFwd a b => s.popWord q (fun s w bad => s.wordArrives a b w (if bad then 1 else 0))
  | .fabRev a b => s.popWord q (fun s w bad => s.reverseTaken a b w bad)

/-- QUEUE_POP (R371, R402, R405, R410): `bad` says that a stage word of the entry fails parity. The consumer of an island's queue is the arbiter,
which pops a head only when R27 lets it admit it. -/
def execQueuePop (t : Nat) (q : QId) (bad : Bool) (lost : List Nat) (s : State) : Out :=
  onUnit q.ok q.ends.2 t s (fun s =>
    if (s.frontQ q).isNone then s.popQ q
    else (if bad then s.setQueue q (s.queue q).spoil else s).popTo q lost)

/-- SPILL_BURST_WRITE (R407, R408). -/
def execSpillBurstWrite (t : Nat) (q : QId) (s : State) : Out :=
  onUnit q.ok .mem t s (fun s => if s.power.trained then s.setQueue q ((s.queue q).burstWrite q.spillSize) else s)

/-- Each entry of a burst with a word that stayed bad after three re-reads is a loss of its own, at its own word address: an entry takes
32 octets, eight words (R37, R407). -/
def State.spillLosses (s : State) (addr : Nat) : List Bool → State
  | [] => s
  | b :: r => (if b then s.dataLoss .mem 0 addr 0xFFFF else s).spillLosses (addr + 8) r

/-- SPILL_BURST_READ (R407, R408, R37): `bad` marks the entries with a word that stayed bad after three re-reads; the burst begins at
subsoil word address `addr`. -/
def execSpillBurstRead (t : Nat) (q : QId) (bad : List Bool) (addr soft : Nat) (s : State) : Out :=
  onUnit q.ok .mem t s (fun s =>
    let v := s.queue q
    if v.head.isEmpty ∧ 16 ≤ v.spill.length then
      ((s.softSubsoil soft).setQueue q (v.burstRead bad)).spillLosses addr (bad.take 16)
    else s)

/-- An entry that a reset discards: a trace record is counted by its probe (R262), a request of the host port leaves it free (R74). -/
def State.entryGone (s : State) (x : QItem) : State :=
  match x with
  | .raw (p :: _) => s.setProbe p.toNat { s.probe p.toNat with lost := (s.probe p.toNat).lost + 1, gap := true }
  | .req r => if r.src = .host then { s with net := { s.net with host := { s.net.host with busy := false } } } else s
  | _ => s

/-- The owner counts the entries a reset loses as overruns (R411). -/
def State.queueLoss (s : State) (q : QId) (n : Nat) : State :=
  let s := ((s.queue q).head ++ (s.queue q).spill ++ (s.queue q).tail).foldl (fun s e => s.entryGone e.1) s
  match q with
  | .canA p => s.modPort p (fun v => { v with overrunA := true, ovrA := v.ovrA + n })
  | .canB p => s.modPort p (fun v => { v with overrunB := true, ovrB := v.ovrB + n })
  | .island i => { s.setLost (islandOf i) (s.lostOf (islandOf i) + n) with
      ledger := { (s.setLost (islandOf i) (s.lostOf (islandOf i) + n)).ledger with evLost := s.ledger.evLost + n } }
  | .logq k => s.setSub k { s.sub k with logLost := (s.sub k).logLost + n, lostLog := (s.sub k).lostLog + n }
  | .traceq k => s.setSub k { s.sub k with traceLost := (s.sub k).traceLost + n, lostTrace := (s.sub k).lostTrace + n }
  | _ => s

/-- QUEUE_FAULT (R411): pointer parity fails, the instance is reset, and the loss is logged. -/
def execQueueFault (t : Nat) (q : QId) (s : State) : Out :=
  onUnit q.ok q.ends.1 t s (fun s =>
    let d := ((s.queue q).see s.ps).depthP
    let u := s.queueLoss q d
    (u.setQueue q ((u.queue q).break u.ps)).post .house Code.queueFault 0 [.u16 q.num, .u16 d])

/-- QUEUE_RESET_DONE (R411). -/
def execQueueResetDone (t : Nat) (q : QId) (s : State) : Out :=
  onUnit q.ok q.ends.1 t s (fun s => s.setQueue q (s.queue q).restart)

/-- QUEUE_FLUSH (R412). -/
def execQueueFlush (t : Nat) (q : QId) (s : State) : Out :=
  onUnit q.ok q.ends.2 t s (fun s =>
    (s.setQueue q ((s.queue q).flush s.ps q.ends.2.periodPs (s.delayBack q))).draw)

end Machine
end Sys2Proof
end

