-- ==== Sys2Proof/Machine/HostPort.lean ====
section
/-! DEFINITION. The host port (R73–R78): its three transactions, and the host errors within the bounds of R78. -/

namespace Sys2Proof
namespace Machine

/-- `HRDY` is high (R76, R533): it rises at a free moment within the bound. -/
def State.hostReady (s : State) : Bool :=
  let h := s.net.host
  decide (h.hrdyFrom + Config.freeHrdy h.hrdyFrom % (h.hrdyBy - h.hrdyFrom + 1) ≤ s.now)

/-- Change the host port. -/
def State.modHost (s : State) (f : HostPort → HostPort) : State := { s with net := { s.net with host := f s.net.host } }

/-- `HRDY` falls at the end of a transaction and rises within `ns` (R76). -/
def State.hostFall (s : State) (ns : Nat) : State := s.modHost (fun h => { h with hrdyFrom := s.now, hrdyBy := s.now + ns })

/-- The PDU of a transaction is one that R62 leaves to its checks 3 to 10: whole, of session 0, no reserved field set, a defined
`CS` (R77, R387). -/
def hostPdu (b : Octets) : Option Pdu :=
  match pduOf b with
  | none => none
  | some p =>
    if b.length = 10 + p.length + 20 * b2n p.crit ∧ p.session = 0 ∧ csDefined p.cs ∧ p.flags < 4 ∧ (p.cs = 5 ∨ p.resv = 0) ∧
      (p.isSession = false ∨ p.badSession = false) then some p
    else none

/-- The status octets (R75). -/
def State.hostStatus (s : State) : Octets :=
  let h := s.net.host
  leBytes 1 (b2n h.resp.isSome + 2 * b2n h.busy + 4 * b2n h.booted) ++ leBytes 2 ((h.resp.getD []).length) ++ zeros 1

/-! ## Host errors (R77, R78) -/

/-- `n` free octets of the `k`-th host error, from its `i`-th on. -/
def anyOctets (k i n : Nat) : Octets := (List.range n).map (fun j => Config.freeHostOctet k (i + j))

/-- Any well-formed PDU of session 0. -/
def anyPdu (k : Nat) : Pdu :=
  let c := Config.freeHostChoice (2 * k + 1)
  let cs := nth 1 [1, 2, 3, 4, 5, 6, 7, 0x10, 0x11, 0x12] (c % 10)
  let sess := decide (0x10 ≤ cs)
  let crit := if cs = 0x12 then true else !sess && bitOf (c / 10) 0
  let n := c / 20 % 1025
  let b := anyOctets k 64 n
  { cs := cs, session := 0, tag := (Config.freeHostOctet k 0).toNat, flags := b2n crit + 2 * b2n (bitOf (c / 20500) 0),
    index := if sess then 0 else leNat (anyOctets k 1 2), sub := if sess then 0 else (Config.freeHostOctet k 3).toNat,
    resv := if cs = 5 then (Config.freeHostOctet k 4).toNat else 0, length := n,
    data := if cs = 0x10 then b.take 1 ++ zeros (min 3 (n - 1)) ++ b.drop 4 else b,
    trailer := if crit then some { counter := leNat (anyOctets k 8 8), tag := anyOctets k 16 12 } else none }

/-- The PDU would alter protected state (R78): a host error executes none that would. -/
def State.wouldTouch (s : State) (p : Pdu) : Bool :=
  isProtected p.index p.sub ||
  (match (s.session 0).xfer with
   | some x => decide (p.cs = 5) && isProtected x.index x.sub
   | none => false)

/-- A host error: within the bounds of R78 the waiting response can be lost, any octets be driven, and, where a PDU was offered, any
PDU of session 0 be queued. -/
def State.hostError (s : State) (offered : Bool) : State :=
  let k := s.draws
  let s := s.draw
  let c := Config.freeHostChoice (2 * k)
  let s := s.modHost (fun h => { h with
    resp := if bitOf c 0 then none else h.resp, booted := h.booted && !bitOf c 1, driven := anyOctets k 2048 (c / 8 % 1055) })
  if offered && bitOf c 2 && !s.wouldTouch (anyPdu k) then s.transport { src := .host, cls := 0, pdu := anyPdu k } else s

/-! ## Transactions (R74) -/

/-- `WRITE_PDU`: the length sent, the octets clocked, and whether a nibble was left over. -/
def State.hostWrite (s : State) (l : Nat) (b : Octets) (odd : Bool) : State :=
  let h := s.net.host
  if ¬ s.hostReady ∨ l < 10 ∨ 1054 < l ∨ b.length ≠ l ∨ odd ∨ h.resp.isSome ∨ h.busy then s.hostError true
  else match hostPdu b with
  | none => s.hostError true
  | some p => s.transport { src := .host, cls := 0, pdu := p }

/-- WRITE_PDU (R74, R76). -/
def execWritePdu (t l : Nat) (b : Octets) (odd : Bool) (s : State) : Out :=
  onIsland .house t s (fun s => (s.hostWrite l b odd).hostFall 2000)

/-- READ_STATUS (R74, R75). -/
def execReadStatus (t : Nat) (s : State) : Out :=
  onIsland .house t s (fun s =>
    (if s.hostReady then s.modHost (fun h => { h with driven := s.hostStatus, booted := false }) else s.hostError false).hostFall 200)

/-- READ_RESPONSE (R74). -/
def execReadResponse (t : Nat) (s : State) : Out :=
  onIsland .house t s (fun s =>
    (match s.hostReady, s.net.host.resp with
     | true, some b => s.modHost (fun h => { h with driven := b, resp := none })
     | _, _ => s.hostError false).hostFall 200)

end Machine
end Sys2Proof
end

