-- ==== Sys2Proof/Machine/Iterate.lean ====
section
/-! DEFINITION. An iteration of a Loam job: the primitives its owner's chapter gives it, and the owner's stopping rule at its end. -/

namespace Sys2Proof
namespace Machine

/-- What an iteration of a job is: what its primitives leave, and its owner's note on the job it completes. -/
structure Iteration where
  work : Work
  note : Job → Job

/-- An iteration of the hydraulic job (R122): it stops at convergence or after `MAX_ITER` iterations. -/
def State.iterHyd (s : State) (n : HydSnap) : Iteration :=
  let j := s.job 0
  let p := s.hydNewton n
  { work := j.work.prims 20 (p.prims 0 j.done), note := fun j => { j with met := p.stops j 0 } }

/-- An iteration of the probe job (R133): its second problem starts when the first stops, and the job stops with the second. -/
def State.iterProbe (s : State) (n : HydSnap) (d : DelivProbe) : Iteration :=
  let j := s.job 1
  let k := j.stage
  let p := s.probeNewton n d k
  let it := if j.stageIters = 0 then none else j.done
  { work := j.work.prims 20 (p.prims (2 * k) it),
    note := fun j =>
      if ¬ p.stops j (2 * k) then j
      else if k = 0 then { j with stage := 1, stageIters := 0, firstOk := p.published j 0 }
      else { j with met := true } }

/-- An iteration of a dispatch job (R161–R164, R168): it stops when it has converged and its iterate is accepted, or at `ITER_MAX`
iterations or more with an accepted iterate. -/
def State.iterDispatch (s : State) (r : ReSnap) : Iteration :=
  let j := s.job 2
  let cut := ((r.sigma (r.jobVecs j)).filter (·.2)).length
  { work := j.work.prims (r.nat 0x2801 14) (r.prims j),
    note := fun k =>
      let conv := r.converged k.vecs
      { k with conv := conv, met := r.accepts k.vecs && (conv || decide (r.nat 0x2801 13 ≤ k.iters)),
               clamps := k.clamps + cut, repl := k.repl + Config.freePivots j.no j.iters } }

/-- The one iteration of a loss job (R135, R201). -/
def State.iterLoss (s : State) (l : LossJob) : Iteration :=
  { work := (s.job 3).work.prims 20 l.prims, note := fun j => { j with met := true } }

/-- The iteration a class's job is at; none where its owner has no job out. -/
def State.iterationOf (s : State) (c : Nat) : Option Iteration :=
  match c with
  | 0 => s.hyd.snap.map s.iterHyd
  | 1 => (match s.hyd.snap, s.hyd.probe with
    | some n, some d => some (s.iterProbe n d)
    | _, _ => none)
  | 2 => s.disp.run.map s.iterDispatch
  | _ => s.estim.lossJob.map s.iterLoss

/-- An iteration of a class's job completes. -/
def State.iterate (s : State) (c : Nat) : State :=
  match s.iterationOf c with
  | some i => if s.computes c then s.iterated c i.work i.note else s
  | none => s

/-- LOAM_ITERATION_COMPLETE (R201, R203). -/
def execLoamIterationComplete (t c : Nat) (s : State) : Out := onUnit (decide (c < 4)) .solv t s (fun s => s.iterate c)

end Machine
end Sys2Proof
end

