-- ==== Sys2Proof/Machine/LogicInstr.lean ====
section
/-! DEFINITION. The meanings of the logic instructions as commands: each acts on the engine's registers and areas, posts the
events it owes, and halts the program at a run-time fault (R337–R343). -/

namespace Sys2Proof
namespace Machine

/-- NOP (R337). -/
def execNop (s : State) : Out := s.became (s.onLogic (fun l => l.opNop))

/-- TSTB (R337). -/
def execTstb (d : Opd) (s : State) : Out := s.became (s.onLogic (fun l => l.opTstb d))

/-- TSTN (R337). -/
def execTstn (d : Opd) (s : State) : Out := s.became (s.onLogic (fun l => l.opTstn d))

/-- ANDB (R337). -/
def execAndb (d : Opd) (s : State) : Out := s.became (s.onLogic (fun l => l.opAndb d))

/-- ANDN (R337). -/
def execAndn (d : Opd) (s : State) : Out := s.became (s.onLogic (fun l => l.opAndn d))

/-- ORB (R337). -/
def execOrb (d : Opd) (s : State) : Out := s.became (s.onLogic (fun l => l.opOrb d))

/-- ORN (R337). -/
def execOrn (d : Opd) (s : State) : Out := s.became (s.onLogic (fun l => l.opOrn d))

/-- XORB (R337). -/
def execXorb (d : Opd) (s : State) : Out := s.became (s.onLogic (fun l => l.opXorb d))

/-- NOTB (R337). -/
def execNotb (s : State) : Out := s.became (s.onLogic (fun l => l.opNotb))

/-- SETB (R337). -/
def execSetb (d : Opd) (s : State) : Out := s.became (s.onLogic (fun l => l.opSetb d))

/-- CLRB (R337). -/
def execClrb (d : Opd) (s : State) : Out := s.became (s.onLogic (fun l => l.opClrb d))

/-- STB (R337). -/
def execStb (d : Opd) (s : State) : Out := s.became (s.onLogic (fun l => l.opStb d))

/-- LDTB (R337). -/
def execLdtb (n : Nat) (s : State) : Out := s.became (s.onLogic (fun l => l.opLdtb n))

/-- LDW (R337). -/
def execLdw (d : Opd) (s : State) : Out := s.became (s.onLogic (fun l => l.opLdw d))

/-- LDWB (R337). -/
def execLdwb (d : Opd) (s : State) : Out := s.became (s.onLogic (fun l => l.opLdwb d))

/-- LDI (R337). -/
def execLdi (i : Word32) (len : Nat) (s : State) : Out := s.became (s.onLogic (fun l => l.opLdi i len))

/-- STW (R337). -/
def execStw (d : Opd) (s : State) : Out := s.became (s.onLogic (fun l => l.opStw d))

/-- SWAP (R337). -/
def execSwap (s : State) : Out := s.became (s.onLogic (fun l => l.opSwap))

/-- MOVB (R337). -/
def execMovb (s : State) : Out := s.became (s.onLogic (fun l => l.opMovb))

/-- ADD (R337). -/
def execAdd (d : Opd) (s : State) : Out := s.became (s.onLogic (fun l => l.opAdd d))

/-- SUB (R337). -/
def execSub (d : Opd) (s : State) : Out := s.became (s.onLogic (fun l => l.opSub d))

/-- MUL (R337). -/
def execMul (d : Opd) (s : State) : Out := s.became (s.onLogic (fun l => l.opMul d))

/-- DIV (R337). -/
def execDiv (d : Opd) (s : State) : Out := s.became (s.onLogic (fun l => l.opDiv d))

/-- MOD (R337). -/
def execMod (d : Opd) (s : State) : Out := s.became (s.onLogic (fun l => l.opMod d))

/-- MULQ (R337). -/
def execMulq (d : Opd) (s : State) : Out := s.became (s.onLogic (fun l => l.opMulq d))

/-- ABS (R337). -/
def execAbs (s : State) : Out := s.became (s.onLogic (fun l => l.opAbs))

/-- NEG (R337). -/
def execNeg (s : State) : Out := s.became (s.onLogic (fun l => l.opNeg))

/-- LIM (R337). -/
def execLim (d : Opd) (e : Opd) (s : State) : Out := s.became (s.onLogic (fun l => l.opLim d e))

/-- MIN (R337). -/
def execMin (d : Opd) (s : State) : Out := s.became (s.onLogic (fun l => l.opMin d))

/-- MAX (R337). -/
def execMax (d : Opd) (s : State) : Out := s.became (s.onLogic (fun l => l.opMax d))

/-- ANDW (R337). -/
def execAndw (d : Opd) (s : State) : Out := s.became (s.onLogic (fun l => l.opAndw d))

/-- ORW (R337). -/
def execOrw (d : Opd) (s : State) : Out := s.became (s.onLogic (fun l => l.opOrw d))

/-- XORW (R337). -/
def execXorw (d : Opd) (s : State) : Out := s.became (s.onLogic (fun l => l.opXorw d))

/-- NOTW (R337). -/
def execNotw (s : State) : Out := s.became (s.onLogic (fun l => l.opNotw))

/-- SHL (R337). -/
def execShl (n : Nat) (s : State) : Out := s.became (s.onLogic (fun l => l.opShl n))

/-- SHR (R337). -/
def execShr (n : Nat) (s : State) : Out := s.became (s.onLogic (fun l => l.opShr n))

/-- SAR (R337). -/
def execSar (n : Nat) (s : State) : Out := s.became (s.onLogic (fun l => l.opSar n))

/-- CMP (R337). -/
def execCmp (n : Nat) (d : Opd) (s : State) : Out := s.became (s.onLogic (fun l => l.opCmp n d))

/-- BMOV (R337). -/
def execBmov (d : Opd) (e : Opd) (s : State) : Out := s.became (s.onLogic (fun l => l.opBmov d e))

/-- JMP (R337). -/
def execJmp (n : Nat) (s : State) : Out := s.became (s.onLogic (fun l => l.opJmp n))

/-- JMPT (R337). -/
def execJmpt (n : Nat) (s : State) : Out := s.became (s.onLogic (fun l => l.opJmpt n))

/-- JMPF (R337). -/
def execJmpf (n : Nat) (s : State) : Out := s.became (s.onLogic (fun l => l.opJmpf n))

/-- CALL (R337). -/
def execCall (n : Nat) (s : State) : Out := s.became (s.onLogic (fun l => l.opCall n))

/-- RET (R337). -/
def execRet (s : State) : Out := s.became (s.onLogic (fun l => l.opRet))

/-- LOOP (R337). -/
def execLoop (n : Nat) (s : State) : Out := s.became (s.onLogic (fun l => l.opLoop n))

/-- END (R337). -/
def execEnd (s : State) : Out := s.became (s.onLogic (fun l => l.opEnd))

/-- TMR (R337). -/
def execTmr (n : Nat) (s : State) : Out := s.became (s.onLogic (fun l => l.opTmr n))

/-- CTU (R337). -/
def execCtu (n : Nat) (s : State) : Out := s.became (s.onLogic (fun l => l.opCtu n))

/-- CTD (R337). -/
def execCtd (n : Nat) (s : State) : Out := s.became (s.onLogic (fun l => l.opCtd n))

/-- CRS (R337). -/
def execCrs (n : Nat) (s : State) : Out := s.became (s.onLogic (fun l => l.opCrs n))

/-- EDR (R337). -/
def execEdr (n : Nat) (s : State) : Out := s.became (s.onLogic (fun l => l.opEdr n))

/-- EDF (R337). -/
def execEdf (n : Nat) (s : State) : Out := s.became (s.onLogic (fun l => l.opEdf n))

/-- EVT (R337). -/
def execEvt (n : Nat) (s : State) : Out := s.became (s.onLogic (fun l => l.opEvt n))

end Machine
end Sys2Proof
end

