-- ==== Sys2Proof/Machine/Scan.lean ====
section
/-! DEFINITION. The test access port (R568–R571): its instructions, the identification, boundary-scan and bypass registers, and what
drives the balls. -/

namespace Sys2Proof
namespace Machine

/-- The code of an instruction (R568). -/
def TapReg.code : TapReg → Nat
  | .extest => 0 | .samplePreload => 1 | .idcode => 2 | .clamp => 3 | .highz => 4 | .bypass => 63

/-- The instruction of a code of the 6-bit register; every code not listed acts as `BYPASS` (R568). -/
def tapOf (c : Nat) : TapReg :=
  match c % 64 with
  | 0 => .extest | 1 => .samplePreload | 2 => .idcode | 3 => .clamp | 4 => .highz | _ => .bypass

/-- The identification register (R569). -/
def idRegister : Nat := (Config.stepping / 256 % 16) * 268435456 + 0x5120 * 4096 + 0x2D5 * 2 + 1

/-- The low `n` bits of a number, least significant first: the order in which a register shifts out. -/
def bitsOf (n v : Nat) : List Bool := (List.range n).map (bitOf v)

/-- A boundary-scan register of 323 cells (R570); cells not shifted in are 0. -/
def cells (l : List Bool) : List Bool := (List.range 323).map (fun i => nth false l i)

/-- A ball of the boundary-scan register whose level the device's state gives, or another (R551). -/
inductive Ball where
  | dio (k : Nat) | po (k : Nat) | pw (k : Nat) | ready | faultN | own | wakeOut | other
  deriving DecidableEq, Repr

/-- What a cell does (R570). -/
inductive CellRole where
  | input | output | control
  deriving DecidableEq, Repr

/-- The cells of `n` balls of one kind, in the order in which each ball contributes them (R570). -/
def cellsOf (n : Nat) (roles : List CellRole) (b : Nat → Ball) : List (CellRole × Ball) :=
  (List.range n).flatMap (fun k => roles.map (fun r => (r, b k)))

/-- The cells from `TDI` to `TDO`: the order of R551's table, the Jiest pairs in that of R552's (R570). -/
def cellMap : List (CellRole × Ball) :=
  let i := [CellRole.input]
  let o := [CellRole.output, .control]
  let io := [CellRole.input, .output, .control]
  let any := fun (_ : Nat) => Ball.other
  cellsOf 32 io .dio ++ cellsOf 32 i any ++ cellsOf 8 o .po ++ cellsOf 16 o .pw ++ cellsOf 16 i any ++
  (List.range 5).flatMap (fun _ => cellsOf 3 o any ++ cellsOf 3 i any) ++ (List.range 8).flatMap (fun _ => cellsOf 1 o any ++ cellsOf 1 i any) ++
  (cellsOf 2 i any ++ cellsOf 4 io any ++ cellsOf 1 o any) ++ cellsOf 1 i any ++
  (List.range 2).flatMap (fun _ => cellsOf 6 o any ++ cellsOf 6 i any) ++
  (cellsOf 1 o (fun _ => .ready) ++ cellsOf 1 o (fun _ => .faultN) ++ cellsOf 1 o (fun _ => .own) ++ cellsOf 1 i any ++ cellsOf 1 o (fun _ => .wakeOut))

/-- `DIOk` is driven: its bit is in `DIO_OUT`, and an image is committed (R326, R533). -/
def State.dioDriven (s : State) (k : Nat) : Bool :=
  s.logic.committed && bitOf ((s.logic.loaded.map (·.dioOut)).getD 0) k

/-- What a cell captures of the device (R570): an output's level, and whether it is enabled, where State holds them; else the level that
the ball carries. `FAULT_N` is open-drain (R534). -/
def State.cellNow (s : State) (c : CellRole × Ball) (pin : Bool) : Bool :=
  match c with
  | (.output, .dio k) => bitOf (Tab.get 0 s.logic.qc 0).toNat k
  | (.control, .dio k) => s.dioDriven k
  | (.output, .po k) => (Tab.get {} s.metr.pos k).level
  | (.output, .pw k) => s.pwmLevel k
  | (.output, .ready) => s.ready
  | (.output, .faultN) => false
  | (.control, .faultN) => s.faultLow
  | (.output, .own) => s.ownPin
  | (.output, .wakeOut) => s.cal.wakeOut
  | _ => pin

/-- The boundary-scan register as it captures, with the levels `pins` at the balls. -/
def State.cellsNow (s : State) (pins : List Bool) : List Bool := (cellMap.zip (cells pins)).map (fun e => s.cellNow e.1 e.2)

/-- The TAP works while VIO33 is supplied, whatever the device state; loading an instruction shifts out what the instruction register
captures, 0b000001 (R568). -/
def onTap (t : Nat) (s : State) (f : Tap → Tap) : Out :=
  atMoment t s (fun s => if s.power.supplies then { s with tap := f { s.tap with irOut := bitsOf 6 1 } } else s)

/-- `SAMPLE/PRELOAD`: the cells captured are shifted out, and the register is loaded. -/
def Tap.sample (v : Tap) (ir : TapReg) (captured load : List Bool) : Tap :=
  { v with ir := ir, tdo := captured, bsr := cells load, drive := 0, held := [] }

/-- A one-bit bypass scan: it captures 0, and the bit shifted in stays. -/
def Tap.through (v : Tap) (ir : TapReg) (drive : Nat) (held : List Bool) (bit : Bool) : Tap :=
  { v with ir := ir, tdo := [false], bypassBit := bit, drive := drive, held := held }

/-- TAP_RESET (R568, R571). -/
def execTapReset (t : Nat) (s : State) : Out := atMoment t s (fun s => if s.power.supplies then { s with tap := { s.tap with ir := .idcode, drive := 0, held := [] } } else s)
/-- IDCODE (R569). -/
def execIdcode (t : Nat) (s : State) : Out :=
  onTap t s (fun v => { v with ir := .idcode, tdo := bitsOf 32 idRegister, drive := 0, held := [] })
/-- SAMPLE_PRELOAD (R568). -/
def execSamplePreload (t : Nat) (pins load : List Bool) (s : State) : Out := onTap t s (fun v => v.sample .samplePreload ((s.advance t).cellsNow pins) load)
/-- BYPASS (R568). -/
def execBypass (t : Nat) (bit : Bool) (s : State) : Out := onTap t s (fun v => v.through .bypass 0 [] bit)
/-- EXTEST (R571): the register drives the balls only while `RESET_N` is low. -/
def execExtest (t : Nat) (pins load : List Bool) (s : State) : Out :=
  onTap t s (fun v => { v.sample .extest ((s.advance t).cellsNow pins) load with drive := if s.power.resetN then 0 else 1 })
/-- CLAMP (R571): the outputs are held at what the register holds, and bypass is selected, only while `RESET_N` is low. -/
def execClamp (t : Nat) (pins load : List Bool) (bit : Bool) (s : State) : Out :=
  onTap t s (fun v => if s.power.resetN then v.sample .clamp ((s.advance t).cellsNow pins) load else v.through .clamp 2 v.bsr bit)
/-- HIGHZ (R571): the outputs are released, and bypass is selected, only while `RESET_N` is low. -/
def execHighz (t : Nat) (pins load : List Bool) (bit : Bool) (s : State) : Out :=
  onTap t s (fun v => if s.power.resetN then v.sample .highz ((s.advance t).cellsNow pins) load else v.through .highz 3 [] bit)

end Machine
end Sys2Proof
end

