-- ==== Sys2Proof/Machine/WriteBus.lean ====
section
/-! DEFINITION. The commands that write entries of the CAN ports, sessions and keys (chapters 12 and 13): each is the access to its entry, with every check
of R62 and its owner's answer. -/

namespace Sys2Proof
namespace Machine

/-- PORT_ENABLE (R361): `PORT_ENABLE` := 1. -/
def execPortEnable (t : Nat) (a : Acc) (p : Nat) (s : State) : Out :=
  writeCmd (decide (p < 8)) t a (0x1200 + p) 1 [1] s

/-- PORT_DISABLE (R361): `PORT_ENABLE` := 0. -/
def execPortDisable (t : Nat) (a : Acc) (p : Nat) (s : State) : Out :=
  writeCmd (decide (p < 8)) t a (0x1200 + p) 1 [0] s

/-- BUSOFF_RECOVER (R373): `BUSOFF_RECOVER`. -/
def execBusoffRecover (t : Nat) (a : Acc) (p : Nat) (s : State) : Out :=
  writeCmd (decide (p < 8)) t a (0x5800 + p) 9 [1] s

/-- APP_TX (R366): `APP_TX_b`. -/
def execAppTx (t : Nat) (a : Acc) (p b : Nat) (v : Octets) (s : State) : Out :=
  writeCmd (decide (p < 8 ∧ b < 4)) t a (0x5800 + p) (0x0B + b) v s

/-- APP_CANCEL (R365): `APP_CANCEL`. -/
def execAppCancel (t : Nat) (a : Acc) (p mask : Nat) (s : State) : Out :=
  writeCmd (decide (p < 8)) t a (0x5800 + p) 0x0F (leBytes 1 mask) s

/-- DUP_CLEAR (R374): `DUP_CLEAR`. -/
def execDupClear (t : Nat) (a : Acc) (p : Nat) (s : State) : Out :=
  writeCmd (decide (p < 8)) t a (0x5800 + p) 8 [1] s

/-- PORT_CLEAR_STICKY (R381): `CLEAR_STICKY`. -/
def execPortClearSticky (t : Nat) (a : Acc) (p : Nat) (s : State) : Out :=
  writeCmd (decide (p < 8)) t a (0x5800 + p) 0x0A [1] s

/-- FILTER (R369): filter pair `k`. -/
def execFilter (t : Nat) (a : Acc) (p k : Nat) (v : Octets) (s : State) : Out :=
  writeCmd (decide (p < 8 ∧ k < 64)) t a (0x5840 + p) (k + 1) v s

/-- FILTER_ALL (R369): all filter pairs. -/
def execFilterAll (t : Nat) (a : Acc) (p : Nat) (v : Octets) (s : State) : Out :=
  writeCmd (decide (p < 8)) t a (0x5840 + p) 0x41 v s

/-- SPARE_REQUEST (R375): `SPARE_REQUEST`. -/
def execSpareRequest (t : Nat) (a : Acc) (p : Nat) (s : State) : Out :=
  writeCmd (decide (p < 8)) t a 0x1208 2 (leBytes 1 p) s

/-- SESSION_KILL (R395): `SESSION_KILL`. -/
def execSessionKill (t : Nat) (a : Acc) (n : Nat) (s : State) : Out :=
  writeCmd (decide (n < 256)) t a (0x1400 + n) 0x0B (leBytes 4 0xC105) s

/-- KEY_WRAPPED (R385): `KEY_WRAPPED`. -/
def execKeyWrapped (t : Nat) (a : Acc) (k : Nat) (v : Octets) (s : State) : Out :=
  writeCmd (decide (k < 64)) t a (0x1800 + k) 1 v s

/-- KEY_ERASE (R386): `KEY_ERASE`. -/
def execKeyErase (t : Nat) (a : Acc) (k : Nat) (s : State) : Out :=
  writeCmd (decide (k < 64)) t a (0x1800 + k) 2 (leBytes 4 0xE2A5) s

end Machine
end Sys2Proof
end

