-- ==== Sys2Proof/Machine/WriteControl.lean ====
section
/-! DEFINITION. The commands that write entries of the control engine, the repetitive controllers and the probes (chapters 7 and 8): each is the access to its entry, with every check
of R62 and its owner's answer. -/

namespace Sys2Proof
namespace Machine

/-- MODE_REQ_OFF (R226): `MODE_REQ` OFF. -/
def execModeReqOff (t : Nat) (a : Acc) (n : Nat) (s : State) : Out :=
  writeCmd (decide (n < 1024)) t a (0x3000 + n) 0x0D [0] s

/-- MODE_REQ_OPEN (R226): `MODE_REQ` OPEN. -/
def execModeReqOpen (t : Nat) (a : Acc) (n : Nat) (s : State) : Out :=
  writeCmd (decide (n < 1024)) t a (0x3000 + n) 0x0D [1] s

/-- MODE_REQ_CLOSED (R226): `MODE_REQ` CLOSED. -/
def execModeReqClosed (t : Nat) (a : Acc) (n : Nat) (s : State) : Out :=
  writeCmd (decide (n < 1024)) t a (0x3000 + n) 0x0D [2] s

/-- MODE_REQ_TRACK (R226): `MODE_REQ` TRACK. -/
def execModeReqTrack (t : Nat) (a : Acc) (n : Nat) (s : State) : Out :=
  writeCmd (decide (n < 1024)) t a (0x3000 + n) 0x0D [3] s

/-- COEF_CLASS_WRITE (R229): an entry of the coefficient class. -/
def execCoefClassWrite (t : Nat) (a : Acc) (n sub : Nat) (v : Octets) (s : State) : Out :=
  writeCmd (decide (n < 1024 ∧ (1 ≤ sub ∧ sub ≤ 6 ∨ sub = 0x0C))) t a (0x3000 + n) sub v s

/-- LOOP_LIVE_WRITE (R230): an entry that takes effect at the next evaluation. -/
def execLoopLiveWrite (t : Nat) (a : Acc) (n sub : Nat) (v : Octets) (s : State) : Out :=
  writeCmd (decide (n < 1024 ∧ 7 ≤ sub ∧ sub ≤ 0x0B)) t a (0x3000 + n) sub v s

/-- LOOP_CLEAR_STICKY (R243): `CLEAR_STICKY`. -/
def execLoopClearSticky (t : Nat) (a : Acc) (n : Nat) (s : State) : Out :=
  writeCmd (decide (n < 1024)) t a (0x3400 + n) 9 [1] s

/-- REP_CLEAR (R254): `REP_CLEAR`. -/
def execRepClear (t : Nat) (a : Acc) (n : Nat) (s : State) : Out :=
  writeCmd (decide (n < 1024)) t a (0x3800 + n) 2 [1] s

/-- REP_CONFIG (R248): `REP_CONFIG`. -/
def execRepConfig (t : Nat) (a : Acc) (n : Nat) (v : Octets) (s : State) : Out :=
  writeCmd (decide (n < 1024)) t a (0x3800 + n) 1 v s

/-- REP_TABLE (R255): `REP_TABLE`. -/
def execRepTable (t : Nat) (a : Acc) (n : Nat) (v : Octets) (s : State) : Out :=
  writeCmd (decide (n < 1024)) t a (0x3800 + n) 5 v s

/-- PROBE_CONFIG (R259): `PROBE_CONFIG`. -/
def execProbeConfig (t : Nat) (a : Acc) (p : Nat) (v : Octets) (s : State) : Out :=
  writeCmd (decide (p < 32)) t a (0x3C00 + p) 1 v s

/-- ARM (R260): `ARM`. -/
def execArm (t : Nat) (a : Acc) (mask : Nat) (s : State) : Out :=
  writeCmd true t a 0x3C80 1 (leBytes 4 mask) s

/-- TRIGGER_NOW (R261): `TRIGGER_NOW`. -/
def execTriggerNow (t : Nat) (a : Acc) (mask : Nat) (s : State) : Out :=
  writeCmd true t a 0x3C80 2 (leBytes 4 mask) s

/-- TRACE_ABORT (R263): `ABORT`. -/
def execTraceAbort (t : Nat) (a : Acc) (mask : Nat) (s : State) : Out :=
  writeCmd true t a 0x3C80 3 (leBytes 4 mask) s

/-- CLEAR_FLAGS (R267): `CLEAR_FLAGS`. -/
def execClearFlags (t : Nat) (a : Acc) (mask : Nat) (s : State) : Out :=
  writeCmd true t a 0x3C80 5 (leBytes 4 mask) s

end Machine
end Sys2Proof
end

