-- ==== Sys2Proof/Machine/WriteLogic.lean ====
section
/-! DEFINITION. The commands that write entries of the logic engine (chapter 11): each is the access to its entry, with every check
of R62 and its owner's answer. -/

namespace Sys2Proof
namespace Machine

/-- STOP (R328): `PROG_CMD` STOP. -/
def execStop (t : Nat) (a : Acc) (s : State) : Out :=
  writeCmd true t a 0x5000 2 [1] s

/-- START_WARM (R328): `PROG_CMD` START_WARM. -/
def execStartWarm (t : Nat) (a : Acc) (s : State) : Out :=
  writeCmd true t a 0x5000 2 [2] s

/-- START_COLD (R328): `PROG_CMD` START_COLD. -/
def execStartCold (t : Nat) (a : Acc) (s : State) : Out :=
  writeCmd true t a 0x5000 2 [3] s

/-- PROG_ACTIVATE (R349): `PROG_CMD` ACTIVATE. -/
def execProgActivate (t : Nat) (a : Acc) (s : State) : Out :=
  writeCmd true t a 0x5000 2 [4] s

/-- RESET_FAULT (R328): `PROG_CMD` RESET_FAULT. -/
def execResetFault (t : Nat) (a : Acc) (s : State) : Out :=
  writeCmd true t a 0x5000 2 [5] s

/-- CHANGE_SET (R345): `CHANGE_SET`. -/
def execChangeSet (t : Nat) (a : Acc) (v : Octets) (s : State) : Out :=
  writeCmd true t a 0x5010 1 v s

/-- K_WORD (R346): K word `w`. -/
def execKWord (t : Nat) (a : Acc) (w v : Nat) (s : State) : Out :=
  writeCmd (decide (w < 16384)) t a (0x5100 + w / 64) (w % 64 + 1) (leBytes 4 v) s

/-- FORCE_SET (R344): `FORCE_SET`: a descriptor and a value. -/
def execForceSet (t : Nat) (a : Acc) (d v : Nat) (s : State) : Out :=
  writeCmd true t a 0x5200 1 (leBytes 4 d ++ leBytes 4 v) s

/-- FORCE_RELEASE (R344): `FORCE_RELEASE`. -/
def execForceRelease (t : Nat) (a : Acc) (d : Nat) (s : State) : Out :=
  writeCmd true t a 0x5200 2 (leBytes 4 d) s

/-- FORCE_RELEASE_ALL (R353): `FORCE_RELEASE` of every force. -/
def execForceReleaseAll (t : Nat) (a : Acc) (s : State) : Out :=
  writeCmd true t a 0x5200 2 (leBytes 4 0xFFFFFFFF) s

end Machine
end Sys2Proof
end

