-- ==== Sys2Proof/Machine/WriteMeter.lean ====
section
/-! DEFINITION. The commands that write entries of electrical, heat and pulse metering, core samples (chapters 9 and 10): each is the access to its entry, with every check
of R62 and its owner's answer. -/

namespace Sys2Proof
namespace Machine

/-- WAVE_ARM (R284): `WAVE_ARM` for the next event start. -/
def execWaveArm (t : Nat) (a : Acc) (c : Nat) (s : State) : Out :=
  writeCmd (decide (c < 4)) t a 0x4880 3 (leBytes 1 c) s

/-- WAVE_TRIGGER (R284): `WAVE_ARM` at once. -/
def execWaveTrigger (t : Nat) (a : Acc) (c : Nat) (s : State) : Out :=
  writeCmd (decide (c < 4)) t a 0x4880 3 (leBytes 1 (16 + c)) s

/-- ENERGY_CLEAR (R278): `ENERGY_CLEAR`. -/
def execEnergyClear (t : Nat) (a : Acc) (c : Nat) (s : State) : Out :=
  writeCmd (decide (c < 4)) t a (0x4810 + c) 0x1E (leBytes 4 0xC1EA) s

/-- CP_CONFIG_WRITE (R289): a configuration entry of a connection point. -/
def execCpConfigWrite (t : Nat) (a : Acc) (c sub : Nat) (v : Octets) (s : State) : Out :=
  writeCmd (decide (c < 4 ∧ 1 ≤ sub ∧ sub ≤ 0x0B)) t a (0x4800 + c) sub v s

/-- PO_CONFIG (R286): `PO_CONFIG`. -/
def execPoConfig (t : Nat) (a : Acc) (j : Nat) (v : Octets) (s : State) : Out :=
  writeCmd (decide (j < 8)) t a 0x4820 (j + 1) v s

/-- CAL_REQUEST (R288): `CAL_REQUEST`. -/
def execCalRequest (t : Nat) (a : Acc) (c k : Nat) (s : State) : Out :=
  writeCmd (decide (c < 4)) t a (0x4800 + c) 0x30 (leBytes 1 k) s

/-- CAL_ABORT (R288): `CAL_ABORT`. -/
def execCalAbort (t : Nat) (a : Acc) (c k : Nat) (s : State) : Out :=
  writeCmd (decide (c < 4)) t a (0x4800 + c) 0x31 (leBytes 1 k) s

/-- CP_CAL_CLEAR (R288): `CAL_CLEAR`. -/
def execCpCalClear (t : Nat) (a : Acc) (c : Nat) (s : State) : Out :=
  writeCmd (decide (c < 4)) t a (0x4800 + c) 0x33 [1] s

/-- PI_CONFIG (R305): `PI_CONFIG`. -/
def execPiConfig (t : Nat) (a : Acc) (i : Nat) (v : Octets) (s : State) : Out :=
  writeCmd (decide (i < 32)) t a (0x4830 + i) 1 v s

/-- PI_CLEAR (R306): `PI_CLEAR`. -/
def execPiClear (t : Nat) (a : Acc) (i : Nat) (s : State) : Out :=
  writeCmd (decide (i < 32)) t a (0x4830 + i) 4 (leBytes 4 0xC1EA) s

/-- CH_CLEAR (R304): `CH_CLEAR`. -/
def execChClear (t : Nat) (a : Acc) (c : Nat) (s : State) : Out :=
  writeCmd (decide (c < 512)) t a (0x4200 + c) 6 (leBytes 4 0xC1EA) s

/-- CS_NOW (R311): `CS_NOW`. -/
def execCsNow (t : Nat) (a : Acc) (s : State) : Out :=
  writeCmd true t a 0x48F0 1 [1] s

/-- CS_AT (R311): `CS_AT`. -/
def execCsAt (t : Nat) (a : Acc) (time : Nat) (s : State) : Out :=
  writeCmd true t a 0x48F0 2 (leBytes 8 time) s

/-- CS_AT_CANCEL (R323): `CS_AT` with 0. -/
def execCsAtCancel (t : Nat) (a : Acc) (s : State) : Out :=
  writeCmd true t a 0x48F0 2 (leBytes 8 0) s

end Machine
end Sys2Proof
end

