-- ==== Sys2Proof/Machine/WriteModel.lean ====
section
/-! DEFINITION. The commands that write entries of the model, the planner and the estimator (chapters 3 to 5): each is the access to its entry, with every check
of R62 and its owner's answer. -/

namespace Sys2Proof
namespace Machine

/-- MODEL_ACTIVATE (R106): `ACTIVATE`. -/
def execModelActivate (t : Nat) (a : Acc) (s : State) : Out :=
  writeCmd true t a 0x2000 3 (leBytes 4 0x4D0D) s

/-- RECIPE (R95): recipe `r`. -/
def execRecipe (t : Nat) (a : Acc) (r : Nat) (v : Octets) (s : State) : Out :=
  writeCmd (decide (r < 256)) t a (0x7000 + r) 1 v s

/-- RECIPE_ASSIGN (R96): `RECIPE_ASSIGN`. -/
def execRecipeAssign (t : Nat) (a : Acc) (v : Octets) (s : State) : Out :=
  writeCmd true t a 0x2006 2 v s

/-- TARIFF_SERIES (R97): tariff series `j`. -/
def execTariffSeries (t : Nat) (a : Acc) (j : Nat) (v : Octets) (s : State) : Out :=
  writeCmd (decide (j < 8)) t a 0x2007 (j + 1) v s

/-- TARIFF_ALL (R97): `TARIFF_ALL`. -/
def execTariffAll (t : Nat) (a : Acc) (v : Octets) (s : State) : Out :=
  writeCmd true t a 0x2007 9 v s

/-- FC_SERIES (R98): forecast series `q`. -/
def execFcSeries (t : Nat) (a : Acc) (q : Nat) (v : Octets) (s : State) : Out :=
  writeCmd (decide (q < 3)) t a 0x2008 (q + 1) v s

/-- FC_ALL (R98): `FC_ALL`. -/
def execFcAll (t : Nat) (a : Acc) (v : Octets) (s : State) : Out :=
  writeCmd true t a 0x2008 4 v s

/-- ESTIM_RESET (R140): `ESTIM_RESET`. -/
def execEstimReset (t : Nat) (a : Acc) (s : State) : Out :=
  writeCmd true t a 0x2840 0x0D (leBytes 4 0xE57A) s

/-- REPLAN_NOW (R145): `REPLAN_NOW`. -/
def execReplanNow (t : Nat) (a : Acc) (s : State) : Out :=
  writeCmd true t a 0x2810 5 (leBytes 4 0x9A1D) s

/-- FORCE_COLD (R165): `FORCE_COLD`. -/
def execForceCold (t : Nat) (a : Acc) (s : State) : Out :=
  writeCmd true t a 0x2810 6 (leBytes 4 0xC01D) s

/-- HORIZON (R150): `HORIZON`. -/
def execHorizon (t : Nat) (a : Acc) (n : Nat) (s : State) : Out :=
  writeCmd true t a 0x2810 3 (leBytes 2 n) s

/-- STEP_LEN (R150): `STEP_LEN`. -/
def execStepLen (t : Nat) (a : Acc) (n : Nat) (s : State) : Out :=
  writeCmd true t a 0x2810 4 (leBytes 1 n) s

end Machine
end Sys2Proof
end

