-- ==== Sys2Proof/Machine/WriteSystem.lean ====
section
/-! DEFINITION. The commands that write entries of the device, the calendar, redundancy and the cascade, health, the log and restarts (chapters 1, 2, 15 to 20): each is the access to its entry, with every check
of R62 and its owner's answer. -/

namespace Sys2Proof
namespace Machine

/-- ENTER_SAFE_HOLD (R47): request 1 at `STATE_REQUEST`. -/
def execEnterSafeHold (t : Nat) (a : Acc) (s : State) : Out :=
  writeCmd true t a 0x1001 6 [1] s

/-- LEAVE_SAFE_HOLD (R47): request 2 at `STATE_REQUEST`. -/
def execLeaveSafeHold (t : Nat) (a : Acc) (s : State) : Out :=
  writeCmd true t a 0x1001 6 [2] s

/-- ENTER_SERVICE (R44): request 3 at `STATE_REQUEST`. -/
def execEnterService (t : Nat) (a : Acc) (s : State) : Out :=
  writeCmd true t a 0x1001 6 [3] s

/-- STORE_ALL (R56): `STORE_ALL`. -/
def execStoreAll (t : Nat) (a : Acc) (s : State) : Out :=
  writeCmd true t a 0x1010 1 (leBytes 4 0x5AFE) s

/-- RESTORE_DEFAULTS (R57): `RESTORE_DEFAULTS`. -/
def execRestoreDefaults (t : Nat) (a : Acc) (s : State) : Out :=
  writeCmd true t a 0x1011 1 (leBytes 4 0xD3FA) s

/-- WARM_RESTART_REQUEST (R545): `RESTART_REQ` 1. -/
def execWarmRestartRequest (t : Nat) (a : Acc) (s : State) : Out :=
  writeCmd true t a 0x5001 1 [1] s

/-- COLD_RESTART_REQUEST (R545): `RESTART_REQ` 2. -/
def execColdRestartRequest (t : Nat) (a : Acc) (s : State) : Out :=
  writeCmd true t a 0x5001 1 [2] s

/-- STANDBY_REQ (R546): `STANDBY_REQ`. -/
def execStandbyReq (t : Nat) (a : Acc) (s : State) : Out :=
  writeCmd true t a 0x5001 0x0A (leBytes 4 0x57B0) s

/-- CAL_HALT_SET (R417): `HALT` set. -/
def execCalHaltSet (t : Nat) (a : Acc) (s : State) : Out :=
  writeCmd true t a 0x6001 1 [1] s

/-- CAL_HALT_CLEAR (R417): `HALT` cleared. -/
def execCalHaltClear (t : Nat) (a : Acc) (s : State) : Out :=
  writeCmd true t a 0x6001 1 [0] s

/-- CAL_FIELD_WRITE (R419): a calendar field. -/
def execCalFieldWrite (t : Nat) (a : Acc) (sub v : Nat) (s : State) : Out :=
  writeCmd (decide (1 ≤ sub ∧ sub ≤ 8)) t a 0x6000 sub (leBytes 1 v) s

/-- OFFSET_STEP (R418): `OFFSET_STEP`. -/
def execOffsetStep (t : Nat) (a : Acc) (v : Int) (s : State) : Out :=
  writeCmd true t a 0x6001 9 (leInt 4 v) s

/-- ALARM (R423): `ALARM`. -/
def execAlarm (t : Nat) (a : Acc) (v : Octets) (s : State) : Out :=
  writeCmd true t a 0x6001 4 v s

/-- WAKE (R425): `WAKE`. -/
def execWake (t : Nat) (a : Acc) (v : Octets) (s : State) : Out :=
  writeCmd true t a 0x6001 5 v s

/-- CALENDAR_CLEAR (R433): `CAL_CLEAR`. -/
def execCalendarClear (t : Nat) (a : Acc) (s : State) : Out :=
  writeCmd true t a 0x6001 3 [1] s

/-- TIME_SOURCE (R428): `TIME_SOURCE`. -/
def execTimeSource (t : Nat) (a : Acc) (v : Nat) (s : State) : Out :=
  writeCmd true t a 0x6010 2 (leBytes 1 v) s

/-- HANDOVER (R449): `HANDOVER`. -/
def execHandover (t : Nat) (a : Acc) (x : Nat) (s : State) : Out :=
  writeCmd true t a 0x6400 0x0B (leBytes 1 x) s

/-- READMIT (R458): `READMIT`. -/
def execReadmit (t : Nat) (a : Acc) (x : Nat) (s : State) : Out :=
  writeCmd true t a 0x6400 0x0C (leBytes 1 x) s

/-- LEASE_CLEAR_STICKY (R460): `CLEAR_STICKY` of the lease. -/
def execLeaseClearSticky (t : Nat) (a : Acc) (s : State) : Out :=
  writeCmd true t a 0x6401 9 [1] s

/-- JIEST_PORTS (R468): `JIEST_PORTS`. -/
def execJiestPorts (t : Nat) (a : Acc) (v : Nat) (s : State) : Out :=
  writeCmd true t a 0x6410 2 (leBytes 1 v) s

/-- CRC_START (R490): `CRC_CMD` start. -/
def execCrcStart (t : Nat) (a : Acc) (c : Nat) (s : State) : Out :=
  writeCmd (decide (c < 4)) t a (0x6800 + c) 2 [1] s

/-- CRC_ABORT (R490): `CRC_CMD` abort. -/
def execCrcAbort (t : Nat) (a : Acc) (c : Nat) (s : State) : Out :=
  writeCmd (decide (c < 4)) t a (0x6800 + c) 2 [2] s

/-- CRC_CONFIG (R485): `CRC_CONFIG`. -/
def execCrcConfig (t : Nat) (a : Acc) (c : Nat) (v : Octets) (s : State) : Out :=
  writeCmd (decide (c < 4)) t a (0x6800 + c) 1 v s

/-- CRC_CLEAR (R491): `CRC_CLEAR`. -/
def execCrcClear (t : Nat) (a : Acc) (c : Nat) (s : State) : Out :=
  writeCmd (decide (c < 4)) t a (0x6800 + c) 5 [1] s

/-- ST_REQUEST (R500): `ST_REQUEST`. -/
def execStRequest (t : Nat) (a : Acc) (v : Octets) (s : State) : Out :=
  writeCmd true t a 0x6810 1 v s

/-- ST_ABORT (R502): `ST_ABORT`. -/
def execStAbort (t : Nat) (a : Acc) (p : Nat) (s : State) : Out :=
  writeCmd true t a 0x6810 2 (leBytes 1 p) s

/-- ST_CLEAR (R502): `ST_CLEAR`. -/
def execStClear (t : Nat) (a : Acc) (s : State) : Out :=
  writeCmd true t a 0x6810 6 [1] s

/-- FULL_BIST (R497): `FULL_BIST`. -/
def execFullBist (t : Nat) (a : Acc) (s : State) : Out :=
  writeCmd true t a 0x6810 7 (leBytes 4 0xB157) s

/-- ALARM_ACK (R516): `ALARM_ACK` of a source with its count. -/
def execAlarmAck (t : Nat) (a : Acc) (src n : Nat) (s : State) : Out :=
  writeCmd true t a 0x6C10 4 (leBytes 2 src ++ leBytes 4 n) s

/-- ALARM_ACK_ALL (R516): `ALARM_ACK` of every source. -/
def execAlarmAckAll (t : Nat) (a : Acc) (s : State) : Out :=
  writeCmd true t a 0x6C10 4 (leBytes 2 0xFFFF ++ leBytes 4 0) s

/-- ALARM_RESET (R516): `ALARM_RESET` of a source. -/
def execAlarmReset (t : Nat) (a : Acc) (src : Nat) (s : State) : Out :=
  writeCmd true t a 0x6C10 5 (leBytes 2 src) s

/-- ALARM_RESET_ALL (R516): `ALARM_RESET` of every source. -/
def execAlarmResetAll (t : Nat) (a : Acc) (s : State) : Out :=
  writeCmd true t a 0x6C10 5 (leBytes 2 0xFFFF) s

/-- SUBSCRIPTION (R517): `SUBSCRIPTION_n`. -/
def execSubscription (t : Nat) (a : Acc) (n : Nat) (v : Octets) (s : State) : Out :=
  writeCmd (decide (n < 8)) t a 0x6C00 (0x10 + n) v s

/-- SHED_CLEAR (R527): `SHED_CLEAR`. -/
def execShedClear (t : Nat) (a : Acc) (s : State) : Out :=
  writeCmd true t a 0x6C20 2 [1] s

end Machine
end Sys2Proof
end

