-- ==== Sys2Proof/Machine/Dispatch.lean ====
section
/-! DEFINITION. The dispatch: one arm per command, each one direct call of its meaning. -/

namespace Sys2Proof.Machine
open Sys2Proof

/-- The effect of a command on everything but the queue of waiting commands. -/
def exec (i : Instr) (s : State) : Host.Outcome State Fault Refusal :=
  match i with
  | .clockSwitch t isl dur => Sys2Proof.Machine.execClockSwitch t isl dur s
  | .refclkLost t => Sys2Proof.Machine.execRefclkLost t s
  | .refclkRelock t => Sys2Proof.Machine.execRefclkRelock t s
  | .degradedCauseTimeout t => Sys2Proof.Machine.execDegradedCauseTimeout t s
  | .enterSafeHold t a => Sys2Proof.Machine.execEnterSafeHold t a s
  | .leaveSafeHold t a => Sys2Proof.Machine.execLeaveSafeHold t a s
  | .enterService t a => Sys2Proof.Machine.execEnterService t a s
  | .fabricWordReceive t a b w err => Sys2Proof.Machine.execFabricWordReceive t a b w err s
  | .ackWord t a b data par => Sys2Proof.Machine.execAck t a b data par s
  | .replayWord t a b data par => Sys2Proof.Machine.execReplay t a b data par s
  | .faultWord t a b data par => Sys2Proof.Machine.execFault t a b data par s
  | .replayTimeout t a b => Sys2Proof.Machine.execReplayTimeout t a b s
  | .eventPost t isl code unit args edge => Sys2Proof.Machine.execEventPost t isl code unit args edge s
  | .eventGap t isl => Sys2Proof.Machine.execEventGap t isl s
  | .eventAdmit t => Sys2Proof.Machine.execEventAdmit t s
  | .writeEntry t a index sub v crit => Sys2Proof.Machine.execWrite t a index sub v crit s
  | .readInit t a index sub bad => Sys2Proof.Machine.execReadInit t a index sub bad s
  | .writeInit t a index sub total => Sys2Proof.Machine.execWriteInit t a index sub total s
  | .segmentWrite t a offset last b => Sys2Proof.Machine.execSegmentWrite t a offset last b s
  | .segmentRead t a offset bad => Sys2Proof.Machine.execSegmentRead t a offset bad s
  | .describe t a index sub => Sys2Proof.Machine.execDescribe t a index sub s
  | .abortXfer t a index sub code => Sys2Proof.Machine.execAbort t a index sub code s
  | .transferTimeout t n => Sys2Proof.Machine.execTransferTimeout t n s
  | .storeAll t a => Sys2Proof.Machine.execStoreAll t a s
  | .storeDone t ok remaps => Sys2Proof.Machine.execStoreDone t ok remaps s
  | .restoreDefaults t a => Sys2Proof.Machine.execRestoreDefaults t a s
  | .writePdu t l b odd => Sys2Proof.Machine.execWritePdu t l b odd s
  | .readStatus t => Sys2Proof.Machine.execReadStatus t s
  | .readResponse t => Sys2Proof.Machine.execReadResponse t s
  | .modelImageStage t a offset b => Sys2Proof.Machine.execModelImageStage t a offset b s
  | .modelImageValidated t => Sys2Proof.Machine.execModelImageValidated t s
  | .modelActivate t a => Sys2Proof.Machine.execModelActivate t a s
  | .modelWriteDone t ok => Sys2Proof.Machine.execModelWriteDone t ok s
  | .modelSwitch t => Sys2Proof.Machine.execModelSwitch t s
  | .recipe t a r v => Sys2Proof.Machine.execRecipe t a r v s
  | .recipeAssign t a v => Sys2Proof.Machine.execRecipeAssign t a v s
  | .tariffSeries t a j v => Sys2Proof.Machine.execTariffSeries t a j v s
  | .tariffAll t a v => Sys2Proof.Machine.execTariffAll t a v s
  | .fcSeries t a q v => Sys2Proof.Machine.execFcSeries t a q v s
  | .fcAll t a v => Sys2Proof.Machine.execFcAll t a v s
  | .lightDayStart t => Sys2Proof.Machine.execLightDayStart t s
  | .hydPeriodStart t => Sys2Proof.Machine.execHydPeriodStart t s
  | .hydJobEnd t => Sys2Proof.Machine.execHydJobEnd t s
  | .delivProbeEnd t => Sys2Proof.Machine.execDelivProbeEnd t s
  | .hydStale t => Sys2Proof.Machine.execHydStale t s
  | .estimRun t => Sys2Proof.Machine.execEstimRun t s
  | .estimLossEnd t => Sys2Proof.Machine.execEstimLossEnd t s
  | .estimReset t a => Sys2Proof.Machine.execEstimReset t a s
  | .profileUpdate t lost soft => Sys2Proof.Machine.execProfileUpdate t lost soft s
  | .replanStart t lost soft => Sys2Proof.Machine.execReplanStart t lost soft s
  | .replanNow t a => Sys2Proof.Machine.execReplanNow t a s
  | .forceCold t a => Sys2Proof.Machine.execForceCold t a s
  | .horizon t a n => Sys2Proof.Machine.execHorizon t a n s
  | .stepLen t a n => Sys2Proof.Machine.execStepLen t a n s
  | .dispatchJobEnd t => Sys2Proof.Machine.execDispatchJobEnd t s
  | .gridBoundary t => Sys2Proof.Machine.execGridBoundary t s
  | .planStale t => Sys2Proof.Machine.execPlanStale t s
  | .loamPreempt t => Sys2Proof.Machine.execLoamPreempt t s
  | .loamIterationComplete t c => Sys2Proof.Machine.execLoamIterationComplete t c s
  | .loamDeadline t c => Sys2Proof.Machine.execLoamDeadline t c s
  | .loamAbortRequest t c no frm => Sys2Proof.Machine.execLoamAbortRequest t c no frm s
  | .loamParityFault t addr again lost => Sys2Proof.Machine.execLoamParityFault t addr again lost s
  | .loamResidueMismatch t divider lane addr again lost => Sys2Proof.Machine.execLoamResidueMismatch t divider lane addr again lost s
  | .loopEvaluation t n x => Sys2Proof.Machine.execLoopEvaluation t n x s
  | .pipelineTakeover t => Sys2Proof.Machine.execPipelineTakeover t s
  | .modeReqOff t a n => Sys2Proof.Machine.execModeReqOff t a n s
  | .modeReqOpen t a n => Sys2Proof.Machine.execModeReqOpen t a n s
  | .modeReqClosed t a n => Sys2Proof.Machine.execModeReqClosed t a n s
  | .modeReqTrack t a n => Sys2Proof.Machine.execModeReqTrack t a n s
  | .logicModeRequest t n w => Sys2Proof.Machine.execLogicModeRequest t n w s
  | .coefClassWrite t a n sub v => Sys2Proof.Machine.execCoefClassWrite t a n sub v s
  | .loopLiveWrite t a n sub v => Sys2Proof.Machine.execLoopLiveWrite t a n sub v s
  | .loopClearSticky t a n => Sys2Proof.Machine.execLoopClearSticky t a n s
  | .pwmPeriodStart t k => Sys2Proof.Machine.execPwmPeriodStart t k s
  | .aiBackgroundConversion t k code => Sys2Proof.Machine.execAiBackgroundConversion t k code s
  | .repPrefetch t n bad1 bad2 soft => Sys2Proof.Machine.execRepPrefetch t n bad1 bad2 soft s
  | .repClear t a n => Sys2Proof.Machine.execRepClear t a n s
  | .repConfig t a n v => Sys2Proof.Machine.execRepConfig t a n v s
  | .repTable t a n v => Sys2Proof.Machine.execRepTable t a n v s
  | .probeConfig t a p v => Sys2Proof.Machine.execProbeConfig t a p v s
  | .armProbes t a mask => Sys2Proof.Machine.execArm t a mask s
  | .triggerNow t a mask => Sys2Proof.Machine.execTriggerNow t a mask s
  | .traceAbort t a mask => Sys2Proof.Machine.execTraceAbort t a mask s
  | .clearFlags t a mask => Sys2Proof.Machine.execClearFlags t a mask s
  | .captureDone t p => Sys2Proof.Machine.execCaptureDone t p s
  | .meteringSample t d => Sys2Proof.Machine.execMeteringSample t d s
  | .windowEnd t c crit => Sys2Proof.Machine.execWindowEnd t c crit s
  | .freqLost t cp => Sys2Proof.Machine.execFreqLost t cp s
  | .halfCycle t cp => Sys2Proof.Machine.execHalfCycle t cp s
  | .waveArm t a c => Sys2Proof.Machine.execWaveArm t a c s
  | .waveTrigger t a c => Sys2Proof.Machine.execWaveTrigger t a c s
  | .waveCaptureDone t samples => Sys2Proof.Machine.execWaveCaptureDone t samples s
  | .energyClear t a c => Sys2Proof.Machine.execEnergyClear t a c s
  | .cpConfigWrite t a c sub v => Sys2Proof.Machine.execCpConfigWrite t a c sub v s
  | .poConfig t a j v => Sys2Proof.Machine.execPoConfig t a j v s
  | .calRequest t a c k => Sys2Proof.Machine.execCalRequest t a c k s
  | .calAbort t a c k => Sys2Proof.Machine.execCalAbort t a c k s
  | .cpCalClear t a c => Sys2Proof.Machine.execCpCalClear t a c s
  | .calIntervalExpiry t cp => Sys2Proof.Machine.execCalIntervalExpiry t cp s
  | .calStart t => Sys2Proof.Machine.execCalStart t s
  | .calTakeover t diff => Sys2Proof.Machine.execCalTakeover t diff s
  | .calReferenceDone t zero plus minus => Sys2Proof.Machine.execCalReferenceDone t zero plus minus s
  | .calHandback t => Sys2Proof.Machine.execCalHandback t s
  | .modulatorFault t m => Sys2Proof.Machine.execModulatorFault t m s
  | .channelReport t src b crit => Sys2Proof.Machine.execChannelReport t src b crit s
  | .reportTimeout t c => Sys2Proof.Machine.execReportTimeout t c s
  | .setpointFrame t c => Sys2Proof.Machine.execSetpointFrame t c s
  | .setpointRefresh t c => Sys2Proof.Machine.execSetpointRefresh t c s
  | .commandFrame t c => Sys2Proof.Machine.execCommandFrame t c s
  | .commandRefresh t c => Sys2Proof.Machine.execCommandRefresh t c s
  | .pulseEdge t n level => Sys2Proof.Machine.execPulseEdge t n level s
  | .piConfig t a n v => Sys2Proof.Machine.execPiConfig t a n v s
  | .piClear t a n => Sys2Proof.Machine.execPiClear t a n s
  | .chClear t a c => Sys2Proof.Machine.execChClear t a c s
  | .intervalBoundary t remaps => Sys2Proof.Machine.execIntervalBoundary t remaps s
  | .csNow t a => Sys2Proof.Machine.execCsNow t a s
  | .csAt t a time => Sys2Proof.Machine.execCsAt t a time s
  | .csAtCancel t a => Sys2Proof.Machine.execCsAtCancel t a s
  | .coreSampleLatch t => Sys2Proof.Machine.execCoreSampleLatch t s
  | .csShadowCopy t => Sys2Proof.Machine.execCsShadowCopy t s
  | .retentionWrite t => Sys2Proof.Machine.execRetentionWrite t s
  | .programCycle t dio x => Sys2Proof.Machine.execProgramCycle t dio x s
  | .logicWatchdog t => Sys2Proof.Machine.execLogicWatchdog t s
  | .stopProgram t a => Sys2Proof.Machine.execStop t a s
  | .startWarm t a => Sys2Proof.Machine.execStartWarm t a s
  | .startCold t a => Sys2Proof.Machine.execStartCold t a s
  | .progActivate t a => Sys2Proof.Machine.execProgActivate t a s
  | .resetFault t a => Sys2Proof.Machine.execResetFault t a s
  | .progImageStage t a offset b => Sys2Proof.Machine.execProgImageStage t a offset b s
  | .progImageValidated t => Sys2Proof.Machine.execProgImageValidated t s
  | .progImageLoaded t ok => Sys2Proof.Machine.execProgImageLoaded t ok s
  | .changeSet t a v => Sys2Proof.Machine.execChangeSet t a v s
  | .kWord t a w v => Sys2Proof.Machine.execKWord t a w v s
  | .forceSet t a d v => Sys2Proof.Machine.execForceSet t a d v s
  | .forceRelease t a d => Sys2Proof.Machine.execForceRelease t a d s
  | .forceReleaseAll t a => Sys2Proof.Machine.execForceReleaseAll t a s
  | .retainedRecordWrite t => Sys2Proof.Machine.execRetainedRecordWrite t s
  | .warmRestartRequest t a => Sys2Proof.Machine.execWarmRestartRequest t a s
  | .coldRestartRequest t a => Sys2Proof.Machine.execColdRestartRequest t a s
  | .nop => Sys2Proof.Machine.execNop s
  | .tstb d => Sys2Proof.Machine.execTstb d s
  | .tstn d => Sys2Proof.Machine.execTstn d s
  | .andb d => Sys2Proof.Machine.execAndb d s
  | .andn d => Sys2Proof.Machine.execAndn d s
  | .orb d => Sys2Proof.Machine.execOrb d s
  | .orn d => Sys2Proof.Machine.execOrn d s
  | .xorb d => Sys2Proof.Machine.execXorb d s
  | .notb => Sys2Proof.Machine.execNotb s
  | .setb d => Sys2Proof.Machine.execSetb d s
  | .clrb d => Sys2Proof.Machine.execClrb d s
  | .stb d => Sys2Proof.Machine.execStb d s
  | .ldtb n => Sys2Proof.Machine.execLdtb n s
  | .ldw d => Sys2Proof.Machine.execLdw d s
  | .ldwb d => Sys2Proof.Machine.execLdwb d s
  | .ldi n len => Sys2Proof.Machine.execLdi n len s
  | .stw d => Sys2Proof.Machine.execStw d s
  | .swap => Sys2Proof.Machine.execSwap s
  | .movb => Sys2Proof.Machine.execMovb s
  | .add d => Sys2Proof.Machine.execAdd d s
  | .subOp d => Sys2Proof.Machine.execSub d s
  | .mul d => Sys2Proof.Machine.execMul d s
  | .div d => Sys2Proof.Machine.execDiv d s
  | .modOp d => Sys2Proof.Machine.execMod d s
  | .mulq d => Sys2Proof.Machine.execMulq d s
  | .absOp => Sys2Proof.Machine.execAbs s
  | .negOp => Sys2Proof.Machine.execNeg s
  | .lim d e => Sys2Proof.Machine.execLim d e s
  | .minOp d => Sys2Proof.Machine.execMin d s
  | .maxOp d => Sys2Proof.Machine.execMax d s
  | .andw d => Sys2Proof.Machine.execAndw d s
  | .orw d => Sys2Proof.Machine.execOrw d s
  | .xorw d => Sys2Proof.Machine.execXorw d s
  | .notw => Sys2Proof.Machine.execNotw s
  | .shl n => Sys2Proof.Machine.execShl n s
  | .shr n => Sys2Proof.Machine.execShr n s
  | .sar n => Sys2Proof.Machine.execSar n s
  | .cmp n d => Sys2Proof.Machine.execCmp n d s
  | .bmov d e => Sys2Proof.Machine.execBmov d e s
  | .jmp n => Sys2Proof.Machine.execJmp n s
  | .jmpt n => Sys2Proof.Machine.execJmpt n s
  | .jmpf n => Sys2Proof.Machine.execJmpf n s
  | .callOp n => Sys2Proof.Machine.execCall n s
  | .ret => Sys2Proof.Machine.execRet s
  | .loopOp n => Sys2Proof.Machine.execLoop n s
  | .endP => Sys2Proof.Machine.execEnd s
  | .tmr n => Sys2Proof.Machine.execTmr n s
  | .ctu n => Sys2Proof.Machine.execCtu n s
  | .ctd n => Sys2Proof.Machine.execCtd n s
  | .crs n => Sys2Proof.Machine.execCrs n s
  | .edr n => Sys2Proof.Machine.execEdr n s
  | .edf n => Sys2Proof.Machine.execEdf n s
  | .evt n => Sys2Proof.Machine.execEvt n s
  | .portEnable t a p => Sys2Proof.Machine.execPortEnable t a p s
  | .portDisable t a p => Sys2Proof.Machine.execPortDisable t a p s
  | .portIntegrated t p => Sys2Proof.Machine.execPortIntegrated t p s
  | .restrictTimeout t p => Sys2Proof.Machine.execRestrictTimeout t p s
  | .portModeChange t p => Sys2Proof.Machine.execPortModeChange t p s
  | .canLatch t p => Sys2Proof.Machine.execCanLatch t p s
  | .canArbitrationLost t p => Sys2Proof.Machine.execCanArbitrationLost t p s
  | .canTxDone t p => Sys2Proof.Machine.execCanTxDone t p s
  | .canFrameError t p e => Sys2Proof.Machine.execCanFrameError t p e s
  | .canRecovered t p => Sys2Proof.Machine.execCanRecovered t p s
  | .busoffRecover t a p => Sys2Proof.Machine.execBusoffRecover t a p s
  | .canFrameReceive t p f esi remote => Sys2Proof.Machine.execCanFrameReceive t p f esi remote s
  | .canDispatch t p => Sys2Proof.Machine.execCanDispatch t p s
  | .appTx t a p b v => Sys2Proof.Machine.execAppTx t a p b v s
  | .appCancel t a p mask => Sys2Proof.Machine.execAppCancel t a p mask s
  | .dupPairExpiry t p => Sys2Proof.Machine.execDupPairExpiry t p s
  | .dupClear t a p => Sys2Proof.Machine.execDupClear t a p s
  | .portClearSticky t a p => Sys2Proof.Machine.execPortClearSticky t a p s
  | .filterWrite t a p k v => Sys2Proof.Machine.execFilter t a p k v s
  | .filterAll t a p v => Sys2Proof.Machine.execFilterAll t a p v s
  | .spareRequest t a p => Sys2Proof.Machine.execSpareRequest t a p s
  | .canControllerFault t c => Sys2Proof.Machine.execCanControllerFault t c s
  | .canTakeover t p => Sys2Proof.Machine.execCanTakeover t p s
  | .ethFrameReceive t m x => Sys2Proof.Machine.execEthFrameReceive t m x s
  | .arpResolveTimeout t m => Sys2Proof.Machine.execArpResolveTimeout t m s
  | .arpCacheExpiry t m => Sys2Proof.Machine.execArpCacheExpiry t m s
  | .openSession t src tag slot partner nonce => Sys2Proof.Machine.execOpen t src tag slot partner nonce s
  | .confirmSession t a proof => Sys2Proof.Machine.execConfirm t a proof s
  | .closeSession t a => Sys2Proof.Machine.execClose t a s
  | .sessionOpenTimeout t n => Sys2Proof.Machine.execSessionOpenTimeout t n s
  | .sessionKill t a n => Sys2Proof.Machine.execSessionKill t a n s
  | .keyWrapped t a k v => Sys2Proof.Machine.execKeyWrapped t a k v s
  | .keyErase t a k => Sys2Proof.Machine.execKeyErase t a k s
  | .rngFault t => Sys2Proof.Machine.execRngFault t s
  | .queuePush t q x => Sys2Proof.Machine.execQueuePush t q x s
  | .queuePop t q bad lost => Sys2Proof.Machine.execQueuePop t q bad lost s
  | .spillBurstWrite t q => Sys2Proof.Machine.execSpillBurstWrite t q s
  | .spillBurstRead t q bad addr soft => Sys2Proof.Machine.execSpillBurstRead t q bad addr soft s
  | .queueFault t q => Sys2Proof.Machine.execQueueFault t q s
  | .queueResetDone t q => Sys2Proof.Machine.execQueueResetDone t q s
  | .queueFlush t q => Sys2Proof.Machine.execQueueFlush t q s
  | .calSecond t => Sys2Proof.Machine.execCalSecond t s
  | .calHaltSet t a => Sys2Proof.Machine.execCalHaltSet t a s
  | .calHaltClear t a => Sys2Proof.Machine.execCalHaltClear t a s
  | .calLatchRead t a => Sys2Proof.Machine.execCalLatchRead t a s
  | .calBlock t a => Sys2Proof.Machine.execCalBlock t a s
  | .calFieldWrite t a sub v => Sys2Proof.Machine.execCalFieldWrite t a sub v s
  | .offsetStep t a v => Sys2Proof.Machine.execOffsetStep t a v s
  | .alarmWrite t a v => Sys2Proof.Machine.execAlarm t a v s
  | .wakeWrite t a v => Sys2Proof.Machine.execWake t a v s
  | .wakeExpiry t => Sys2Proof.Machine.execWakeExpiry t s
  | .calTempRead t temp => Sys2Proof.Machine.execCalTempRead t temp s
  | .calendarClear t a => Sys2Proof.Machine.execCalendarClear t a s
  | .timeSource t a v => Sys2Proof.Machine.execTimeSource t a v s
  | .ptpSync t m b => Sys2Proof.Machine.execPtpSync t m b s
  | .ptpFollowUp t m b => Sys2Proof.Machine.execPtpFollowUp t m b s
  | .ptpDelayReq t => Sys2Proof.Machine.execPtpDelayReq t s
  | .ptpDelayResp t m b => Sys2Proof.Machine.execPtpDelayResp t m b s
  | .ptpAnnounce t m b => Sys2Proof.Machine.execPtpAnnounce t m b s
  | .ptpAnnounceTimeout t => Sys2Proof.Machine.execPtpAnnounceTimeout t s
  | .syncHoldover t => Sys2Proof.Machine.execSyncHoldover t s
  | .lockWaitExpiry t => Sys2Proof.Machine.execLockWaitExpiry t s
  | .redCycleBoundary t crit => Sys2Proof.Machine.execRedCycleBoundary t crit s
  | .heartbeat t path m => Sys2Proof.Machine.execHeartbeat t path m s
  | .grant t path m crit => Sys2Proof.Machine.execGrant t path m crit s
  | .claim t path m => Sys2Proof.Machine.execClaim t path m s
  | .release t path m => Sys2Proof.Machine.execRelease t path m s
  | .leaseExpired t => Sys2Proof.Machine.execLeaseExpired t s
  | .refrainEnd t => Sys2Proof.Machine.execRefrainEnd t s
  | .claimTimeout t => Sys2Proof.Machine.execClaimTimeout t s
  | .redPathLost t x path => Sys2Proof.Machine.execRedPathLost t x path s
  | .redPartnerLost t x => Sys2Proof.Machine.execRedPartnerLost t x s
  | .handover t a x => Sys2Proof.Machine.execHandover t a x s
  | .readmit t a x => Sys2Proof.Machine.execReadmit t a x s
  | .resyncDone t => Sys2Proof.Machine.execResyncDone t s
  | .mirror t x items => Sys2Proof.Machine.execMirror t x items s
  | .vote t x vec => Sys2Proof.Machine.execVote t x vec s
  | .leaseClearSticky t a => Sys2Proof.Machine.execLeaseClearSticky t a s
  | .jiestFrameReceive t p b viol => Sys2Proof.Machine.execJiestFrameReceive t p b viol s
  | .nak t p ack => Sys2Proof.Machine.execNak t p ack s
  | .jiestSignalDetected t p => Sys2Proof.Machine.execJiestSignalDetected t p s
  | .jiestAligned t p => Sys2Proof.Machine.execJiestAligned t p s
  | .jiestIdentity t p b => Sys2Proof.Machine.execJiestIdentity t p b s
  | .jiestTrainTimeout t p => Sys2Proof.Machine.execJiestTrainTimeout t p s
  | .jiestRetry t p => Sys2Proof.Machine.execJiestRetry t p s
  | .jiestSignalLost t p => Sys2Proof.Machine.execJiestSignalLost t p s
  | .jiestLaneSpared t p rx l n => Sys2Proof.Machine.execJiestLaneSpared t p rx l n s
  | .timePeriod t => Sys2Proof.Machine.execTimePeriod t s
  | .timeSend t b => Sys2Proof.Machine.execTimeSend t b s
  | .timeEcho t p b => Sys2Proof.Machine.execTimeEcho t p b s
  | .coreFrame t p n time => Sys2Proof.Machine.execCoreFrame t p n time s
  | .boundaryTable t p b => Sys2Proof.Machine.execBoundaryTable t p b s
  | .roundStart t p b => Sys2Proof.Machine.execRoundStart t p b s
  | .roundPrices t p b => Sys2Proof.Machine.execRoundPrices t p b s
  | .roundFlows t p b => Sys2Proof.Machine.execRoundFlows t p b s
  | .roundReport t p b => Sys2Proof.Machine.execRoundReport t p b s
  | .roundReportTimeout t => Sys2Proof.Machine.execRoundReportTimeout t s
  | .roundBoundary t => Sys2Proof.Machine.execRoundBoundary t s
  | .roundDecision t => Sys2Proof.Machine.execRoundDecision t s
  | .roundCommit t p b => Sys2Proof.Machine.execRoundCommit t p b s
  | .roundContinue t p b => Sys2Proof.Machine.execRoundContinue t p b s
  | .roundJobEnd t => Sys2Proof.Machine.execRoundJobEnd t s
  | .crcStart t a c => Sys2Proof.Machine.execCrcStart t a c s
  | .crcAbort t a c => Sys2Proof.Machine.execCrcAbort t a c s
  | .crcScanDone t c lost softSub softKeep => Sys2Proof.Machine.execCrcScanDone t c lost softSub softKeep s
  | .crcConfig t a c v => Sys2Proof.Machine.execCrcConfig t a c v s
  | .crcClear t a c => Sys2Proof.Machine.execCrcClear t a c s
  | .stRequest t a v => Sys2Proof.Machine.execStRequest t a v s
  | .stAbort t a p => Sys2Proof.Machine.execStAbort t a p s
  | .stClear t a => Sys2Proof.Machine.execStClear t a s
  | .fullBist t a => Sys2Proof.Machine.execFullBist t a s
  | .selftestDone t p pass age => Sys2Proof.Machine.execSelftestDone t p pass age s
  | .bgTest t p => Sys2Proof.Machine.execBgTest t p s
  | .houseMismatch t core again => Sys2Proof.Machine.execHouseMismatch t core again s
  | .ageRead t n age => Sys2Proof.Machine.execAgeRead t n age s
  | .wearEm t isl => Sys2Proof.Machine.execWearEm t isl s
  | .sramScrub t isl result => Sys2Proof.Machine.execSramScrub t isl result s
  | .thermalSample t temp raised rows => Sys2Proof.Machine.execThermalSample t temp raised rows s
  | .thermalHoursWrite t remaps wear => Sys2Proof.Machine.execThermalHoursWrite t remaps wear s
  | .alarmAck t a src n => Sys2Proof.Machine.execAlarmAck t a src n s
  | .alarmAckAll t a => Sys2Proof.Machine.execAlarmAckAll t a s
  | .alarmReset t a src => Sys2Proof.Machine.execAlarmReset t a src s
  | .alarmResetAll t a => Sys2Proof.Machine.execAlarmResetAll t a s
  | .logRead t a => Sys2Proof.Machine.execLogRead t a s
  | .alarmRows t a => Sys2Proof.Machine.execAlarmRows t a s
  | .subscription t a n v => Sys2Proof.Machine.execSubscription t a n v s
  | .shedClear t a => Sys2Proof.Machine.execShedClear t a s
  | .exportSend t n => Sys2Proof.Machine.execExportSend t n s
  | .coalesceExpiry t n => Sys2Proof.Machine.execCoalesceExpiry t n s
  | .tracePackExpiry t n p => Sys2Proof.Machine.execTracePackExpiry t n p s
  | .powerOn t pos lane cfg hostRole hTrust => Sys2Proof.Machine.execPowerOn t pos lane cfg hostRole hTrust s
  | .resetAssert t done ring => Sys2Proof.Machine.execResetAssert t done ring s
  | .supplyLoss t done ring => Sys2Proof.Machine.execSupplyLoss t done ring s
  | .firmwareVerified t a b => Sys2Proof.Machine.execFirmwareVerified t a b s
  | .quickBistDone t fails us rows => Sys2Proof.Machine.execQuickBistDone t fails us rows s
  | .subsoilTrained t ok temp raised bad => Sys2Proof.Machine.execSubsoilTrained t ok temp raised bad s
  | .initDone t ret crit => Sys2Proof.Machine.execInitDone t ret crit s
  | .pfail t remaps => Sys2Proof.Machine.execPfail t remaps s
  | .saveComplete t straps => Sys2Proof.Machine.execSaveComplete t straps s
  | .pfailRecovered t => Sys2Proof.Machine.execPfailRecovered t s
  | .checkpointWrite t => Sys2Proof.Machine.execCheckpointWrite t s
  | .standbyReq t a => Sys2Proof.Machine.execStandbyReq t a s
  | .parkTimeout t straps => Sys2Proof.Machine.execParkTimeout t straps s
  | .tapReset t => Sys2Proof.Machine.execTapReset t s
  | .extest t pins load => Sys2Proof.Machine.execExtest t pins load s
  | .samplePreload t pins load => Sys2Proof.Machine.execSamplePreload t pins load s
  | .idcode t => Sys2Proof.Machine.execIdcode t s
  | .clamp t pins load bit => Sys2Proof.Machine.execClamp t pins load bit s
  | .highz t pins load bit => Sys2Proof.Machine.execHighz t pins load bit s
  | .bypass t bit => Sys2Proof.Machine.execBypass t bit s
  | .mainSupplyLost t => Sys2Proof.Machine.execMainSupplyLost t s
  | .ethLinkChange t m speed duplex => Sys2Proof.Machine.execEthLinkChange t m speed duplex s
  | .jiestPorts t a v => Sys2Proof.Machine.execJiestPorts t a v s
  | .sarConverterFault t k => Sys2Proof.Machine.execSarConverterFault t k s
  | .backupDomainStart t without => Sys2Proof.Machine.execBackupDomainStart t without s
  | .vbatLost t => Sys2Proof.Machine.execVbatLost t s

end Sys2Proof.Machine
end

