-- ==== Sys2Proof/Machine/Step.lean ====
section
/-! DEFINITION. One step of the block: the command at the front of the queue of waiting commands runs; on an empty queue the dictionary
server serves the oldest request that is visible to it (R60), or the block idles. -/

namespace Sys2Proof
namespace Machine

/-- One step. -/
def step (s : State) : Host.Outcome State Fault Refusal :=
  match s.pending with
  | [] => s.became (s.serveNext [])
  | c :: r => exec c { s with pending := r }

/-- The state with the command that a table word spells put at the front of the queue; unchanged where the word spells none. -/
def State.withFetchWord (s : State) (nbits w : Nat) : State :=
  match decodeTableWord nbits w with
  | none => s
  | some c => { s with pending := c :: s.pending }

end Machine
end Sys2Proof
end

