-- ==== Sys2Proof/WellFormed.lean ====
section
/-! DEFINITION. Which commands are well formed: every unit and every entry they name exists (the ranges of the chapters), and every
operand fits the field that carries it (R64, R331, R336, R348). -/

namespace Sys2Proof
open Sys2Proof.Machine

/-- An access fits the fields of a PDU and its trailer (R64, R391). -/
def Machine.Acc.ok (a : Acc) : Bool :=
  decide (a.session < 256) && decide (a.tag < 256) &&
  (match a.crit with
   | some t => decide (t.counter < 18446744073709551616) && decide (t.tag.length = 12)
   | none => true)

/-- Strap levels fit their balls (R535). -/
def Machine.Straps.ok (x : Straps) : Bool := decide (x.pos < 512) && decide (x.lane < 4) && decide (x.cfg < 8)

/-- A descriptor is one of R331 and fits its word, is a bit or not as the instruction asks, and names an area that a program writes
where it is written (check 5 of R348). -/
def Machine.Opd.ok (d : Opd) (bit wr : Bool) : Bool :=
  decide (d.index < 16777216) && opdOk (d, bit, wr)

/-- Every unit and entry that a command names exists. -/
def Instr.unitsOk : Instr → Bool
  | .clockSwitch _ isl _ => decide (isl < 8)
  | .refclkLost _ => true
  | .refclkRelock _ => true
  | .degradedCauseTimeout _ => true
  | .enterSafeHold _ _ => true
  | .leaveSafeHold _ _ => true
  | .enterService _ _ => true
  | .fabricWordReceive _ a b _ _ => crossOk a b
  | .ackWord _ a b _ _ => crossOk a b
  | .replayWord _ a b _ _ => crossOk a b
  | .faultWord _ a b _ _ => crossOk a b
  | .replayTimeout _ a b => crossOk a b
  | .eventPost _ isl _ _ _ _ => decide (isl < 9)
  | .eventGap _ isl => decide (isl < 9)
  | .eventAdmit _ => true
  | .writeEntry _ _ _ _ _ _ => true
  | .readInit _ _ _ _ _ => true
  | .writeInit _ _ _ _ _ => true
  | .segmentWrite _ _ _ _ _ => true
  | .segmentRead _ _ _ _ => true
  | .describe _ _ _ _ => true
  | .abortXfer _ _ _ _ _ => true
  | .transferTimeout _ n => decide (n < 256)
  | .storeAll _ _ => true
  | .storeDone _ _ _ => true
  | .restoreDefaults _ _ => true
  | .writePdu _ _ _ _ => true
  | .readStatus _ => true
  | .readResponse _ => true
  | .modelImageStage _ _ _ _ => true
  | .modelImageValidated _ => true
  | .modelActivate _ _ => true
  | .modelWriteDone _ _ => true
  | .modelSwitch _ => true
  | .recipe _ _ r _ => decide (r < 256)
  | .recipeAssign _ _ _ => true
  | .tariffSeries _ _ j _ => decide (j < 8)
  | .tariffAll _ _ _ => true
  | .fcSeries _ _ q _ => decide (q < 3)
  | .fcAll _ _ _ => true
  | .lightDayStart _ => true
  | .hydPeriodStart _ => true
  | .hydJobEnd _ => true
  | .delivProbeEnd _ => true
  | .hydStale _ => true
  | .estimRun _ => true
  | .estimLossEnd _ => true
  | .estimReset _ _ => true
  | .profileUpdate _ _ _ => true
  | .replanStart _ _ _ => true
  | .replanNow _ _ => true
  | .forceCold _ _ => true
  | .horizon _ _ _ => true
  | .stepLen _ _ _ => true
  | .dispatchJobEnd _ => true
  | .gridBoundary _ => true
  | .planStale _ => true
  | .loamPreempt _ => true
  | .loamIterationComplete _ c => decide (c < 4)
  | .loamDeadline _ c => decide (c < 4)
  | .loamAbortRequest _ c _ _ => decide (c < 4)
  | .loamParityFault _ _ _ _ => true
  | .loamResidueMismatch _ divider lane _ _ _ => divider || decide (lane < 68)
  | .loopEvaluation _ n _ => decide (n < 1024)
  | .pipelineTakeover _ => true
  | .modeReqOff _ _ n => decide (n < 1024)
  | .modeReqOpen _ _ n => decide (n < 1024)
  | .modeReqClosed _ _ n => decide (n < 1024)
  | .modeReqTrack _ _ n => decide (n < 1024)
  | .logicModeRequest _ n _ => decide (n < 1024)
  | .coefClassWrite _ _ n sub _ => decide (n < 1024 ∧ (1 ≤ sub ∧ sub ≤ 6 ∨ sub = 0x0C))
  | .loopLiveWrite _ _ n sub _ => decide (n < 1024 ∧ 7 ≤ sub ∧ sub ≤ 0x0B)
  | .loopClearSticky _ _ n => decide (n < 1024)
  | .pwmPeriodStart _ k => decide (k < 16)
  | .aiBackgroundConversion _ k _ => decide (k < 16)
  | .repPrefetch _ n _ _ _ => decide (n < 1024)
  | .repClear _ _ n => decide (n < 1024)
  | .repConfig _ _ n _ => decide (n < 1024)
  | .repTable _ _ n _ => decide (n < 1024)
  | .probeConfig _ _ p _ => decide (p < 32)
  | .armProbes _ _ _ => true
  | .triggerNow _ _ _ => true
  | .traceAbort _ _ _ => true
  | .clearFlags _ _ _ => true
  | .captureDone _ p => decide (p < 32)
  | .meteringSample _ _ => true
  | .windowEnd _ c _ => decide (c < 4)
  | .freqLost _ cp => decide (cp < 4)
  | .halfCycle _ cp => decide (cp < 4)
  | .waveArm _ _ c => decide (c < 4)
  | .waveTrigger _ _ c => decide (c < 4)
  | .waveCaptureDone _ _ => true
  | .energyClear _ _ c => decide (c < 4)
  | .cpConfigWrite _ _ c sub _ => decide (c < 4 ∧ 1 ≤ sub ∧ sub ≤ 0x0B)
  | .poConfig _ _ j _ => decide (j < 8)
  | .calRequest _ _ c _ => decide (c < 4)
  | .calAbort _ _ c _ => decide (c < 4)
  | .cpCalClear _ _ c => decide (c < 4)
  | .calIntervalExpiry _ cp => decide (cp < 4)
  | .calStart _ => true
  | .calTakeover _ _ => true
  | .calReferenceDone _ _ _ _ => true
  | .calHandback _ => true
  | .modulatorFault _ m => decide (m < 30)
  | .channelReport _ _ _ _ => true
  | .reportTimeout _ c => decide (c < 512)
  | .setpointFrame _ c => decide (c < 512)
  | .setpointRefresh _ c => decide (c < 512)
  | .commandFrame _ c => decide (c < 512)
  | .commandRefresh _ c => decide (c < 512)
  | .pulseEdge _ i _ => decide (i < 32)
  | .piConfig _ _ i _ => decide (i < 32)
  | .piClear _ _ i => decide (i < 32)
  | .chClear _ _ c => decide (c < 512)
  | .intervalBoundary _ _ => true
  | .csNow _ _ => true
  | .csAt _ _ _ => true
  | .csAtCancel _ _ => true
  | .coreSampleLatch _ => true
  | .csShadowCopy _ => true
  | .retentionWrite _ => true
  | .programCycle _ _ x => x.words.all (fun w => decide (2 ≤ w.1 ∧ w.1 ≤ 7) && decide (w.2 < Machine.areaSize w.1))
  | .logicWatchdog _ => true
  | .stopProgram _ _ => true
  | .startWarm _ _ => true
  | .startCold _ _ => true
  | .progActivate _ _ => true
  | .resetFault _ _ => true
  | .progImageStage _ _ _ _ => true
  | .progImageValidated _ => true
  | .progImageLoaded _ _ => true
  | .changeSet _ _ _ => true
  | .kWord _ _ w _ => decide (w < 16384)
  | .forceSet _ _ _ _ => true
  | .forceRelease _ _ _ => true
  | .forceReleaseAll _ _ => true
  | .retainedRecordWrite _ => true
  | .warmRestartRequest _ _ => true
  | .coldRestartRequest _ _ => true
  | .nop => true
  | .tstb _ => true
  | .tstn _ => true
  | .andb _ => true
  | .andn _ => true
  | .orb _ => true
  | .orn _ => true
  | .xorb _ => true
  | .notb => true
  | .setb _ => true
  | .clrb _ => true
  | .stb _ => true
  | .ldtb _ => true
  | .ldw _ => true
  | .ldwb _ => true
  | .ldi _ _ => true
  | .stw _ => true
  | .swap => true
  | .movb => true
  | .add _ => true
  | .subOp _ => true
  | .mul _ => true
  | .div _ => true
  | .modOp _ => true
  | .mulq _ => true
  | .absOp => true
  | .negOp => true
  | .lim _ _ => true
  | .minOp _ => true
  | .maxOp _ => true
  | .andw _ => true
  | .orw _ => true
  | .xorw _ => true
  | .notw => true
  | .shl _ => true
  | .shr _ => true
  | .sar _ => true
  | .cmp _ _ => true
  | .bmov _ _ => true
  | .jmp _ => true
  | .jmpt _ => true
  | .jmpf _ => true
  | .callOp _ => true
  | .ret => true
  | .loopOp _ => true
  | .endP => true
  | .tmr _ => true
  | .ctu _ => true
  | .ctd _ => true
  | .crs _ => true
  | .edr _ => true
  | .edf _ => true
  | .evt _ => true
  | .portEnable _ _ p => decide (p < 8)
  | .portDisable _ _ p => decide (p < 8)
  | .portIntegrated _ p => decide (p < 8)
  | .restrictTimeout _ p => decide (p < 8)
  | .portModeChange _ p => decide (p < 8)
  | .canLatch _ p => decide (p < 8)
  | .canArbitrationLost _ p => decide (p < 8)
  | .canTxDone _ p => decide (p < 8)
  | .canFrameError _ p _ => decide (p < 8)
  | .canRecovered _ p => decide (p < 8)
  | .busoffRecover _ _ p => decide (p < 8)
  | .canFrameReceive _ p _ _ _ => decide (p < 8)
  | .canDispatch _ p => decide (p < 8)
  | .appTx _ _ p b _ => decide (p < 8 ∧ b < 4)
  | .appCancel _ _ p _ => decide (p < 8)
  | .dupPairExpiry _ p => decide (p < 8)
  | .dupClear _ _ p => decide (p < 8)
  | .portClearSticky _ _ p => decide (p < 8)
  | .filterWrite _ _ p k _ => decide (p < 8 ∧ k < 64)
  | .filterAll _ _ p _ => decide (p < 8)
  | .spareRequest _ _ p => decide (p < 8)
  | .canControllerFault _ c => decide (c < 9)
  | .canTakeover _ p => decide (p < 8)
  | .ethFrameReceive _ m _ => decide (m < 2)
  | .arpResolveTimeout _ m => decide (m < 2)
  | .arpCacheExpiry _ m => decide (m < 2)
  | .openSession _ _ _ _ _ _ => true
  | .confirmSession _ _ _ => true
  | .closeSession _ _ => true
  | .sessionOpenTimeout _ n => decide (n < 256)
  | .sessionKill _ _ n => decide (n < 256)
  | .keyWrapped _ _ k _ => decide (k < 64)
  | .keyErase _ _ k => decide (k < 64)
  | .rngFault _ => true
  | .queuePush _ q _ => q.ok
  | .queuePop _ q _ _ => q.ok
  | .spillBurstWrite _ q => q.ok
  | .spillBurstRead _ q _ _ _ => q.ok
  | .queueFault _ q => q.ok
  | .queueResetDone _ q => q.ok
  | .queueFlush _ q => q.ok
  | .calSecond _ => true
  | .calHaltSet _ _ => true
  | .calHaltClear _ _ => true
  | .calLatchRead _ _ => true
  | .calBlock _ _ => true
  | .calFieldWrite _ _ sub _ => decide (1 ≤ sub ∧ sub ≤ 8)
  | .offsetStep _ _ _ => true
  | .alarmWrite _ _ _ => true
  | .wakeWrite _ _ _ => true
  | .wakeExpiry _ => true
  | .calTempRead _ _ => true
  | .calendarClear _ _ => true
  | .timeSource _ _ _ => true
  | .ptpSync _ m _ => decide (m < 2)
  | .ptpFollowUp _ m _ => decide (m < 2)
  | .ptpDelayReq _ => true
  | .ptpDelayResp _ m _ => decide (m < 2)
  | .ptpAnnounce _ m _ => decide (m < 2)
  | .ptpAnnounceTimeout _ => true
  | .syncHoldover _ => true
  | .lockWaitExpiry _ => true
  | .redCycleBoundary _ _ => true
  | .heartbeat _ _ _ => true
  | .grant _ _ _ _ => true
  | .claim _ _ _ => true
  | .release _ _ _ => true
  | .leaseExpired _ => true
  | .refrainEnd _ => true
  | .claimTimeout _ => true
  | .redPathLost _ x path => decide (x < 3) && decide (path < 2)
  | .redPartnerLost _ x => decide (x < 3)
  | .handover _ _ _ => true
  | .readmit _ _ _ => true
  | .resyncDone _ => true
  | .mirror _ x _ => decide (x < 3)
  | .vote _ x _ => decide (x < 3)
  | .leaseClearSticky _ _ => true
  | .jiestFrameReceive _ p _ _ => decide (p < 5)
  | .nak _ p _ => decide (p < 5)
  | .jiestSignalDetected _ p => decide (p < 5)
  | .jiestAligned _ p => decide (p < 5)
  | .jiestIdentity _ p _ => decide (p < 5)
  | .jiestTrainTimeout _ p => decide (p < 5)
  | .jiestRetry _ p => decide (p < 5)
  | .jiestSignalLost _ p => decide (p < 5)
  | .jiestLaneSpared _ p _ l _ => decide (p < 5) && decide (l < 3)
  | .timePeriod _ => true
  | .timeSend _ _ => true
  | .timeEcho _ p _ => decide (p < 5)
  | .coreFrame _ p _ _ => decide (p < 5)
  | .boundaryTable _ p _ => decide (p < 5)
  | .roundStart _ p _ => decide (p < 5)
  | .roundPrices _ p _ => decide (p < 5)
  | .roundFlows _ p _ => decide (p < 5)
  | .roundReport _ p _ => decide (p < 5)
  | .roundReportTimeout _ => true
  | .roundBoundary _ => true
  | .roundDecision _ => true
  | .roundCommit _ p _ => decide (p < 5)
  | .roundContinue _ p _ => decide (p < 5)
  | .roundJobEnd _ => true
  | .crcStart _ _ c => decide (c < 4)
  | .crcAbort _ _ c => decide (c < 4)
  | .crcScanDone _ c _ _ _ => decide (c < 4)
  | .crcConfig _ _ c _ => decide (c < 4)
  | .crcClear _ _ c => decide (c < 4)
  | .stRequest _ _ _ => true
  | .stAbort _ _ _ => true
  | .stClear _ _ => true
  | .fullBist _ _ => true
  | .selftestDone _ p _ _ => decide (p < 9)
  | .bgTest _ p => decide (p < 9)
  | .houseMismatch _ core _ => decide (core < 3)
  | .ageRead _ i _ => decide (i < 164)
  | .wearEm _ isl => decide (isl < 9)
  | .sramScrub _ isl _ => decide (isl < 8)
  | .thermalSample _ _ _ _ => true
  | .thermalHoursWrite _ _ _ => true
  | .alarmAck _ _ _ _ => true
  | .alarmAckAll _ _ => true
  | .alarmReset _ _ _ => true
  | .alarmResetAll _ _ => true
  | .logRead _ _ => true
  | .alarmRows _ _ => true
  | .subscription _ _ n _ => decide (n < 8)
  | .shedClear _ _ => true
  | .exportSend _ n => decide (n < 8)
  | .coalesceExpiry _ n => decide (n < 8)
  | .tracePackExpiry _ n _ => decide (n < 8)
  | .powerOn _ _ _ _ _ _ => true
  | .resetAssert _ _ _ => true
  | .supplyLoss _ _ _ => true
  | .firmwareVerified _ _ _ => true
  | .quickBistDone _ _ _ _ => true
  | .subsoilTrained _ _ _ _ _ => true
  | .initDone _ _ _ => true
  | .pfail _ _ => true
  | .saveComplete _ _ => true
  | .pfailRecovered _ => true
  | .checkpointWrite _ => true
  | .standbyReq _ _ => true
  | .parkTimeout _ _ => true
  | .tapReset _ => true
  | .extest _ _ _ => true
  | .samplePreload _ _ _ => true
  | .idcode _ => true
  | .clamp _ _ _ _ => true
  | .highz _ _ _ _ => true
  | .bypass _ _ => true
  | .mainSupplyLost _ => true
  | .ethLinkChange _ m _ _ => decide (m < 2)
  | .jiestPorts _ _ _ => true
  | .sarConverterFault _ k => decide (k < 2)
  | .backupDomainStart _ _ => true
  | .vbatLost _ => true

/-- Every operand fits its field. -/
def Instr.operandsOk : Instr → Bool
  | .clockSwitch _ _ _ => true
  | .refclkLost _ => true
  | .refclkRelock _ => true
  | .degradedCauseTimeout _ => true
  | .enterSafeHold _ a => a.ok
  | .leaveSafeHold _ a => a.ok
  | .enterService _ a => a.ok
  | .fabricWordReceive _ _ _ _ _ => true
  | .ackWord _ _ _ _ _ => true
  | .replayWord _ _ _ _ _ => true
  | .faultWord _ _ _ _ _ => true
  | .replayTimeout _ _ _ => true
  | .eventPost _ _ _ _ _ _ => true
  | .eventGap _ _ => true
  | .eventAdmit _ => true
  | .writeEntry _ a index sub _ _ => a.ok && decide (index < 65536) && decide (sub < 256)
  | .readInit _ a index sub _ => a.ok && decide (index < 65536) && decide (sub < 256)
  | .writeInit _ a index sub total => a.ok && decide (index < 65536) && decide (sub < 256) && decide (total < 4294967296)
  | .segmentWrite _ a offset _ _ => a.ok && decide (offset < 4294967296)
  | .segmentRead _ a offset _ => a.ok && decide (offset < 4294967296)
  | .describe _ a index sub => a.ok && decide (index < 65536) && decide (sub < 256)
  | .abortXfer _ a index sub code => a.ok && decide (index < 65536) && decide (sub < 256) && decide (code < 65536)
  | .transferTimeout _ _ => true
  | .storeAll _ a => a.ok
  | .storeDone _ _ _ => true
  | .restoreDefaults _ a => a.ok
  | .writePdu _ _ _ _ => true
  | .readStatus _ => true
  | .readResponse _ => true
  | .modelImageStage _ a offset _ => a.ok && decide (offset < 4294967296)
  | .modelImageValidated _ => true
  | .modelActivate _ a => a.ok
  | .modelWriteDone _ _ => true
  | .modelSwitch _ => true
  | .recipe _ a _ _ => a.ok
  | .recipeAssign _ a _ => a.ok
  | .tariffSeries _ a _ _ => a.ok
  | .tariffAll _ a _ => a.ok
  | .fcSeries _ a _ _ => a.ok
  | .fcAll _ a _ => a.ok
  | .lightDayStart _ => true
  | .hydPeriodStart _ => true
  | .hydJobEnd _ => true
  | .delivProbeEnd _ => true
  | .hydStale _ => true
  | .estimRun _ => true
  | .estimLossEnd _ => true
  | .estimReset _ a => a.ok
  | .profileUpdate _ _ _ => true
  | .replanStart _ _ _ => true
  | .replanNow _ a => a.ok
  | .forceCold _ a => a.ok
  | .horizon _ a n => a.ok && decide (n < 65536)
  | .stepLen _ a n => a.ok && decide (n < 256)
  | .dispatchJobEnd _ => true
  | .gridBoundary _ => true
  | .planStale _ => true
  | .loamPreempt _ => true
  | .loamIterationComplete _ _ => true
  | .loamDeadline _ _ => true
  | .loamAbortRequest _ _ _ _ => true
  | .loamParityFault _ _ _ _ => true
  | .loamResidueMismatch _ _ _ _ _ _ => true
  | .loopEvaluation _ _ _ => true
  | .pipelineTakeover _ => true
  | .modeReqOff _ a _ => a.ok
  | .modeReqOpen _ a _ => a.ok
  | .modeReqClosed _ a _ => a.ok
  | .modeReqTrack _ a _ => a.ok
  | .logicModeRequest _ _ _ => true
  | .coefClassWrite _ a _ _ _ => a.ok
  | .loopLiveWrite _ a _ _ _ => a.ok
  | .loopClearSticky _ a _ => a.ok
  | .pwmPeriodStart _ _ => true
  | .aiBackgroundConversion _ _ _ => true
  | .repPrefetch _ _ _ _ _ => true
  | .repClear _ a _ => a.ok
  | .repConfig _ a _ _ => a.ok
  | .repTable _ a _ _ => a.ok
  | .probeConfig _ a _ _ => a.ok
  | .armProbes _ a mask => a.ok && decide (mask < 4294967296)
  | .triggerNow _ a mask => a.ok && decide (mask < 4294967296)
  | .traceAbort _ a mask => a.ok && decide (mask < 4294967296)
  | .clearFlags _ a mask => a.ok && decide (mask < 4294967296)
  | .captureDone _ _ => true
  | .meteringSample _ _ => true
  | .windowEnd _ _ _ => true
  | .freqLost _ _ => true
  | .halfCycle _ _ => true
  | .waveArm _ a c => a.ok && decide (c < 256)
  | .waveTrigger _ a _ => a.ok
  | .waveCaptureDone _ _ => true
  | .energyClear _ a _ => a.ok
  | .cpConfigWrite _ a _ _ _ => a.ok
  | .poConfig _ a _ _ => a.ok
  | .calRequest _ a _ k => a.ok && decide (k < 256)
  | .calAbort _ a _ k => a.ok && decide (k < 256)
  | .cpCalClear _ a _ => a.ok
  | .calIntervalExpiry _ _ => true
  | .calStart _ => true
  | .calTakeover _ _ => true
  | .calReferenceDone _ _ _ _ => true
  | .calHandback _ => true
  | .modulatorFault _ _ => true
  | .channelReport _ _ _ _ => true
  | .reportTimeout _ _ => true
  | .setpointFrame _ _ => true
  | .setpointRefresh _ _ => true
  | .commandFrame _ _ => true
  | .commandRefresh _ _ => true
  | .pulseEdge _ _ _ => true
  | .piConfig _ a _ _ => a.ok
  | .piClear _ a _ => a.ok
  | .chClear _ a _ => a.ok
  | .intervalBoundary _ _ => true
  | .csNow _ a => a.ok
  | .csAt _ a time => a.ok && decide (time < 18446744073709551616)
  | .csAtCancel _ a => a.ok
  | .coreSampleLatch _ => true
  | .csShadowCopy _ => true
  | .retentionWrite _ => true
  | .programCycle _ _ x => x.stalls.all (fun n => decide (n ≤ 6000))
  | .logicWatchdog _ => true
  | .stopProgram _ a => a.ok
  | .startWarm _ a => a.ok
  | .startCold _ a => a.ok
  | .progActivate _ a => a.ok
  | .resetFault _ a => a.ok
  | .progImageStage _ a offset _ => a.ok && decide (offset < 4294967296)
  | .progImageValidated _ => true
  | .progImageLoaded _ _ => true
  | .changeSet _ a _ => a.ok
  | .kWord _ a _ v => a.ok && decide (v < 4294967296)
  | .forceSet _ a d v => a.ok && decide (d < 4294967296) && decide (v < 4294967296)
  | .forceRelease _ a d => a.ok && decide (d < 4294967296)
  | .forceReleaseAll _ a => a.ok
  | .retainedRecordWrite _ => true
  | .warmRestartRequest _ a => a.ok
  | .coldRestartRequest _ a => a.ok
  | .nop => true
  | .tstb d => d.ok true false
  | .tstn d => d.ok true false
  | .andb d => d.ok true false
  | .andn d => d.ok true false
  | .orb d => d.ok true false
  | .orn d => d.ok true false
  | .xorb d => d.ok true false
  | .notb => true
  | .setb d => d.ok true true
  | .clrb d => d.ok true true
  | .stb d => d.ok true true
  | .ldtb n => decide (n < 16777216)
  | .ldw d => d.ok false false
  | .ldwb d => d.ok false false
  | .ldi _ len => decide (len = 1) || decide (len = 2)
  | .stw d => d.ok false true
  | .swap => true
  | .movb => true
  | .add d => d.ok false false
  | .subOp d => d.ok false false
  | .mul d => d.ok false false
  | .div d => d.ok false false
  | .modOp d => d.ok false false
  | .mulq d => d.ok false false
  | .absOp => true
  | .negOp => true
  | .lim d e => d.ok false false && e.ok false false
  | .minOp d => d.ok false false
  | .maxOp d => d.ok false false
  | .andw d => d.ok false false
  | .orw d => d.ok false false
  | .xorw d => d.ok false false
  | .notw => true
  | .shl n => decide (n < 16777216)
  | .shr n => decide (n < 16777216)
  | .sar n => decide (n < 16777216)
  | .cmp n d => decide (n < 16777216) && d.ok false false
  | .bmov d e => d.ok false false && e.ok false true
  | .jmp n => decide (n < 16777216)
  | .jmpt n => decide (n < 16777216)
  | .jmpf n => decide (n < 16777216)
  | .callOp n => decide (n < 16777216)
  | .ret => true
  | .loopOp n => decide (n < 16777216)
  | .endP => true
  | .tmr n => decide (n < 1024)
  | .ctu n => decide (n < 512)
  | .ctd n => decide (n < 512)
  | .crs n => decide (n < 512)
  | .edr n => decide (n < 2048)
  | .edf n => decide (n < 2048)
  | .evt n => decide (n < 0xC00)
  | .portEnable _ a _ => a.ok
  | .portDisable _ a _ => a.ok
  | .portIntegrated _ _ => true
  | .restrictTimeout _ _ => true
  | .portModeChange _ _ => true
  | .canLatch _ _ => true
  | .canArbitrationLost _ _ => true
  | .canTxDone _ _ => true
  | .canFrameError _ _ _ => true
  | .canRecovered _ _ => true
  | .busoffRecover _ a _ => a.ok
  | .canFrameReceive _ _ _ _ _ => true
  | .canDispatch _ _ => true
  | .appTx _ a _ _ _ => a.ok
  | .appCancel _ a _ mask => a.ok && decide (mask < 256)
  | .dupPairExpiry _ _ => true
  | .dupClear _ a _ => a.ok
  | .portClearSticky _ a _ => a.ok
  | .filterWrite _ a _ _ _ => a.ok
  | .filterAll _ a _ _ => a.ok
  | .spareRequest _ a p => a.ok && decide (p < 256)
  | .canControllerFault _ _ => true
  | .canTakeover _ _ => true
  | .ethFrameReceive _ _ _ => true
  | .arpResolveTimeout _ _ => true
  | .arpCacheExpiry _ _ => true
  | .openSession _ _ tag slot partner nonce => decide (tag < 256) && decide (slot < 256) && decide (partner < 4294967296) && decide (nonce.length = 16)
  | .confirmSession _ a proof => a.ok && decide (proof.length = 12)
  | .closeSession _ a => a.ok
  | .sessionOpenTimeout _ _ => true
  | .sessionKill _ a _ => a.ok
  | .keyWrapped _ a _ _ => a.ok
  | .keyErase _ a _ => a.ok
  | .rngFault _ => true
  | .queuePush _ _ _ => true
  | .queuePop _ _ _ _ => true
  | .spillBurstWrite _ _ => true
  | .spillBurstRead _ _ _ _ _ => true
  | .queueFault _ _ => true
  | .queueResetDone _ _ => true
  | .queueFlush _ _ => true
  | .calSecond _ => true
  | .calHaltSet _ a => a.ok
  | .calHaltClear _ a => a.ok
  | .calLatchRead _ a => a.ok
  | .calBlock _ a => a.ok
  | .calFieldWrite _ a _ v => a.ok && decide (v < 256)
  | .offsetStep _ a v => a.ok && decide (-2147483648 ≤ v) && decide (v < 2147483648)
  | .alarmWrite _ a _ => a.ok
  | .wakeWrite _ a _ => a.ok
  | .wakeExpiry _ => true
  | .calTempRead _ _ => true
  | .calendarClear _ a => a.ok
  | .timeSource _ a v => a.ok && decide (v < 256)
  | .ptpSync _ _ _ => true
  | .ptpFollowUp _ _ _ => true
  | .ptpDelayReq _ => true
  | .ptpDelayResp _ _ _ => true
  | .ptpAnnounce _ _ _ => true
  | .ptpAnnounceTimeout _ => true
  | .syncHoldover _ => true
  | .lockWaitExpiry _ => true
  | .redCycleBoundary _ _ => true
  | .heartbeat _ _ _ => true
  | .grant _ _ _ _ => true
  | .claim _ _ _ => true
  | .release _ _ _ => true
  | .leaseExpired _ => true
  | .refrainEnd _ => true
  | .claimTimeout _ => true
  | .redPathLost _ _ _ => true
  | .redPartnerLost _ _ => true
  | .handover _ a x => a.ok && decide (x < 256)
  | .readmit _ a x => a.ok && decide (x < 256)
  | .resyncDone _ => true
  | .mirror _ _ _ => true
  | .vote _ _ _ => true
  | .leaseClearSticky _ a => a.ok
  | .jiestFrameReceive _ _ _ _ => true
  | .nak _ _ _ => true
  | .jiestSignalDetected _ _ => true
  | .jiestAligned _ _ => true
  | .jiestIdentity _ _ _ => true
  | .jiestTrainTimeout _ _ => true
  | .jiestRetry _ _ => true
  | .jiestSignalLost _ _ => true
  | .jiestLaneSpared _ _ _ _ _ => true
  | .timePeriod _ => true
  | .timeSend _ _ => true
  | .timeEcho _ _ _ => true
  | .coreFrame _ _ _ _ => true
  | .boundaryTable _ _ _ => true
  | .roundStart _ _ _ => true
  | .roundPrices _ _ _ => true
  | .roundFlows _ _ _ => true
  | .roundReport _ _ _ => true
  | .roundReportTimeout _ => true
  | .roundBoundary _ => true
  | .roundDecision _ => true
  | .roundCommit _ _ _ => true
  | .roundContinue _ _ _ => true
  | .roundJobEnd _ => true
  | .crcStart _ a _ => a.ok
  | .crcAbort _ a _ => a.ok
  | .crcScanDone _ _ lost _ _ => lost.all (fun x => decide (x.1 < 6) && decide (x.2 < 4294967296))
  | .crcConfig _ a _ _ => a.ok
  | .crcClear _ a _ => a.ok
  | .stRequest _ a _ => a.ok
  | .stAbort _ a p => a.ok && decide (p < 256)
  | .stClear _ a => a.ok
  | .fullBist _ a => a.ok
  | .selftestDone _ _ _ _ => true
  | .bgTest _ _ => true
  | .houseMismatch _ _ _ => true
  | .ageRead _ _ _ => true
  | .wearEm _ _ => true
  | .sramScrub _ _ _ => true
  | .thermalSample _ _ _ _ => true
  | .thermalHoursWrite _ _ _ => true
  | .alarmAck _ a src n => a.ok && decide (src < 65536) && decide (n < 4294967296)
  | .alarmAckAll _ a => a.ok
  | .alarmReset _ a src => a.ok && decide (src < 65536)
  | .alarmResetAll _ a => a.ok
  | .logRead _ a => a.ok
  | .alarmRows _ a => a.ok
  | .subscription _ a _ _ => a.ok
  | .shedClear _ a => a.ok
  | .exportSend _ _ => true
  | .coalesceExpiry _ _ => true
  | .tracePackExpiry _ _ _ => true
  | .powerOn _ pos lane cfg _ _ => decide (pos < 512) && decide (lane < 4) && decide (cfg < 8)
  | .resetAssert _ _ _ => true
  | .supplyLoss _ _ _ => true
  | .firmwareVerified _ _ _ => true
  | .quickBistDone _ _ _ _ => true
  | .subsoilTrained _ _ _ _ _ => true
  | .initDone _ _ _ => true
  | .pfail _ _ => true
  | .saveComplete _ x => x.ok
  | .pfailRecovered _ => true
  | .checkpointWrite _ => true
  | .standbyReq _ a => a.ok
  | .parkTimeout _ x => x.ok
  | .tapReset _ => true
  | .extest _ _ _ => true
  | .samplePreload _ _ _ => true
  | .idcode _ => true
  | .clamp _ _ _ _ => true
  | .highz _ _ _ _ => true
  | .bypass _ _ => true
  | .mainSupplyLost _ => true
  | .ethLinkChange _ _ _ _ => true
  | .jiestPorts _ a v => a.ok && decide (v < 256)
  | .sarConverterFault _ _ => true
  | .backupDomainStart _ _ => true
  | .vbatLost _ => true

/-- A well-formed command. -/
def Instr.wf (i : Instr) : Bool := i.unitsOk && i.operandsOk

end Sys2Proof
end

