-- ==== Sys2Proof/Safety.lean ====
section
/-! DEFINITION. What counts as a safe run, and the terms in which claims are stated: no step stops, the queue of waiting commands is
worked off in order, raw time never runs backwards; a command completes with a stated effect. -/

namespace Sys2Proof
namespace Machine

/-- The command completes: it answers a next state, which is as `P` says. -/
def Does (c : Instr) (s : State) (P : State → Prop) : Prop := ∃ u, exec c s = .next u ∧ P u

/-- The island runs at the moment `t`. -/
abbrev State.live (s : State) (i : Island) (t : Nat) : Prop := (s.advance t).runs i = true

/-! ## Accesses: the conditions under which the server takes one (R60–R63, R394) -/

/-- The state in which the server takes up a request: its token is drawn, and the idle time of its context restarts (R390, R394). -/
def State.turn (s : State) (r : Req) : State := ((s.takeToken r).1).modSess r.ctx (fun v => { v with idleSince := s.now })

/-- The server takes up a request as a new one of its context: the path is served, a token is there, a network request is well formed and
of an open session of its source (checks 1 and 2 of R62), a host request comes after initialisation has begun, and it is no repeat of the
request before it (R63). -/
abbrev State.takes (s : State) (r : Req) : Prop :=
  s.pathServed r.src = true ∧ (s.takeToken r).2 = true ∧ r.pdu.isSession = false ∧
  (r.net = true → r.malformed = false ∧ (s.takeToken r).1.firstLoad r r.pdu.index r.pdu.sub = false ∧
    (s.takeToken r).1.authentic r = true) ∧
  (r.net = false → s.booting = false) ∧ ((s.turn r).session r.ctx).lastReq ≠ some r

/-- Checks 3 to 5 of R62 pass for an access to an entry, whose row is `e`. -/
abbrev State.entryOk (v : State) (r : Req) (w : Way) (idx sub : Nat) (e : Ent) : Prop := v.entryCode r w idx sub = (some e, 0)

/-- The state that check 6 of R62 leaves: a good trailer's counter is kept (R392). -/
def State.sealed (v : State) (r : Req) (cs idx sub : Nat) (value : Octets) (need : Bool) : State :=
  (v.trailerCheck r cs idx sub value need).1

/-- Check 6 of R62 passes. -/
abbrev State.sealOk (v : State) (r : Req) (cs idx sub : Nat) (value : Octets) (need : Bool) : Prop :=
  (v.trailerCheck r cs idx sub value need).2 = 0

/-- The state in which the owner of an entry gets a value that an expedited WRITE carries. -/
def State.atOwner (s : State) (a : Acc) (idx sub : Nat) (b : Octets) : State :=
  (s.turn (a.req (a.pdu 2 0 idx sub b))).sealed (a.req (a.pdu 2 0 idx sub b)) 2 idx sub b false

/-- An access writes a value in one expedited WRITE, and every check of R62 before its owner's passes: the server takes it up, the entry
exists and may be written by this session, the trailer holds, the length and the value fit, the device state allows it. -/
def State.writes (s : State) (a : Acc) (idx sub : Nat) (b : Octets) : Prop :=
  b.length ≤ a.room a.crit.isSome ∧ s.takes (a.req (a.pdu 2 0 idx sub b)) ∧
  ∃ e, (s.turn (a.req (a.pdu 2 0 idx sub b))).entryOk (a.req (a.pdu 2 0 idx sub b)) .write idx sub e ∧
    (s.turn (a.req (a.pdu 2 0 idx sub b))).sealOk (a.req (a.pdu 2 0 idx sub b)) 2 idx sub b
      ((s.turn (a.req (a.pdu 2 0 idx sub b))).needsTrailer (a.req (a.pdu 2 0 idx sub b)) idx sub e) ∧
    e.badLength idx sub b = false ∧ e.badValue b = false ∧ (s.atOwner a idx sub b).shut idx = false ∧
    (s.atOwner a idx sub b).readOpen idx sub true = false

/-- An access writes a value to an entry at the moment `t`: HOUSE runs, and every check before the owner's passes. -/
abbrev State.mayWrite (s : State) (t : Nat) (a : Acc) (idx sub : Nat) (b : Octets) : Prop :=
  s.live .house t ∧ (s.advance t).writes a idx sub b

/-- A write stored its value in its entry, and nothing else but the network part (the session table and the answer) changed. -/
abbrev State.holdsValue (s : State) (t idx sub : Nat) (b : Octets) (u : State) : Prop :=
  u = { s.advance t with dict := u.dict, net := u.net } ∧ u.dict = ((s.advance t).store idx sub b).dict

/-- The session context of an access. -/
def Acc.ctx (a : Acc) : Nat := if a.src = .host then 0 else a.session

/-! ## Redundancy messages -/

/-- A redundancy message is accepted as it arrives over a Jiest port: the device is up, the message comes from another lane of the
position, its tag holds where tags are checked, and it is not below the last one accepted and none already accepted (R439–R441). -/
abbrev State.hears (s : State) (m : RedMsg) : Prop :=
  s.up = true ∧ s.mates.contains m.lane = true ∧ s.redTagOk m = true ∧ (s.peer m.lane).fresh m = true

/-! ## Logic instructions -/

/-- The state after a logic instruction of `len` words and `cyc` LOGIC cycles that did `f` to the engine's registers and nothing else:
the next address, the cycles counted. -/
def State.ran (s : State) (len cyc : Nat) (f : LogicRegs → LogicRegs) : State :=
  { s with logic := { s.logic with
      regs := f { s.logic.regs with pc := s.logic.regs.pc + len, cycles := s.logic.regs.cycles + cyc, fault := 0, evts := [] } } }

/-- As `State.ran`, for an instruction that stores: `f` is what it does to the areas. -/
def State.ranTo (s : State) (len cyc : Nat) (f : Logic → Logic) : State := { s with logic := f (s.ran len cyc id).logic }

/-! ## Safe states -/

/-- Every waiting command names units and entries that exist. -/
abbrev State.queueOk (s : State) : Prop := ∀ c ∈ s.pending, Instr.unitsOk c = true

/-- A safe state, as seen from a raw time `n`: raw time has not run back before `n`, and every waiting command names what exists. -/
abbrev State.safe (n : Nat) (s : State) : Prop := n ≤ s.clk.raw ∧ s.queueOk

end Machine
end Sys2Proof
end

