-- ==== Sys2Proof/Certificates/Slice0/Obligations.lean ====
section
/-! DEFINITION. The statements about the model, each formalising rules of the manual. -/

open Sys2Proof Sys2Proof.Machine

/-- R14, R16, R46: the commands of the clocks and of the timed causes complete. A lost generator stops its island for at most 20 µs and puts
the spare into service; without a free spare the island stays stopped; a lost REFCLK holds the generators open loop, marks device time
unsynchronised and brings hold cause 2, with SAFE_HOLD where the device was operating; relocking clears the cause and leaves the device
state; a timed cause whose 60 s have ended clears. Where the manual leaves it open, as log entry 4 of the model says. -/
def Obligations.ClockCommands : Prop :=
  (∀ (t isl dur : Nat) (s : State), isl < 8 → s.live .house t → s.spareClock isl = true →
    Does (.clockSwitch t isl dur) s (fun u =>
      Tab.find u.dev.stopped isl = some ((s.advance t).now + min dur 20000) ∧ isl ∈ u.dev.onSpare ∧
      bitOf u.dev.degraded 1 = true)) ∧
  (∀ (t isl dur : Nat) (s : State), isl < 8 → s.live .house t → s.spareClock isl = false →
    Does (.clockSwitch t isl dur) s (fun u => isl ∈ u.dev.dead ∧ u.dev.stopped = s.dev.stopped)) ∧
  (∀ (t : Nat) (s : State), s.live .backup t → bitOf s.dev.hold 2 = false →
    Does (.refclkLost t) s (fun u =>
      u.clk.refclk = false ∧ u.clk.unsync = true ∧ bitOf u.dev.hold 2 = true ∧
      (s.operating = true → u.dev.state = .safeHold) ∧ (s.operating = false → u.dev.state = s.dev.state))) ∧
  (∀ (t : Nat) (s : State), s.live .backup t →
    Does (.refclkRelock t) s (fun u =>
      u.clk.refclk = true ∧ bitOf u.dev.hold 2 = false ∧ u.dev.state = s.dev.state)) ∧
  (∀ (t : Nat) (s : State), s.live .house t → bitOf s.dev.degraded 4 = true → s.dev.fabricUntil ≤ (s.advance t).clk.dev →
    s.dev.state = .degraded → s.dev.degraded = 2 ^ 4 →
    Does (.degradedCauseTimeout t) s (fun u => u.dev.degraded = 0 ∧ u.dev.state = .run))

/-- R20, R21, R22, R23: the words of the fabric. A word that arrives good and expected is accepted, kept by its sender and acknowledged; a
bad one is asked for again; the fourth bad delivery is faulted, with a POISON word for its message and the cause FABRIC_FAULT. An ACK frees
the words up to its own; a REPLAY makes the sender resend from the named word; a FAULT resumes at the next message; an unanswered REPLAY is
sent again; a reverse word whose parity fails changes nothing. Nothing but the fabric changes where no word is faulted. Where the manual
leaves it open, as log entry 17 of the model says. -/
def Obligations.FabricCommands : Prop :=
  (∀ (t a b : Nat) (w : FabWord) (err : BitVec 37) (s : State) (c : Crossing), crossOk a b = true → s.crossing (crossNo a b) = c →
    s.live (islandOf b) t → c.resend = none → c.window.length < 16 → c.flushing = false → c.fifo = [] → c.faultAt = none →
    c.sent % 32 = c.expect →
    (goodWord (w.bits ^^^ err) = true →
      Does (.fabricWordReceive t a b w err) s (fun u =>
        u = { s.advance t with fabric := u.fabric } ∧
        (u.crossing (crossNo a b)).window = c.window ++ [w] ∧
        (u.crossing (crossNo a b)).expect = (c.expect + 1) % 32 ∧
        (u.crossing (crossNo a b)).reverse = c.reverse ++ [.ack c.expect])) ∧
    (goodWord (w.bits ^^^ err) = false → c.failed < 3 →
      Does (.fabricWordReceive t a b w err) s (fun u =>
        u = { s.advance t with fabric := u.fabric } ∧
        (u.crossing (crossNo a b)).expect = c.expect ∧
        (u.crossing (crossNo a b)).delivered = c.delivered ∧
        (u.crossing (crossNo a b)).reverse = c.reverse ++ [.replay c.expect])) ∧
    (goodWord (w.bits ^^^ err) = false → c.failed = 3 →
      Does (.fabricWordReceive t a b w err) s (fun u =>
        (u.crossing (crossNo a b)).delivered = c.delivered ++ [poisonOf (c.headOf w)] ∧
        (u.crossing (crossNo a b)).reverse = c.reverse ++ [.fault c.expect] ∧
        bitOf u.dev.degraded 4 = true))) ∧
  (∀ (t a b k : Nat) (data : BitVec 32) (par : Bool) (s : State) (c : Crossing), crossOk a b = true → s.crossing (crossNo a b) = c →
    s.live (islandOf a) t → c.place (data.toNat % 32) = some k →
    (parityHolds (reverseRaw par 7 data) = true → Does (.ackWord t a b data par) s (fun u =>
      u = { s.advance t with fabric := u.fabric } ∧
      (u.crossing (crossNo a b)).window = c.window.drop (k + 1))) ∧
    (parityHolds (reverseRaw par 8 data) = true → Does (.replayWord t a b data par) s (fun u =>
      u = { s.advance t with fabric := u.fabric } ∧
      (u.crossing (crossNo a b)).resend = some k ∧
      (u.crossing (crossNo a b)).window = c.window)) ∧
    (parityHolds (reverseRaw par 9 data) = true → Does (.faultWord t a b data par) s (fun u =>
      u = { s.advance t with fabric := u.fabric } ∧
      (u.crossing (crossNo a b)).window = fromStart (c.window.drop (k + 1)) ∧ (u.crossing (crossNo a b)).faultAt = none))) ∧
  (∀ (t a b : Nat) (s : State) (c : Crossing), crossOk a b = true → s.crossing (crossNo a b) = c → s.live (islandOf b) t →
    c.fifo = [] → c.waiting = true → c.repeats < 3 →
    c.askedAt * 1000 + 32 * (islandOf b).periodPs ≤ (s.advance t).ps →
    Does (.replayTimeout t a b) s (fun u =>
      u = { s.advance t with fabric := u.fabric } ∧
      (u.crossing (crossNo a b)).repeats = c.repeats + 1 ∧
      (u.crossing (crossNo a b)).reverse = c.reverse ++ [.replay c.expect])) ∧
  (∀ (t a b : Nat) (data : BitVec 32) (par : Bool) (s : State), crossOk a b = true →
    (parityHolds (reverseRaw par 7 data) = false → Does (.ackWord t a b data par) s (fun u => u = s.advance t)) ∧
    (parityHolds (reverseRaw par 8 data) = false → Does (.replayWord t a b data par) s (fun u => u = s.advance t)) ∧
    (parityHolds (reverseRaw par 9 data) = false → Does (.faultWord t a b data par) s (fun u => u = s.advance t)))

/-- R27, R28, R31: the event commands. An event posted where its queue has room and nothing is owed enters the queue; one posted to a full
queue is lost and counted; the gap event carries the count and settles it; the arbiter admits one event in a slot, numbers and logs it.
Where the manual leaves it open, as log entries 16 and 18 of the model say. -/
def Obligations.EventCommands : Prop :=
  (∀ (t isl code unit : Nat) (args : List EvArg) (edge : EvEdge) (s : State), isl < 9 → s.live (islandOf isl) t →
    s.lostOf (islandOf isl) = 0 → (s.advance t).hasRoom (.island isl) = true →
    Does (.eventPost t isl code unit args edge) s (fun u =>
      u.ledger = s.ledger ∧ (u.queue (.island isl)).wp = ((s.queue (.island isl)).wp + 1) % 65536)) ∧
  (∀ (t isl code unit : Nat) (args : List EvArg) (edge : EvEdge) (s : State), isl < 9 → s.live (islandOf isl) t →
    (s.advance t).hasRoom (.island isl) = false →
    Does (.eventPost t isl code unit args edge) s (fun u =>
      u = { s.advance t with ledger := u.ledger } ∧ u.lostOf (islandOf isl) = s.lostOf (islandOf isl) + 1 ∧
      u.ledger.evLost = s.ledger.evLost + 1)) ∧
  (∀ (t isl : Nat) (s : State), isl < 9 → s.live (islandOf isl) t →
    s.lostOf (islandOf isl) ≠ 0 → (s.advance t).hasRoom (.island isl) = true →
    Does (.eventGap t isl) s (fun u =>
      u.lostOf (islandOf isl) = 0 ∧ (u.queue (.island isl)).wp = ((s.queue (.island isl)).wp + 1) % 65536)) ∧
  (∀ (t i : Nat) (e : Ev) (s : State), s.live .house t → s.ledger.lastSlot ≠ some ((s.advance t).now / 8) →
    (s.advance t).arbiterPick = some i → (s.advance t).frontQ (.island i) = some (.ev e, false) →
    Does (.eventAdmit t) s (fun u =>
      u.ledger.count = s.ledger.count + 1 ∧ u.ledger.lastSlot = some ((s.advance t).now / 8) ∧
      Tab.find u.ledger.log (s.ledger.count % 65536) =
        some (logEntOf (islandOf i) ((s.advance t).seen e) (s.advance t).clk.dev s.ledger.count)))

/-- R62, R54, R55: a write reaches its owner. Where an access writes a value in one expedited WRITE that passes every check of R62 before
its owner's, and the owner takes it, the command completes; the next state is what the owner made of the value, but for the session table
and the answer, which lie in the network part. This holds on every path. Where the manual leaves it open, as log entries 6 and 91 of the
model say. -/
def Obligations.WriteReachesItsOwner : Prop :=
  ∀ (t idx sub : Nat) (a : Acc) (b : Octets) (s v : State), s.live .house t → (s.advance t).writes a idx sub b →
    ((s.advance t).atOwner a idx sub b).applyWrite a.ctx idx sub b = .done v →
    v.pending = s.pending → v.clk.raw = (s.advance t).clk.raw →
    Does (.writeEntry t a idx sub b []) s (fun u => u = { v with net := u.net })

/-- R49, R51, R53: an entry with no behaviour of its own holds the value written to it, an FX32 at the scale code it has, and nothing else
but the network part (its session table and the answer) changes; every other entry keeps its value. -/
def Obligations.PlainWriteIsStored : Prop :=
  (∀ (t idx sub : Nat) (a : Acc) (b : Octets) (s : State), s.live .house t → (s.advance t).writes a idx sub b →
    ((s.advance t).atOwner a idx sub b).ownerWrite a.ctx idx sub b = .plain →
    Does (.writeEntry t a idx sub b []) s (fun u => s.holdsValue t idx sub b u)) ∧
  (∀ (idx sub : Nat) (b : Octets) (e : Ent) (s : State), entOf idx sub = some e →
    (s.store idx sub b).val idx sub = rescale (s.val idx sub) (decVal e.ty b) ∧
    (e.ty = .octets → (s.store idx sub b).oct idx sub = b) ∧
    ∀ i j, sub < 256 → j < 256 → (i ≠ idx ∨ j ≠ sub) → (s.store idx sub b).val i j = s.val i j)

/-- R66, R68, R69: segmented accesses. A READ_INIT opens a read with the value's length and answers it; a WRITE_INIT opens a write; a write
SEGMENT at the expected offset is staged; the last one hands the whole value to the entry's owner; a read SEGMENT returns the data from its
offset and closes the transfer at the end; a client's ABORT discards the transfer and is echoed; a transfer without a SEGMENT for 1 s is
discarded; DESCRIBE answers an entry's attributes. Where the manual leaves it open, as log entries 6, 7, 9, 91 and 92 of the model say. -/
def Obligations.TransferCommands : Prop :=
  (∀ (t idx sub : Nat) (a : Acc) (r : Req) (b : Octets) (s : State), s.live .house t → r = a.req (a.pdu 3 0 idx sub []) →
    (s.advance t).takes r → (((s.advance t).turn r).session r.ctx).xfer = none →
    (((s.advance t).turn r).readValue r 4294967295).reply = .good 0 b →
    Does (.readInit t a idx sub []) s (fun u => ∃ x, (u.session r.ctx).xfer = some x ∧ x.write = false ∧ x.index = idx ∧ x.sub = sub ∧
      x.total = b.length ∧ x.next = 0 ∧ (u.session r.ctx).lastResp = r.pdu.good 0 (leBytes 4 b.length))) ∧
  (∀ (t idx sub total : Nat) (a : Acc) (r : Req) (e : Ent) (s v : State), s.live .house t →
    r = a.req (a.pdu 4 0 idx sub (leBytes 4 total)) → (s.advance t).takes r → v = (s.advance t).turn r → a.crit = none →
    total < 4294967296 → v.entryOk r .write idx sub e → e.badTotal total = false → v.shut idx = false →
    v.stateForbids r idx sub e = false → (v.session r.ctx).xfer = none → v.readOpen idx sub true = false →
    (idx = 0x2000 → sub = 1 → v.model.stage.status ≠ 3) → (idx = 0x5000 → sub = 3 → v.logic.stage.status ≠ 3) →
    v.staged + total ≤ stagingRoom →
    Does (.writeInit t a idx sub total) s (fun u => ∃ x, (u.session r.ctx).xfer = some x ∧ x.write = true ∧ x.index = idx ∧
      x.sub = sub ∧ x.total = total ∧ x.next = 0 ∧ x.data = [])) ∧
  (∀ (t offset : Nat) (a : Acc) (b : Octets) (r : Req) (x : Transfer) (s : State), s.live .house t →
    r = a.req (a.segment offset false b) → a.crit = none → (s.advance t).takes r →
    (((s.advance t).turn r).session r.ctx).xfer = some x → x.write = true → r.pdu.offset = x.next → b.length ≤ r.limit →
    x.next + b.length ≤ x.total →
    Does (.segmentWrite t a offset false b) s (fun u => ∃ y, (u.session r.ctx).xfer = some y ∧ y.data = x.data ++ b ∧
      y.next = x.next + b.length ∧ y.prev = some x.next)) ∧
  (∀ (t offset : Nat) (a : Acc) (b : Octets) (r : Req) (x : Transfer) (e : Ent) (s v w y : State), s.live .house t →
    r = a.req (a.segment offset true b) → (s.advance t).takes r → v = (s.advance t).turn r → (v.session r.ctx).xfer = some x →
    x.write = true → r.pdu.offset = x.next → b.length ≤ r.limit → x.next + b.length = x.total → entAt x.index x.sub = some e →
    (v.setXfer r.ctx none).sealOk r 4 x.index x.sub (x.data ++ b) ((v.setXfer r.ctx none).needsTrailer r x.index x.sub e) →
    w = (v.setXfer r.ctx none).sealed r 4 x.index x.sub (x.data ++ b) ((v.setXfer r.ctx none).needsTrailer r x.index x.sub e) →
    e.badLength x.index x.sub (x.data ++ b) = false → e.badValue (x.data ++ b) = false → w.shut x.index = false →
    w.readOpen x.index x.sub true = false → w.applyWrite r.ctx x.index x.sub (x.data ++ b) = .done y → y.pending = s.pending →
    y.clk.raw = (s.advance t).clk.raw →
    Does (.segmentWrite t a offset true b) s (fun u => u = { y with net := u.net })) ∧
  (∀ (t offset : Nat) (a : Acc) (r : Req) (x : Transfer) (s : State), s.live .house t →
    r = a.req (a.segment offset false []) → a.crit = none → (s.advance t).takes r →
    (((s.advance t).turn r).session r.ctx).xfer = some x → x.write = false → r.pdu.offset = x.next → x.inPlace = false →
    x.total - x.next ≤ r.segment → x.next ≤ x.total →
    Does (.segmentRead t a offset []) s (fun u => (u.session r.ctx).xfer = none ∧
      (u.session r.ctx).lastResp = r.pdu.good 2 (slice x.data x.next (x.total - x.next)))) ∧
  (∀ (t idx sub : Nat) (a : Acc) (r : Req) (e : Ent) (s v : State), s.live .house t → r = a.req (a.pdu 6 0 idx sub []) →
    a.crit = none → (s.advance t).takes r → v = (s.advance t).turn r → v.entryOk r .describe idx sub e → v.shut idx = false →
    Does (.describe t a idx sub) s (fun u => (u.session r.ctx).lastResp = r.pdu.good 0 e.describe)) ∧
  (∀ (t idx sub code : Nat) (a : Acc) (r : Req) (x : Transfer) (s : State), s.live .house t →
    r = a.req (a.pdu 7 0 idx sub (leBytes 2 code)) → (s.advance t).takes r → a.crit = none →
    (((s.advance t).turn r).session r.ctx).xfer = some x →
    Does (.abortXfer t a idx sub code) s (fun u => (u.session r.ctx).xfer = none ∧ (u.session r.ctx).lastResp = r.pdu.echo)) ∧
  (∀ (t n : Nat) (x : Transfer) (s : State), n < 256 → s.live .house t → (s.session n).xfer = some x →
    x.since + 1000000000 ≤ (s.advance t).now →
    Does (.transferTimeout t n) s (fun u => (u.session n).xfer = none))

/-- R56, R74, R75, R106, R349, R416, R513, R528: host transactions, reads with an effect of their own, image validation and stores. A
WRITE_PDU the port takes makes it busy and enters the request queue; READ_STATUS drives the status and READ_RESPONSE the waiting response,
which it frees; a store that succeeds is the saved content with result 1, one that fails leaves it, with result 2; a read of the log and of
the alarm rows answers what the context's cursor and selector give and moves them; a read of the calendar's SEC or block latches the shadow;
a model or a program image submitted for validation is held as valid, or refused with the fault and place of its first failing check. Where
the manual leaves it open, as log entries 6, 7, 11, 44, 88 and 138 of the model say. -/
def Obligations.HostAndReadCommands : Prop :=
  (∀ (t : Nat) (b : Octets) (p : Pdu) (s : State), s.live .house t → (s.advance t).hostReady = true → s.net.host.resp = none →
    s.net.host.busy = false → 10 ≤ b.length → b.length ≤ 1054 → hostPdu b = some p → (s.advance t).hasRoom .request = true →
    (s.advance t).metered { src := .host, cls := 0, pdu := p } = false →
    Does (.writePdu t b.length b false) s (fun u => u.net.host.busy = true ∧ u.net.host.hrdyFrom = (s.advance t).now ∧
      u.net.host.hrdyBy = (s.advance t).now + 2000 ∧ (u.queue .request).wp = ((s.queue .request).wp + 1) % 65536)) ∧
  (∀ (t : Nat) (s : State), s.live .house t → (s.advance t).hostReady = true →
    Does (.readStatus t) s (fun u => u.net.host.driven = s.hostStatus ∧ u.net.host.booted = false ∧ u.net.host.resp = s.net.host.resp)) ∧
  (∀ (t : Nat) (b : Octets) (s : State), s.live .house t → (s.advance t).hostReady = true → s.net.host.resp = some b →
    Does (.readResponse t) s (fun u => u.net.host.driven = b ∧ u.net.host.resp = none ∧ u.net.host.busy = s.net.host.busy)) ∧
  (∀ (t : Nat) (x : Tab Val) (s : State), s.live .mem t → s.dict.storing = some x →
    Does (.storeDone t true []) s (fun u => u.keep.saved = s.keep.saved.write x ∧ u.dict.storing = none ∧ u.dict.storeResult = 1 ∧
      u.dict.restorePending = false) ∧
    Does (.storeDone t false []) s (fun u => u.keep.saved = s.keep.saved ∧ u.dict.storing = none ∧ u.dict.storeResult = 2)) ∧
  (∀ (t : Nat) (a : Acc) (r : Req) (e : Ent) (s v : State), s.live .house t → r = a.req (a.pdu 1 0 0x6C00 3 []) → a.crit = none →
    (s.advance t).takes r → v = (s.advance t).turn r → v.entryOk r .read 0x6C00 3 e → v.shut 0x6C00 = false →
    (v.readLog r.ctx).2.length ≤ r.limit →
    Does (.logRead t a) s (fun u => (u.session r.ctx).lastResp = r.pdu.good 0 (v.readLog r.ctx).2 ∧
      (u.session r.ctx).logCursor = ((v.readLog r.ctx).1.session r.ctx).logCursor)) ∧
  (∀ (t : Nat) (a : Acc) (r : Req) (e : Ent) (s v : State), s.live .house t → r = a.req (a.pdu 1 0 0x6C10 2 []) → a.crit = none →
    (s.advance t).takes r → v = (s.advance t).turn r → v.entryOk r .read 0x6C10 2 e → v.shut 0x6C10 = false →
    (v.readRows r.ctx).2.length ≤ r.limit →
    Does (.alarmRows t a) s (fun u => (u.session r.ctx).lastResp = r.pdu.good 0 (v.readRows r.ctx).2 ∧
      (u.session r.ctx).almSelect = ((v.session r.ctx).almSelect + min 40 (4096 - (v.session r.ctx).almSelect)) % 4096)) ∧
  (∀ (t : Nat) (a : Acc) (r : Req) (e : Ent) (s v : State), s.live .house t → r = a.req (a.pdu 1 0 0x6000 1 []) → a.crit = none →
    (s.advance t).takes r → v = (s.advance t).turn r → v.entryOk r .read 0x6000 1 e → v.shut 0x6000 = false →
    Does (.calLatchRead t a) s (fun u => u.cal.shadow = (s.advance t).calBlock ∧ a.src.path ∈ u.cal.latched ∧
      (u.session r.ctx).lastResp = r.pdu.good 0 (u.cal.shadow.at_ 1))) ∧
  (∀ (t : Nat) (a : Acc) (r : Req) (e : Ent) (s v : State), s.live .house t → r = a.req (a.pdu 1 0 0x6000 0x0A []) → a.crit = none →
    (s.advance t).takes r → v = (s.advance t).turn r → v.entryOk r .read 0x6000 0x0A e → v.shut 0x6000 = false →
    Does (.calBlock t a) s (fun u => u.cal.shadow = (s.advance t).calBlock ∧ u.cal.latched = s.cal.latched ∧
      (u.session r.ctx).lastResp = r.pdu.good 0 u.cal.shadow.block)) ∧
  (∀ (t : Nat) (b : Octets) (s : State), s.live .house t → s.model.stage.coming = some b →
    Does (.modelImageValidated t) s (fun u =>
      (modelFault s.power.straps.pos (s.nat 0x2810 3) b = none → u.model.stage.status = 1 ∧ u.model.stage.image = b) ∧
      ∀ c i, modelFault s.power.straps.pos (s.nat 0x2810 3) b = some (c, i) →
        u.model.stage.status = 2 ∧ u.model.stage.fault = c ∧ u.model.stage.index = i)) ∧
  (∀ (t : Nat) (b : Octets) (s : State), s.live .house t → s.logic.stage.coming = some b →
    Does (.progImageValidated t) s (fun u =>
      (progFault b = none → u.logic.stage.status = 1 ∧ u.logic.stage.image = b) ∧
      ∀ c i, progFault b = some (c, i) → u.logic.stage.status = 2 ∧ u.logic.stage.fault = c ∧ u.logic.stage.index = i))

/-- R106, R349: the final SEGMENT of an image that passes the checks submits it for validation, and its response is owed. Where the manual
leaves it open, as log entries 6 and 7 of the model say. -/
def Obligations.ImageStaging : Prop :=
  ∀ (t offset : Nat) (a : Acc) (b : Octets) (r : Req) (x : Transfer) (e : Ent) (s v w : State), s.live .house t →
    r = a.req (a.segment offset true b) → (s.advance t).takes r → v = (s.advance t).turn r → (v.session r.ctx).xfer = some x →
    x.write = true → r.pdu.offset = x.next → b.length ≤ r.limit → x.next + b.length = x.total → entAt x.index x.sub = some e →
    (v.setXfer r.ctx none).sealOk r 4 x.index x.sub (x.data ++ b) ((v.setXfer r.ctx none).needsTrailer r x.index x.sub e) →
    w = (v.setXfer r.ctx none).sealed r 4 x.index x.sub (x.data ++ b) ((v.setXfer r.ctx none).needsTrailer r x.index x.sub e) →
    e.badLength x.index x.sub (x.data ++ b) = false → e.badValue (x.data ++ b) = false → w.shut x.index = false →
    w.readOpen x.index x.sub true = false →
    (x.index = 0x2000 → x.sub = 1 → s.model.stage.status ≠ 3 → s.model.stage.coming = none →
      Does (.modelImageStage t a offset b) s (fun u =>
        u.model.stage.coming = some (x.data ++ b) ∧ Tab.find u.net.owed (key 0x2000 1) = some r)) ∧
    (x.index = 0x5000 → x.sub = 3 → s.logic.stage.status ≠ 3 → s.logic.stage.coming = none →
      Does (.progImageStage t a offset b) s (fun u =>
        u.logic.stage.coming = some (x.data ++ b) ∧ Tab.find u.net.owed (key 0x5000 3) = some r))

/-- R386, R388, R389: sessions. An OPEN of the host with a good slot enters OPENING; an OPEN of a network source takes the context R390
picks; a CONFIRM with the right proof opens the session; a CLOSE with a good trailer, and 2 s without a CONFIRM, free the context; a failed
health test is kept. Where the manual leaves it open, as log entries 48 and 146 of the model say. -/
def Obligations.SessionCommands : Prop :=
  (∀ (t tag slot partner : Nat) (nonce : Octets) (a : Acc) (r : Req) (k : KeySlot) (s : State), s.live .house t →
    a = { src := .host, session := 0, tag := tag, crit := none } →
    r = a.req (a.pdu 0x10 0 0 0 (leBytes 1 slot ++ zeros 3 ++ leBytes 4 partner ++ nonce)) → s.booting = false →
    ((s.advance t).takeToken r).2 = true → nonce.length = 16 → slot < 64 → partner < 4294967296 → s.net.rngFailed = false →
    (s.session 0).lastReq ≠ some r → s.keySlot slot = some k → bitOf k.usage 0 = true → (k.partner = 0 ∨ k.partner = partner) →
    Does (.openSession t .host tag slot partner nonce) s (fun u => (u.session 0).state = .opening ∧ (u.session 0).slot = slot ∧
      (u.session 0).partner = partner ∧ (u.session 0).nc = nonce ∧ (u.session 0).openingSince = (s.advance t).now)) ∧
  (∀ (t tag slot partner n : Nat) (nonce : Octets) (src : Peer) (a : Acc) (r : Req) (k : KeySlot) (s : State), s.live .house t →
    src ≠ .host → a = { src := src, session := 0, tag := tag, crit := none } →
    r = a.req (a.pdu 0x10 0 0 0 (leBytes 1 slot ++ zeros 3 ++ leBytes 4 partner ++ nonce)) → s.pathServed src = true →
    ((s.advance t).takeToken r).2 = true → nonce.length = 16 → slot < 64 → partner < 4294967296 → s.net.rngFailed = false →
    s.keySlot slot = some k → bitOf k.usage 0 = true → (k.partner = 0 ∨ k.partner = partner) →
    ((s.advance t).takeToken r).1.pickContext = some n →
    Does (.openSession t src tag slot partner nonce) s (fun u => (u.session n).state = .opening ∧ (u.session n).peer = src ∧
      (u.session n).slot = slot ∧ (u.session n).nc = nonce)) ∧
  (∀ (t : Nat) (a : Acc) (proof k : Octets) (r : Req) (s : State), s.live .house t → r = a.req (a.pdu 0x11 0 0 0 proof) →
    (a.src = .host → s.booting = false ∧ (s.session 0).lastReq ≠ some r) →
    (a.src ≠ .host → s.pathServed a.src = true ∧ a.session ≠ 0 ∧ a.crit = none) →
    ((s.advance t).takeToken r).2 = true → proof.length = 12 → (s.session a.ctx).state = .opening →
    (s.session a.ctx).peer = a.src → s.slotKey a.ctx = some k →
    proof = trunc96 (hmac k (proofMsg "PXO2" (s.session a.ctx).nd (s.session a.ctx).nc a.ctx (s.session a.ctx).partner)) →
    Does (.confirmSession t a proof) s (fun u => (u.session a.ctx).state = .opened ∧ (u.session a.ctx).counter = 0 ∧
      (u.session a.ctx).key = hmac k (proofMsg "PXS1" (s.session a.ctx).nc (s.session a.ctx).nd a.ctx (s.session a.ctx).partner))) ∧
  (∀ (t : Nat) (a : Acc) (c : Trailer) (r : Req) (s v : State), s.live .house t → r = a.req (a.pdu 0x12 0 0 0 []) →
    a.src = .host → a.crit = some c → s.booting = false → ((s.advance t).takeToken r).2 = true →
    v = ((s.advance t).takeToken r).1.modSess 0 (fun x => { x with idleSince := (s.advance t).now }) →
    (s.session 0).lastReq ≠ some r → (v.trailer 0 0x12 r.pdu 0 0 [] true).2 = 0 →
    Does (.closeSession t a) s (fun u => (u.session 0).state = .free)) ∧
  (∀ (t : Nat) (a : Acc) (r : Req) (s v : State), s.live .house t → r = a.req (a.pdu 0x12 0 0 0 []) → a.src ≠ .host →
    s.pathServed a.src = true → ((s.advance t).takeToken r).2 = true → r.malformed = false →
    ((s.advance t).takeToken r).1.authentic r = true → v = (s.advance t).turn r → (v.session a.session).lastReq ≠ some r →
    (v.trailer a.session 0x12 r.pdu 0 0 [] true).2 = 0 →
    Does (.closeSession t a) s (fun u => (u.session a.session).state = .free)) ∧
  (∀ (t n : Nat) (s : State), n < 256 → s.live .house t → (s.session n).state = .opening →
    (s.session n).openingSince + 2000000000 ≤ (s.advance t).now →
    Does (.sessionOpenTimeout t n) s (fun u => (u.session n).state = .free)) ∧
  (∀ (t : Nat) (s : State), s.live .house t →
    Does (.rngFault t) s (fun u => u.net.rngFailed = true ∧ u.net.sess = s.net.sess ∧ u.net.keys = s.net.keys))

/-- R106, R107, R96, R113, R123, R125, R133: the model's activation, the light day and the hydraulic period complete. A keep-store write
that succeeds makes the staged image the next model, one that fails leaves state 4; the switch makes it active; the light day resets the
accumulators; a period start takes its inputs and submits the Newton job with its deadline; a job that ends hands over, with its status, and
publishes under a new solve number where the status is at most 4; a probe that fails keeps its records and says so; a result too old is
stale and its records are derated. Where the manual leaves it open, as log entries 14, 72, 102, 141 and 142 of the model say. -/
def Obligations.ModelAndHydraulicCommands : Prop :=
  (∀ (t : Nat) (s : State), s.live .mem t → s.model.stage.status = 3 → s.model.active ≠ none →
    Does (.modelWriteDone t true) s (fun u =>
      u.keep.model = s.keep.model.write s.model.stage.image ∧ u.model.stage.status = 0 ∧
      u.model.next = some ((s.keep.model.write s.model.stage.image).gen, s.model.stage.image) ∧ u.model.active = s.model.active)) ∧
  (∀ (t : Nat) (s : State), s.live .mem t → s.model.stage.status = 3 →
    Does (.modelWriteDone t false) s (fun u =>
      u.keep.model = s.keep.model ∧ u.model.stage.status = 4 ∧ u.model.active = s.model.active)) ∧
  (∀ (t g : Nat) (img : Octets) (s : State), s.live .house t → s.model.next = some (g, img) → (s.advance t).periodDue ≠ none →
    Does (.modelSwitch t) s (fun u =>
      u.model.active = some img ∧ u.model.gen = g ∧ u.model.next = none ∧ u.model.switched = (s.advance t).clk.dev ∧
      bitOf u.dev.hold 4 = false)) ∧
  (∀ (t : Nat) (s : State), s.live .house t → s.lightMinute (s.advance t).clk.dev = 0 →
    Does (.lightDayStart t) s (fun u => u = { s.advance t with disp := u.disp } ∧ u.disp.dli = [] ∧ u.disp.plan = s.disp.plan)) ∧
  (∀ (t start : Nat) (s : State), s.live .solv t → (s.advance t).periodDue = some start →
    Does (.hydPeriodStart t) s (fun u =>
      (∃ n, u.hyd.snap = some n ∧ n.start = start) ∧ (u.job 0).state = 1 ∧ (u.job 1).state ≠ 1 ∧
      (s.model.next = none → (u.job 0).deadline = start + s.nat 0x2830 4 * 1000000))) ∧
  (∀ (t st : Nat) (n : HydSnap) (s : State), s.live .solv t → s.hyd.snap = some n →
    (s.advance t).hydEnd n ((s.advance t).job 0) = some st → s.mayEnd 0 = true →
    Does (.hydJobEnd t) s (fun u =>
      (u.job 0).state = 3 ∧ u.hyd.status = st ∧ u.hyd.iters = (s.job 0).iters ∧
      (st ≤ 4 → u.hyd.seq = (s.hyd.seq + 1) % 4294967296 ∧ u.hyd.time = n.start) ∧ (4 < st → u.hyd.seq = s.hyd.seq))) ∧
  (∀ (t : Nat) (n : HydSnap) (p : DelivProbe) (s : State), s.live .solv t → s.hyd.snap = some n → s.hyd.probe = some p →
    (s.job 1).state = 2 → (s.job 1).reason = some .deadlineEmpty → (s.job 1).done = none → s.mayEnd 1 = true →
    Does (.delivProbeEnd t) s (fun u =>
      (u.job 1).state = 3 ∧ u.hyd.delivSeq = s.hyd.seq ∧
      (netUsed s.img 0 = true → (u.hyd.deliv.getD 0 {}) = { s.hyd.deliv.getD 0 {} with probeFail := true }))) ∧
  (∀ (t : Nat) (s : State), s.live .solv t → s.model.active ≠ none → s.up = true → s.hyd.stale = false →
    s.hyd.lastPub + s.hydCfg 0x2830 15 * 1000000000 ≤ (s.advance t).clk.dev →
    Does (.hydStale t) s (fun u => u.hyd.stale = true ∧ u.hyd.seq = s.hyd.seq ∧ u.hyd.deliv.length = s.hyd.deliv.length ∧
      u.hyd.deliv.all (fun d => d.derated) = true))

/-- R135, R139, R140, R151, R152: the estimator's commands complete. A run over a window whose hydraulics published too rarely takes status
4 and starts a new window; a reset run returns every learned value to its initial one; any other run is complete, with status 1 or 2, and
leaves the loss multipliers to its loss job, which it submits where pipe groups have samples enough; the loss job's end hands it over and
counts its groups; a loss job without a result is skipped; a lane that does not run the estimator starts a new window; the quarter-hour that
has ended enters the means of the last 24 h and a new one begins. Where the manual leaves it open, as log entries 14, 74, 96 and 104 of the
model say. -/
def Obligations.EstimatorCommands : Prop :=
  (∀ (t stop : Nat) (s : State), s.live .solv t → s.model.active ≠ none → s.up = true → s.power.jobsHeld = false →
    stop = (s.advance t).clk.dev / (s.hydCfg 0x2840 1 * 1000000000) * (s.hydCfg 0x2840 1 * 1000000000) → s.estim.win.start < stop →
    ((s.advance t).estimates = true → s.estim.reset = false → (s.estim.win.periods = 0 ∨ 2 * s.estim.win.published < s.estim.win.periods) →
      Does (.estimRun t) s (fun u => u.estim.status = 4 ∧ u.estim.seq = (s.estim.seq + 1) % 4294967296 ∧ u.estim.win = { start := stop } ∧
        u.estim.loss = s.estim.loss ∧ u.estim.bias = s.estim.bias ∧ u.estim.drift = s.estim.drift)) ∧
    ((s.advance t).estimates = true → s.estim.reset = true →
      Does (.estimRun t) s (fun u => u.estim.loss = [] ∧ u.estim.bias = [] ∧ u.estim.drift = [] ∧ u.estim.reset = false ∧
        u.estim.status = 1 ∧ u.estim.win = { start := stop })) ∧
    ((s.advance t).estimates = true → s.estim.reset = false → s.estim.win.periods ≠ 0 → s.estim.win.periods ≤ 2 * s.estim.win.published →
      Does (.estimRun t) s (fun u => (u.estim.status = 1 ∨ u.estim.status = 2) ∧ u.estim.seq = (s.estim.seq + 1) % 4294967296 ∧
        u.estim.time = stop ∧ u.estim.win = { start := stop } ∧ u.estim.loss = s.estim.loss ∧
        (bitOf (s.hydCfg 0x2840 2) 0 = true → (s.advance t).solvedGroups ≠ [] →
          (u.job 3).state = 1 ∧ (u.job 3).deadline = stop + s.hydCfg 0x2840 12 * 1000000000 ∧
          u.estim.lossJob = some ((s.advance t).takeLoss (s.advance t).solvedGroups)))) ∧
    ((s.advance t).estimates = false →
      Does (.estimRun t) s (fun u => u.estim = { s.estim with win := { start := stop } } ∧ u.loam = s.loam))) ∧
  (∀ (t : Nat) (l : LossJob) (s : State), s.live .solv t → s.estim.lossJob = some l → (s.advance t).estimates = true → s.mayEnd 3 = true →
    (((s.job 3).state = 1 ∧ (s.job 3).met = true) ∨ ((s.job 3).state = 2 ∧ (s.job 3).reason = some .complete) →
      Does (.estimLossEnd t) s (fun u => (u.job 3).state = 3 ∧ u.estim.lossJob = none ∧
        u.estim.updated = s.estim.updated + l.groups.length)) ∧
    ((s.job 3).state = 2 → ((s.job 3).reason = some .deadlineEmpty ∨ (s.job 3).reason = some .overflow) →
      Does (.estimLossEnd t) s (fun u => (u.job 3).state = 3 ∧ u.estim.lossJob = none ∧ u.estim.status = 3 ∧
        u.estim.loss = s.estim.loss))) ∧
  (∀ (t soft : Nat) (s : State), s.live .solv t → (s.advance t).quarterOver = true →
    Does (.profileUpdate t [] soft) s (fun u => u.disp.quarter = {} ∧
      u.disp.irr24 = (s.disp.irr24 ++ [s.disp.quarter.irr / s.disp.quarter.periods]).drop (s.disp.irr24.length + 1 - 96) ∧
      u.disp.plan = s.disp.plan ∧ u.estim = s.estim))

/-- R145, R146, R161, R167, R175, R199, R201–R208: the planner and the job sequencer complete. A re-plan that is due takes its snapshot and
submits its job; a publication puts a new plan into force; a grid boundary moves the step; a plan too old is stale. A lower class takes SOLV
at a panel boundary; an iteration of a class's owner without overflow moves the completed mark, one with an overflow ends the job; a
deadline ends a job with or without an iterate; an abort ends the job it names while that exists, and comes too late for one that was handed
over; a parity fault and a failing residue replay the job. Where the manual leaves it open, as log entries 14, 75, 76, 77 and 78 of the
model say. -/
def Obligations.PlannerAndJobCommands : Prop :=
  (∀ (t soft : Nat) (s : State), s.live .solv t → s.nat 0x6410 1 = 0 → s.model.active ≠ none → s.up = true →
    s.power.jobsHeld = false → (s.advance t).inputsHeld = true → s.nat 0x2810 1 = 1 → (s.job 2).alive = false → s.disp.nowPending = true →
    Does (.replanStart t [] soft) s (fun u =>
      (∃ r, u.disp.run = some r ∧ r.round = none ∧ (u.job 2).deadline = r.deadline) ∧ (u.job 2).state = 1 ∧
      u.disp.nowPending = false ∧ u.disp.forceCold = false ∧ u.disp.lastStart = (s.advance t).clk.dev)) ∧
  (∀ (t st : Nat) (r : ReSnap) (s : State), s.live .solv t → s.disp.run = some r → r.round = none →
    (r.verdict (s.job 2)).status = some st → s.mayEnd 2 = true → (s.advance t).inputsHeld = true →
    Does (.dispatchJobEnd t) s (fun u =>
      (u.job 2).state = 3 ∧ (st ≤ 5 → u.disp.plan.inForce = true ∧ u.disp.plan.status = st) ∧
      (5 < st → u.disp.plan = s.disp.plan ∧ u.disp.notPublished = s.disp.notPublished + 1))) ∧
  (∀ (t : Nat) (s : State), s.live .house t → s.disp.plan.inForce = true → s.disp.plan.withdrawn = false →
    s.disp.plan.past < s.disp.plan.passed (s.advance t).clk.dev →
    Does (.gridBoundary t) s (fun u =>
      u.disp.plan.step = min (s.disp.plan.passed (s.advance t).clk.dev) (s.disp.plan.steps.length - 1) ∧
      (u.disp.plan.exhausted = true ↔ s.disp.plan.steps.length ≤ s.disp.plan.passed (s.advance t).clk.dev) ∧
      u.disp.plan.version = s.disp.plan.version)) ∧
  (∀ (t : Nat) (s : State), s.live .house t → s.disp.plan.inForce = true → s.disp.plan.stale = false →
    s.disp.plan.time + s.nat 0x2801 20 * 1000000000 ≤ (s.advance t).clk.dev →
    Does (.planStale t) s (fun u => u.disp = { s.disp with plan := { s.disp.plan with stale := true } })) ∧
  (∀ (t r c : Nat) (s : State), s.live .solv t → s.loam.running = some r → s.nextClass = some c → c < r →
    Does (.loamPreempt t) s (fun u => u = { s.advance t with loam := u.loam } ∧ u.loam.running = some c ∧ r ∈ u.loam.preempted ∧
      u.loam.jobs = s.loam.jobs)) ∧
  (∀ (t c : Nat) (i : Iteration) (s : State), c < 4 → s.live .solv t → (s.advance t).computes c = true →
    (s.advance t).iterationOf c = some i →
    (i.work.ovf = none →
      Does (.loamIterationComplete t c) s (fun u =>
        (u.job c).iters = (s.job c).iters + 1 ∧ (u.job c).before = (s.job c).done ∧ (u.job c).done = some i.work.vecs)) ∧
    (i.work.ovf ≠ none →
      Does (.loamIterationComplete t c) s (fun u => (u.job c).state = 2 ∧ (u.job c).reason = some .overflow ∧ (u.job c).done = none))) ∧
  (∀ (t c : Nat) (s : State), c < 4 → s.live .solv t → (s.job c).state = 1 → (s.job c).deadline ≤ (s.advance t).localTime .solv →
    (s.job c).met = false →
    Does (.loamDeadline t c) s (fun u => (u.job c).state = 2 ∧
      ((s.job c).done = none → (u.job c).reason = some .deadlineEmpty) ∧
      ((s.job c).done ≠ none → (s.job c).inputLost = false → (u.job c).reason = some .deadlineIterate) ∧
      (u.job c).done = (s.job c).done)) ∧
  (∀ (t c no frm : Nat) (s : State), c < 4 → s.live .solv t →
    (s.loam.doneNos.contains no = false → (s.job c).no = no → (s.job c).alive = true →
      Does (.loamAbortRequest t c no frm) s (fun u => (u.job c).state = 2 ∧ (u.job c).reason = some .aborted)) ∧
    (s.loam.doneNos.contains no = true → Does (.loamAbortRequest t c no frm) s (fun u => u.loam = s.loam))) ∧
  (∀ (t c addr : Nat) (again : Bool) (s : State), s.live .solv t → s.loam.running = some c → (s.job c).state = 1 →
    Does (.loamParityFault t addr again none) s (fun u =>
      (u.job c).state = 1 ∧ (u.job c).replays = (s.job c).replays + 1 ∧ (u.job c).iters = 0 ∧ (u.job c).done = none ∧
      u.health.sramRows = s.health.sramRows + (if again then 1 else 0))) ∧
  (∀ (t c lane addr : Nat) (again : Bool) (s : State), s.live .solv t → s.loam.running = some c → (s.job c).state = 1 →
    (lane < 68 → Does (.loamResidueMismatch t false lane addr again none) s (fun u =>
      lane ∈ u.loam.lanesOut ∧ (u.job c).replays = (s.job c).replays + 1 ∧ (u.job c).done = none)) ∧
    (s.loam.dividersOut.contains (1 - s.loam.divider) = false → Does (.loamResidueMismatch t true lane addr again none) s (fun u =>
      u.loam.divider = 1 - s.loam.divider ∧ (u.job c).replays = (s.job c).replays + 1 ∧ (u.job c).done = none)))

/-- R221, R235, R219, R238, R227, R574: the commands of the control engine. A sample that meets its conditions is evaluated and counted, and
ends a run of overruns; one whose conversion has not landed is overrun and counted; a background conversion renews one input; the spare
pipeline takes over a failing one's slot table; a PWM output starts its first period with the values commanded; a new committed mode request
closes an open loop. Where the manual leaves it open, as log entries 34, 45 and 144 of the model say. -/
def Obligations.LoopCommands : Prop :=
  (∀ (t n m : Nat) (x : EvalIn) (s : State), n < 1024 → s.live .ctrl t → (s.advance t).sampleNo n (s.advance t).tick = some m →
    (s.loop n).state ≠ .off → (s.advance t).acts = true → s.loopPipe n ≠ 3 → s.testedBare 2 (s.loopPipe n) = false →
    (s.loop n).lastTick ≠ some (s.advance t).tick → x.working = [] → x.checkpoint = [] → x.lost = false → x.residueBad = false →
    (((s.src n 0).kind = 1 → x.landed = true ∧ s.converterOf (s.src n 0).index ≠ 3) →
      Does (.loopEvaluation t n x) s (fun u =>
        (u.loop n).evals = (s.loop n).evals + 1 ∧ (u.loop n).ovrConsec = 0 ∧ (u.loop n).ovrCount = (s.loop n).ovrCount ∧
        (u.loop n).first = false)) ∧
    ((s.src n 0).kind = 1 → x.landed = false →
      Does (.loopEvaluation t n x) s (fun u =>
        (u.loop n).evals = (s.loop n).evals ∧ (u.loop n).ovrCount = (s.loop n).ovrCount + 1 ∧
        (u.loop n).ovrConsec = min 255 ((s.loop n).ovrConsec + 1)))) ∧
  (∀ (t k code : Nat) (s : State), k < 16 → s.live .ctrl t → s.converterOf k ≠ 3 →
    Does (.aiBackgroundConversion t k code) s (fun u =>
      u = { s.advance t with ctrl := { s.ctrl with ai := Tab.put 0 s.ctrl.ai k (code % 65536) } })) ∧
  (∀ (t k at_ : Nat) (s : State), k < 2 → s.live .ctrl t → s.ctrl.pipeBad = some (k, at_) → at_ < (s.advance t).tick → s.ctrl.pipe0 = 0 →
    s.ctrl.pipe1 = 1 →
    s.poolOut 2 0 = [] →
    Does (.pipelineTakeover t) s (fun u =>
      u.pipeOf k = 2 ∧ u.pipeOf (1 - k) = 1 - k ∧ u.ctrl.pipeBad = none ∧ u.poolOut 2 0 = [k] ∧ u.ctrl.loops = s.ctrl.loops)) ∧
  (∀ (t k : Nat) (s : State), k < 16 → s.live .ctrl t → Tab.get {} s.ctrl.pwm k = {} → Tab.get 0 s.ctrl.pwPeriod k ≠ 0 →
    0 < pwmMultiple (Tab.get 0 s.ctrl.pwPeriod k) (s.advance t).clk.dev →
    Does (.pwmPeriodStart t k) s (fun u =>
      u = { s.advance t with ctrl := u.ctrl } ∧
      Tab.get {} u.ctrl.pwm k =
        { period := Tab.get 0 s.ctrl.pwPeriod k, high := Tab.get 0 s.ctrl.pwHigh k,
          start := pwmMultiple (Tab.get 0 s.ctrl.pwPeriod k) (s.advance t).clk.dev, waiting := false })) ∧
  (∀ (t n w : Nat) (s : State), n < 1024 → s.live .ctrl t → w < 65536 → w ≠ (s.loop n).reqWord → w % 8 = 6 →
    (s.coef n).reqLogic = true → s.holding = false → (s.loop n).state = .opened →
    Does (.logicModeRequest t n w) s (fun u =>
      u = { s.advance t with ctrl := u.ctrl } ∧
      u.loop n = { s.loop n with reqWord := w, state := .closed, holdCause := 0, forced := false, firstClose := true,
                                 uHeld := (s.loop n).uPrev, req := 2 })) ∧
  (∀ (t n : Nat) (s : State), n < 1024 → s.live .ctrl t →
    Does (.logicModeRequest t n ((s.loop n).reqWord % 65536)) s (fun u => (s.loop n).reqWord < 65536 → u = s.advance t))

/-- R251, R253, R260, R263, R523: the commands of the repetitive controller's table and of the trace probes. A prefetch brings the two words
of the next sample from the table, unpoisoned where neither they nor the words kept are; a capture whose last record MEM has acknowledged is
DONE; records gathered for 100 ms are packed into one item of their subscription. Where the manual leaves it open, as log entries 24 and 79
of the model say. -/
def Obligations.ProbeAndRepCommands : Prop :=
  (∀ (t n m : Nat) (s : State), n < 1024 → s.live .ctrl t → (s.repCfg n).enable = true → (s.loop n).state ≠ .off →
    (s.advance t).sampleNo n (s.advance t).tick = some m → (s.loop n).rep.poison = [] →
    Does (.repPrefetch t n false false 0) s (fun u =>
      u = { s.advance t with ctrl := u.ctrl } ∧
      (m + 1, Tab.get 0 (s.loop n).rep.table (((s.repCfg n).pos (m + 1) + (s.repCfg n).lead) % (s.repCfg n).p),
        Tab.get 0 (s.loop n).rep.table ((s.repCfg n).pos (m + 1)), false, false) ∈ (u.loop n).rep.pre ∧
      (u.loop n).rep.table = (s.loop n).rep.table ∧ (u.loop n).rep.poison = [])) ∧
  (∀ (t p : Nat) (s : State), p < 32 → s.live .ctrl t → (s.probe p).state = 2 → (s.probeCfg p).post ≤ (s.probe p).post.length →
    Does (.captureDone t p) s (fun u => u = { s.advance t with ctrl := u.ctrl } ∧ u.probe p = { s.probe p with state := 3 })) ∧
  (∀ (t p : Nat) (s : State), p < 32 → s.live .ctrl t → (s.probe p).state ≠ 2 →
    Does (.captureDone t p) s (fun u => u = s.advance t)) ∧
  (∀ (t n p t0 : Nat) (recs : List Octets) (s : State), n < 8 → s.live .ctrl t → Tab.find (s.sub n).gather p = some (t0, recs) →
    t0 + 100000000 ≤ (s.advance t).now → (s.advance t).hasRoom (.traceq n) = true →
    Does (.tracePackExpiry t n p) s (fun u =>
      Tab.find (u.sub n).gather p = none ∧ (u.queue (.traceq n)).wp = ((s.queue (.traceq n)).wp + 1) % 65536 ∧
      (u.sub n).traceLost = (s.sub n).traceLost)) ∧
  (∀ (t n p t0 : Nat) (recs : List Octets) (s : State), n < 8 → s.live .ctrl t → Tab.find (s.sub n).gather p = some (t0, recs) →
    (s.advance t).now < t0 + 100000000 → Does (.tracePackExpiry t n p) s (fun u => u = s.advance t))

/-- R273, R274, R277, R278, R281, R284: the sampling commands of metering. A sample counts into the window in progress; the oldest window
that has ended is added to the registers, and a clear that waits follows it; a silent reference voltage sets FREQ_LOST; a half-cycle
boundary is evaluated once; a finished capture holds its samples. Where the manual leaves it open, as log entries 63, 112, 113 and 116 of
the model say. -/
def Obligations.MeteringCommands : Prop :=
  (∀ (t c : Nat) (d : List Int) (s : State), c < 4 → s.live .metr t → s.up = true → cfgPhases (s.cp c).cfg ≠ 0 → (s.cp c).lost = false →
    (s.cp c).crossed + 1 < winCycles (cfgFn (s.cp c).cfg) →
    Does (.meteringSample t d) s (fun u =>
      (u.cp c).win.n = (s.cp c).win.n + 1 ∧ (u.cp c).winNo = (s.cp c).winNo ∧ u.metr.regs = s.metr.regs)) ∧
  (∀ (t c : Nat) (w : Win) (rest : List Win) (s : State), c < 4 → s.live .metr t → (s.cp c).ended = w :: rest →
    ((s.cp c).clearPending = false →
      Does (.windowEnd t c []) s (fun u =>
        u.metr.regs = addRegs s.metr.regs c w.increments ∧ (u.cp c).ended = rest ∧
        (u.cp c).meas = w.meas ((s.cp c).winNo - rest.length) ∧ (u.cp c).clearCount = (s.cp c).clearCount)) ∧
    ((s.cp c).clearPending = true → (s.cp c).clearSkip = 0 → s.power.saving = false →
      Does (.windowEnd t c []) s (fun u =>
        (∀ k, k < 28 → Tab.get 0 u.metr.regs (28 * c + k) = 0) ∧ (u.cp c).ended = rest ∧ (u.cp c).clearPending = false ∧
        (u.cp c).clearCount = ((s.cp c).clearCount + 1) % 4294967296 ∧ (u.cp c).clearTime = w.endAt))) ∧
  (∀ (t c : Nat) (x : Rat) (s : State), c < 4 → s.live .metr t → cfgPhases (s.cp c).cfg ≠ 0 → (s.cp c).lost = false →
    (s.cp c).lastX = some x → x + 40000000 ≤ ((s.advance t).clk.dev : Rat) →
    Does (.freqLost t c) s (fun u =>
      u = { s.advance t with metr := u.metr } ∧ (u.cp c).lost = true ∧ (u.cp c).r = 1073741824 ∧ u.metr.regs = s.metr.regs)) ∧
  (∀ (t c : Nat) (h : Half) (r : List Half) (s : State), c < 4 → s.live .metr t → (s.cp c).halves = h :: r →
    Does (.halfCycle t c) s (fun u => (u.cp c).halves = r ∧ u.metr.regs = s.metr.regs ∧ u.dict = s.dict)) ∧
  (∀ (t : Nat) (x : List (List Int)) (s : State), s.live .metr t → s.metr.wave.state = 2 →
    s.metr.wave.time + 96000000 ≤ (s.advance t).clk.dev →
    Does (.waveCaptureDone t x) s (fun u =>
      u = { s.advance t with metr := { s.metr with wave := { s.metr.wave with state := 3, data := x } } }))

/-- R287, R288, R493: the calibration of metering inputs. An interval that has run out queues the inputs that are on; the first queued
calibration starts on a free spare; the spare takes the input, notes the mismatch; the reference is measured; a pass hands the input back
with the new trims; a failed modulator of a served input goes out of service and a spare takes its input. Where the manual leaves it open,
as log entries 65, 111 and 115 of the model say. -/
def Obligations.CalibrationCommands : Prop :=
  (∀ (t c : Nat) (s : State), c < 4 → s.live .metr t → s.nat (0x4800 + c) 0x0B ≠ 0 →
    (s.cp c).calAt + s.nat (0x4800 + c) 0x0B * 3600000000000 ≤ (s.advance t).now → s.modulatorsGone = false → s.metr.calQueue = [] →
    Does (.calIntervalExpiry t c) s (fun u =>
      u = { s.advance t with metr := u.metr } ∧ (u.cp c).calAt = (s.advance t).now ∧
      u.metr.calQueue = ((List.range 7).filter (fun k => inputOn (s.cp c).cfg k)).map (fun k => 7 * c + k))) ∧
  (∀ (t i m : Nat) (r : List Nat) (s : State), s.live .metr t → s.metr.cal = none → s.metr.calQueue = i :: r →
    s.freeModulator = some m →
    Does (.calStart t) s (fun u =>
      u = { s.advance t with metr := u.metr } ∧ u.metr.calQueue = r ∧
      u.metr.cal = some { input := i, step := 1, t0 := (s.advance t).now, old := s.modOf i, spare := m,
                            range := inputRange (s.cp (i / 7)).cfg (i % 7) })) ∧
  (∀ (t : Nat) (diff : Int) (r : CalRun) (s : State), s.live .metr t → s.metr.cal = some r → r.step = 1 →
    (s.advance t).calReached r 1024 = true →
    Does (.calTakeover t diff) s (fun u =>
      u = { s.advance t with metr := u.metr } ∧ u.modOf r.input = r.spare ∧ u.metr.cal = some { r with step := 2 } ∧
      u.metr.regs = s.metr.regs)) ∧
  (∀ (t : Nat) (z p m : Int) (r : CalRun) (s : State), s.live .metr t → s.metr.cal = some r → r.step = 2 →
    (s.advance t).calReached r 13312 = true →
    Does (.calReferenceDone t z p m) s (fun u =>
      u = { s.advance t with metr := u.metr } ∧ u.metr.cal = some { r with step := 4, found := some (newTrim z p m) } ∧
      u.metr.trims = s.metr.trims)) ∧
  (∀ (t : Nat) (r : CalRun) (tr : Int × Nat) (s : State), s.live .metr t → s.metr.cal = some r → r.step = 4 → r.found = some tr →
    trimsPass tr = true → (s.advance t).calReached r 14336 = true →
    Does (.calHandback t) s (fun u =>
      u.modOf r.input = r.old ∧ u.metr.cal = none ∧ (u.calSt r.input).outcome = 1 ∧
      Tab.get (0, 1073741824) u.metr.trims (2 * r.old + r.range) = tr)) ∧
  (∀ (t i m x : Nat) (s : State), m < 30 → i < 28 → s.live .metr t → s.metr.cal = none →
    (List.range 28).find? (fun i => decide (s.modOf i = m)) = some i →
    (List.range 30).find? (fun x => !(List.range 28).any (fun i => decide (s.modOf i = x)) && !(s.poolOut 4 0).contains x &&
      decide (x ≠ m)) = some x →
    Does (.modulatorFault t m) s (fun u =>
      u.modOf i = x ∧ m ∈ u.poolOut 4 0 ∧ Tab.get 0 u.metr.subst i = 3 ∧ u.metr.dead = s.metr.dead))

/-- R295, R296, R297, R300, R302, R305: channel reports and pulse inputs. A good report of a metered channel renews its held values and adds
the volume differences, and the energies where both temperatures are in range; a stale report ends freshness; an edge of a counting input
counts. Where the manual leaves it open, as log entries 66, 117 and 119 of the model say. -/
def Obligations.ReportCommands : Prop :=
  (∀ (t c : Nat) (src : RepSrc) (b : Octets) (x : Baseline) (s : State), s.live .metr t → b.length = 48 → s.reportChan src = some c →
    (reportOf b).type = (s.chanOf c).type → (s.chan c).lastSeq ≠ some (reportOf b).seq →
    ((s.chanOf c).type = 1 ∨ (s.chanOf c).type = 2 ∨ (s.chanOf c).type = 4) → (s.chan c).base = some x →
    bitOf (reportOf b).flags 0 = false → diff32 (reportOf b).vFwd x.vFwd < 2147483648 → diff32 (reportOf b).vRev x.vRev < 2147483648 →
    Does (.channelReport t src b []) s (fun u =>
      u = { s.advance t with heat := u.heat } ∧ (u.chan c).fresh = true ∧ (u.chan c).seq = (reportOf b).seq ∧
      (u.chan c).arrival = (s.advance t).clk.dev ∧
      (u.chan c).regs = (addHeat (s.chan c).regs (bitOf (s.nat (0x4000 + c) 2) 0) (s.coldSide (s.chanOf c)) (reportOf b)
        (diff32 (reportOf b).vFwd x.vFwd) (diff32 (reportOf b).vRev x.vRev)).1 ∧
      (u.chan c).regs.vFwd = (s.chan c).regs.vFwd + diff32 (reportOf b).vFwd x.vFwd ∧
      (u.chan c).regs.vRev = (s.chan c).regs.vRev + diff32 (reportOf b).vRev x.vRev)) ∧
  (∀ (t c : Nat) (s : State), c < 512 → s.live .metr t → (s.chan c).fresh = true → (s.advance t).chanFresh c = false →
    Does (.reportTimeout t c) s (fun u =>
      u = { s.advance t with heat := u.heat } ∧ u.chan c = { s.chan c with fresh := false, stale := true })) ∧
  (∀ (t i : Nat) (level : Bool) (s : State), i < 32 → s.live .metr t → s.piMode i = 1 → (s.pulse i).first = false →
    (s.pulse i).level ≠ level → s.piOpt i 1 = false → level ≠ s.piOpt i 0 →
    (s.pulse i).since + s.piFilter i ≤ (s.advance t).now →
    Does (.pulseEdge t i level) s (fun u =>
      u = { s.advance t with heat := u.heat } ∧ u.pulse i = { s.pulse i with level := level, since := (s.advance t).now, count := (s.pulse i).count + 1 }))

/-- R298, R334: the frames to channels. The holder sends a channel's owned set-point words at the 10 ms boundary after a change and again
after the refresh time, and a channel's command word likewise; each frame takes the next number of its channel. -/
def Obligations.ChannelFrameCommands : Prop :=
  ∀ (t c d : Nat) (s : State), c < 512 → s.live .comm t → (s.advance t).leaseHolder = true → s.chanType c ≠ 0 →
    ((s.chan c).spChanged = some d → (s.advance t).pastBoundary d = true →
      Does (.setpointFrame t c) s (fun u =>
        (u.chan c).spChanged = none ∧ (u.chan c).spNo = ((s.chan c).spNo + 1) % 256 ∧ (u.chan c).spSent = (s.advance t).clk.dev ∧
        (u.chan c).sp = (s.chan c).sp ∧ u.logic = s.logic)) ∧
    ((s.chan c).spSent ≠ 0 → (s.chan c).spSent + s.nat (0x4000 + c) 5 * 1000000 ≤ (s.advance t).clk.dev →
      Does (.setpointRefresh t c) s (fun u =>
        (u.chan c).spNo = ((s.chan c).spNo + 1) % 256 ∧ (u.chan c).spSent = (s.advance t).clk.dev ∧ u.logic = s.logic)) ∧
    (Tab.find s.logic.cmdDue c = some d → (s.advance t).pastBoundary d = true →
      Does (.commandFrame t c) s (fun u =>
        Tab.find u.logic.cmdDue c = none ∧ Tab.get 0 u.logic.cmdNo c = (Tab.get 0 s.logic.cmdNo c + 1) % 256 ∧
        Tab.find u.logic.cmdSent c = some (s.advance t).clk.dev ∧ u.heat = s.heat)) ∧
    (Tab.find s.logic.cmdSent c = some d → d + s.nat (0x4000 + c) 5 * 1000000 ≤ (s.advance t).clk.dev →
      Does (.commandRefresh t c) s (fun u =>
        Tab.get 0 u.logic.cmdNo c = (Tab.get 0 s.logic.cmdNo c + 1) % 256 ∧ Tab.find u.logic.cmdSent c = some (s.advance t).clk.dev ∧
        u.heat = s.heat))

/-- R307, R310, R312, R313, R317: core samples and intervals. The tick of the earliest request that is due latches the accumulators under
the next epoch; the copy makes them readable; an interval boundary closes the interval with a record under the next number and an energy
record; a retention write renews the older copy under the next generation. Where the manual leaves it open, as log entries 67, 118 and 150
of the model say. -/
def Obligations.CoreSampleCommands : Prop :=
  (∀ (t : Nat) (r : CsReq) (s : State), s.live .tbase t → s.heat.cs.reqs = [r] → r.time ≤ (s.advance t).clk.dev →
    Does (.coreSampleLatch t) s (fun u =>
      u = { s.advance t with heat := u.heat } ∧ u.heat.cs.epoch = (s.heat.cs.epoch + 1) % 4294967296 ∧ u.heat.cs.reqs = [] ∧
      u.heat.cs.lastLatch = some r.time ∧ u.heat.cs.shadow = s.heat.cs.shadow ∧
      (∃ h, u.heat.cs.latched = some h ∧ h.epoch = u.heat.cs.epoch ∧ h.latch = r.time ∧ h.elec = s.latchElec ∧ h.chans = s.latchChans ∧
        h.pulses = s.latchPulses))) ∧
  (∀ (t : Nat) (h : Shadow) (s : State), s.live .house t → s.heat.cs.latched = some h →
    Does (.csShadowCopy t) s (fun u =>
      u = { s.advance t with heat := u.heat } ∧ u.heat.cs.shadow = h ∧ u.heat.cs.latched = none)) ∧
  (∀ (t : Nat) (remaps : List Nat) (s : State), s.live .house t → s.up = true → s.heat.iv.next ≤ (s.advance t).clk.dev →
    s.power.deferIv = [] →
    s.power.saving = false →
    Does (.intervalBoundary t remaps) s (fun u =>
      u.heat.iv.no = (s.heat.iv.no + 1) % 4294967296 ∧ u.heat.iv.newest = some ((s.heat.iv.no + 1) % 4294967296) ∧
      (Tab.find u.heat.iv.ring s.heat.iv.nextSlot).map (·.1) = some ((s.heat.iv.no + 1) % 4294967296) ∧
      u.heat.iv.nextSlot = (s.heat.iv.nextSlot + 1) % 4085 ∧
      u.keep.head = s.keep.head.write { nextSlot := (s.heat.iv.nextSlot + 1) % 4085, newest := (s.heat.iv.no + 1) % 4294967296 } ∧
      (s.keep.energy.gen < 4294967295 → u.keep.energy.gen = s.keep.energy.gen + 1) ∧ u.metr.regs = s.metr.regs)) ∧
  (∀ (t : Nat) (c : RetCopy) (s : State), s.live .house t → s.up = true → s.power.jobsHeld = false → (s.advance t).retentionDue = true →
    c = (s.advance t).retCopy (((s.retNewest.map (·.gen)).getD 0 + 1) % 4294967296) →
    Does (.retentionWrite t) s (fun u =>
      u = { s.advance t with heat := u.heat } ∧
      (s.retBest.map (·.1) = some 0 → u.heat.retA = s.heat.retA ∧ u.heat.retB = c.words) ∧
      (s.retBest.map (·.1) ≠ some 0 → u.heat.retA = c.words ∧ u.heat.retB = s.heat.retB)))

/-- R337, R338: the bit instructions. With the operand within its area each completes, does to TB or to its one bit what the table says,
takes its words and LOGIC cycles (one more where indexed) and changes nothing else. -/
def Obligations.LogicBitInstructions : Prop :=
  (∀ (d : Opd) (s : State), d.inside s.logic.regs.wb = true →
    Does (.tstb d) s (fun u => u = s.ran 2 (1 + d.extra) (fun r => { r with tb := s.logic.loadBit d })) ∧
    Does (.tstn d) s (fun u => u = s.ran 2 (1 + d.extra) (fun r => { r with tb := !s.logic.loadBit d })) ∧
    Does (.andb d) s (fun u => u = s.ran 2 (1 + d.extra) (fun r => { r with tb := r.tb && s.logic.loadBit d })) ∧
    Does (.andn d) s (fun u => u = s.ran 2 (1 + d.extra) (fun r => { r with tb := r.tb && !s.logic.loadBit d })) ∧
    Does (.orb d) s (fun u => u = s.ran 2 (1 + d.extra) (fun r => { r with tb := r.tb || s.logic.loadBit d })) ∧
    Does (.orn d) s (fun u => u = s.ran 2 (1 + d.extra) (fun r => { r with tb := r.tb || !s.logic.loadBit d })) ∧
    Does (.xorb d) s (fun u => u = s.ran 2 (1 + d.extra) (fun r => { r with tb := r.tb != s.logic.loadBit d })) ∧
    Does (.stb d) s (fun u => u = s.ranTo 2 (1 + d.extra) (fun l => l.storeBit d s.logic.regs.tb)) ∧
    (s.logic.regs.tb = true →
      Does (.setb d) s (fun u => u = s.ranTo 2 (1 + d.extra) (fun l => l.storeBit d true)) ∧
      Does (.clrb d) s (fun u => u = s.ranTo 2 (1 + d.extra) (fun l => l.storeBit d false))) ∧
    (s.logic.regs.tb = false →
      Does (.setb d) s (fun u => u = s.ran 2 (1 + d.extra) id) ∧ Does (.clrb d) s (fun u => u = s.ran 2 (1 + d.extra) id))) ∧
  (∀ (n : Nat) (s : State),
    Does .nop s (fun u => u = s.ran 1 1 id) ∧
    Does .notb s (fun u => u = s.ran 1 1 (fun r => { r with tb := !r.tb })) ∧
    Does (.ldtb n) s (fun u => u = s.ran 1 1 (fun r => { r with tb := bitOf n 0 })))

/-- R331, R338: a bit operand written by SETB, CLRB or STB changes that one bit and no other: of its word in the M area, of every other
word, of the other areas and of every other register. -/
def Obligations.StoredBitAlone : Prop :=
  ∀ (d : Opd) (s u : State), d.area = 3 → d.type = 0 → d.inside s.logic.regs.wb = true →
    (exec (.stb d) s = .next u ∨ exec (.setb d) s = .next u ∨ exec (.clrb d) s = .next u) →
    u = { s with logic := { s.logic with m := u.logic.m, regs := u.logic.regs } } ∧
    u.logic.regs.tb = s.logic.regs.tb ∧ u.logic.regs.wa = s.logic.regs.wa ∧ u.logic.regs.wb = s.logic.regs.wb ∧
    (∀ w, w ≠ d.elem s.logic.regs.wb / 32 → Tab.get 0 u.logic.m w = Tab.get 0 s.logic.m w) ∧
    (∀ b, b < 32 → b ≠ d.elem s.logic.regs.wb % 32 →
      (Tab.get 0 u.logic.m (d.elem s.logic.regs.wb / 32)).getLsbD b =
        (Tab.get 0 s.logic.m (d.elem s.logic.regs.wb / 32)).getLsbD b)

/-- R337: the instructions that move words and combine them. Each completes with the result the table gives, and changes nothing else. -/
def Obligations.LogicWordInstructions : Prop :=
  (∀ (d : Opd) (s : State), d.inside s.logic.regs.wb = true →
    Does (.ldw d) s (fun u => u = s.ran 2 (1 + d.extra) (fun r => { r with wa := s.logic.load d })) ∧
    Does (.ldwb d) s (fun u => u = s.ran 2 (1 + d.extra) (fun r => { r with wb := s.logic.load d })) ∧
    Does (.stw d) s (fun u => u = s.ranTo 2 (1 + d.extra) (fun l => l.store d s.logic.regs.wa)) ∧
    Does (.andw d) s (fun u => u = s.ran 2 (1 + d.extra) (fun r => { r with wa := r.wa &&& s.logic.load d })) ∧
    Does (.orw d) s (fun u => u = s.ran 2 (1 + d.extra) (fun r => { r with wa := r.wa ||| s.logic.load d })) ∧
    Does (.xorw d) s (fun u => u = s.ran 2 (1 + d.extra) (fun r => { r with wa := r.wa ^^^ s.logic.load d })) ∧
    Does (.minOp d) s (fun u => u = s.ran 2 (1 + d.extra) (fun r =>
      { r with wa := BitVec.ofInt 32 (Min.min r.wa.toInt (s.logic.load d).toInt) })) ∧
    Does (.maxOp d) s (fun u => u = s.ran 2 (1 + d.extra) (fun r =>
      { r with wa := BitVec.ofInt 32 (Max.max r.wa.toInt (s.logic.load d).toInt) })) ∧
    (∀ e : Opd, e.inside s.logic.regs.wb = true →
      Does (.lim d e) s (fun u => u = s.ran 3 (2 + d.extra + e.extra) (fun r =>
        { r with wa := BitVec.ofInt 32 (Min.min (Max.max r.wa.toInt (s.logic.load d).toInt) (s.logic.load e).toInt) })))) ∧
  (∀ (i : Word32) (n : Nat) (s : State),
    Does (.ldi i 1) s (fun u => u = s.ran 1 1 (fun r => { r with wa := i })) ∧
    Does (.ldi i 2) s (fun u => u = s.ran 2 1 (fun r => { r with wa := i })) ∧
    Does .swap s (fun u => u = s.ran 1 1 (fun r => { r with wa := r.wb, wb := r.wa })) ∧
    Does .movb s (fun u => u = s.ran 1 1 (fun r => { r with wb := r.wa })) ∧
    Does .notw s (fun u => u = s.ran 1 1 (fun r => { r with wa := ~~~r.wa })) ∧
    Does (.shl n) s (fun u => u = s.ran 1 1 (fun r => { r with wa := BitVec.ofNat 32 (r.wa.toNat * 2 ^ (n % 32)) })) ∧
    Does (.shr n) s (fun u => u = s.ran 1 1 (fun r => { r with wa := BitVec.ofNat 32 (r.wa.toNat / 2 ^ (n % 32)) })) ∧
    Does (.sar n) s (fun u => u = s.ran 1 1 (fun r => { r with wa := BitVec.ofInt 32 (r.wa.toInt.fdiv (2 ^ (n % 32))) })))

/-- R337, R338: arithmetic on I32. The result is the exact one clamped to −2³¹ … 2³¹ − 1, `SAT` is set where it was clamped and never
cleared; DIV and MOD truncate towards 0; by 0 they set `DIV0` and give the limit of WA's sign, or 0. Nothing else changes. Where the manual
leaves it open, as log entries 39 and 122 of the model say. -/
def Obligations.LogicArithmetic : Prop :=
  ∀ (d : Opd) (s : State) (a b : Int), a = s.logic.regs.wa.toInt → b = (s.logic.load d).toInt →
    (d.inside s.logic.regs.wb = true →
      Does (.add d) s (fun u => u = s.ran 2 (1 + d.extra) (fun r =>
        { r with wa := BitVec.ofInt 32 (sat32 (a + b)), sat := r.sat || decide (a + b < -2147483648 ∨ 2147483647 < a + b) })) ∧
      Does (.subOp d) s (fun u => u = s.ran 2 (1 + d.extra) (fun r =>
        { r with wa := BitVec.ofInt 32 (sat32 (a - b)), sat := r.sat || decide (a - b < -2147483648 ∨ 2147483647 < a - b) })) ∧
      Does (.mul d) s (fun u => u = s.ran 2 (1 + d.extra) (fun r =>
        { r with wa := BitVec.ofInt 32 (sat32 (a * b)), sat := r.sat || decide (a * b < -2147483648 ∨ 2147483647 < a * b) })) ∧
      Does (.mulq d) s (fun u => u = s.ran 2 (2 + d.extra) (fun r =>
        { r with wa := BitVec.ofInt 32 (sat32 ((a * b + 16384).fdiv 32768)),
                 sat := r.sat || decide ((a * b + 16384).fdiv 32768 < -2147483648 ∨ 2147483647 < (a * b + 16384).fdiv 32768) })) ∧
      (b ≠ 0 →
        Does (.div d) s (fun u => u = s.ran 2 (12 + d.extra) (fun r =>
          { r with wa := BitVec.ofInt 32 (sat32 (a.tdiv b)), sat := r.sat || decide (a = -2147483648 ∧ b = -1) })) ∧
        Does (.modOp d) s (fun u => u = s.ran 2 (12 + d.extra) (fun r => { r with wa := BitVec.ofInt 32 (a - b * a.tdiv b) }))) ∧
      (b = 0 →
        Does (.div d) s (fun u => u = s.ran 2 (12 + d.extra) (fun r =>
          { r with wa := BitVec.ofInt 32 (if 0 ≤ a then 2147483647 else -2147483648), div0 := true })) ∧
        Does (.modOp d) s (fun u => u = s.ran 2 (12 + d.extra) (fun r => { r with wa := 0, div0 := true })))) ∧
    Does .absOp s (fun u => u = s.ran 1 1 (fun r =>
      { r with wa := BitVec.ofInt 32 (sat32 (if 0 ≤ a then a else -a)), sat := r.sat || decide (a = -2147483648) })) ∧
    Does .negOp s (fun u => u = s.ran 1 1 (fun r =>
      { r with wa := BitVec.ofInt 32 (sat32 (-a)), sat := r.sat || decide (a = -2147483648) }))

/-- R337, R338: compares, jumps, calls and loops. CMP sets TB by its relation, signed or unsigned; a jump that is taken takes two LOGIC
cycles and goes to FIELD, one that is not goes on; CALL pushes the next address and RET pops it; LOOP counts WB down; END ends the program
cycle. Where the manual leaves it open, as log entries 36 and 39 of the model say. -/
def Obligations.LogicFlow : Prop :=
  (∀ (n : Nat) (d : Opd) (s : State), d.inside s.logic.regs.wb = true →
    Does (.cmp n d) s (fun u => ∃ x, u = s.ran 2 (1 + d.extra) (fun r => { r with tb := x }) ∧
      (bitOf n 3 = false → n % 8 = 0 → x = decide (s.logic.regs.wa = s.logic.load d)) ∧
      (bitOf n 3 = false → n % 8 = 1 → x = decide (s.logic.regs.wa ≠ s.logic.load d)) ∧
      (bitOf n 3 = false → n % 8 = 2 → x = decide (s.logic.regs.wa.toInt < (s.logic.load d).toInt)) ∧
      (bitOf n 3 = false → n % 8 = 3 → x = decide (s.logic.regs.wa.toInt ≤ (s.logic.load d).toInt)) ∧
      (bitOf n 3 = false → n % 8 = 4 → x = decide ((s.logic.load d).toInt < s.logic.regs.wa.toInt)) ∧
      (bitOf n 3 = false → n % 8 = 5 → x = decide ((s.logic.load d).toInt ≤ s.logic.regs.wa.toInt)) ∧
      (bitOf n 3 = true → n % 8 = 2 → x = decide (s.logic.regs.wa.toNat < (s.logic.load d).toNat)) ∧
      (bitOf n 3 = true → n % 8 = 3 → x = decide (s.logic.regs.wa.toNat ≤ (s.logic.load d).toNat)) ∧
      (bitOf n 3 = true → n % 8 = 4 → x = decide ((s.logic.load d).toNat < s.logic.regs.wa.toNat)) ∧
      (bitOf n 3 = true → n % 8 = 5 → x = decide ((s.logic.load d).toNat ≤ s.logic.regs.wa.toNat)))) ∧
  (∀ (n : Nat) (s : State),
    Does (.jmp n) s (fun u => u = s.ran 0 2 (fun r => { r with pc := n })) ∧
    (s.logic.regs.tb = true →
      Does (.jmpt n) s (fun u => u = s.ran 0 2 (fun r => { r with pc := n })) ∧ Does (.jmpf n) s (fun u => u = s.ran 1 1 id)) ∧
    (s.logic.regs.tb = false →
      Does (.jmpf n) s (fun u => u = s.ran 0 2 (fun r => { r with pc := n })) ∧ Does (.jmpt n) s (fun u => u = s.ran 1 1 id)) ∧
    (s.logic.regs.stack.length < 16 →
      Does (.callOp n) s (fun u => u = s.ran 0 2 (fun r => { r with pc := n, stack := (s.logic.regs.pc + 1) :: r.stack }))) ∧
    (∀ a rest, s.logic.regs.stack = a :: rest →
      Does .ret s (fun u => u = s.ran 0 2 (fun r => { r with pc := a, stack := rest }))) ∧
    (s.logic.regs.wb ≠ 1 → Does (.loopOp n) s (fun u => u = s.ran 0 2 (fun r => { r with pc := n, wb := r.wb - 1 }))) ∧
    (s.logic.regs.wb = 1 → Does (.loopOp n) s (fun u => u = s.ran 1 1 (fun r => { r with wb := 0 }))) ∧
    Does .endP s (fun u => u = s.ran 1 1 (fun r => { r with ended := true })))

/-- R339, R328: the run-time faults of instructions. An element outside its area (1), CALL with 16 addresses stacked (2), RET with none (3)
and BMOV of more than 256 words (4) halt the running program with the code and the instruction's address; nothing is stored, no register of
the instruction changes and no Q word is committed where the program does not clear its outputs. Where the manual leaves it open, as log
entries 36 and 37 of the model say. -/
def Obligations.LogicFaults : Prop :=
  ∀ (c : Instr) (code : Nat) (d e : Opd) (n : Nat) (p : Program) (s : State), s.logic.prog = .run → s.logic.loaded = some p →
    p.stopClear = false →
    ((code = 1 ∧ d.inside s.logic.regs.wb = false ∧
        (c ∈ [.tstb d, .tstn d, .andb d, .andn d, .orb d, .orn d, .xorb d, .setb d, .clrb d, .stb d] ∨
         c ∈ [.ldw d, .ldwb d, .stw d, .minOp d, .maxOp d, .andw d, .orw d, .xorw d, .lim d e, .lim e d] ∨
         c ∈ [.add d, .subOp d, .mul d, .div d, .modOp d, .mulq d, .cmp n d])) ∨
     (code = 2 ∧ 16 ≤ s.logic.regs.stack.length ∧ c = .callOp n) ∨ (code = 3 ∧ s.logic.regs.stack = [] ∧ c = .ret) ∨
     (code = 4 ∧ 256 < s.logic.regs.wb.toNat ∧ c = .bmov d e)) →
    Does c s (fun u =>
      u.logic.prog = .halt ∧ u.logic.faultCode = code ∧ u.logic.faultAddr = s.logic.regs.pc ∧ u.logic.faultCycle = s.logic.cycleNo ∧
      u.logic.m = s.logic.m ∧ u.logic.q = s.logic.q ∧ u.logic.c = s.logic.c ∧ u.logic.qc = s.logic.qc ∧
      u.logic.regs.wa = s.logic.regs.wa ∧ u.logic.regs.wb = s.logic.regs.wb ∧ u.logic.regs.tb = s.logic.regs.tb)

/-- R337, R338, R340–R343: timers, counters, detectors, block moves and events. TMR gives its timer's output as TB, by type and phase; an
undeclared timer gives 0 and keeps no state; a counter counts a rising TB, but not at its first execution after a start; CRS clears the
count alone; a detector gives an edge, but not at its first execution; BMOV copies WB words; an EVT with TB set owes one event, at most 16
in a program cycle. Where the manual leaves it open, as log entries 36 and 42 of the model say. -/
def Obligations.LogicUnits : Prop :=
  (∀ (n : Nat) (p : Program) (s : State), s.logic.loaded = some p → Tab.find p.timers n = none →
    Does (.tmr n) s (fun u => u = s.ran 1 2 (fun r => { r with tb := false }))) ∧
  (∀ (n : Nat) (p : Program) (x : TimerDecl) (tm : Timer) (k e : Nat) (s : State), s.logic.loaded = some p →
    Tab.find p.timers n = some x → tm = Tab.get {} s.logic.t n → k = ((s.logic.word 4 x.preset).toInt).toNat →
    e = Min.min ((s.logic.snap - tm.start) / timerRes x.res) 4294967295 →
    (x.type = 1 ∨ x.type = 2 ∨ x.type = 3) → tm.phase ≤ 2 →
    Does (.tmr n) s (fun u =>
      u = { s with logic := { s.logic with t := u.logic.t, regs := u.logic.regs } } ∧
      u.logic.regs.wa = s.logic.regs.wa ∧ u.logic.regs.wb = s.logic.regs.wb ∧ u.logic.regs.tb = (Tab.get {} u.logic.t n).out ∧
      (Tab.get {} u.logic.t n).prev = s.logic.regs.tb ∧ (∀ j, j ≠ n → Tab.get {} u.logic.t j = Tab.get {} s.logic.t j) ∧
      (x.type = 1 → tm.phase = 0 → s.logic.regs.tb = true → 0 < k →
        (Tab.get {} u.logic.t n).phase = 1 ∧ (Tab.get {} u.logic.t n).start = s.logic.snap ∧ (Tab.get {} u.logic.t n).out = false) ∧
      (x.type = 1 → tm.phase = 1 → s.logic.regs.tb = true → k ≤ e →
        (Tab.get {} u.logic.t n).phase = 2 ∧ (Tab.get {} u.logic.t n).out = true) ∧
      (x.type = 1 → tm.phase ≠ 0 → s.logic.regs.tb = false →
        (Tab.get {} u.logic.t n).phase = 0 ∧ (Tab.get {} u.logic.t n).out = false) ∧
      (x.type = 2 → s.logic.regs.tb = true → (Tab.get {} u.logic.t n).phase = 0 ∧ (Tab.get {} u.logic.t n).out = true) ∧
      (x.type = 2 → tm.phase = 0 → s.logic.regs.tb = false → tm.prev = true → 0 < k →
        (Tab.get {} u.logic.t n).phase = 1 ∧ (Tab.get {} u.logic.t n).start = s.logic.snap ∧ (Tab.get {} u.logic.t n).out = true) ∧
      (x.type = 2 → tm.phase = 1 → s.logic.regs.tb = false → k ≤ e →
        (Tab.get {} u.logic.t n).phase = 2 ∧ (Tab.get {} u.logic.t n).out = false) ∧
      (x.type = 3 → tm.phase = 0 → s.logic.regs.tb = true → tm.prev = false → 0 < k →
        (Tab.get {} u.logic.t n).phase = 1 ∧ (Tab.get {} u.logic.t n).start = s.logic.snap ∧ (Tab.get {} u.logic.t n).out = true) ∧
      (x.type = 3 → tm.phase = 1 → k ≤ e → (Tab.get {} u.logic.t n).phase = 2 ∧ (Tab.get {} u.logic.t n).out = false) ∧
      (tm.phase = 1 → s.logic.regs.tb = true → x.type ≠ 2 → e < k → (Tab.get {} u.logic.t n).phase = 1 ∧
      (Tab.get {} u.logic.t n).out = tm.out))) ∧
  (∀ (n : Nat) (c : Counter) (s : State), c = Tab.get {} s.logic.c n →
    Does (.ctu n) s (fun u => (Tab.get {} u.logic.c n).input = s.logic.regs.tb ∧ (Tab.get {} u.logic.c n).fresh = false ∧
      (s.logic.regs.tb = true → c.input = false → c.fresh = false → (Tab.get {} u.logic.c n).count = sat32 (c.count + 1)) ∧
      (c.fresh = true → (Tab.get {} u.logic.c n).count = sat32 c.count) ∧ u.logic.regs.tb = s.logic.regs.tb ∧
      u = { s with logic := { s.logic with c := u.logic.c, regs := u.logic.regs } }) ∧
    Does (.ctd n) s (fun u => (Tab.get {} u.logic.c n).input = s.logic.regs.tb ∧ (Tab.get {} u.logic.c n).fresh = false ∧
      (s.logic.regs.tb = true → c.input = false → c.fresh = false → (Tab.get {} u.logic.c n).count = sat32 (c.count - 1)) ∧
      (c.fresh = true → (Tab.get {} u.logic.c n).count = sat32 c.count) ∧ u.logic.regs.tb = s.logic.regs.tb ∧
      u = { s with logic := { s.logic with c := u.logic.c, regs := u.logic.regs } }) ∧
    (s.logic.regs.tb = true → Does (.crs n) s (fun u =>
      u = s.ranTo 1 1 (fun l => { l with c := Tab.put {} l.c n { c with count := 0 } }))) ∧
    (s.logic.regs.tb = false → Does (.crs n) s (fun u => u = s.ran 1 1 id))) ∧
  (∀ (n : Nat) (x : Detector) (s : State), x = Tab.get {} s.logic.e n →
    Does (.edr n) s (fun u => (Tab.get {} u.logic.e n).mem = s.logic.regs.tb ∧
      u.logic.regs.tb = (!x.fresh && s.logic.regs.tb && !x.mem) ∧
      u = { s with logic := { s.logic with e := u.logic.e, regs := u.logic.regs } }) ∧
    Does (.edf n) s (fun u => (Tab.get {} u.logic.e n).mem = s.logic.regs.tb ∧
      u.logic.regs.tb = (!x.fresh && x.mem && !s.logic.regs.tb) ∧
      u = { s with logic := { s.logic with e := u.logic.e, regs := u.logic.regs } })) ∧
  (∀ (d e : Opd) (i j n : Nat) (s : State), n = s.logic.regs.wb.toNat → n ≤ 256 → e.area = 3 → d.area ≠ 3 →
    i = d.elem s.logic.regs.wb → j = e.elem s.logic.regs.wb → i + n ≤ areaSize d.area → j + n ≤ areaSize 3 →
    Does (.bmov d e) s (fun u => (∀ k, k < n → Tab.get 0 u.logic.m (j + k) = s.logic.word d.area (i + k)) ∧
      (∀ w, (w < j ∨ j + n ≤ w) → Tab.get 0 u.logic.m w = Tab.get 0 s.logic.m w) ∧
      u.logic.regs = { s.logic.regs with pc := s.logic.regs.pc + 3, cycles := s.logic.regs.cycles + (2 + n + d.extra + e.extra),
                                         fault := 0, evts := [] } ∧
      u = { s with logic := { s.logic with m := u.logic.m, regs := u.logic.regs } })) ∧
  (∀ (n k : Nat) (s : State), k < 9 → islandOf k = .logic →
    (s.logic.regs.tb = true → s.logic.regs.evtCount < 16 → s.lostOf .logic = 0 → s.hasRoom (.island k) = true →
      Does (.evt n) s (fun u => (u.queue (.island k)).wp = ((s.queue (.island k)).wp + 1) % 65536 ∧
        u.logic.regs.evtCount = s.logic.regs.evtCount + 1 ∧ u.logic.regs.tb = true ∧ u.logic.regs.wa = s.logic.regs.wa)) ∧
    (s.logic.regs.tb = true → 16 ≤ s.logic.regs.evtCount →
      Does (.evt n) s (fun u => u = s.ran 1 4 (fun r => { r with evtDropped := r.evtDropped + 1 }))) ∧
    (s.logic.regs.tb = false → Does (.evt n) s (fun u => u = s.ran 1 4 id)))

/-- R324, R326, R327, R328, R349, R351, R352: the commands of the logic engine. A program cycle that is due has the next number, whatever
words failed parity; one that meets no such word and runs to END commits its Q image; an M word that fails parity takes its warm-start
value; the watchdog is counted and, by its response, marks the next cycle or halts the program with fault 6; the retained record is written
when it is due; a program image whose write succeeded is the loaded one. Where the manual leaves it open, as log entries 40, 41, 120 and 126
of the model say. -/
def Obligations.ProgramCommands : Prop :=
  (∀ (t dio : Nat) (x : LogicLoss) (p : Program) (s : State), s.live .logic t → s.logic.loaded = some p → s.logic.prog = .run →
    s.logic.nextStart ≤ (s.advance t).now → (s.advance t).acts = true →
    Does (.programCycle t dio x) s (fun u =>
      u.logic.cycleNo = s.logic.cycleNo + 1 ∧ u.logic.cycleStart = (s.advance t).now ∧ u.logic.loaded = some p) ∧
    (∀ (w : Word32) (rest : List Word32), p.code.drop p.entry = w :: rest → w.toNat / 67108864 = 0x36 → s.holding = false →
      s.logic.forces = [] → s.logic.forceOps = [] → s.logic.change = none → s.logic.stopReq = false → 1 ≤ s.nat 0x5000 0x0A →
      Does (.programCycle t dio {}) s (fun u =>
        u.logic.qc = s.logic.q ∧ u.logic.committed = true ∧ u.logic.prog = .run ∧ u.logic.suppressed = false ∧
        u.logic.m = s.logic.m ∧ u.logic.k = s.logic.k)) ∧
    (∀ (w : Word32) (rest : List Word32) (r : Retained) (n : Nat), p.code.drop p.entry = w :: rest → w.toNat / 67108864 = 0x36 →
      (s.advance t).retainNeeded = false → s.logic.forceOps = [] → s.logic.change = none → s.keep.retained.read = some r →
      r.dataHash = p.retainHash →
      Does (.programCycle t dio { words := [(3, n)] }) s (fun u =>
        u.logic.varLost = true ∧
        Tab.get 0 u.logic.m n = if p.retain.contains n then Tab.get 0 r.m n else Tab.get 0 p.mInit n))) ∧
  (∀ (t : Nat) (s : State), s.live .logic t → (s.advance t).acts = true → s.logic.prog = .run →
    s.logic.nextStart + logicNs 400 + s.nat 0x5000 0x0A * 1000000 ≤ (s.advance t).now →
    (s.nat 0x5000 0x0B = 0 →
      Does (.logicWatchdog t) s (fun u =>
        u.logic.wdCount = s.logic.wdCount + 1 ∧ u.logic.wdPrev = true ∧ u.logic.prog = .run ∧ u.logic.qc = s.logic.qc)) ∧
    (s.nat 0x5000 0x0B = 1 →
      Does (.logicWatchdog t) s (fun u =>
        u.logic.wdCount = s.logic.wdCount + 1 ∧ u.logic.prog = .halt ∧ u.logic.faultCode = 6))) ∧
  (∀ (t : Nat) (s : State), s.live .logic t → s.logic.prog = .run → (s.advance t).retainNeeded = true →
    Does (.retainedRecordWrite t) s (fun u =>
      u = { s.advance t with keep := u.keep, logic := u.logic } ∧
      u.keep.retained = s.keep.retained.write (s.advance t).retainedNow ∧ u.logic.retainDue = false ∧
      u.logic.retainedAt = (s.advance t).clk.dev ∧ u.logic.m = s.logic.m)) ∧
  (∀ (t : Nat) (s : State), s.live .mem t → s.logic.stage.status = 3 →
    Does (.progImageLoaded t true) s (fun u =>
      u.keep.prog = s.keep.prog.write s.logic.stage.image ∧ u.logic.loaded = some (loadProgram s.logic.stage.image) ∧
      u.logic.stage = {} ∧ (s.logic.prog = .empty → u.logic.prog = .stop) ∧ (s.logic.prog ≠ .empty → u.logic.prog = s.logic.prog)) ∧
    Does (.progImageLoaded t false) s (fun u =>
      u.keep.prog = s.keep.prog ∧ u.logic.loaded = s.logic.loaded ∧ u.logic.stage = { s.logic.stage with status := 4 }))

/-- R360, R361, R363, R364, R365, R373, R374, R375: the commands of the CAN ports. An integrated port takes the state of its role; a quiet
RESTRICTED port of the holder becomes NORMAL; the mode follows the lease; the latch takes the pending frame that wins arbitration; a lost
arbitration and an error make it pending again; a complete frame frees its buffer and leaves; recovery ends in INTEGRATING with the counters
0; the spare controller takes over a failed one's port. Where the manual leaves it open, as log entries 50, 51, 128 and 130 of the model
say. -/
def Obligations.CanPortCommands : Prop :=
  (∀ (t p : Nat) (s : State), p < 8 → s.live .comm t →
    ((s.port p).state = .integrating → (s.port p).takeover = none →
      Does (.portIntegrated t p) s (fun u =>
        u = { s.advance t with net := u.net } ∧
        u.port p = { s.port p with state := (s.advance t).roleState p, restrictSince := (s.advance t).now })) ∧
    ((s.port p).state = .restricted → (s.advance t).leaseHolder = true →
      (s.port p).restrictSince + s.nat (0x1200 + p) 6 * 1000000 ≤ (s.advance t).now →
      Does (.restrictTimeout t p) s (fun u =>
        u = { s.advance t with net := u.net } ∧ u.port p = { s.port p with state := .normal, rejoined := true })) ∧
    ((s.port p).state = .normal → (s.advance t).drives = false →
      Does (.portModeChange t p) s (fun u =>
        u = { s.advance t with net := u.net } ∧ u.port p = { s.port p with state := s.listenState p })) ∧
    ((s.port p).state = .busOff → (s.port p).recovering = true →
      Does (.canRecovered t p) s (fun u =>
        (u.port p).state = .integrating ∧ (u.port p).tecErr = 0 ∧ (u.port p).recErr = 0 ∧ (u.port p).err = 0 ∧
        (u.port p).bufs = (s.port p).bufs)) ∧
    Does (.dupPairExpiry t p) s (fun u =>
      u = { s.advance t with net := u.net } ∧
      (u.port p).pairs = (s.port p).pairs.filter (fun x => decide ((s.advance t).now < x.last + 10000000000)) ∧
      (u.port p).bufs = (s.port p).bufs)) ∧
  (∀ (t p b : Nat) (f : CanFrame) (s : State), p < 8 → b < 32 → s.live .comm t → (s.port p).latched = none →
    ((s.port p).buf b).state = 1 → ((s.port p).buf b).frame = some f →
    (s.port p).maySend (bitOf (s.nat (0x1200 + p) 5) 0) f = true →
    (∀ b' f', b' < 32 → ((s.port p).buf b').state = 1 → ((s.port p).buf b').frame = some f' →
      (s.port p).maySend (bitOf (s.nat (0x1200 + p) 5) 0) f' = true →
      arbKey f b ≤ arbKey f' b') →
    Does (.canLatch t p) s (fun u =>
      u = { s.advance t with net := u.net } ∧ (u.port p).buf b = { (s.port p).buf b with state := 2 } ∧
      (∀ b', b' ≠ b → (u.port p).buf b' = (s.port p).buf b'))) ∧
  (∀ (t p b : Nat) (f : CanFrame) (s : State), p < 8 → s.live .comm t → (s.port p).latched = some b →
    ((s.port p).buf b).cancel = false → ((s.port p).buf b).frame = some f → (s.port p).held = [] →
    Does (.canArbitrationLost t p) s (fun u =>
      u = { s.advance t with net := u.net } ∧ ((u.port p).buf b).state = 1 ∧ ((u.port p).buf b).frame = some f ∧
      (u.port p).arbLost = (s.port p).arbLost + 1) ∧
    Does (.canTxDone t p) s (fun u =>
      ((u.port p).buf b).state = 0 ∧ ((u.port p).buf b).outcome = 1 ∧ (u.port p).txCount = (s.port p).txCount + 1 ∧
      u.net.sent = s.net.sent ++ [.can p f (f.fd && decide ((s.port p).err = 1))]) ∧
    ((s.port p).state = .normal → (s.port p).tecErr ≤ 247 →
      Does (.canFrameError t p (.asTx none)) s (fun u =>
        ((u.port p).buf b).state = 1 ∧ ((u.port p).buf b).frame = some f ∧ (u.port p).tecErr = (s.port p).tecErr + 8 ∧
        (u.port p).errFrames = (s.port p).errFrames + 1 ∧ (u.port p).state = .normal ∧
        (u.port p).restrictSince = (s.advance t).now))) ∧
  (∀ (t c : Nat) (s : State), c < 8 → s.live .comm t → (s.port c).controller ≠ 8 → s.spareFree = true →
    Does (.canControllerFault t c) s (fun u =>
      u.net.sparePort = some c ∧ (u.port c).takeover = some (s.advance t).clk.dev ∧ (u.port c).takeoverGap = true ∧
      (u.port c).bufs = (s.port c).bufs)) ∧
  (∀ (t p : Nat) (s : State), p < 8 → s.live .comm t → (s.port p).takeover.isSome = true → (s.port p).controller ≠ 8 →
    (s.port p).state ≠ .off → (s.port p).latched = none → (s.port p).err = 0 →
    Does (.canTakeover t p) s (fun u =>
      u = { s.advance t with net := u.net } ∧
      u.port p = { s.port p with
        controller := 8, tecErr := 0, recErr := 0, err := 0, busoffWait := false, recovering := false, state := .integrating }))

/-- R369, R370, R371, R376, R377: frames received. A good frame that a filter passes is counted and stored in the pair's queue, one that
none passes is counted alone, a remote frame is discarded; COMM takes the head of queue A, a frame of no consumer being counted; with both
queues empty nothing happens. An ARP reply fills the cache, an echo request is answered, anything else is discarded and counted. Where the
manual leaves it open, as log entries 51 and 52 of the model say. -/
def Obligations.ReceptionCommands : Prop :=
  (∀ (t p : Nat) (f : CanFrame) (esi : Bool) (s : State), p < 8 → s.live .comm t → (s.port p).state = .normal → (s.port p).takeover = none →
    (f.fd = true → bitOf (s.nat (0x1200 + p) 5) 0 = true) →
    (∀ k, s.filterOf p f = some k → bitOf (u8At (s.filterPair p k) 8) 2 = false → (s.advance t).hasRoom (.canA p) = true →
      Does (.canFrameReceive t p f esi false) s (fun u =>
        (u.queue (.canA p)).wp = ((s.queue (.canA p)).wp + 1) % 65536 ∧ (u.port p).rxCount = (s.port p).rxCount + 1 ∧
        (u.port p).bufs = (s.port p).bufs)) ∧
    (s.filterOf p f = none →
      Does (.canFrameReceive t p f esi false) s (fun u =>
        u.queue (.canA p) = s.queue (.canA p) ∧ u.queue (.canB p) = s.queue (.canB p) ∧
        (u.port p).rxFiltered = (s.port p).rxFiltered + 1 ∧ (u.port p).rxCount = (s.port p).rxCount + 1)) ∧
    Does (.canFrameReceive t p f esi true) s (fun u =>
      u.queue (.canA p) = s.queue (.canA p) ∧ u.queue (.canB p) = s.queue (.canB p) ∧
      (u.port p).remotes = (s.port p).remotes + 1)) ∧
  (∀ (t p : Nat) (e : CanRx) (s : State), p < 8 → s.live .comm t → (s.advance t).frontQ (.canA p) = some (.rx e, false) →
    e.frame.ext = false →
    Does (.canDispatch t p) s (fun u =>
      u = { s.advance t with net := u.net, draws := u.draws } ∧ (u.queue (.canA p)).rp = ((s.queue (.canA p)).rp + 1) % 65536 ∧
      (u.port p).unclaimed = (s.port p).unclaimed + 1)) ∧
  (∀ (t p : Nat) (s : State), p < 8 → s.live .comm t → (s.advance t).frontQ (.canA p) = none → (s.advance t).frontQ (.canB p) = none →
    Does (.canDispatch t p) s (fun u => u = s.advance t)) ∧
  (∀ (t m sip mac : Nat) (b : Octets) (s : State), m < 2 → (s.advance t).macServed = true → s.macUp m = true →
    ((s.mac m).waiting = [] →
      Does (.ethFrameReceive t m (.arp true sip mac (s.ipAddr m))) s (fun u =>
        u = { s.advance t with net := u.net } ∧ (u.mac m).rx = (s.mac m).rx + 1 ∧
        { ip := sip, mac := mac, until_ := (s.advance t).now + 300000000000 } ∈ (u.mac m).arp)) ∧
    (b.length ≤ 1472 →
      Does (.ethFrameReceive t m (.echo sip b)) s (fun u =>
        u = { s.advance t with net := u.net } ∧ u.net.sent = s.net.sent ++ [.echoReply m sip b] ∧
        (u.mac m).echoes = (s.mac m).echoes + 1 ∧ (u.mac m).tx = (s.mac m).tx + 1)) ∧
    Does (.ethFrameReceive t m .other) s (fun u =>
      u = { s.advance t with net := u.net } ∧ u.net.sent = s.net.sent ∧ (u.mac m).discarded = (s.mac m).discarded + 1)) ∧
  (∀ (t m : Nat) (s : State), m < 2 → s.live .comm t →
    Does (.arpResolveTimeout t m) s (fun u =>
      u = { s.advance t with net := u.net } ∧
      (u.mac m).waiting = (s.mac m).waiting.filter (fun e => decide ((s.advance t).now < e.2.1 + 1000000000)) ∧
      (u.mac m).arpFail + (u.mac m).waiting.length = (s.mac m).arpFail + (s.mac m).waiting.length) ∧
    Does (.arpCacheExpiry t m) s (fun u =>
      u = { s.advance t with net := u.net } ∧ (u.mac m).arp = (s.mac m).arp.filter (fun e => decide ((s.advance t).now < e.until_)) ∧
      (u.mac m).waiting = (s.mac m).waiting) ∧
    (∀ (speed : Nat) (duplex : Bool), speed < 4 →
      Does (.ethLinkChange t m speed duplex) s (fun u =>
        u = { s.advance t with net := u.net } ∧ (u.mac m).speed = speed ∧ (u.mac m).duplex = (duplex && decide (speed ≠ 0)))))

/-- R402, R404, R405, R407, R410, R411, R412: the commands of the queues. A push where there is room moves the write pointer by one, a push
to a full queue is an overrun and stores nothing; a pop of an empty queue is an underrun; the spill mover moves bursts of 16 in order; a
pointer fault discards every entry and holds the queue in reset until the handshake ends; a flush leaves nothing visible to the consumer.
Where the manual leaves it open, as log entries 16, 53 and 145 of the model say. -/
def Obligations.QueueCommands : Prop :=
  ∀ (t : Nat) (q : QId) (x : QItem) (s : State), q.ok = true →
    (s.live q.ends.1 t → (s.advance t).hasRoom q = true →
      Does (.queuePush t q x) s (fun u =>
        u = { s.advance t with net := u.net, draws := u.draws } ∧ (u.queue q).wp = ((s.queue q).wp + 1) % 65536 ∧
        (u.queue q).rp = (s.queue q).rp ∧ (u.queue q).overruns = (s.queue q).overruns ∧
        (∀ r, r.ok = true → r ≠ q → u.queue r = s.queue r))) ∧
    (s.live q.ends.1 t → (s.advance t).hasRoom q = false →
      Does (.queuePush t q x) s (fun u =>
        (u.queue q).wp = (s.queue q).wp ∧ (u.queue q).overrun = true ∧ (u.queue q).overruns = (s.queue q).overruns + 1 ∧
        (u.queue q).head = (s.queue q).head ∧ (u.queue q).spill = (s.queue q).spill ∧ (u.queue q).tail = (s.queue q).tail)) ∧
    (s.live q.ends.2 t → (s.advance t).frontQ q = none → ((s.queue q).see (s.advance t).ps).empty = true →
      Does (.queuePop t q false []) s (fun u =>
        u = { s.advance t with net := u.net, draws := u.draws } ∧ (u.queue q).rp = (s.queue q).rp ∧ (u.queue q).underrun = true ∧
        (u.queue q).underruns = (s.queue q).underruns + 1)) ∧
    (q = .capture → s.live q.ends.2 t → ((s.advance t).frontQ q).isSome = true →
      Does (.queuePop t q false []) s (fun u =>
        u = { s.advance t with net := u.net, draws := u.draws } ∧ (u.queue q).rp = ((s.queue q).rp + 1) % 65536 ∧
        (u.queue q).underruns = (s.queue q).underruns)) ∧
    (s.live .mem t → s.power.trained = true → 16 ≤ (s.queue q).tail.length → (s.queue q).spill.length + 16 ≤ q.spillSize →
      Does (.spillBurstWrite t q) s (fun u =>
        u = { s.advance t with net := u.net } ∧ (u.queue q).spill = (s.queue q).spill ++ (s.queue q).tail.take 16 ∧
        (u.queue q).tail = (s.queue q).tail.drop 16 ∧ (u.queue q).head = (s.queue q).head ∧
        (u.queue q).wp = (s.queue q).wp ∧ (u.queue q).rp = (s.queue q).rp)) ∧
    (s.live .mem t → (s.queue q).head = [] → 16 ≤ (s.queue q).spill.length → ∀ addr soft : Nat,
      Does (.spillBurstRead t q [] addr soft) s (fun u =>
        u = { s.advance t with net := u.net, health := u.health } ∧ u.health.softSubsoil = s.health.softSubsoil + soft ∧
        (u.queue q).head = (s.queue q).spill.take 16 ∧
        (u.queue q).spill = (s.queue q).spill.drop 16 ∧ (u.queue q).tail = (s.queue q).tail ∧
        (u.queue q).wp = (s.queue q).wp ∧ (u.queue q).rp = (s.queue q).rp)) ∧
    (s.live q.ends.1 t →
      Does (.queueFault t q) s (fun u =>
        (u.queue q).resetting = true ∧ (u.queue q).head = [] ∧ (u.queue q).spill = [] ∧ (u.queue q).tail = [] ∧
        (u.queue q).overrun = true ∧ u.frontQ q = none ∧ u.hasRoom q = false)) ∧
    (s.live q.ends.1 t → (s.queue q).resetting = true →
      Does (.queueResetDone t q) s (fun u =>
        u = { s.advance t with net := u.net } ∧ (u.queue q).resetting = false ∧ (u.queue q).wp = 0 ∧ (u.queue q).rp = 0 ∧
        (u.queue q).wpS = 0 ∧ (u.queue q).rpS = 0)) ∧
    (s.live q.ends.2 t → (s.queue q).resetting = false → (s.queue q).flushTo = none →
      Does (.queueFlush t q) s (fun u =>
        u = { s.advance t with net := u.net, draws := u.draws } ∧ u.frontQ q = none ∧ (u.queue q).wp = (s.queue q).wp ∧
        (u.queue q).rp = ((s.queue q).see (s.advance t).ps).wpS))

/-- R520, R521, R522: the export commands. With its path open and an alarm token there, an alarm that is dirty is sent and takes one token;
a log entry held for the coalescing time goes to the subscription's log queue. Where the manual leaves it open, as log entries 54 and 138 of
the model say. -/
def Obligations.ExportCommands : Prop :=
  (∀ (t n src : Nat) (s : State), n < 8 → s.live .comm t →
    (s.advance t).pathOpen ((s.sub n).refill (s.advance t).now) = true →
    ((s.sub n).refill (s.advance t).now).alarmDue = some src → 1000000000 ≤ ((s.sub n).refill (s.advance t).now).tokens →
    Does (.exportSend t n) s (fun u =>
      src ∉ (u.sub n).dirty ∧ (u.sub n).served = src ∧ (u.sub n).sentAlarms = (s.sub n).sentAlarms + 1 ∧
      (u.sub n).tokens = ((s.sub n).refill (s.advance t).now).tokens - 1000000000 ∧ u.ledger.log = s.ledger.log)) ∧
  (∀ (t n : Nat) (h : LogHold) (s : State), n < 8 → s.live .house t → (s.sub n).hold = some h →
    h.filled + (s.sub n).coalesce * 10000000 ≤ (s.advance t).now → (s.advance t).hasRoom (.logq n) = true →
    Does (.coalesceExpiry t n) s (fun u =>
      (u.sub n).hold = none ∧ (u.queue (.logq n)).wp = ((s.queue (.logq n)).wp + 1) % 65536 ∧
      (u.sub n).logLost = (s.sub n).logLost ∧ u.ledger.log = s.ledger.log)) ∧
  (∀ (t n : Nat) (h : LogHold) (s : State), n < 8 → s.live .house t → (s.sub n).hold = some h →
    (s.advance t).now < h.filled + (s.sub n).coalesce * 10000000 →
    Does (.coalesceExpiry t n) s (fun u => u = s.advance t))

/-- R414, R418, R425, R426: the calendar's commands. A second that is counted enters the next second of the calendar, with the weekday moved
on at midnight, and gives a new alarm and no step or jump left; a wake interval that has run out starts again, and in standby drives the
wake output; a temperature read is held. Where the manual leaves it open, as log entries 55 and 134 of the model say. -/
def Obligations.CalendarCommands : Prop :=
  (∀ (t : Nat) (s : State), s.live .backup t → s.cal.halt = false → s.cal.f.ok = true → s.cal.jump = false → s.cal.step = none →
    (s.advance t).prescaled s.cal.since 1024 = true →
    Does (.calSecond t) s (fun u =>
      u.cal.f = fieldsOf ((s.cal.f.seconds + 1) % calSpan)
        (if (s.cal.f.seconds + 1) % 86400 = 0 then (s.cal.f.weekday + 1) % 7 else s.cal.f.weekday) ∧
      u.cal.since = (s.advance t).now ∧ u.cal.offset = s.cal.offset ∧ u.cal.alarmNew = none ∧ u.clk.dev = (s.advance t).clk.dev)) ∧
  (∀ (t : Nat) (s : State), s.live .backup t → s.cal.halt = true → Does (.calSecond t) s (fun u => u = s.advance t)) ∧
  (∀ (t : Nat) (s : State), s.live .backup t → s.cal.halt = false → bitOf (u8At (s.oct 0x6001 5) 3) 0 = true →
    (s.advance t).prescaled s.cal.wakeStart (wakePeriods (s.oct 0x6001 5)) = true →
    Does (.wakeExpiry t) s (fun u =>
      u.cal.wakeStart = (s.advance t).now ∧ (s.standby = true → u.cal.wakeOut = true) ∧
      (s.standby = false → u.cal.wakeOut = s.cal.wakeOut) ∧ u.cal.f = s.cal.f)) ∧
  (∀ (t : Nat) (x : Int) (s : State), s.live .backup t → -32768 ≤ x → x ≤ 32767 →
    (∀ a, s.cal.tempAt = some a → (s.advance t).prescaled a 65536 = true) →
    Does (.calTempRead t x) s (fun u => u = { s.advance t with cal := { s.cal with temp := x, tempAt := some (s.advance t).now } }))

/-- R428, R429, R430, R431: the commands of time synchronisation. A one-step Sync of the selected master is a measurement, a two-step one
waits for its Follow_Up; a request leaves and is stamped; its response gives the mean path delay; a first Announce enters a master, one that
falls silent leaves; without measurements the state is HOLDOVER; the wait for a lock ends. Where the manual leaves it open, as log entries
56 and 57 of the model say. -/
def Obligations.SynchronisationCommands : Prop :=
  (∀ (t m : Nat) (b : Octets) (s : State), m < 2 → s.live .tbase t → s.ptpTaken m 0 b = true → s.fromMaster b = true →
    s.sync.state ≠ 4 →
    (bitOf (u8At b 6) 1 = false →
      Does (.ptpSync t m b) s (fun u =>
        u.sync.syncs = s.sync.syncs + 1 ∧ u.sync.measurements = s.sync.measurements + 1 ∧ u.sync.measured = true ∧
        u.sync.theta = ptpTime b 34 + ptpCorr b + s.sync.pathDelay - (s.advance t).clk.dev ∧ u.sync.lastMeas = (s.advance t).now)) ∧
    (bitOf (u8At b 6) 1 = true →
      Does (.ptpSync t m b) s (fun u =>
        u = { s.advance t with sync := u.sync } ∧ u.sync.syncs = s.sync.syncs + 1 ∧ u.sync.measurements = s.sync.measurements ∧
        u.sync.pend = some (be b 30 2, ((s.advance t).clk.dev - ptpCorr b).toNat)))) ∧
  (∀ (t m t2 : Nat) (b : Octets) (s : State), m < 2 → s.live .tbase t → s.ptpTaken m 8 b = true → s.fromMaster b = true →
    s.sync.state ≠ 4 → s.sync.pend = some (be b 30 2, t2) →
    Does (.ptpFollowUp t m b) s (fun u =>
      u.sync.follows = s.sync.follows + 1 ∧ u.sync.pend = none ∧ u.sync.measurements = s.sync.measurements + 1 ∧
      u.sync.theta = ptpTime b 34 + ptpCorr b + s.sync.pathDelay - t2)) ∧
  (∀ (t m : Nat) (s : State), s.live .tbase t → s.nat 0x6010 2 = 1 → s.nat 0x1102 1 = m → m < 2 → s.sync.syncs ≠ 0 →
    s.sync.foreign.any (·.ready) = true → (s.advance t).delayReqDue = true →
    Does (.ptpDelayReq t) s (fun u =>
      u = { s.advance t with sync := u.sync, net := u.net } ∧ u.sync.req = some (s.sync.reqNo, (s.advance t).clk.dev) ∧
      u.net.sent = s.net.sent ++ [.ptp m 1 (delayReq (s.nat 0x6020 1) m s.sync.reqNo)])) ∧
  (∀ (t m t3 : Nat) (b : Octets) (s : State), m < 2 → s.live .tbase t → s.ptpTaken m 9 b = true → s.fromMaster b = true →
    slice b 44 10 = ownPort m → s.sync.req = some (be b 30 2, t3) →
    Does (.ptpDelayResp t m b) s (fun u =>
      u = { s.advance t with sync := u.sync } ∧ u.sync.resps = s.sync.resps + 1 ∧ u.sync.req = none ∧
      u.sync.pathDelay = max 0 (rounding 29 (ratI (((s.sync.t2 : Int) - s.sync.t1) + (ptpTime b 34 - ptpCorr b - t3)) 2)))) ∧
  (∀ (t m : Nat) (b : Octets) (s : State), m < 2 → s.live .tbase t → s.ptpTaken m 11 b = true → s.sync.foreign = [] →
    Does (.ptpAnnounce t m b) s (fun u =>
      u = { s.advance t with sync := u.sync } ∧ u.sync.announces = s.sync.announces + 1 ∧
      u.sync.foreign = [{ id := ptpSource b, rank := announceRank b, last := (s.advance t).now, interval := logNs (signed 8 (u8At b 33)),
                          ready := false }])) ∧
  (∀ (t : Nat) (s : State), s.live .tbase t →
    Does (.ptpAnnounceTimeout t) s (fun u =>
      u = { s.advance t with sync := u.sync } ∧
      u.sync.foreign = s.sync.foreign.filter (fun f => decide ((s.advance t).now < f.last + 3 * f.interval)))) ∧
  (∀ (t : Nat) (s : State), s.live .tbase t → s.sync.state = 2 → s.sync.lastMeas + 3 * s.sync.interval ≤ (s.advance t).now →
    Does (.syncHoldover t) s (fun u => u.sync.state = 3 ∧ u.sync.losses = s.sync.losses + 1 ∧ u.clk = (s.advance t).clk)) ∧
  (∀ (t e : Nat) (s : State), s.live .tbase t → s.sync.lockWaitEnd = some e → e ≤ (s.advance t).now →
    Does (.lockWaitExpiry t) s (fun u => u = { s.advance t with sync := { s.sync with lockWaitEnd := none } }))

/-- R440, R443, R444, R447: the lease. Each boundary counts a redundancy cycle, and a lane in single operation renews at each; a grant of
the running claim makes the claimer holder from its claim's time, a grant of the last request renews from the request's time; a lane that
may grant refrains from that moment for the whole of the other's lease; an expired lease is lost, `OWN` low; an unanswered claim ends after
3 cycles; refrains end with their time. Where the manual leaves it open, as log entries 58 and 135 of the model say. -/
def Obligations.LeaseCommands : Prop :=
  (∀ (t : Nat) (s : State), s.live .house t → s.up = true → s.single = true → s.lease.state = 2 →
    (s.advance t).boundaryNo = s.lease.boundary + 1 →
    Does (.redCycleBoundary t []) s (fun u =>
      u = { s.advance t with lease := u.lease } ∧ u.lease.cycle = (s.lease.cycle + 1) % 4294967296 ∧
      u.lease.timer = max s.lease.timer ((s.advance t).now + leaseNs s.lease.l s.lease.tR))) ∧
  (∀ (t : Nat) (s : State), s.live .house t → s.up = false → (s.advance t).boundaryNo = s.lease.boundary + 1 →
    Does (.redCycleBoundary t []) s (fun u =>
      u = { s.advance t with
        lease := { s.lease with cycle := (s.lease.cycle + 1) % 4294967296, boundary := s.lease.boundary + 1 } })) ∧
  (∀ (t : Nat) (m : RedMsg) (s : State), s.live .house t → s.hears m → m.type = 2 → m.grantTo = s.lane → s.lease.excluded = 0 →
    (∀ tq c, s.lease.claim = some (m.grant, tq, c) → s.lease.state = 1 →
      Does (.grant t 0 m []) s (fun u =>
        u = { s.advance t with lease := u.lease } ∧ u.lease.state = 2 ∧ u.lease.ownAt = some (s.lease.cycle + 1) ∧
        u.lease.timer = max s.lease.timer (tq + leaseNs s.lease.l s.lease.tR) ∧ u.lease.own = s.lease.own ∧
        u.lease.taken = s.lease.taken + 1)) ∧
    (s.lease.claim = none → s.lease.state = 2 → s.lease.req = m.grant → s.lease.granted = false → (s.advance t).now < s.lease.timer →
      Does (.grant t 0 m []) s (fun u =>
        u = { s.advance t with lease := u.lease } ∧ u.lease.state = 2 ∧ u.lease.granted = true ∧
        u.lease.timer = max s.lease.timer (s.lease.reqAt + leaseNs s.lease.l s.lease.tR)))) ∧
  (∀ (t : Nat) (m : RedMsg) (s : State), s.live .house t → s.hears m → s.lease.state = 0 → s.lease.excluded = 0 →
    s.lease.excludeVotes = 0 → m.exclude = 0 → (s.advance t).refrainsOther m.lane = false →
    (m.type = 1 → m.role = 2 → m.req ≠ 0 →
      Does (.heartbeat t 0 m) s (fun u =>
        Tab.find u.lease.refrain m.lane = some ((s.advance t).now + refrainNs m.l m.tR + s.lease.g * s.lease.tR * 1000) ∧
        u.lease.state = 0 ∧ u.lease.sentGrant = true ∧ (u.peer m.lane).msg = some m)) ∧
    (m.type = 1 → m.role ≠ 2 →
      Does (.heartbeat t 0 m) s (fun u =>
        u = { s.advance t with lease := u.lease } ∧ u.lease.refrain = s.lease.refrain ∧ u.lease.timer = s.lease.timer ∧
        (u.peer m.lane).msg = some m ∧ (u.peer m.lane).at_ = s.lease.cycle)) ∧
    (m.type = 3 → m.role ≠ 2 →
      Does (.claim t 0 m) s (fun u =>
        Tab.find u.lease.refrain m.lane = some ((s.advance t).now + refrainNs m.l m.tR + s.lease.g * s.lease.tR * 1000) ∧
        u.lease.state = 0 ∧ u.lease.sentGrant = true))) ∧
  (∀ (t : Nat) (m : RedMsg) (s : State), s.live .house t → s.hears m → m.type = 4 →
    Does (.release t 0 m) s (fun u =>
      u = { s.advance t with lease := u.lease } ∧ Tab.find u.lease.refrain m.lane = none ∧ (u.peer m.lane).holderAt = none ∧
      (m.grantTo ≠ s.lane → u.lease.released = s.lease.released))) ∧
  (∀ (t : Nat) (s : State), s.live .tbase t → s.lease.state = 2 → s.single = false → s.lease.timer ≤ (s.advance t).now →
    Does (.leaseExpired t) s (fun u =>
      u.lease.state = 0 ∧ u.lease.own = false ∧ u.lease.timer = 0 ∧ u.lease.expiries = s.lease.expiries + 1 ∧ u.drives = false)) ∧
  (∀ (t : Nat) (s : State), s.live .tbase t →
    Does (.refrainEnd t) s (fun u =>
      u = { s.advance t with lease := { s.lease with
              refrain := s.lease.refrain.filter (fun e => decide ((s.advance t).now < e.2)) } })) ∧
  (∀ (t q tq c : Nat) (s : State), s.live .house t → s.lease.claim = some (q, tq, c) → s.lease.state = 1 → c + 3 ≤ s.lease.cycle →
    Does (.claimTimeout t) s (fun u =>
      u = { s.advance t with lease := u.lease } ∧ u.lease.state = 0 ∧ u.lease.claim = none ∧ u.lease.timer = s.lease.timer))

/-- R439, R453, R455, R456: partners. A lane silent on a path, or on every path, for 3 cycles is noted once; the holder's mirror content
waits for the next boundary; a resync with nothing left to apply is done; an output vector is kept with its cycle. Where the manual leaves
it open, as log entries 58, 59 and 135 of the model say. -/
def Obligations.PartnerCommands : Prop :=
  (∀ (t x : Nat) (s : State), x < 3 → s.live .house t → s.mates.contains x = true →
    ((s.peer x).jiestLost = false → (s.peer x).jiestAt + 3 ≤ s.lease.cycle →
      Does (.redPathLost t x 0) s (fun u => (u.peer x).jiestLost = true ∧ (u.peer x).canLost = (s.peer x).canLost ∧
        (u.peer x).msg = (s.peer x).msg)) ∧
    ((s.peer x).silent = false → (s.peer x).at_ + 3 ≤ s.lease.cycle →
      Does (.redPartnerLost t x) s (fun u => (u.peer x).silent = true ∧ (u.peer x).silentSince = (s.advance t).now)) ∧
    (∀ l, s.up = true → s.lease.state ≠ 2 → s.holderSeen = some x → l.all (fun i => !i.atOnce) = true →
      Does (.mirror t x l) s (fun u => u = { s.advance t with lease := { s.lease with inbox := s.lease.inbox ++ l } })) ∧
    (∀ p c, s.up = true → s.lease.state ≠ 2 → s.holderSeen = some x →
      Does (.mirror t x [.counters p c]) s (fun u =>
        u.disp.plan.version = p ∧ u.logic.changeNo = c ∧ u.lease.inbox = s.lease.inbox)) ∧
    (∀ vec, s.lease.cfg = 2 → s.single = false → s.up = true → bitOf s.lease.excluded x = false → s.lease.state ≠ 3 →
      s.lease.resyncDone = true → bitOf (s.peer x).flags 2 = true → (s.peer x).vectorAt ≠ s.lease.cycle →
      (∀ y, y ≠ x → s.mates.contains y = true → bitOf s.lease.excluded y = false ∧ (s.peer y).vectorAt ≠ s.lease.cycle) →
      Does (.vote t x vec) s (fun u =>
        u = { s.advance t with lease := u.lease } ∧ (u.peer x).vector = vec ∧ (u.peer x).vectorAt = s.lease.cycle))) ∧
  (∀ (t : Nat) (s : State), s.live .house t → s.single = false → s.lease.resyncDone = false → s.holderSeen.isSome = true →
    s.lease.inbox = [] →
    Does (.resyncDone t) s (fun u =>
      u = { s.advance t with lease := { s.lease with resyncDone := true, resyncs := s.lease.resyncs + 1 } }))

/-- R467, R468, R469, R470: the Jiest ports. A frame in order is accepted, counted and acknowledged; a bad one is answered by a NAK, and the
fourth retrains the port; a NAK resends what is not acknowledged; a signal starts training, alignment sends the identity, a neighbour that
is wired right brings the port UP and one that is not MISWIRED; training times out, is retried, and restarts when the signal goes; a lane
that fails is replaced by the spare. Where the manual leaves it open, as log entries 60, 62 and 147 of the model say. -/
def Obligations.JiestCommands : Prop :=
  ∀ (t p : Nat) (s : State), p < 5 → s.live .comm t →
    (∀ b : Octets, (s.jport p).state = 2 → (jframeOf b false).good = true → u8At b 0 = 7 → u8At b 1 % 16 = 3 →
      u8At b 2 = (s.jport p).rxSeq →
      Does (.jiestFrameReceive t p b false) s (fun u =>
        u = { s.advance t with casc := u.casc, net := u.net } ∧ (u.jport p).rxSeq = ((s.jport p).rxSeq + 1) % 256 ∧
        (u.jport p).recv = (s.jport p).recv + 1 ∧ (u.jport p).fails = 0 ∧ (u.jport p).discarding = false)) ∧
    (∀ (b : Octets) (viol : Bool), (s.jport p).state = 2 → (viol = true ∨ u32At b (8 + u16At b 4) ≠ crc32c (b.take (8 + u16At b 4))) →
      ((s.jport p).fails < 3 → Does (.jiestFrameReceive t p b viol) s (fun u =>
        u = { s.advance t with casc := u.casc, net := u.net } ∧ (u.jport p).state = 2 ∧ (u.jport p).failed = (s.jport p).failed + 1 ∧
        (u.jport p).discarding = true ∧ (u.jport p).rxSeq = (s.jport p).rxSeq)) ∧
      ((s.jport p).fails = 3 → Does (.jiestFrameReceive t p b viol) s (fun u =>
        (u.jport p).state = 1 ∧ (u.jport p).retrains = (s.jport p).retrains + 1 ∧ (u.jport p).since = (s.advance t).now))) ∧
    (∀ (ack : Nat) (f : JFrame), (s.jport p).state = 2 → (s.jport p).window = [f] → (s.jport p).waiting = [] → f.seq ≠ ack % 256 →
      Does (.nak t p ack) s (fun u =>
        u = { s.advance t with casc := u.casc, net := u.net } ∧ (u.jport p).window = [{ f with flags := f.flags ||| 4 }] ∧
        (u.jport p).sent = (s.jport p).sent + 1 ∧ (u.jport p).txSeq = (s.jport p).txSeq)) ∧
    (s.jEnabled p = true → (s.jport p).state = 0 →
      Does (.jiestSignalDetected t p) s (fun u =>
        u = { s.advance t with casc := u.casc } ∧
        u.jport p = { s.jport p with state := 1, since := (s.advance t).now, aligned := false })) ∧
    ((s.jport p).state = 1 →
      Does (.jiestAligned t p) s (fun u =>
        u = { s.advance t with casc := u.casc, net := u.net } ∧ (u.jport p).aligned = true ∧
        (u.jport p).sent = (s.jport p).sent + 1 ∧ (u.jport p).state = 1)) ∧
    (∀ b : Octets, (s.jport p).state = 1 → (s.jport p).aligned = true → b.length = 32 →
      (s.wiringOk p (u16At b 0) (u8At b 2) (u8At b 3) = true →
        Does (.jiestIdentity t p b) s (fun u =>
          (u.jport p).state = 2 ∧ (u.jport p).nPos = u16At b 0 ∧ (u.jport p).nLane = u8At b 2 ∧ (u.jport p).nSerial = u64At b 8)) ∧
      (s.wiringOk p (u16At b 0) (u8At b 2) (u8At b 3) = false →
        Does (.jiestIdentity t p b) s (fun u => (u.jport p).state = 3 ∧ u.cascFlags % 2 = 1 ∧ u.net.sent = s.net.sent))) ∧
    ((s.jport p).state = 1 → (s.jport p).since + 100000000 ≤ (s.advance t).now →
      Does (.jiestTrainTimeout t p) s (fun u => (u.jport p).state = 4 ∧ (u.jport p).since = (s.advance t).now ∧
        (u.jport p).window = (s.jport p).window)) ∧
    ((s.jport p).state = 4 → (s.jport p).since + 1000000000 ≤ (s.advance t).now →
      Does (.jiestRetry t p) s (fun u =>
        u = { s.advance t with casc := u.casc } ∧ u.jport p = { s.jport p with state := 1, since := (s.advance t).now, aligned := false })) ∧
    ((s.jport p).state = 2 →
      Does (.jiestSignalLost t p) s (fun u =>
        (u.jport p).state = 1 ∧ (u.jport p).aligned = false ∧ (u.jport p).retrains = (s.jport p).retrains + 1 ∧
        (u.jport p).window = (s.jport p).window)) ∧
    (∀ (rx : Bool) (l n : Nat), l < 2 → (rx = true → 16 ≤ n) → (if rx then (s.jport p).rx else (s.jport p).tx) = [0, 1] →
      (if rx then (s.jport p).rxOut else (s.jport p).txOut) = [] →
      Does (.jiestLaneSpared t p rx l n) s (fun u =>
        (if rx then (u.jport p).rx else (u.jport p).tx) = [1 - l, 2] ∧ (if rx then (u.jport p).rxOut else (u.jport p).txOut) = [l] ∧
        u.casc.laneDegraded = s.casc.laneDegraded))

/-- R473, R474, R475: time and core samples over the tree. A parent stamps its sends; a device answers a send at once and keeps the times of
the echo; an echo to the last send is stamped; a core sample that comes in time is requested under its number, once; a boundary table
matches the boundary of its port by tag. Where the manual leaves it open, as log entries 60, 62 and 136 of the model say. -/
def Obligations.TreeCommands : Prop :=
  (∀ (t p : Nat) (s : State), (p = 1 ∨ p = 2) → s.live .comm t → s.jUp p = true → (s.advance t).timeDue = true →
    Does (.timePeriod t) s (fun u =>
      u = { s.advance t with casc := u.casc, net := u.net } ∧ Tab.find u.casc.t1 p = some (s.advance t).clk.dev ∧
      Tab.find u.casc.t4 p = none)) ∧
  (∀ (t : Nat) (b : Octets) (s : State), s.live .comm t → s.jUp 0 = true → 24 ≤ b.length → u8At b 0 = 0 →
    s.nat 0x6010 2 ≠ 2 →
    Does (.timeSend t b) s (fun u =>
      u = { s.advance t with casc := u.casc, net := u.net, sync := u.sync } ∧ u.sync.jt1 = u64At b 8 ∧
      u.sync.jt2 = (s.advance t).clk.dev ∧ u.sync.jt3 = (s.advance t).clk.dev ∧ u.sync.theta = s.sync.theta)) ∧
  (∀ (t p : Nat) (b : Octets) (s : State), (p = 1 ∨ p = 2) → s.live .comm t → s.jUp p = true → b.length = 32 → u8At b 0 = 1 →
    Tab.find s.casc.t1 p = some (u64At b 8) →
    Does (.timeEcho t p b) s (fun u =>
      u = { s.advance t with casc := { s.casc with t4 := Tab.insert s.casc.t4 p (s.advance t).clk.dev } })) ∧
  (∀ (t p n time : Nat) (s : State), p < 3 → s.live .comm t → s.jUp p = true → s.casc.lastCore ≠ n →
    ((s.advance t).clk.dev + 1000000 ≤ time →
      Does (.coreFrame t p n time) s (fun u =>
        u.casc.lastCore = n ∧ u.heat.cs.reqs = s.heat.cs.reqs ++ [{ time := time, cause := 8, cascade := n }])) ∧
    (time < (s.advance t).clk.dev + 1000000 →
      Does (.coreFrame t p n time) s (fun u => u.casc.lastCore = n ∧ u.heat = s.heat))) ∧
  (∀ (t p n time : Nat) (s : State), p < 5 → s.live .comm t → s.jUp p = true → s.casc.lastCore = n →
    Does (.coreFrame t p n time) s (fun u => u = s.advance t)) ∧
  (∀ (t p n : Nat) (b : Octets) (s : State), p < 3 → s.live .comm t → s.jUp p = true → (s.advance t).inputsHeld = true →
    u8At b 0 = 4 → bndNodes s.img = [n] → s.bndPort n = p →
    Does (.boundaryTable t p b) s (fun u =>
      u = { s.advance t with casc := u.casc, net := u.net } ∧ (u.jport p).tableHeard = true ∧ (u.jport p).tableSent = false ∧
      (u.bound (s.bndIndex n)).matched = (tableTags b).contains (s.bndTag n) ∧
      u.casc.mismatch = !(tableTags b).contains (s.bndTag n)))

/-- R476, R477, R480: a coordinated re-plan in rounds. The master starts one at its instant, another device at a START; the prices of the
round reach the U boundary, the flows the D boundary, a child's report its port; a job's end hands it over; a round's boundary begins the
next; a report that waits too long is sent; the master commits at the tolerance and continues above it; a COMMIT publishes and a CONTINUE
goes on. Where the manual leaves it open, as log entries 60, 61 and 136 of the model say. -/
def Obligations.RoundCommands : Prop :=
  (∀ (t p : Nat) (b : Octets) (s : State), p < 5 → s.live .comm t → (s.advance t).inputsHeld = true → s.nat 0x6410 1 ≠ 0 →
    s.model.active ≠ none → s.up = true →
    (s.isMaster = true → (s.advance t).masterDue = true → s.nat 0x2810 1 = 1 → (s.job 2).alive = false →
      Does (.roundStart t p b) s (fun u =>
        u.casc.running = true ∧ u.casc.round = 1 ∧ u.casc.par.ts = (s.advance t).clk.dev ∧ u.disp.plan = s.disp.plan)) ∧
    (s.isMaster = false → s.jUp p = true → u8At b 0 = 0 → b.length = 26 → p ≠ 1 → p ≠ 2 → s.casc.running = false →
      Does (.roundStart t p b) s (fun u =>
        u.casc.running = true ∧ u.casc.round = 1 ∧ u.casc.par.ts = u64At b 4 ∧ u.disp.plan = s.disp.plan))) ∧
  (∀ (t p n : Nat) (b : Octets) (x : Nat × List Int) (s : State), p < 5 → s.live .comm t → (s.advance t).inputsHeld = true →
    s.jUp p = true → s.upperNodes = [n] → s.ofRun 1 b = true → s.casc.round ≤ u8At b 1 →
    (valuesOf b s.casc.par.horizon).find? (fun x => decide (x.1 = s.bndTag n)) = some x →
    Does (.roundPrices t p b) s (fun u =>
      (u.bound (s.bndIndex n)).price = x.2 ∧ u.casc.pricesRound = u8At b 1 ∧ u.casc.round = s.casc.round)) ∧
  (∀ (t p n : Nat) (b : Octets) (x : Nat × List Int) (s : State), p < 5 → s.live .comm t → (s.advance t).inputsHeld = true →
    s.jUp p = true → s.lowerNodes = [n] → s.ofRun 2 b = true → s.casc.round ≤ u8At b 1 →
    (s.advance t).clk.dev < s.casc.par.at_ (u8At b 1 + 1) →
    (valuesOf b s.casc.par.horizon).find? (fun x => decide (x.1 = s.bndTag n)) = some x →
    Does (.roundFlows t p b) s (fun u =>
      u = { s.advance t with casc := u.casc } ∧ (u.bound (s.bndIndex n)).other = x.2 ∧
      (u.bound (s.bndIndex n)).otherRound = u8At b 1 ∧ (u.bound (s.bndIndex n)).price = (s.bound (s.bndIndex n)).price)) ∧
  (∀ (t p : Nat) (b : Octets) (s : State), p < 5 → p ≠ 0 → s.live .comm t → s.jUp p = true → (s.advance t).inputsHeld = true →
    s.ofRun 3 b = true →
    u8At b 1 + 1 = s.casc.round →
    Does (.roundReport t p b) s (fun u =>
      Tab.find u.casc.reports p = some (u32At b 12, decide (u8At b 16 ≠ 0)) ∧ u.casc.round = s.casc.round ∧
      u.casc.running = true)) ∧
  (∀ (t st : Nat) (r : ReSnap) (s : State), s.live .solv t → s.disp.run = some r → r.round = some s.casc.round → s.casc.running = true →
    (r.verdict (s.job 2)).status = some st → s.mayEnd 2 = true → (s.advance t).inputsHeld = true →
    Does (.roundJobEnd t) s (fun u =>
      (u.job 2).state = 3 ∧ u.disp.run = some r ∧ u.disp.lastStatus = st ∧ u.disp.plan = s.disp.plan ∧
      (5 < st → u.casc = s.casc))) ∧
  (∀ (t : Nat) (s : State), s.live .house t → s.casc.running = true → 1 < s.casc.round →
    s.casc.par.at_ s.casc.round + 1000000 ≤ (s.advance t).clk.dev → s.isMaster = false → s.casc.reported = false →
    Does (.roundReportTimeout t) s (fun u => u.casc.reported = true ∧ u.casc.round = s.casc.round ∧ u.disp = s.disp)) ∧
  (∀ (t : Nat) (s : State), s.live .house t → s.casc.running = true → (s.advance t).inputsHeld = true →
    (s.advance t).clk.dev < (s.advance t).cascDeadline → s.casc.par.at_ (s.casc.round + 1) ≤ (s.advance t).clk.dev →
    s.casc.round ≤ s.casc.par.roundsMax →
    Does (.roundBoundary t) s (fun u => u.casc.round = s.casc.round + 1 ∧ u.casc.running = true ∧ u.disp.plan = s.disp.plan)) ∧
  (∀ (t : Nat) (s : State), s.live .house t → s.casc.running = true → s.isMaster = true → 2 ≤ s.casc.round → s.casc.reports = [] →
    s.casc.par.at_ s.casc.round + 2000000 ≤ (s.advance t).clk.dev →
    (s.casc.ownZ ≤ s.casc.par.tol →
      Does (.roundDecision t) s (fun u =>
        u.casc.running = false ∧ u.casc.ended = 1 ∧ u.casc.rounds = s.casc.round - 1 ∧ u.casc.finalZ = s.casc.ownZ)) ∧
    (s.casc.par.tol < s.casc.ownZ → s.casc.round - 1 ≠ s.casc.par.roundsMax →
      s.casc.par.at_ (s.casc.round + 1) + 2000000 + s.nat 0x6410 9 * 1000000 ≤ (s.advance t).cascDeadline →
      Does (.roundDecision t) s (fun u =>
        u.casc.running = true ∧ u.casc.round = s.casc.round ∧ u.casc.rounds = s.casc.round - 1 ∧ u.disp = s.disp))) ∧
  (∀ (t p : Nat) (b : Octets) (s : State), p < 5 → s.live .comm t → s.jUp p = true → (s.advance t).inputsHeld = true →
    s.isMaster = false → s.casc.round ≤ u8At b 1 + 1 →
    (s.ofRun 5 b = true →
      Does (.roundCommit t p b) s (fun u => u.casc.running = false ∧ u.casc.rounds = u8At b 1 ∧ u.casc.best = [])) ∧
    (s.ofRun 6 b = true →
      Does (.roundContinue t p b) s (fun u =>
        u.casc.running = true ∧ u.casc.rounds = u8At b 1 ∧ u.casc.round = s.casc.round ∧ u.disp.plan = s.disp.plan)))

/-- R490, R498, R502, R492, R495, R503, R504, R499: the commands of integrity. A scan's result is latched; a test that passes ends with its
verdict; the background test takes the element whose turn it is; a core that disagrees goes out of service while a spare is there, and a
second disagreement without one holds the device; ageing is held; a canary and a scrub are counted; a thermal sample counts a second in its
band, and the hourly write carries the counts over; the spare converter takes over a failed one's inputs. Where the manual leaves it open,
as log entries 29, 45, 46 and 137 of the model say. -/
def Obligations.IntegrityCommands : Prop :=
  (∀ (t c a b : Nat) (lost : List (Nat × Nat)) (s : State), c < 4 → s.live .house t → (s.crcChan c).state = 1 →
    Does (.crcScanDone t c lost a b) s (fun u =>
      (lost = [] → u = { s.advance t with health := u.health, draws := u.draws }) ∧ (u.crcChan c).state = 2 ∧
      (u.crcChan c).poisoned = !lost.isEmpty ∧ u.health.softSubsoil = s.health.softSubsoil + a ∧
      u.health.softKeep = s.health.softKeep + b ∧ (u.crcChan c).endAt = (s.advance t).clk.dev ∧
      (u.crcChan c).result = crcOf (u8At (s.crcCfg c) 32) (u64At (s.crcCfg c) 8) (u64At (s.crcCfg c) 16) (u64At (s.crcCfg c) 24)
        (bitOf (u8At (s.crcCfg c) 33) 0) (bitOf (u8At (s.crcCfg c) 33) 1) (((s.advance t).scanWords lost a b).crcStream (s.crcCfg c)))) ∧
  (∀ (t p age : Nat) (r : TestRun) (s : State), p < 9 → p ≠ 4 → s.live .house t → (s.poolTest p).run = some r →
    age < 65536 → age < u16At (s.oct 0x6830 1) 0 → age < u16At (s.oct 0x6830 1) 2 →
    Does (.selftestDone t p true age) s (fun u =>
      u = { s.advance t with health := u.health } ∧
      u.poolTest p = { s.poolTest p with run := none, elem := r.elem, outcome := 1, tests := (s.poolTest p).tests + 1,
                                         endAt := (s.advance t).clk.dev } ∧
      u.health.out = s.health.out)) ∧
  (∀ (t p e : Nat) (s : State), p < 9 → p ≠ 4 → s.live .house t → (s.poolTest p).run = none →
    s.health.queue.find? (fun r => decide (r.pool = p)) = none → s.nat 0x6810 5 ≠ 0 → (∃ new, (s.advance t).bgNext p = some (e, new)) →
    (s.inService p e = true → (s.freeSpare p (poolUnit p e)).isSome = true) →
    Does (.bgTest t p) s (fun u =>
      u = { s.advance t with health := u.health } ∧
      (∃ r, (u.poolTest p).run = some r ∧ r.elem = e ∧ r.background = true ∧ r.forced = false ∧ r.start = (s.advance t).clk.dev) ∧
      u.health.out = s.health.out)) ∧
  (∀ (t core : Nat) (again : Bool) (s : State), core < 3 → s.live .house t →
    (0 < s.sparesFree 8 0 → Does (.houseMismatch t core again) s (fun u => core ∈ u.poolOut 8 0)) ∧
    (s.sparesFree 8 0 = 0 → s.health.mismatchAt = none →
      Does (.houseMismatch t core false) s (fun u =>
        u = { s.advance t with health := u.health } ∧ u.health.mismatchAt = some (s.advance t).now ∧
        (u.poolStat 8).faults = (s.poolStat 8).faults + 1)) ∧
    (s.sparesFree 8 0 = 0 → bitOf s.dev.hold 3 = false → Does (.houseMismatch t core true) s (fun u =>
      bitOf u.dev.hold 3 = true ∧ (s.operating = true → u.dev.state = .safeHold)))) ∧
  (∀ (t i age : Nat) (s : State), i < 164 → s.live .house t → age < 65536 → age < u16At (s.oct 0x6830 1) 0 →
    age < u16At (s.oct 0x6830 1) 2 →
    Does (.ageRead t i age) s (fun u =>
      u = { s.advance t with health := { s.health with ageing := Tab.put 0 s.health.ageing i age } })) ∧
  (∀ (t isl : Nat) (s : State), isl < 9 → s.live .house t → Tab.get 0 s.health.canaries isl < 3 →
    Does (.wearEm t isl) s (fun u => Tab.get 0 u.health.canaries isl = Tab.get 0 s.health.canaries isl + 1)) ∧
  (∀ (t isl : Nat) (s : State), isl < 8 → s.live (islandOf isl) t →
    Does (.sramScrub t isl 1) s (fun u => u = { s.advance t with health := { s.health with softSram := s.health.softSram + 1 } }) ∧
    Does (.sramScrub t isl 2) s (fun u => u = { s.advance t with
      health := { s.health with sramRows := min Config.sramSpares (s.health.sramRows + 1) } }) ∧
    Does (.sramScrub t isl 0) s (fun u => u = s.advance t)) ∧
  (∀ (t : Nat) (x : Int) (raised : Bool) (s : State), s.live .house t → (s.advance t).thermDue = true →
    Does (.thermalSample t x raised []) s (fun u =>
      u.health.seconds = s.health.seconds + 1 ∧
      Tab.get 0 u.health.bands (thermBand x) = Tab.get 0 s.health.bands (thermBand x) + 1 ∧
      u.health.hottest = max s.health.hottest x ∧ u.health.bandRaised = raised)) ∧
  (∀ (t wear : Nat) (s : State), s.live .mem t → 3600 ≤ s.health.seconds →
    Does (.thermalHoursWrite t [] wear) s (fun u =>
      u = { s.advance t with health := u.health } ∧ u.health.keptSeconds = s.health.keptSeconds + s.health.seconds ∧
      u.health.seconds = 0 ∧ u.health.bands = [] ∧ u.health.wearMax = max wear s.health.wearMax ∧
      (∀ k, k < 5 → Tab.get 0 u.health.keptBands k = Tab.get 0 s.health.keptBands k + Tab.get 0 s.health.bands k))) ∧
  (∀ (t k : Nat) (s : State), k < 2 → s.live .ctrl t → s.ctrl.conv0 = 0 → s.ctrl.conv1 = 1 → s.poolOut 5 0 = [] →
    Does (.sarConverterFault t k) s (fun u =>
      (if k = 0 then u.ctrl.conv0 else u.ctrl.conv1) = 2 ∧ (if k = 0 then u.ctrl.conv1 else u.ctrl.conv0) = 1 - k ∧
      u.poolOut 5 0 = [k] ∧ u.ctrl.ai = s.ctrl.ai))

/-- R530, R531, R532, R535, R544, R546, R548: the commands of the supplies, of reset and of standby complete. The boot instant counts a
boot, takes the straps, numbers the boot event 0 and records its cause; `RESET_N` and a lost supply end the device without a save; a
completed save, or PARKED, lets the supplies go without that; `PARK_TIMEOUT` boots with cause 4. Where the manual leaves it open, as log
entries 25 and 28 of the model say. -/
def Obligations.SupplyCommands : Prop :=
  (∀ (t pos lane cfg : Nat) (hr ht : Bool) (s : State),
    (s.dev.state = .off ∨ s.power.resetN = false ∨ s.power.started = false) →
    Does (.powerOn t pos lane cfg hr ht) s (fun u =>
      u.dev.state = .boot ∧ u.dev.bootCount = (s.dev.bootCount + 1) % 4294967296 ∧ u.ledger.count = 1 ∧
      u.power.straps = strapsOf pos lane cfg hr ht ∧ u.power.resetN = true ∧ u.power.supplies = true)) ∧
  (∀ (t n : Nat) (ring : Bool) (s : State), s.dev.state ≠ .off → s.power.resetN = true → s.power.saving = false →
    s.dict.storing = none → s.model.stage.status ≠ 3 → s.logic.stage.status ≠ 3 →
    Does (.resetAssert t n ring) s (fun u => u.power.resetN = false ∧ u.dev.state = .boot ∧ u.keep = s.keep ∧ u.cal = s.cal)) ∧
  (∀ (t n : Nat) (ring : Bool) (s : State), s.dev.state ≠ .off → s.dev.state ≠ .parked → s.power.saved = false →
    Does (.supplyLoss t n ring) s (fun u => u.dev.state = .off ∧ u.power.lossReset = true ∧ u.power.supplies = false)) ∧
  (∀ (t : Nat) (s : State), (s.dev.state = .parked ∨ s.power.saved = true) →
    Does (.mainSupplyLost t) s (fun u => u.dev.state = .off ∧ u.power.lossReset = false ∧ u.power.supplies = false)) ∧
  (∀ (t : Nat) (x : Straps) (s : State), s.live .house t → s.dev.state = .parked →
    s.power.parkedAt + s.nat 0x5001 0x0C * 1000000000 ≤ (s.advance t).now →
    Does (.parkTimeout t x) s (fun u => u.dev.state = .boot ∧ u.power.cause = 4 ∧
      u.power.straps = strapsOf x.pos x.lane x.cfg x.hostRole x.hTrust)) ∧
  (∀ (t : Nat) (s : State), s.power.supplies = false → s.power.backupOn = true →
    Does (.vbatLost t) s (fun u =>
      u.power.vbat = false ∧ u.power.backupOn = false ∧ u.heat.retA = [] ∧ u.heat.retB = [])) ∧
  (∀ (t : Nat) (s : State), s.power.backupOn = false →
    Does (.backupDomainStart t true) s (fun u => u.power.backupOn = true ∧ u.cal.valid = false) ∧
    Does (.backupDomainStart t false) s (fun u => u.power.backupOn = true ∧ u.cal.valid = s.cal.valid ∧ u.cal.f = s.cal.f))

/-- R537, R538, R536, R541, R542, R544: the commands of boot and of saves complete. A slot whose image passes runs, a device without one
halts; the BIST ends with its outcome; training ends in the decision, or halts at the third failure; initialisation ends with the device up;
a fall of `PFAIL_N` starts a save at its moment; the end of a save lets the supplies go; the checkpoint writes the control record. Where the
manual leaves it open, as log entries 25, 27, 29, 148, 149 and 150 of the model say. -/
def Obligations.BootAndSaveCommands : Prop :=
  (∀ (t : Nat) (a b : Octets) (s : State), s.live .house t → s.dev.state = .boot → s.power.halted = false →
    bitOf s.power.straps.cfg 1 = false →
    Does (.firmwareVerified t a b) s (fun u =>
      (fwFailing a = 0 → u.dev.state = .selftest ∧ u.power.fwSlot = 0 ∧ u.power.fwVersion = fwVersionOf a ∧ u.power.halted = false) ∧
      (fwFailing a ≠ 0 → fwFailing b = 0 →
        u.dev.state = .selftest ∧ u.power.fwSlot = 1 ∧ u.power.fwVersion = fwVersionOf b ∧ u.power.fallback = true) ∧
      (fwFailing a ≠ 0 → fwFailing b ≠ 0 → u.dev.state = .boot ∧ u.power.halted = true))) ∧
  (∀ (t us rows : Nat) (s : State), s.live .house t → s.dev.state = .selftest → s.power.halted = false → s.power.bisted = false →
    Does (.quickBistDone t [] us rows) s (fun u =>
      u.power.bisted = true ∧ u.health.bistOutcome = 1 ∧ u.health.bistUs = us ∧ u.health.fullBist = false)) ∧
  (∀ (t : Nat) (temp : Int) (raised : Bool) (bad : List (Nat × Nat)) (s : State), s.live .mem t → s.dev.state = .selftest →
    s.power.halted = false →
    s.power.bisted = true → s.power.trained = false →
    Does (.subsoilTrained t true temp raised bad) s (fun u =>
      u.power.trained = true ∧ (u.dev.state = .warmInit ∨ u.dev.state = .coldInit) ∧ u.power.restartReq = 0) ∧
    (s.power.trainTries = 2 → Does (.subsoilTrained t false temp raised bad) s (fun u =>
      u.power.halted = true ∧ u.power.trained = false ∧ u.dev.state = .selftest)) ∧
    (s.power.trainTries < 2 → Does (.subsoilTrained t false temp raised bad) s (fun u =>
      u = { s.advance t with power := u.power } ∧ u.power.trainTries = s.power.trainTries + 1 ∧ u.power.halted = false))) ∧
  (∀ (t : Nat) (ret : List (Nat × Nat × Nat)) (crit : List CritRead) (s : State), s.live .house t →
    (s.dev.state = .coldInit ∨ s.dev.state = .warmInit) →
    (s.advance t).lockOver = true →
    Does (.initDone t ret crit) s (fun u => u.ready = true ∧ u.power.checkpointAt = (s.advance t).now)) ∧
  (∀ (t : Nat) (remaps : List Nat) (s : State), s.live .house t → s.power.pfailN = true → s.up = true → s.power.saving = false →
    Does (.pfail t remaps) s (fun u =>
      u.power.saving = true ∧ u.power.pfailN = false ∧ u.power.saveTrigger = 1 ∧ u.power.saveT0 = (s.advance t).clk.dev ∧
      u.power.jobsHeld = true)) ∧
  (∀ (t : Nat) (x : Straps) (s : State), s.live .house t → s.power.saving = true → s.power.saveThen = 0 → s.power.pfailN = false →
    s.power.deferIv = [] → s.power.deferClear = false →
    Does (.saveComplete t x) s (fun u => u.power.saving = false ∧ u.power.saved = true)) ∧
  (∀ (t : Nat) (s : State), s.live .house t → s.power.saved = true → s.power.saving = false → s.up = true →
    Does (.pfailRecovered t) s (fun u => u.power.pfailN = true ∧ u.power.jobsHeld = false ∧ u.power.saved = false)) ∧
  (∀ (t : Nat) (s : State), s.live .house t → s.up = true → s.power.saving = false →
    s.power.checkpointAt + s.nat 0x5001 7 * 1000000000 ≤ (s.advance t).now →
    Does (.checkpointWrite t) s (fun u =>
      u = { s.advance t with keep := u.keep, power := u.power } ∧
      u.keep.control = s.keep.control.write (s.advance t).controlRec ∧ u.power.checkpointAt = (s.advance t).now))

/-- R568, R569, R571: the instructions of the test access port, on a supplied device. Each selects its register; while `RESET_N` is low
EXTEST drives the balls from the boundary-scan register, CLAMP holds them and HIGHZ releases them; while it is high they drive nothing.
Nothing but the port changes. Where the manual leaves it open, as log entry 81 of the model says. -/
def Obligations.TapCommands : Prop :=
  ∀ (t : Nat) (pins load : List Bool) (bit : Bool) (s : State), s.power.supplies = true →
    Does (.tapReset t) s (fun u => u = { s.advance t with tap := u.tap } ∧ u.tap.ir = .idcode ∧ u.tap.drive = 0) ∧
    Does (.idcode t) s (fun u =>
      u = { s.advance t with tap := u.tap } ∧ u.tap.ir = .idcode ∧ u.tap.tdo = bitsOf 32 idRegister ∧ u.tap.bsr = s.tap.bsr) ∧
    Does (.samplePreload t pins load) s (fun u =>
      u = { s.advance t with tap := u.tap } ∧ u.tap.ir = .samplePreload ∧ u.tap.tdo = (s.advance t).cellsNow pins ∧
      u.tap.irOut = [true, false, false, false, false, false] ∧ u.tap.bsr = cells load) ∧
    Does (.bypass t bit) s (fun u =>
      u = { s.advance t with tap := u.tap } ∧ u.tap.ir = .bypass ∧ u.tap.tdo = [false] ∧ u.tap.bypassBit = bit ∧
      u.tap.bsr = s.tap.bsr) ∧
    Does (.extest t pins load) s (fun u =>
      u = { s.advance t with tap := u.tap } ∧ u.tap.ir = .extest ∧ u.tap.bsr = cells load ∧
      u.tap.drive = (if s.power.resetN then 0 else 1)) ∧
    Does (.clamp t pins load bit) s (fun u =>
      u = { s.advance t with tap := u.tap } ∧ u.tap.ir = .clamp ∧ u.tap.drive = (if s.power.resetN then 0 else 2) ∧
      (s.power.resetN = false → u.tap.held = s.tap.bsr ∧ u.tap.tdo = [false])) ∧
    Does (.highz t pins load bit) s (fun u =>
      u = { s.advance t with tap := u.tap } ∧ u.tap.ir = .highz ∧ u.tap.drive = (if s.power.resetN then 0 else 3) ∧
      (s.power.resetN = false → u.tap.tdo = [false]))

/-- R44, R47, R56, R57, R545, R546: the requests to the device. Request 1 brings hold cause 1, and an operating device goes to SAFE_HOLD;
request 2 leaves SAFE_HOLD where no other cause is present, to RUN, or to DEGRADED while a cause is set; request 3 of a service session
enters SERVICE; a store takes every saveable value that is not at its default; restoring empties what was saved; a restart request and a
standby request begin a save, whose time is the device time at the request. -/
def Obligations.DeviceRequests : Prop :=
  (∀ (t : Nat) (a : Acc) (s : State), s.mayWrite t a 0x1001 6 [1] → s.up = true → bitOf s.dev.hold 1 = false →
    Does (.enterSafeHold t a) s (fun u =>
      u.dev.lastRequest = 1 ∧ bitOf u.dev.hold 1 = true ∧ u.dev.degraded = s.dev.degraded ∧
      (s.operating = true → u.dev.state = .safeHold ∧ u.dev.prev = s.dev.state ∧ u.dev.stateTime = (s.advance t).clk.dev) ∧
      (s.operating = false → u.dev.state = s.dev.state))) ∧
  (∀ (t : Nat) (a : Acc) (s : State), s.mayWrite t a 0x1001 6 [2] → s.dev.state = .safeHold → putBit s.dev.hold 1 false = 0 →
    s.activating = false →
    Does (.leaveSafeHold t a) s (fun u =>
      u.dev.lastRequest = 2 ∧ u.dev.hold = 0 ∧ u.dev.prev = .safeHold ∧
      (s.dev.degraded = 0 → u.dev.state = .run) ∧ (s.dev.degraded ≠ 0 → u.dev.state = .degraded))) ∧
  (∀ (t : Nat) (a : Acc) (s : State), s.mayWrite t a 0x1001 6 [3] → (s.operating = true ∨ s.dev.state = .safeHold) →
    ((s.advance t).atOwner a 0x1001 6 [3]).roleOf a.ctx = 2 →
    Does (.enterService t a) s (fun u =>
      u.dev.lastRequest = 3 ∧ u.dev.state = .service ∧ u.dev.prev = s.dev.state ∧ u.dev.hold = s.dev.hold)) ∧
  (∀ (t : Nat) (a : Acc) (s : State), s.mayWrite t a 0x1010 1 (leBytes 4 0x5AFE) → s.dict.storing = none →
    Does (.storeAll t a) s (fun u =>
      u = { s.advance t with dict := { s.dict with storing := some s.saveable }, net := u.net })) ∧
  (∀ (t : Nat) (a : Acc) (s : State), s.mayWrite t a 0x1011 1 (leBytes 4 0xD3FA) → s.dict.storing = none →
    Does (.restoreDefaults t a) s (fun u =>
      u = { s.advance t with keep := { s.keep with saved := {} }, dict := { s.dict with restorePending := true }, net := u.net })) ∧
  (∀ (t : Nat) (a : Acc) (s : State), s.mayWrite t a 0x5001 1 [1] → s.power.saving = false → s.dev.state = .service →
    Does (.warmRestartRequest t a) s (fun u =>
      u.power.restartReq = 1 ∧ u.power.saving = true ∧ u.power.saveTrigger = 2 ∧ u.power.saveThen = 1 ∧
      u.power.saveT0 = (s.advance t).clk.dev ∧ u.dev = s.dev)) ∧
  (∀ (t : Nat) (a : Acc) (s : State), s.mayWrite t a 0x5001 1 [2] → s.power.saving = false → s.dev.state = .service →
    Does (.coldRestartRequest t a) s (fun u =>
      u.power.restartReq = 2 ∧ u.power.saving = true ∧ u.power.saveTrigger = 2 ∧ u.power.saveThen = 1 ∧
      u.power.saveT0 = (s.advance t).clk.dev ∧ u.dev = s.dev)) ∧
  (∀ (t : Nat) (a : Acc) (s : State), s.mayWrite t a 0x5001 0x0A (leBytes 4 0x57B0) → s.holding = true → s.power.saving = false →
    Does (.standbyReq t a) s (fun u =>
      u.power.saving = true ∧ u.power.saveTrigger = 3 ∧ u.power.saveThen = 2 ∧ u.power.saveT0 = (s.advance t).clk.dev ∧ u.dev = s.dev))

/-- R417, R418, R419, R423, R425, R428, R433: the writes of the calendar. `HALT` set holds the count and discards a pending step; `HALT`
cleared restarts the count at the fields written, with the offset of device time they give; a field is taken unchecked under `HALT`; a write
of a field without `HALT` leaves free values; a step waits for the next second; the alarm, the wake timer and the flags; a new time source
resets the servo. Where the manual leaves it open, as log entries 28, 55 and 80 of the model say. -/
def Obligations.CalendarWrites : Prop :=
  (∀ (t : Nat) (a : Acc) (s : State), s.mayWrite t a 0x6001 1 [1] →
    (s.cal.halt = false → Does (.calHaltSet t a) s (fun u =>
      u.cal.halt = true ∧ u.cal.step = none ∧ u.cal.f = { s.cal.f with subsec := (s.advance t).subsec } ∧
      u.cal.haltAt = s.cal.f.seconds ∧ u.cal.offset = s.cal.offset)) ∧
    (s.cal.halt = true → Does (.calHaltSet t a) s (fun u => u = { s.advance t with net := u.net }))) ∧
  (∀ (t : Nat) (a : Acc) (s : State), s.mayWrite t a 0x6001 1 [0] →
    (s.cal.halt = true → s.cal.f.ok = true → Does (.calHaltClear t a) s (fun u =>
      u.cal.halt = false ∧ u.cal.valid = true ∧ u.cal.f = { s.cal.f with subsec := 0 } ∧ u.cal.since = (s.advance t).now ∧
      u.cal.offset = ((s.advance t).clk.dev : Int) - s.cal.f.seconds * 1000000000)) ∧
    (s.cal.halt = false → Does (.calHaltClear t a) s (fun u => u = { s.advance t with net := u.net }))) ∧
  (∀ (t sub v : Nat) (a : Acc) (s : State), 1 ≤ sub → sub ≤ 8 → v < 256 → s.mayWrite t a 0x6000 sub (leBytes 1 v) →
    (s.cal.halt = true → Does (.calFieldWrite t a sub v) s (fun u =>
      u = { s.advance t with cal := { s.cal with f := u.cal.f }, net := u.net } ∧
      (sub = 1 → u.cal.f = { s.cal.f with sec := v }) ∧ (sub = 2 → u.cal.f = { s.cal.f with min := v }) ∧
      (sub = 3 → u.cal.f = { s.cal.f with hour := v }) ∧ (sub = 4 → u.cal.f = { s.cal.f with day := v }) ∧
      (sub = 5 → u.cal.f = { s.cal.f with month := v }) ∧ (sub = 6 → u.cal.f = { s.cal.f with year := v }) ∧
      (sub = 7 → u.cal.f = { s.cal.f with century := v }) ∧ (sub = 8 → u.cal.f = { s.cal.f with weekday := v }))) ∧
    (s.cal.halt = false → Does (.calFieldWrite t a sub v) s (fun u =>
      u = { s.advance t with cal := u.cal, net := u.net, draws := s.draws + 1 } ∧ u.cal.halt = false ∧
      u.cal.offset = Config.freeCalendar s.draws 9))) ∧
  (∀ (t : Nat) (v : Int) (a : Acc) (s : State), s.mayWrite t a 0x6001 9 (leInt 4 v) → v ≠ 0 → -2147483648 ≤ v → v < 2147483648 →
    s.cal.halt = false → s.cal.step = none →
    Does (.offsetStep t a v) s (fun u => u = { s.advance t with cal := { s.cal with step := some v }, net := u.net })) ∧
  (∀ (t : Nat) (v : Octets) (a : Acc) (s : State), s.mayWrite t a 0x6001 4 v →
    Does (.alarmWrite t a v) s (fun u =>
      u = { s.advance t with cal := { s.cal with alarmNew := some v }, dict := u.dict, net := u.net } ∧
      u.dict = ((s.advance t).store 0x6001 4 v).dict)) ∧
  (∀ (t : Nat) (v : Octets) (a : Acc) (s : State), s.mayWrite t a 0x6001 5 v → wakeOk v = true →
    Does (.wakeWrite t a v) s (fun u =>
      u = { s.advance t with cal := { s.cal with wakeStart := (s.advance t).now }, dict := u.dict, net := u.net } ∧
      u.dict = ((s.advance t).store 0x6001 5 v).dict)) ∧
  (∀ (t : Nat) (a : Acc) (s : State), s.mayWrite t a 0x6001 3 [1] →
    Does (.calendarClear t a) s (fun u =>
      u = { s.advance t with cal := { s.cal with almf := false, almskip := false, jumped := false }, net := u.net })) ∧
  (∀ (t v : Nat) (a : Acc) (s : State), s.mayWrite t a 0x6010 2 (leBytes 1 v) →
    Does (.timeSource t a v) s (fun u =>
      u.dict = ((s.advance t).store 0x6010 2 (leBytes 1 v)).dict ∧ u.sync.state = 0 ∧ u.sync.f = 0 ∧ u.sync.rate = 0 ∧
      u.sync.slewing = false ∧ u.clk.rate = 0 ∧ u.cal = s.cal))

/-- R449, R458, R460, R468, R485, R490, R491, R500, R502, R506: the writes of redundancy, of the Jiest ports, of the CRC channels and of the
self-tests. A handover by the holder to a ready mate takes its cycle; a readmitted lane is no longer excluded; the sticky flags of the lease
are cleared; a Jiest port disabled is OFF with nothing waiting, one enabled goes on; a scan is started, aborted, configured and cleared; a
test is queued, aborted where it runs, waits or has ended, and its late mark cleared; the full BIST is taken for the next boot in SERVICE.
Each completes. Where the manual leaves it open, as log entries 45, 46, 135 and 137 of the model say. -/
def Obligations.LaneAndTestWrites : Prop :=
  (∀ (t x : Nat) (a : Acc) (s : State), x < 256 → s.mayWrite t a 0x6400 0x0B (leBytes 1 x) → s.single = false →
    (s.advance t).leaseHolder = true → s.mates.contains x = true → bitOf (s.peer x).flags 0 = true → (s.peer x).silent = false →
    Does (.handover t a x) s (fun u =>
      u = { s.advance t with lease := { s.lease with handover := some (x, s.lease.cycle + 1) }, net := u.net })) ∧
  (∀ (t x : Nat) (a : Acc) (s : State), x < 256 → s.mayWrite t a 0x6400 0x0C (leBytes 1 x) → s.single = false →
    (s.advance t).leaseHolder = true → s.mates.contains x = true → bitOf s.lease.excluded x = true →
    Does (.readmit t a x) s (fun u =>
      u.lease.excluded = putBit s.lease.excluded x false ∧ (u.peer x).dissent = 0 ∧ (u.peer x).resync = false ∧
      u.lease.state = s.lease.state ∧ (putBit s.lease.excluded x false = 0 → bitOf u.dev.degraded 6 = false))) ∧
  (∀ (t : Nat) (a : Acc) (s : State), s.mayWrite t a 0x6401 9 [1] →
    Does (.leaseClearSticky t a) s (fun u => u = { s.advance t with
      lease := { s.lease with voteSplit := false, holderExpired := false, discarded := false }, net := u.net })) ∧
  (∀ (t v : Nat) (a : Acc) (s : State), v < 256 → s.mayWrite t a 0x6410 2 (leBytes 1 v) →
    Does (.jiestPorts t a v) s (fun u =>
      u.dict = ((s.advance t).store 0x6410 2 (leBytes 1 v)).dict ∧
      ∀ p, p < 5 → (bitOf v p = true → u.jport p = s.jport p) ∧
        (bitOf v p = false → (u.jport p).state = 0 ∧ (u.jport p).waiting = [] ∧ (u.jport p).window = []))) ∧
  (∀ (t c : Nat) (a : Acc) (s : State), c < 4 → s.mayWrite t a (0x6800 + c) 2 [1] → (s.crcChan c).state ≠ 1 →
    s.scanOk (s.crcCfg c) = true →
    Does (.crcStart t a c) s (fun u => u = { s.advance t with health := u.health, net := u.net } ∧
      u.crcChan c = { s.crcChan c with state := 1, cause := 0, poisoned := false, fed := 0, endAt := 0 })) ∧
  (∀ (t c : Nat) (a : Acc) (s : State), c < 4 → s.mayWrite t a (0x6800 + c) 2 [2] →
    Does (.crcAbort t a c) s (fun u => u = { s.advance t with health := u.health, net := u.net } ∧
      ((s.crcChan c).state = 1 → u.crcChan c = { s.crcChan c with state := 3, cause := 0, endAt := (s.advance t).clk.dev }) ∧
      ((s.crcChan c).state = 2 → u.crcChan c = { s.crcChan c with late := true }) ∧
      ((s.crcChan c).state ≠ 1 → (s.crcChan c).state ≠ 2 → u.crcChan c = s.crcChan c))) ∧
  (∀ (t c : Nat) (v : Octets) (a : Acc) (s : State), c < 4 → s.mayWrite t a (0x6800 + c) 1 v → crcCfgOk v = true →
    (s.crcChan c).state ≠ 1 → Does (.crcConfig t a c v) s (fun u => s.holdsValue t (0x6800 + c) 1 v u)) ∧
  (∀ (t c : Nat) (a : Acc) (s : State), c < 4 → s.mayWrite t a (0x6800 + c) 5 [1] →
    Does (.crcClear t a c) s (fun u => u = { s.advance t with health := u.health, net := u.net } ∧
      u.crcChan c = { s.crcChan c with late := false })) ∧
  (∀ (t p e o : Nat) (a : Acc) (s : State), s.mayWrite t a 0x6810 1 [p, e, o, 0] → p ≤ 8 → e < 256 → (e = 255 ∨ e < poolElems p) → o ≤ 1 →
    (e = 255 ∨ rotating p = true ∨ s.inService p e = false) → (o = 1 → s.dev.state = .service) → s.health.queue.length < 32 →
    (o = 1 ∨ s.poolGone p = false) →
    Does (.stRequest t a [p, e, o, 0]) s (fun u => u = { s.advance t with
      health := { s.health with lastReq := [p, e, o, 0], queue := s.health.queue ++ [{ pool := p, elem := e, force := decide (o = 1) }] },
      net := u.net })) ∧
  (∀ (t p : Nat) (a : Acc) (s : State), p ≤ 8 → s.mayWrite t a 0x6810 2 (leBytes 1 p) → p ≠ 4 →
    (∀ r, (s.poolTest p).run = some r → Does (.stAbort t a p) s (fun u =>
      (u.poolTest p).run = none ∧ (u.poolTest p).outcome = 3 ∧ (u.poolTest p).elem = r.elem)) ∧
    (∀ r, (s.poolTest p).run = none → s.health.queue.find? (fun q => decide (q.pool = p)) = some r →
      Does (.stAbort t a p) s (fun u =>
        u.health.queue = s.health.queue.erase r ∧ (u.poolTest p).outcome = 3 ∧ (u.poolTest p).elem = r.elem)) ∧
    ((s.poolTest p).run = none → s.health.queue.find? (fun q => decide (q.pool = p)) = none →
      ((s.poolTest p).outcome = 1 ∨ (s.poolTest p).outcome = 2) →
      Does (.stAbort t a p) s (fun u => u.poolTest p = { s.poolTest p with late := true }))) ∧
  (∀ (t : Nat) (a : Acc) (r : CalRun) (s : State), s.mayWrite t a 0x6810 2 [4] → (s.poolTest 4).run = none → s.metr.cal = some r →
    Does (.stAbort t a 4) s (fun u =>
      u.metr.cal = none ∧ (u.calSt r.input).outcome = 2 ∧ (u.poolTest 4).outcome = 3 ∧ (u.poolTest 4).elem = r.old)) ∧
  (∀ (t : Nat) (a : Acc) (s : State), s.mayWrite t a 0x6810 6 [1] →
    Does (.stClear t a) s (fun u => u = { s.advance t with health := u.health, net := u.net } ∧
      ∀ p, p < 9 → u.poolTest p = { s.poolTest p with late := false })) ∧
  (∀ (t : Nat) (a : Acc) (s : State), s.mayWrite t a 0x6810 7 (leBytes 4 0xB157) → s.dev.state = .service →
    Does (.fullBist t a) s (fun u => u = { s.advance t with health := { s.health with fullBist := true }, net := u.net }))

/-- R516, R517, R527: the writes of the alarms, the subscriptions and the shed counters. An acknowledgement that names a source's count
makes its row no longer sticky; acknowledging and resetting can name every source; a reset clears the count and its times; a subscription
takes its record, with a full bucket and nothing lost; the shed counters start again from 0. -/
def Obligations.AlarmWrites : Prop :=
  (∀ (t src n : Nat) (a : Acc) (s : State), src < 0x1000 → n < 4294967296 → s.mayWrite t a 0x6C10 4 (leBytes 2 src ++ leBytes 4 n) →
    (s.almRow src).count = n →
    Does (.alarmAck t a src n) s (fun u => u = { s.advance t with ledger := u.ledger, net := u.net } ∧
      u.ledger.lastAck = leBytes 2 src ++ leBytes 4 n ∧ u.almRow src = { s.almRow src with sticky := false } ∧
      ∀ j, j ≠ src → u.almRow j = s.almRow j)) ∧
  (∀ (t : Nat) (a : Acc) (s : State), s.mayWrite t a 0x6C10 4 (leBytes 2 0xFFFF ++ leBytes 4 0) →
    Does (.alarmAckAll t a) s (fun u => u = { s.advance t with ledger := u.ledger, net := u.net } ∧
      ∀ j, (u.almRow j).sticky = false)) ∧
  (∀ (t src : Nat) (a : Acc) (s : State), src < 0x1000 → s.mayWrite t a 0x6C10 5 (leBytes 2 src) →
    Does (.alarmReset t a src) s (fun u => u = { s.advance t with ledger := u.ledger, net := u.net } ∧
      u.almRow src = { s.almRow src with count := 0, first := 0, last := 0 } ∧ ∀ j, j ≠ src → u.almRow j = s.almRow j)) ∧
  (∀ (t : Nat) (a : Acc) (s : State), s.mayWrite t a 0x6C10 5 (leBytes 2 0xFFFF) →
    Does (.alarmResetAll t a) s (fun u => u = { s.advance t with ledger := u.ledger, net := u.net } ∧
      ∀ j, (u.almRow j).count = 0)) ∧
  (∀ (t n : Nat) (v : Octets) (a : Acc) (s : State), n < 8 → s.mayWrite t a 0x6C00 (0x10 + n) v → subOk v = true →
    Does (.subscription t a n v) s (fun u =>
      u.dict = ((s.advance t).store 0x6C00 (0x10 + n) v).dict ∧ (u.sub n).path = u8At v 0 ∧ (u.sub n).content = u8At v 1 ∧
      (u.sub n).islands = u16At v 2 ∧ (u.sub n).dest = u32At v 4 ∧ (u.sub n).almRate = u16At v 10 ∧ (u.sub n).burst = u8At v 12 ∧
      (u.sub n).tokens = u8At v 12 * 1000000000 ∧ (u.sub n).logLost = 0 ∧ (u.sub n).hold = none)) ∧
  (∀ (t : Nat) (a : Acc) (s : State), s.mayWrite t a 0x6C20 2 [1] →
    Does (.shedClear t a) s (fun u => u = { s.advance t with ledger := u.ledger, net := u.net } ∧
      u.ledger.evLost = 0 ∧ u.ledger.gapReads = 0 ∧
      ∀ n, n < 8 → (u.sub n).coalesced = 0 ∧ (u.sub n).lostLog = 0 ∧ (u.sub n).lostTrace = 0 ∧ (u.sub n).gaps = 0))

/-- R95–R100, R106, R140, R150, R163, R481: the writes of the building model's operating inputs, of the estimator and of the planner. An
operating input that the lane may take and whose value passes is stored; an activation of a valid image is taken up and its outcome owed;
`ESTIM_RESET`, `REPLAN_NOW` and `FORCE_COLD` wait for the next run; a new horizon or step length makes the next plan cold. Where the manual
leaves it open, as log entries 70, 94 and 95 of the model say. -/
def Obligations.ModelWrites : Prop :=
  (∀ (t : Nat) (a : Acc) (s : State), s.mayWrite t a 0x2000 3 (leBytes 4 0x4D0D) → s.model.stage.status = 1 → s.model.stage.coming = none →
    ((s.advance t).atOwner a 0x2000 3 (leBytes 4 0x4D0D)).stagingOpen 0x2000 1 = false →
    (s.topoChange = false ∨ s.operating = false) →
    Does (.modelActivate t a) s (fun u =>
      (imgCrcOk s.model.stage.image = true → u = { s.advance t with
        model := { s.model with stage := { s.model.stage with status := 3 } }, net := u.net }) ∧
      (imgCrcOk s.model.stage.image = false → u.model = { s.model with stage := { s.model.stage with status := 4 } }))) ∧
  (∀ (t r : Nat) (v : Octets) (a : Acc) (s : State), r < 256 → s.mayWrite t a (0x7000 + r) 1 v → v.length = 536 → recipeOk v = true →
    s.recipeClash r v = false → (s.advance t).inputsHeld = true →
    Does (.recipe t a r v) s (fun u => u = { s.advance t with dict := u.dict, lease := u.lease, net := u.net } ∧
      u.dict = ((s.advance t).store (0x7000 + r) 1 v).dict)) ∧
  (∀ (t : Nat) (v : Octets) (a : Acc) (s : State), s.mayWrite t a 0x2006 2 v → v.length = 64 → s.assignOk v = true →
    (s.advance t).inputsHeld = true →
    Does (.recipeAssign t a v) s (fun u => u = { s.advance t with dict := u.dict, lease := u.lease, net := u.net } ∧
      u.dict = ((s.advance t).store 0x2006 2 v).dict)) ∧
  (∀ (t j : Nat) (v : Octets) (a : Acc) (s : State), j < 8 → s.mayWrite t a 0x2007 (j + 1) v → tarLen v = true → tarOk j v = true →
    (s.advance t).inputsHeld = true →
    Does (.tariffSeries t a j v) s (fun u => u = { s.advance t with dict := u.dict, lease := u.lease, net := u.net } ∧
      u.dict = ((s.advance t).store 0x2007 (j + 1) v).dict)) ∧
  (∀ (t : Nat) (v : Octets) (l : List Octets) (a : Acc) (s : State), s.mayWrite t a 0x2007 9 v → cutSeries tarLenOf 8 v = some l →
    l.all tarLen = true → (∀ j, j < 8 → tarOk j (nth [] l j) = true) → (s.advance t).inputsHeld = true →
    Does (.tariffAll t a v) s (fun u => u = { s.advance t with dict := u.dict, lease := u.lease, net := u.net } ∧
      u.dict = ((s.advance t).storeAll 0x2007 1 l).dict)) ∧
  (∀ (t q : Nat) (v : Octets) (a : Acc) (s : State), q < 3 → s.mayWrite t a 0x2008 (q + 1) v → fcLen v = true → fcOk v = true →
    (s.advance t).inputsHeld = true →
    Does (.fcSeries t a q v) s (fun u => u = { s.advance t with dict := u.dict, lease := u.lease, net := u.net } ∧
      u.dict = ((s.advance t).store 0x2008 (q + 1) v).dict)) ∧
  (∀ (t : Nat) (v : Octets) (l : List Octets) (a : Acc) (s : State), s.mayWrite t a 0x2008 4 v → cutSeries fcLenOf 3 v = some l →
    l.all fcLen = true → l.all fcOk = true → (s.advance t).inputsHeld = true →
    Does (.fcAll t a v) s (fun u => u = { s.advance t with dict := u.dict, lease := u.lease, net := u.net } ∧
      u.dict = ((s.advance t).storeAll 0x2008 1 l).dict)) ∧
  (∀ (t : Nat) (a : Acc) (s : State), s.mayWrite t a 0x2840 0x0D (leBytes 4 0xE57A) →
    Does (.estimReset t a) s (fun u => u = { s.advance t with estim := { s.estim with reset := true }, net := u.net })) ∧
  (∀ (t : Nat) (a : Acc) (s : State), s.mayWrite t a 0x2810 5 (leBytes 4 0x9A1D) →
    (s.nat 0x6410 1 = 0 → Does (.replanNow t a) s (fun u =>
      u = { s.advance t with disp := { s.disp with nowPending := true }, net := u.net })) ∧
    (s.nat 0x6410 1 ≠ 0 → s.isMaster = true → Does (.replanNow t a) s (fun u => u = { s.advance t with
      casc := { s.casc with nowAt := some (((s.advance t).clk.dev / 1000000000 + 1) * 1000000000) }, net := u.net }))) ∧
  (∀ (t : Nat) (a : Acc) (s : State), s.mayWrite t a 0x2810 6 (leBytes 4 0xC01D) →
    Does (.forceCold t a) s (fun u => u = { s.advance t with disp := { s.disp with forceCold := true }, net := u.net })) ∧
  (∀ (t n : Nat) (a : Acc) (s : State), n < 65536 → s.mayWrite t a 0x2810 3 (leBytes 2 n) → s.horizonFits n = true →
    Does (.horizon t a n) s (fun u => u = { s.advance t with disp := { s.disp with coldNext := true }, dict := u.dict, net := u.net } ∧
      u.dict = ((s.advance t).store 0x2810 3 (leBytes 2 n)).dict)) ∧
  (∀ (t n : Nat) (a : Acc) (s : State), n < 256 → n ≠ 0 → 1440 % n = 0 → s.mayWrite t a 0x2810 4 (leBytes 1 n) →
    s.horizonFits (s.nat 0x2810 3) = true →
    Does (.stepLen t a n) s (fun u => u = { s.advance t with disp := { s.disp with coldNext := true }, dict := u.dict, net := u.net } ∧
      u.dict = ((s.advance t).store 0x2810 4 (leBytes 1 n)).dict))

/-- R226, R229, R230, R232, R243, R254, R255: the writes of a loop. A request takes the loop where the table of R226 lets it: to OFF from
every other state, to OPEN with `MAN` at the last output, to CLOSED bumpless, to TRACK where there is a track source, and an outer loop
whose inner loop is not CLOSED to a forced TRACK instead of OPEN or CLOSED; a loop that leaves OFF has passed admission and has the slot it
gave. A live parameter is stored; a coefficient-class parameter is stored, with the slots that admission gives and the table of the
repetitive controller cleared or kept. Where the manual leaves it open, as log entries 30, 31 and 33 of the model say. -/
def Obligations.LoopWrites : Prop :=
  (∀ (t n : Nat) (a : Acc) (s : State), n < 1024 → s.mayWrite t a (0x3000 + n) 0x0D [0] → (s.coef n).reqLogic = false →
    (s.loop n).state ≠ .off →
    Does (.modeReqOff t a n) s (fun u => u = { s.advance t with ctrl := u.ctrl, net := u.net } ∧
      (u.loop n).state = .off ∧ (u.loop n).req = 0 ∧ (u.loop n).holdCause = 0)) ∧
  (∀ (t n : Nat) (a : Acc) (s : State), n < 1024 → s.mayWrite t a (0x3000 + n) 0x0D [1] → (s.coef n).reqLogic = false →
    s.holding = false →
    ((s.loop n).state = .closed ∨ (s.loop n).state = .track ∨ (s.loop n).state = .hold ∧ (s.advance t).holdFree n = true) →
    Does (.modeReqOpen t a n) s (fun u => u = { s.advance t with ctrl := u.ctrl, dict := u.dict, net := u.net } ∧
      u.loop n = { s.loop n with state := if s.innerOpen n then .track else .opened, holdCause := 0, forced := s.innerOpen n,
                                 firstClose := false, req := 1 } ∧
      u.dict = ((s.advance t).setMan n (s.loop n).uPrev).dict)) ∧
  (∀ (t n : Nat) (a : Acc) (s : State), n < 1024 → s.mayWrite t a (0x3000 + n) 0x0D [2] → (s.coef n).reqLogic = false →
    s.holding = false →
    ((s.loop n).state = .opened ∨ (s.loop n).state = .track ∧ (s.loop n).forced = false ∨
      (s.loop n).state = .hold ∧ (s.advance t).holdFree n = true) →
    Does (.modeReqClosed t a n) s (fun u => u = { s.advance t with ctrl := u.ctrl, net := u.net } ∧
      u.loop n = { s.loop n with state := if s.innerOpen n then .track else .closed, holdCause := 0, forced := s.innerOpen n,
                                 firstClose := !s.innerOpen n, uHeld := (s.loop n).uPrev, req := 2 })) ∧
  (∀ (t n : Nat) (a : Acc) (s : State), n < 1024 → s.mayWrite t a (0x3000 + n) 0x0D [3] → (s.coef n).reqLogic = false →
    s.holding = false → s.hasTrack n = true → ((s.loop n).state = .opened ∨ (s.loop n).state = .closed) →
    Does (.modeReqTrack t a n) s (fun u => u = { s.advance t with ctrl := u.ctrl, net := u.net } ∧
      (u.loop n).state = .track ∧ (u.loop n).req = 3 ∧ (u.loop n).uPrev = (s.loop n).uPrev)) ∧
  (∀ (t n r q : Nat) (a : Acc) (s : State), n < 1024 → 1 ≤ r → r ≤ 3 → s.mayWrite t a (0x3000 + n) 0x0D [r] →
    (s.coef n).reqLogic = false → s.holding = false → (s.loop n).state = .off → (r = 3 → s.hasTrack n = true) →
    (s.advance t).destHeld n (s.src n 5) = false → (s.advance t).cascadeOk n = true → (s.advance t).innerUp n = true →
    (s.advance t).mirrorFull = false →
    ((s.repCfg n).enable = true → (s.advance t).repLoadOk n true = true) → (s.advance t).slotFromOff n = some q →
    Does (if r = 1 then .modeReqOpen t a n else if r = 2 then .modeReqClosed t a n else .modeReqTrack t a n) s (fun u =>
      u = { s.advance t with ctrl := u.ctrl, net := u.net } ∧ (u.loop n).state = (if s.innerOpen n then .track else LoopState.ofReq r) ∧
      (u.loop n).req = r ∧
      (u.loop n).slot = some q ∧ (u.loop n).acc = 0 ∧ (u.loop n).d = 0 ∧ (u.loop n).uPrev = s.num (0x3000 + n) 9)) ∧
  (∀ (t n sub : Nat) (v : Octets) (a : Acc) (s s1 s2 : State), n < 1024 → (1 ≤ sub ∧ sub ≤ 6 ∨ sub = 0x0C) →
    s.mayWrite t a (0x3000 + n) sub v → (s.advance t).coefValueOk n sub v = true → (s.loop n).coefOpen = true →
    (sub = 5 → (s.advance t).newDestHeld n v = false) → s1 = (s.advance t).store (0x3000 + n) sub v →
    (sub = 1 ∨ sub = 6 → s2 = s1) →
    (2 ≤ sub ∧ sub ≤ 4 → s.isOuter n = true → s2 = s1) → (2 ≤ sub ∧ sub ≤ 4 → s.isOuter n = false → s1.readmit n = some s2) →
    (sub = 5 → s1.readmit n = some s2) →
    (sub = 0x0C → (s1.readmit n).bind (fun x => x.readmitFormer (s.outerOf n)) = some s2) →
    Does (.coefClassWrite t a n sub v) s (fun u => u = { s.advance t with ctrl := u.ctrl, dict := s1.dict, net := u.net } ∧
      (u.loop n).slot = (s2.loop n).slot ∧ (u.loop n).state = (s.loop n).state ∧
      (sub = 1 ∧ leNat v ≠ s.nat (0x3000 + n) 1 → (u.loop n).acc = 0 ∧ (u.loop n).d = 0) ∧
      (2 ≤ sub ∧ sub ≤ 4 → (u.loop n).rep = (s.loop n).rep.clear))) ∧
  (∀ (t n sub : Nat) (v : Octets) (a : Acc) (s : State), n < 1024 → 7 ≤ sub → sub ≤ 0x0B → s.mayWrite t a (0x3000 + n) sub v →
    (sub = 7 → limitsOk v = true) →
    Does (.loopLiveWrite t a n sub v) s (fun u => s.holdsValue t (0x3000 + n) sub v u)) ∧
  (∀ (t n : Nat) (a : Acc) (s : State), n < 1024 → s.mayWrite t a (0x3400 + n) 9 [1] →
    Does (.loopClearSticky t a n) s (fun u => u = { s.advance t with ctrl := u.ctrl, net := u.net } ∧
      u.loop n = { s.loop n with admitRej := false, reqRej := false, coefRej := false, satAtClose := false,
                                 rep := { (s.loop n).rep with kept := false, poisonFlag := false, lateFlag := false } } ∧
      ∀ m, m ≠ n → u.loop m = s.loop m)) ∧
  (∀ (t n : Nat) (a : Acc) (s : State), n < 1024 → s.mayWrite t a (0x3800 + n) 2 [1] →
    Does (.repClear t a n) s (fun u => u = { s.advance t with ctrl := u.ctrl, net := u.net } ∧
      u.loop n = { s.loop n with rep := (s.loop n).rep.clear } ∧ ∀ m, m ≠ n → u.loop m = s.loop m)) ∧
  (∀ (t n : Nat) (v : Octets) (a : Acc) (s : State), n < 1024 → s.mayWrite t a (0x3800 + n) 1 v → (repCfg v).ok v = true →
    (s.loop n).coefOpen = true →
    ((repCfg v).enable = false ∨ (s.repCfg n).enable = true ∨ (s.loop n).state = .off ∨ (s.advance t).repLoadOk n true = true) →
    Does (.repConfig t a n v) s (fun u => u = { s.advance t with ctrl := u.ctrl, dict := u.dict, net := u.net } ∧
      u.dict = ((s.advance t).store (0x3800 + n) 1 v).dict ∧
      ((repCfg v).p ≠ (s.repCfg n).p ∨ (repCfg v).offset ≠ (s.repCfg n).offset → (u.loop n).rep = (s.loop n).rep.clear))) ∧
  (∀ (t n : Nat) (v : Octets) (a : Acc) (s : State), n < 1024 → s.mayWrite t a (0x3800 + n) 5 v → v.length = 2 * (s.repCfg n).p →
    (s.loop n).coefOpen = true →
    Does (.repTable t a n v) s (fun u => u = { s.advance t with ctrl := u.ctrl, net := u.net } ∧
      (u.loop n).rep.table = tableOf v 0 (s.repCfg n).p ∧ (u.loop n).rep.poison = [] ∧ (u.loop n).state = (s.loop n).state))

/-- R259, R260, R261, R263, R267: the writes of the trace probes. A configuration is stored where the probe is not active; every probe an
arming names is ARMED and forgets what it was; a trigger acts on ARMED probes alone; an abort ends an active capture, and marks one that is
DONE as late; the flags are cleared. -/
def Obligations.ProbeWrites : Prop :=
  (∀ (t p : Nat) (v : Octets) (a : Acc) (s : State), p < 32 → s.mayWrite t a (0x3C00 + p) 1 v → (probeCfg v).ok v = true →
    (s.probe p).active = false → Does (.probeConfig t a p v) s (fun u => s.holdsValue t (0x3C00 + p) 1 v u)) ∧
  (∀ (t mask : Nat) (a : Acc) (s : State), mask < 4294967296 → s.mayWrite t a 0x3C80 1 (leBytes 4 mask) →
    (∀ p, p < 32 → bitOf mask p = true → (s.probe p).active = false ∧
      ((s.advance t).atOwner a 0x3C80 1 (leBytes 4 mask)).traceReadOpen p = false) →
    Does (.armProbes t a mask) s (fun u => u = { s.advance t with ctrl := u.ctrl, net := u.net } ∧
      ∀ p, p < 32 → (bitOf mask p = false → u.probe p = s.probe p) ∧
        (bitOf mask p = true → (u.probe p).state = 1 ∧ (u.probe p).late = (s.probe p).late ∧
          (u.probe p).loopOff = decide ((s.loop (s.probeCfg p).loop).state = .off)))) ∧
  (∀ (t mask : Nat) (a : Acc) (s : State), mask < 4294967296 → s.mayWrite t a 0x3C80 2 (leBytes 4 mask) →
    (∀ p, p < 32 → bitOf mask p = true → (s.probe p).state ≠ 1) →
    Does (.triggerNow t a mask) s (fun u => u = { s.advance t with net := u.net })) ∧
  (∀ (t p : Nat) (a : Acc) (s : State), p < 32 → s.mayWrite t a 0x3C80 2 (leBytes 4 (2 ^ p)) → (s.probe p).state = 1 →
    Does (.triggerNow t a (2 ^ p)) s (fun u => (u.probe p).trigTime = slotEnd (s.advance t).clk.dev ∧ (u.probe p).state = 2)) ∧
  (∀ (t mask : Nat) (a : Acc) (s : State), mask < 4294967296 → s.mayWrite t a 0x3C80 3 (leBytes 4 mask) →
    Does (.traceAbort t a mask) s (fun u => u = { s.advance t with ctrl := u.ctrl, net := u.net } ∧
      ∀ p, p < 32 → (bitOf mask p = false → u.probe p = s.probe p) ∧
        (bitOf mask p = true → (s.probe p).active = true → (u.probe p).state = 4) ∧
        (bitOf mask p = true → (s.probe p).active = false → (s.probe p).state = 3 →
          u.probe p = { s.probe p with late := true }))) ∧
  (∀ (t mask : Nat) (a : Acc) (s : State), mask < 4294967296 → s.mayWrite t a 0x3C80 5 (leBytes 4 mask) →
    Does (.clearFlags t a mask) s (fun u => u = { s.advance t with ctrl := u.ctrl, net := u.net } ∧
      ∀ p, p < 32 → u.probe p = if bitOf mask p then { s.probe p with late := false } else s.probe p))

/-- R328, R344, R345, R346, R350: the writes of the logic engine. A stop ends the program once the running cycle has made its commit: at
once until the moment the next cycle starts, after that cycle from then on; a warm start keeps the K area and the RETAIN words, a cold start
takes the image's initial values; an activation takes up a valid staged image; a fault is reset from HALT to STOP; a change set and a K word
wait for the next gap in RUN and act at once otherwise, and so do forces. Where the manual leaves it open, as log entries 40, 43, 121 and
123 of the model say. -/
def Obligations.LogicWrites : Prop :=
  (∀ (t : Nat) (a : Acc) (s : State), s.mayWrite t a 0x5000 2 [1] → s.logic.prog = .run → s.acts = true →
    s.logic.nextStart ≤ (s.advance t).now →
    Does (.stopProgram t a) s (fun u =>
      u = { s.advance t with logic := { s.logic with stopReq := true, lastCmd := 1 }, net := u.net })) ∧
  (∀ (t : Nat) (a : Acc) (s : State), s.mayWrite t a 0x5000 2 [1] → s.logic.prog = .run →
    ((s.advance t).now < s.logic.nextStart ∨ s.acts = false) →
    Does (.stopProgram t a) s (fun u => u.logic.prog = .stop ∧ u.logic.lastCmd = 1 ∧ u.logic.stopReq = false ∧
      ((s.logic.loaded.map (·.stopClear)).getD false = false →
        u = { s.advance t with logic := { s.logic with prog := .stop, stopReq := false, lastCmd := 1 }, net := u.net }))) ∧
  (∀ (t : Nat) (p : Program) (a : Acc) (s : State), s.mayWrite t a 0x5000 2 [2] → s.logic.prog = .stop → s.logic.loaded = some p →
    s.logic.stage.status ≠ 3 → p.retainHash = s.logic.dataHash → Tab.wf 0 s.logic.m = true →
    Does (.startWarm t a) s (fun u => u = { s.advance t with logic := u.logic, net := u.net } ∧
      u.logic.prog = .run ∧ u.logic.lastCmd = 2 ∧ u.logic.firstWarm = true ∧ u.logic.firstCold = false ∧ u.logic.k = s.logic.k ∧
      u.logic.t = [] ∧ u.logic.lastRestart = 2 ∧
      ∀ w, Tab.get 0 u.logic.m w = if p.retain.contains w then Tab.get 0 s.logic.m w else Tab.get 0 p.mInit w)) ∧
  (∀ (t : Nat) (p : Program) (a : Acc) (s : State), s.mayWrite t a 0x5000 2 [3] → s.logic.prog = .stop → s.logic.loaded = some p →
    s.logic.stage.status ≠ 3 →
    Does (.startCold t a) s (fun u => u = { s.advance t with logic := u.logic, net := u.net } ∧
      u.logic.prog = .run ∧ u.logic.lastCmd = 3 ∧ u.logic.firstCold = true ∧ u.logic.firstWarm = false ∧ u.logic.m = p.mInit ∧
      u.logic.k = p.kInit ∧ u.logic.c = [] ∧ u.logic.t = [] ∧ u.logic.q = [] ∧ u.logic.forces = [] ∧ u.logic.lastRestart = 1)) ∧
  (∀ (t : Nat) (a : Acc) (s : State), s.mayWrite t a 0x5000 2 [4] → s.logic.stage.status = 1 →
    (s.logic.prog = .empty ∨ s.logic.prog = .stop) →
    ((s.advance t).atOwner a 0x5000 2 [4]).stagingOpen 0x5000 3 = false →
    Does (.progActivate t a) s (fun u => ∃ n, (n = 3 ∨ n = 4) ∧ u = { s.advance t with
      logic := { s.logic with lastCmd := 4, stage := { s.logic.stage with status := n } }, net := u.net } ∧
      (n = 3 ↔ crc32c (s.logic.stage.image.take (s.logic.stage.image.length - 4)) =
        u32At s.logic.stage.image (s.logic.stage.image.length - 4)))) ∧
  (∀ (t : Nat) (a : Acc) (s : State), s.mayWrite t a 0x5000 2 [5] → s.logic.prog = .halt →
    Does (.resetFault t a) s (fun u => u.logic = { s.logic with prog := .stop, lastCmd := 5 } ∧ bitOf u.dev.hold 5 = false ∧
      u.dev.state = s.dev.state)) ∧
  (∀ (t : Nat) (v : Octets) (a : Acc) (s : State), s.mayWrite t a 0x5010 1 v → v.length = 4 + 8 * u16At v 0 → u16At v 0 ≠ 0 →
    u16At v 0 ≤ 64 → u16At v 2 = 0 → (changesOf (v.drop 4) (u16At v 0)).all Change.ok = true → s.logic.change = none →
    (s.logic.prog = .run → Does (.changeSet t a v) s (fun u => u = { s.advance t with
      logic := { s.logic with change := some (changesOf (v.drop 4) (u16At v 0)) }, net := u.net })) ∧
    (s.logic.prog ≠ .run → Does (.changeSet t a v) s (fun u =>
      u = { s.advance t with logic := u.logic, lease := u.lease, net := u.net } ∧
      u.logic = s.logic.applyChange (changesOf (v.drop 4) (u16At v 0)) ∧
      u.logic.changeNo = (s.logic.changeNo + 1) % 4294967296))) ∧
  (∀ (t w v : Nat) (a : Acc) (s : State), w < 16384 → v < 4294967296 →
    s.mayWrite t a (0x5100 + w / 64) (w % 64 + 1) (leBytes 4 v) → s.logic.change = none →
    (s.logic.prog = .run → Does (.kWord t a w v) s (fun u => u = { s.advance t with logic := u.logic, net := u.net } ∧
      u.logic.change = some [{ opd := { area := 4, type := 1, indexed := false, index := w }, value := v }] ∧
      u.logic.k = s.logic.k)) ∧
    (s.logic.prog ≠ .run → Does (.kWord t a w v) s (fun u =>
      u = { s.advance t with logic := u.logic, lease := u.lease, net := u.net } ∧
      Tab.get 0 u.logic.k w = (BitVec.ofNat 32 v).toInt ∧ (∀ x, x ≠ w → Tab.get 0 u.logic.k x = Tab.get 0 s.logic.k x) ∧
      u.logic.m = s.logic.m ∧ u.logic.changeNo = (s.logic.changeNo + 1) % 4294967296))) ∧
  (∀ (t n v : Nat) (d : Opd) (a : Acc) (s : State), n < 4294967296 → v < 4294967296 →
    s.mayWrite t a 0x5200 1 (leBytes 4 n ++ leBytes 4 v) → d = Opd.ofWord (BitVec.ofNat 32 n) →
    d.plainIn [1, 2, 3] [0, 1] = true → (d.type = 0 → v ≤ 1) →
    s.logic.forcesSoon.any (fun f => decide (f.area = d.area) && decide (f.word = d.element.1) &&
      (f.bit.isSome != d.element.2.isSome)) = false →
    (s.logic.forcesSoon.length < 256 ∨ s.logic.forcesSoon.any (fun f => f.same d.area d.element.1 d.element.2) = true) →
    (s.logic.prog = .run → Does (.forceSet t a n v) s (fun u => u = { s.advance t with logic := u.logic, net := u.net } ∧
      u.logic.forces = s.logic.forces ∧ u.logic.forceOps = s.logic.forceOps ++
        [.set { area := d.area, word := d.element.1, bit := d.element.2, value := BitVec.ofNat 32 v }])) ∧
    (s.logic.prog ≠ .run → Does (.forceSet t a n v) s (fun u =>
      u = { s.advance t with logic := u.logic, lease := u.lease, net := u.net } ∧ u.logic.forceOps = [] ∧
      { area := d.area, word := d.element.1, bit := d.element.2, value := BitVec.ofNat 32 v } ∈ u.logic.forces))) ∧
  (∀ (t n : Nat) (d : Opd) (a : Acc) (s : State), n < 4294967295 → s.mayWrite t a 0x5200 2 (leBytes 4 n) →
    d = Opd.ofWord (BitVec.ofNat 32 n) →
    (s.logic.prog = .run → Does (.forceRelease t a n) s (fun u => u = { s.advance t with logic := u.logic, net := u.net } ∧
      u.logic.forces = s.logic.forces ∧ u.logic.forceOps = s.logic.forceOps ++ [.release d.area d.element.1 d.element.2])) ∧
    (s.logic.prog ≠ .run → Does (.forceRelease t a n) s (fun u =>
      u = { s.advance t with logic := u.logic, lease := u.lease, net := u.net } ∧ u.logic.forceOps = [] ∧
      ∀ f, f ∈ u.logic.forces → f.same d.area d.element.1 d.element.2 = false))) ∧
  (∀ (t : Nat) (a : Acc) (s : State), s.mayWrite t a 0x5200 2 (leBytes 4 0xFFFFFFFF) →
    (s.logic.prog = .run → Does (.forceReleaseAll t a) s (fun u => u = { s.advance t with logic := u.logic, net := u.net } ∧
      u.logic.forces = s.logic.forces ∧ u.logic.forceOps = s.logic.forceOps ++ [.releaseAll])) ∧
    (s.logic.prog ≠ .run → Does (.forceReleaseAll t a) s (fun u =>
      u = { s.advance t with logic := u.logic, lease := u.lease, net := u.net } ∧ u.logic.forceOps = [] ∧ u.logic.forces = [])))

/-- R278, R284, R286, R288, R289, R290, R304, R305, R306, R311, R314: the writes of metering, of the pulse inputs, of the channels and of
the core samples. A waveform capture is armed or triggered; a clear of a connection point waits for its window, or acts at once where it has
none; a configuration is stored, and in force at once where there is no window to wait for; a calibration is queued, given up or its marks
cleared; a pulse input and a channel are cleared; a core sample is requested at the next edge, at a time, over the cascade, or cancelled.
Where the manual leaves it open, as log entries 63, 64, 109 and 110 of the model say. -/
def Obligations.MeterWrites : Prop :=
  (∀ (t c : Nat) (a : Acc) (s : State), c < 4 → s.metr.wave.state ≠ 1 → s.metr.wave.state ≠ 2 →
    (s.mayWrite t a 0x4880 3 (leBytes 1 c) → ((s.advance t).atOwner a 0x4880 3 (leBytes 1 c)).readOpen 0x4880 5 false = false →
      Does (.waveArm t a c) s (fun u => u = { s.advance t with metr := { s.metr with wave := { state := 1, cp := c } }, net := u.net })) ∧
    (s.mayWrite t a 0x4880 3 (leBytes 1 (16 + c)) →
      ((s.advance t).atOwner a 0x4880 3 (leBytes 1 (16 + c))).readOpen 0x4880 5 false = false →
      Does (.waveTrigger t a c) s (fun u => u = { s.advance t with
        metr := { s.metr with wave := { state := 2, cp := c, time := (s.advance t).clk.dev } }, net := u.net }))) ∧
  (∀ (t c : Nat) (a : Acc) (s : State), c < 4 → s.mayWrite t a (0x4810 + c) 0x1E (leBytes 4 0xC1EA) →
    (cfgPhases (s.cp c).cfg ≠ 0 → Does (.energyClear t a c) s (fun u => u = { s.advance t with metr := u.metr, net := u.net } ∧
      u.cp c = { s.cp c with clearPending := true } ∧ u.metr.regs = s.metr.regs)) ∧
    (cfgPhases (s.cp c).cfg = 0 → Does (.energyClear t a c) s (fun u =>
      (∀ k, k < 28 → Tab.get 0 u.metr.regs (28 * c + k) = 0) ∧ (u.cp c).clearCount = ((s.cp c).clearCount + 1) % 4294967296 ∧
      (u.cp c).clearTime = (s.advance t).clk.dev ∧ (u.cp c).clearPending = false))) ∧
  (∀ (t c sub : Nat) (v : Octets) (a : Acc) (s : State), c < 4 → 1 ≤ sub → sub ≤ 0x0B → s.mayWrite t a (0x4800 + c) sub v →
    (sub = 1 → leNat v < 16) → (sub = 2 → leNat v = 50 ∨ leNat v = 60) → (sub = 5 → v.length = 27 ∧ vScaleOk v = true) →
    (6 ≤ sub ∧ sub ≤ 9 → v.length = 108 ∧ iInputOk v = true) → (sub = 10 → v.length = 8 ∧ threshOk v = true) →
    Does (.cpConfigWrite t a c sub v) s (fun u => u = { s.advance t with dict := u.dict, metr := u.metr, net := u.net } ∧
      ((sub < 5 ∨ 9 < sub) → u.dict = ((s.advance t).store (0x4800 + c) sub v).dict) ∧
      (sub = 5 → u.dict = ((s.advance t).store (0x4800 + c) 5 (ratioNorm (ratioNorm (ratioNorm v 0) 9) 18)).dict) ∧
      (6 ≤ sub ∧ sub ≤ 9 → u.dict = ((s.advance t).store (0x4800 + c) sub (ratioNorm v 4)).dict) ∧
      (cfgPhases (s.cp c).cfg ≠ 0 → u.metr = s.metr) ∧
      (cfgPhases (s.cp c).cfg = 0 → sub ≤ 10 → (u.cp c).cfg = u.cpStored c))) ∧
  (∀ (t j : Nat) (v : Octets) (a : Acc) (s : State), j < 8 → s.mayWrite t a 0x4820 (j + 1) v → v.length = 8 → poCfgOk v = true →
    Does (.poConfig t a j v) s (fun u => u = { s.advance t with dict := u.dict, metr := u.metr, net := u.net } ∧
      u.dict = ((s.advance t).store 0x4820 (j + 1) v).dict ∧
      (cfgPhases (s.cp (u8At v 0)).cfg ≠ 0 → u.metr = s.metr) ∧
      (cfgPhases (s.cp (u8At v 0)).cfg = 0 → (s.po j).on = false → (u.po j).cfg = v))) ∧
  (∀ (t c k : Nat) (a : Acc) (s : State), c < 4 → k ≤ 7 → s.mayWrite t a (0x4800 + c) 0x30 (leBytes 1 k) → s.modulatorsGone = false →
    (k < 7 → s.metr.calQueue.length < 30 → Does (.calRequest t a c k) s (fun u => u = { s.advance t with
      metr := { s.metr with calQueue := s.metr.calQueue ++ [7 * c + k] }, net := u.net })) ∧
    (k = 7 → s.metr.calQueue.length ≤ 23 → Does (.calRequest t a c k) s (fun u => u = { s.advance t with
      metr := { s.metr with calQueue := s.metr.calQueue ++
        [7 * c, 7 * c + 1, 7 * c + 2, 7 * c + 3, 7 * c + 4, 7 * c + 5, 7 * c + 6] }, net := u.net }))) ∧
  (∀ (t c k : Nat) (a : Acc) (s : State), c < 4 → k < 7 → s.mayWrite t a (0x4800 + c) 0x31 (leBytes 1 k) →
    (∀ r, s.metr.cal = some r → r.input = 7 * c + k → Does (.calAbort t a c k) s (fun u =>
      u.metr.cal = none ∧ (u.calSt (7 * c + k)).outcome = 2 ∧ u.modOf (7 * c + k) = r.old)) ∧
    (s.metr.cal = none → s.metr.calQueue.contains (7 * c + k) = true → Does (.calAbort t a c k) s (fun u =>
      u = { s.advance t with metr := u.metr, net := u.net } ∧ u.metr.calQueue = s.metr.calQueue.erase (7 * c + k) ∧
      u.calSt (7 * c + k) = { s.calSt (7 * c + k) with outcome := 2 })) ∧
    (s.metr.cal = none → s.metr.calQueue.contains (7 * c + k) = false → (s.calSt (7 * c + k)).outcome = 1 →
      Does (.calAbort t a c k) s (fun u => u = { s.advance t with metr := u.metr, net := u.net } ∧
        u.calSt (7 * c + k) = { s.calSt (7 * c + k) with late := true }))) ∧
  (∀ (t c : Nat) (a : Acc) (s : State), c < 4 → s.mayWrite t a (0x4800 + c) 0x33 [1] →
    Does (.cpCalClear t a c) s (fun u => u = { s.advance t with metr := u.metr, net := u.net } ∧
      ∀ k, k < 7 → u.calSt (7 * c + k) = { s.calSt (7 * c + k) with late := false })) ∧
  (∀ (t i m d o : Nat) (a : Acc) (s : State), i < 32 → s.mayWrite t a (0x4830 + i) 1 [m, d, o, 0] → m ≤ 3 → 1 ≤ d → d ≤ 50 → o ≤ 7 →
    (bitOf o 1 = true → i % 2 = 0 ∧ s.piMode (i + 1) = 3) →
    Does (.piConfig t a i [m, d, o, 0]) s (fun u => u = { s.advance t with dict := u.dict, heat := u.heat, net := u.net } ∧
      u.dict = ((s.advance t).store (0x4830 + i) 1 [m, d, o, 0]).dict ∧ (u.pulse i).first = true ∧
      (u.pulse i).count = (s.pulse i).count ∧ (m = 0 → (u.pulse i).level = false))) ∧
  (∀ (t i : Nat) (a : Acc) (s : State), i < 32 → s.mayWrite t a (0x4830 + i) 4 (leBytes 4 0xC1EA) →
    Does (.piClear t a i) s (fun u => u.pulse i = { s.pulse i with count := 0 } ∧ ∀ j, j ≠ i → u.pulse j = s.pulse j)) ∧
  (∀ (t c : Nat) (a : Acc) (s : State), c < 512 → s.mayWrite t a (0x4200 + c) 6 (leBytes 4 0xC1EA) →
    Does (.chClear t a c) s (fun u => u.chan c = { s.chan c with regs := {} } ∧ ∀ j, j ≠ c → u.chan j = s.chan j)) ∧
  (∀ (t : Nat) (a : Acc) (s : State), s.mayWrite t a 0x48F0 1 [1] →
    (∀ l, s.heat.cs.lastLatch = some l → l + 5000000 ≤ (s.advance t).clk.dev) →
    Does (.csNow t a) s (fun u => u = { s.advance t with heat := u.heat, net := u.net } ∧
      u.heat.cs.reqs = s.heat.cs.reqs ++ [{ time := ((s.advance t).clk.dev / 8 + 1) * 8, cause := 1, cascade := 0 }])) ∧
  (∀ (t time : Nat) (a : Acc) (s : State), time ≠ 0 → time < 18446744073709551616 → s.mayWrite t a 0x48F0 2 (leBytes 8 time) →
    s.csPending = none → (s.advance t).clk.dev + 10000000 ≤ time →
    s.heat.cs.reqs.any (fun r => near5 r.time time && decide (r.time ≠ time)) = false → (s.advance t).boundaryNear time = false →
    (s.nat 0x48F0 3 ≠ 1 → Does (.csAt t a time) s (fun u => u = { s.advance t with heat := u.heat, net := u.net } ∧
      u.heat.cs.reqs = s.heat.cs.reqs ++ [{ time := time, cause := 2, cascade := 0 }])) ∧
    (s.nat 0x48F0 3 = 1 → s.pos = 0 → Does (.csAt t a time) s (fun u =>
      u.heat.cs.cascadeNo = (s.heat.cs.cascadeNo + 1) % 4294967296 ∧
      u.heat.cs.reqs = s.heat.cs.reqs ++ [{ time := time, cause := 8, cascade := (s.heat.cs.cascadeNo + 1) % 4294967296 }]))) ∧
  (∀ (t : Nat) (a : Acc) (s : State), s.mayWrite t a 0x48F0 2 (leBytes 8 0) →
    Does (.csAtCancel t a) s (fun u => u = { s.advance t with heat := u.heat, net := u.net } ∧
      u.heat.cs.reqs = s.heat.cs.reqs.filter (fun r => !(bitOf r.cause 1 || bitOf r.cause 3))))

/-- R358, R361, R365, R366, R369, R373, R374, R375, R381, R383, R385, R389, R395, R396: the writes of the CAN ports, of the sessions and of
the key slots. An enabled port with good timing integrates with its error counters at 0; a disabled one is off with nothing in its buffers;
an application frame is loaded into its free buffer; a pending buffer that is cancelled is ABORTED; filters are stored; the spare controller
begins a takeover; a killed session's context is free; a key is taken out of its wrapping into its slot; an erased slot is empty. These hold
on every path. Where the manual leaves it open, as log entries 8, 128, 130 and 132 of the model say. -/
def Obligations.PortAndKeyWrites : Prop :=
  (∀ (t p : Nat) (a : Acc) (s : State), p < 8 → s.mayWrite t a (0x1200 + p) 1 [1] → s.timingOk p = true → (s.port p).lostCtl = false →
    (s.port p).state = .off → (s.port p).err = 0 →
    Does (.portEnable t a p) s (fun u => u = { s.advance t with dict := u.dict, net := u.net } ∧
      u.dict = ((s.advance t).store (0x1200 + p) 1 [1]).dict ∧ (u.port p).state = .integrating ∧ (u.port p).tecErr = 0 ∧
      (u.port p).recErr = 0 ∧ (u.port p).err = 0)) ∧
  (∀ (t p : Nat) (a : Acc) (s : State), p < 8 → s.mayWrite t a (0x1200 + p) 1 [0] →
    Does (.portDisable t a p) s (fun u => u.dict = ((s.advance t).store (0x1200 + p) 1 [0]).dict ∧ (u.port p).state = .off ∧
      (u.port p).recovering = false ∧ ∀ b, b < 32 → ((u.port p).buf b).state = 0)) ∧
  (∀ (t p : Nat) (a : Acc) (s : State), p < 8 → s.mayWrite t a (0x5800 + p) 9 [1] → (s.port p).state = .busOff →
    (s.port p).busoffWait = true →
    Does (.busoffRecover t a p) s (fun u => u = { s.advance t with net := u.net } ∧ (u.port p).busoffWait = false ∧
      (u.port p).recovering = true ∧ (u.port p).state = .busOff)) ∧
  (∀ (t p b w id : Nat) (d v : Octets) (a : Acc) (s : State), p < 8 → b < 4 → w < 4294967296 →
    v = leBytes 4 w ++ leBytes 4 d.length ++ d → d.length < 256 → canLenOk (bitOf w 30) d.length = true →
    id = (if bitOf w 31 then w % 536870912 else w % 2048) →
    (bitOf w 31 = true → classOf id ≠ 1 ∧ classOf id ≠ 2 ∧ classOf id ≠ 3 ∧ classOf id ≠ 6) →
    (bitOf w 31 = false → w % 536870912 < 2048) → (bitOf w 29 = true → bitOf w 30 = true) →
    s.mayWrite t a (0x5800 + p) (0x0B + b) v → ((s.port p).buf b).state = 0 → (s.port p).state = .normal →
    Does (.appTx t a p b v) s (fun u =>
      u = { s.advance t with net := u.net } ∧ ((u.port p).buf b).submitted = ((s.port p).buf b).submitted + 1 ∧
      ((s.port p).suspended.contains id = false → ((u.port p).buf b).state = 1 ∧
        ((u.port p).buf b).frame = some { ext := bitOf w 31, fd := bitOf w 30, brs := bitOf w 29, id := id, data := d }) ∧
      ((s.port p).suspended.contains id = true → ((u.port p).buf b).state = 0 ∧ ((u.port p).buf b).outcome = 2))) ∧
  (∀ (t p mask : Nat) (a : Acc) (s : State), p < 8 → mask < 256 → s.mayWrite t a (0x5800 + p) 0x0F (leBytes 1 mask) →
    Does (.appCancel t a p mask) s (fun u => u = { s.advance t with net := u.net } ∧
      ∀ b, b < 4 → bitOf mask b = true →
        (((s.port p).buf b).state = 1 → ((u.port p).buf b).outcome = 2) ∧
        (((s.port p).buf b).state = 2 → ((u.port p).buf b).state = 2 ∧ ((u.port p).buf b).cancel = true))) ∧
  (∀ (t p : Nat) (a : Acc) (s : State), p < 8 → s.mayWrite t a (0x5800 + p) 8 [1] →
    Does (.dupClear t a p) s (fun u => u = { s.advance t with net := u.net } ∧ (u.port p).suspended = [] ∧
      (u.port p).dupRecSusp = false)) ∧
  (∀ (t p : Nat) (a : Acc) (s : State), p < 8 → s.mayWrite t a (0x5800 + p) 0x0A [1] →
    Does (.portClearSticky t a p) s (fun u => u = { s.advance t with net := u.net } ∧ (u.port p).takeoverGap = false ∧
      (u.port p).dupId = false ∧ (u.port p).overrunA = false ∧ (u.port p).overrunB = false ∧ (u.port p).protoExc = false ∧
      ∀ b, b < 4 → ((u.port p).buf b).late = false)) ∧
  (∀ (t p k : Nat) (v : Octets) (a : Acc) (s : State), p < 8 → k < 64 → s.mayWrite t a (0x5840 + p) (k + 1) v → filterOk v = true →
    Does (.filterWrite t a p k v) s (fun u =>
      s.holdsValue t (0x5840 + p) 0x41 (patch (s.oct (0x5840 + p) 0x41) (12 * k) v) u)) ∧
  (∀ (t p : Nat) (v : Octets) (a : Acc) (s : State), p < 8 → s.mayWrite t a (0x5840 + p) 0x41 v → filtersOk v 64 = true →
    Does (.filterAll t a p v) s (fun u => s.holdsValue t (0x5840 + p) 0x41 v u)) ∧
  (∀ (t p : Nat) (a : Acc) (s : State), p < 8 → s.mayWrite t a 0x1208 2 (leBytes 1 p) → s.dev.state = .service → s.spareFree = true →
    Does (.spareRequest t a p) s (fun u => u.net.sparePort = some p ∧ (u.port p).takeover = some (s.advance t).clk.dev ∧
      (u.port p).takeoverGap = true)) ∧
  (∀ (t n : Nat) (a : Acc) (s : State), n < 256 → s.mayWrite t a (0x1400 + n) 0x0B (leBytes 4 0xC105) →
    Does (.sessionKill t a n) s (fun u => (u.session n).state = .free ∧ (u.session n).key = [] ∧ u.net.keys = s.net.keys)) ∧
  (∀ (t k : Nat) (v : Octets) (a : Acc) (s : State), k < 64 → s.mayWrite t a (0x1800 + k) 1 v → v.length = 48 →
    Does (.keyWrapped t a k v) s (fun u =>
      (∀ x, keyOf k v = some x → Tab.get none u.net.keys k = some x) ∧ (keyOf k v = none → u.net.keys = s.net.keys) ∧
      ∀ j, j ≠ k → Tab.get none u.net.keys j = Tab.get none s.net.keys j)) ∧
  (∀ (t k : Nat) (a : Acc) (s : State), k < 64 → s.mayWrite t a (0x1800 + k) 2 (leBytes 4 0xE2A5) →
    Does (.keyErase t a k) s (fun u => Tab.get none u.net.keys k = none ∧
      ∀ j, j ≠ k → Tab.get none u.net.keys j = Tab.get none s.net.keys j))

/-- The block is a queue of commands: a step takes the command at the front and runs it on the state with the rest of the queue; on an empty
queue the dictionary server serves the oldest request it sees, or nothing happens (the model's choice, log entry 1). -/
def Obligations.StepRunsTheFrontCommand : Prop :=
  (∀ (c : Instr) (r : List Instr) (s : State), s.pending = c :: r → step s = exec c { s with pending := r }) ∧
  (∀ s : State, s.pending = [] → ∃ u, step s = .next u ∧ u.pending = [] ∧ u.clk.raw = s.clk.raw ∧
    (s.frontQ .request = none → u = s) ∧ (∀ r, s.frontQ .request = some (.req r, false) →
      u = { ((s.popQ .request).serveReq r) with pending := [], clk := u.clk }))

/-- No command is refused, and a command stops with a fault only where it names a unit or an entry that does not exist; every other one
completes, whatever the state. A completed command leaves the queue of waiting commands as it is, and raw time does not run back. -/
def Obligations.EveryCommandCompletes : Prop :=
  ∀ (c : Instr) (s : State),
    (c.unitsOk = true → Does c s (fun u => u.pending = s.pending ∧ s.clk.raw ≤ u.clk.raw)) ∧
    (c.unitsOk = false → exec c s = .fault .noSuchUnit)

/-- Every step keeps a safe state safe: from any state, reached or not, in which the waiting commands name what exists, the step answers a
next state; the queue is worked off by one command, what waits still names what exists, and raw time has not run back. -/
def Obligations.StepKeepsSafe : Prop :=
  ∀ (n : Nat) (s : State), s.safe n → ∃ u, step s = .next u ∧ u.safe n ∧ u.pending = s.pending.tail ∧ s.clk.raw ≤ u.clk.raw

/-- The state after reset is safe: no command waits. The device is in BOOT, the log is empty, no key is loaded, no session is open, no
program and no model image is loaded, and every port is off. Where the manual leaves it open, as log entry 2 of the model says. -/
def Obligations.ResetIsSafe : Prop :=
  State.reset.safe 0 ∧ State.reset.pending = [] ∧ State.reset.dev.state = .boot ∧ State.reset.ledger.count = 0 ∧
  State.reset.logic.loaded = none ∧ State.reset.model.active = none ∧
  (∀ k, Tab.get none State.reset.net.keys k = none) ∧ (∀ n, (State.reset.session n).state = .free) ∧
  (∀ p, (State.reset.port p).state = .off) ∧ (∀ n, (State.reset.loop n).state = .off)

/-- R569: the identification register. IDCODE shifts out 32 bits, least significant first: bit 0 is 1, `MANUFACTURER` is 0x2D5, `PART` is
0x5120 and `VERSION` is bits [11:8] of `STEPPING`, the entry `0x1000.03`; stepping 1.x reads 0x1512_05AB. -/
def Obligations.IdentificationRegister : Prop :=
  ∀ (t w : Nat) (s : State), s.power.supplies = true → w = u16At (s.readEntry .host 0 0x1000 3).2 0 →
    Does (.idcode t) s (fun u => ∃ x, u.tap.tdo = bitsOf 32 x ∧ x < 4294967296 ∧ x % 2 = 1 ∧ x / 2 % 2048 = 0x2D5 ∧
      x / 4096 % 65536 = 0x5120 ∧ x / 268435456 = w / 256 % 16 ∧ (w / 256 % 16 = 1 → x = 0x151205AB))

/-- R373: BUS_OFF and its recovery. A port that reaches BUS_OFF with `MANUAL_RECOVERY` set waits, with `BUSOFF_WAIT` set, and does not
recover; without it, it recovers. While it waits, the standard's sequence has no effect. A write of 0x01 to `BUSOFF_RECOVER` lets it start;
in any other case the write is refused with 0x0A06, and the port is as it was. -/
def Obligations.ManualRecovery : Prop :=
  (∀ (t p : Nat) (s : State), p < 8 → s.live .comm t → (s.port p).state = .normal → (s.port p).latched = none →
    (s.port p).tecErr = 248 → bitOf (s.nat (0x1200 + p) 5) 2 = true →
    Does (.canFrameError t p (.asTx none)) s (fun u => (u.port p).state = .busOff ∧ (u.port p).busoffWait = true ∧
      (u.port p).recovering = false)) ∧
  (∀ (t p : Nat) (s : State), p < 8 → s.live .comm t → (s.port p).state = .busOff → (s.port p).recovering = false →
    Does (.canRecovered t p) s (fun u => u = s.advance t)) ∧
  (∀ (t p : Nat) (a : Acc) (s : State), p < 8 → s.mayWrite t a (0x5800 + p) 9 [1] →
    ((s.port p).state = .busOff → (s.port p).busoffWait = true → Does (.busoffRecover t a p) s (fun u =>
      (u.port p).state = .busOff ∧ (u.port p).busoffWait = false ∧ (u.port p).recovering = true)) ∧
    ((s.port p).state ≠ .busOff ∨ (s.port p).busoffWait = false → Does (.busoffRecover t a p) s (fun u =>
      u = { s.advance t with net := u.net } ∧ (u.port p).state = (s.port p).state ∧
      (u.port p).busoffWait = (s.port p).busoffWait ∧ (u.port p).recovering = (s.port p).recovering ∧
      (u.session a.ctx).lastResp = (a.req (a.pdu 2 0 (0x5800 + p) 9 [1])).pdu.abort 0x0A06)))

/-- R441: which redundancy messages a lane accepts. A heartbeat that arrives over a Jiest port is not accepted, and leaves what the device
knows of the lanes' messages and its lease state as they were, where its `LANE` is not another lane of the position, where its `TAG` is not
valid (a failure that is counted and logged), where its (`BOOT`, `CYCLE`) is below the last accepted from that lane, and where it is
identical to one already accepted; where none of this holds, it is accepted as that lane's last. -/
def Obligations.MessagesAccepted : Prop :=
  ∀ (t : Nat) (m : RedMsg) (s : State), s.live .house t → s.up = true → m.type = 1 →
    (s.mates.contains m.lane = false → Does (.heartbeat t 0 m) s (fun u => u = s.advance t)) ∧
    (s.mates.contains m.lane = true → s.redTagOk m = false → s.lostOf .house = 0 → (s.advance t).hasRoom (.island Island.house.num) = true →
      Does (.heartbeat t 0 m) s (fun u => u.lease = { s.lease with tagFails := s.lease.tagFails + 1 } ∧
        (u.queue (.island Island.house.num)).wp = ((s.queue (.island Island.house.num)).wp + 1) % 65536)) ∧
    (∀ (n : RedMsg) (r : List RedMsg), s.mates.contains m.lane = true → s.redTagOk m = true → (s.peer m.lane).last = n :: r →
      (m.boot < n.boot ∨ m.boot = n.boot ∧ m.cycle < n.cycle ∨ m ∈ n :: r) →
      Does (.heartbeat t 0 m) s (fun u => u = { s.advance t with lease := { s.lease with peers := u.lease.peers } } ∧
        (u.peer m.lane).last = n :: r ∧ (u.peer m.lane).role = (s.peer m.lane).role)) ∧
    (s.mates.contains m.lane = true → s.redTagOk m = true →
      (∀ n r, (s.peer m.lane).last = n :: r → (n.boot < m.boot ∨ n.boot = m.boot ∧ n.cycle ≤ m.cycle) ∧ m ∉ n :: r) →
      Does (.heartbeat t 0 m) s (fun u => (u.peer m.lane).last.head? = some m ∧ (u.peer m.lane).role = m.role ∧
        (u.peer m.lane).msg = some m))
end

