-- ==== Sys2Proof/Laws/Tab.lean ====
section
/-! SUPPORT. Sparse tables: what is read back after a write, what a write leaves alone, and that writes keep the canonical form. -/

namespace Sys2Proof

theorem Tab.get_erase_ne {α : Type} (d : α) (m : Tab α) (k j : Nat) (h : j ≠ k) : Tab.get d (Tab.erase m k) j = Tab.get d m j := by
  induction m with
  | nil => rfl
  | cons e r ih =>
    obtain ⟨i, v⟩ := e
    by_cases hk : i = k
    · subst hk; simp [Tab.erase, Tab.get, Ne.symm h, ih]
    · simp [Tab.erase, hk, Tab.get, ih]

@[simp] theorem Tab.get_insert_self {α : Type} (d : α) (m : Tab α) (k : Nat) (v : α) : Tab.get d (Tab.insert m k v) k = v := by
  induction m with
  | nil => simp [Tab.insert, Tab.get]
  | cons e r ih =>
    obtain ⟨i, w⟩ := e
    simp only [Tab.insert]
    split
    · simp [Tab.get]
    · split
      · simp [Tab.get]
      · rename_i h1 h2
        simp [Tab.get, Ne.symm h2, ih]

theorem Tab.get_insert_ne {α : Type} (d : α) (m : Tab α) (k j : Nat) (v : α) (h : j ≠ k) :
    Tab.get d (Tab.insert m k v) j = Tab.get d m j := by
  induction m with
  | nil => simp [Tab.insert, Tab.get, Ne.symm h]
  | cons e r ih =>
    obtain ⟨i, w⟩ := e
    simp only [Tab.insert]
    split
    · simp [Tab.get, Ne.symm h]
    · split
      · rename_i h1 h2; subst h2; simp [Tab.get, Ne.symm h]
      · simp [Tab.get, ih]

@[simp] theorem Tab.find_insert_self {α : Type} (m : Tab α) (k : Nat) (v : α) : Tab.find (Tab.insert m k v) k = some v := by
  induction m with
  | nil => simp [Tab.insert, Tab.find]
  | cons e r ih =>
    obtain ⟨i, w⟩ := e
    simp only [Tab.insert]
    split
    · simp [Tab.find]
    · split
      · simp [Tab.find]
      · rename_i h1 h2
        simp [Tab.find, Ne.symm h2, ih]

theorem Tab.find_insert_ne {α : Type} (m : Tab α) (k j : Nat) (v : α) (h : j ≠ k) :
    Tab.find (Tab.insert m k v) j = Tab.find m j := by
  induction m with
  | nil => simp [Tab.insert, Tab.find, Ne.symm h]
  | cons e r ih =>
    obtain ⟨i, w⟩ := e
    simp only [Tab.insert]
    split
    · simp [Tab.find, Ne.symm h]
    · split
      · rename_i h1 h2; subst h2; simp [Tab.find, Ne.symm h]
      · simp [Tab.find, ih]

@[simp] theorem Tab.get_erase_self {α : Type} (d : α) (m : Tab α) (k : Nat) : Tab.get d (Tab.erase m k) k = d := by
  induction m with
  | nil => rfl
  | cons e r ih =>
    obtain ⟨i, v⟩ := e
    by_cases hk : i = k
    · simp only [Tab.erase, if_pos hk]; exact ih
    · simp only [Tab.erase, if_neg hk, Tab.get]; exact ih

/-- What was put is read back. -/
@[simp] theorem Tab.get_put_self {α : Type} [DecidableEq α] (d : α) (m : Tab α) (k : Nat) (v : α) :
    Tab.get d (Tab.put d m k v) k = v := by
  unfold Tab.put
  split
  · rename_i hv; rw [hv]; exact Tab.get_erase_self d m k
  · exact Tab.get_insert_self d m k v

/-- A write leaves every other number alone. -/
theorem Tab.get_put_ne {α : Type} [DecidableEq α] (d : α) (m : Tab α) (k j : Nat) (v : α) (h : j ≠ k) :
    Tab.get d (Tab.put d m k v) j = Tab.get d m j := by
  unfold Tab.put
  split
  · exact Tab.get_erase_ne d m k j h
  · exact Tab.get_insert_ne d m k j v h

theorem Tab.risingFrom_le {α : Type} (m : Tab α) (a b : Nat) (hab : a ≤ b) (h : Tab.risingFrom b m = true) :
    Tab.risingFrom a m = true := by
  cases m with
  | nil => rfl
  | cons e r => obtain ⟨i, v⟩ := e; simp [Tab.risingFrom] at h ⊢; exact ⟨by omega, h.2⟩

theorem Tab.risingFrom_erase {α : Type} (m : Tab α) (lo k : Nat) (h : Tab.risingFrom lo m = true) :
    Tab.risingFrom lo (Tab.erase m k) = true := by
  induction m generalizing lo with
  | nil => rfl
  | cons e r ih =>
    obtain ⟨i, v⟩ := e
    simp [Tab.risingFrom] at h
    by_cases hk : i = k
    · simp only [Tab.erase, if_pos hk]; exact ih lo (Tab.risingFrom_le r lo (i + 1) (by omega) h.2)
    · simp [Tab.erase, hk, Tab.risingFrom, h.1, ih (i + 1) h.2]

theorem Tab.risingFrom_insert {α : Type} (m : Tab α) (lo k : Nat) (v : α) (hk : lo ≤ k) (h : Tab.risingFrom lo m = true) :
    Tab.risingFrom lo (Tab.insert m k v) = true := by
  induction m generalizing lo with
  | nil => simp [Tab.insert, Tab.risingFrom, hk]
  | cons e r ih =>
    obtain ⟨i, w⟩ := e
    simp [Tab.risingFrom] at h
    simp only [Tab.insert]
    split
    · rename_i h1; simp [Tab.risingFrom, hk, h.2]; omega
    · split
      · rename_i h1 h2; subst h2; simp [Tab.risingFrom, hk, h.2]
      · rename_i h1 h2; simp [Tab.risingFrom, h.1]; exact ih (i + 1) (by omega) h.2

/-- A write keeps the numbers rising. -/
theorem Tab.rising_put {α : Type} [DecidableEq α] (d : α) (m : Tab α) (k : Nat) (v : α) (h : Tab.risingFrom 0 m = true) :
    Tab.risingFrom 0 (Tab.put d m k v) = true := by
  unfold Tab.put
  split
  · exact Tab.risingFrom_erase m 0 k h
  · exact Tab.risingFrom_insert m 0 k v (by omega) h

theorem Tab.mem_erase {α : Type} (m : Tab α) (k : Nat) (e : Nat × α) (h : e ∈ Tab.erase m k) : e ∈ m := by
  induction m with
  | nil => simp [Tab.erase] at h
  | cons x r ih =>
    obtain ⟨i, v⟩ := x
    simp only [Tab.erase] at h
    split at h
    · exact List.mem_cons_of_mem _ (ih h)
    · rcases List.mem_cons.mp h with h | h
      · exact h ▸ List.mem_cons_self ..
      · exact List.mem_cons_of_mem _ (ih h)

theorem Tab.mem_insert {α : Type} (m : Tab α) (k : Nat) (v : α) (e : Nat × α) (h : e ∈ Tab.insert m k v) : e ∈ m ∨ e = (k, v) := by
  induction m with
  | nil => simp [Tab.insert] at h; exact .inr h
  | cons x r ih =>
    obtain ⟨i, w⟩ := x
    simp only [Tab.insert] at h
    split at h
    · rcases List.mem_cons.mp h with h | h
      · exact .inr h
      · exact .inl h
    · split at h
      · rcases List.mem_cons.mp h with h | h
        · exact .inr h
        · exact .inl (List.mem_cons_of_mem _ h)
      · rcases List.mem_cons.mp h with h | h
        · exact .inl (h ▸ List.mem_cons_self ..)
        · rcases ih h with h | h
          · exact .inl (List.mem_cons_of_mem _ h)
          · exact .inr h

/-- Every write keeps the canonical form. -/
theorem Tab.wf_put {α : Type} [DecidableEq α] (d : α) (m : Tab α) (k : Nat) (v : α) (h : Tab.wf d m = true) :
    Tab.wf d (Tab.put d m k v) = true := by
  simp only [Tab.wf, Bool.and_eq_true, List.all_eq_true] at h ⊢
  refine ⟨Tab.rising_put d m k v h.1, fun e he => ?_⟩
  unfold Tab.put at he
  split at he
  · exact h.2 e (Tab.mem_erase m k e he)
  · rename_i hv
    rcases Tab.mem_insert m k v e he with h' | h'
    · exact h.2 e h'
    · subst h'; simpa using hv

end Sys2Proof
end

