-- ==== Sys2Proof/Laws/State.lean ====
section
/-! SUPPORT. What each shared operation leaves alone, field by field, and what the devices of time and answer do. -/

namespace Sys2Proof
namespace Machine

/-! ## Time -/

@[simp] theorem State.advance_raw (s : State) (t : Nat) : (s.advance t).clk.raw = max s.clk.raw t := rfl
@[simp] theorem State.advance_rate (s : State) (t : Nat) : (s.advance t).clk.rate = s.clk.rate := rfl
@[simp] theorem State.advance_refclk (s : State) (t : Nat) : (s.advance t).clk.refclk = s.clk.refclk := rfl
@[simp] theorem State.advance_now (s : State) (t : Nat) : (s.advance t).now = max s.clk.raw t := rfl

/-- Device time never runs backwards as time passes (R33). -/
theorem State.advance_dev_le (s : State) (t : Nat) : s.clk.dev ≤ (s.advance t).clk.dev := by
  simp only [State.advance, Clk.advance]; omega

/-- Raw time never runs backwards as time passes. -/
theorem State.advance_raw_le (s : State) (t : Nat) : s.clk.raw ≤ (s.advance t).clk.raw := by
  simp only [State.advance_raw]; omega

/-! ## The answer of a command -/

/-- An island that runs carries its command out. -/
theorem onIsland_runs (i : Island) (t : Nat) (s : State) (f : State → State) (h : (s.advance t).runs i = true) :
    onIsland i t s f = (s.advance t).became (f (s.advance t)) := by
  simp [onIsland, atMoment, State.ifRuns, h]

/-- An island that does not run lets time pass. -/
theorem onIsland_stopped (i : Island) (t : Nat) (s : State) (f : State → State) (h : (s.advance t).runs i = false) :
    onIsland i t s f = (s.advance t).became (s.advance t) := by
  simp [onIsland, atMoment, State.ifRuns, h]

/-- A unit that exists and whose island runs carries its command out. -/
theorem onUnit_runs (ok : Bool) (i : Island) (t : Nat) (s : State) (f : State → State) (ho : ok = true)
    (h : (s.advance t).runs i = true) : onUnit ok i t s f = (s.advance t).became (f (s.advance t)) := by
  simp [onUnit, ho, onIsland_runs i t s f h]

/-! `advance` changes nothing but clk. -/

@[simp] theorem State.advance_pending (s : State) (t : Nat) : (s.advance t).pending = s.pending := rfl
@[simp] theorem State.advance_dev (s : State) (t : Nat) : (s.advance t).dev = s.dev := rfl
@[simp] theorem State.advance_ledger (s : State) (t : Nat) : (s.advance t).ledger = s.ledger := rfl
@[simp] theorem State.advance_fabric (s : State) (t : Nat) : (s.advance t).fabric = s.fabric := rfl
@[simp] theorem State.advance_dict (s : State) (t : Nat) : (s.advance t).dict = s.dict := rfl
@[simp] theorem State.advance_model (s : State) (t : Nat) : (s.advance t).model = s.model := rfl
@[simp] theorem State.advance_loam (s : State) (t : Nat) : (s.advance t).loam = s.loam := rfl
@[simp] theorem State.advance_hyd (s : State) (t : Nat) : (s.advance t).hyd = s.hyd := rfl
@[simp] theorem State.advance_estim (s : State) (t : Nat) : (s.advance t).estim = s.estim := rfl
@[simp] theorem State.advance_disp (s : State) (t : Nat) : (s.advance t).disp = s.disp := rfl
@[simp] theorem State.advance_metr (s : State) (t : Nat) : (s.advance t).metr = s.metr := rfl
@[simp] theorem State.advance_heat (s : State) (t : Nat) : (s.advance t).heat = s.heat := rfl
@[simp] theorem State.advance_health (s : State) (t : Nat) : (s.advance t).health = s.health := rfl
@[simp] theorem State.advance_cal (s : State) (t : Nat) : (s.advance t).cal = s.cal := rfl
@[simp] theorem State.advance_sync (s : State) (t : Nat) : (s.advance t).sync = s.sync := rfl
@[simp] theorem State.advance_lease (s : State) (t : Nat) : (s.advance t).lease = s.lease := rfl
@[simp] theorem State.advance_casc (s : State) (t : Nat) : (s.advance t).casc = s.casc := rfl
@[simp] theorem State.advance_net (s : State) (t : Nat) : (s.advance t).net = s.net := rfl
@[simp] theorem State.advance_logic (s : State) (t : Nat) : (s.advance t).logic = s.logic := rfl
@[simp] theorem State.advance_ctrl (s : State) (t : Nat) : (s.advance t).ctrl = s.ctrl := rfl
@[simp] theorem State.advance_power (s : State) (t : Nat) : (s.advance t).power = s.power := rfl
@[simp] theorem State.advance_keep (s : State) (t : Nat) : (s.advance t).keep = s.keep := rfl
@[simp] theorem State.advance_tap (s : State) (t : Nat) : (s.advance t).tap = s.tap := rfl
@[simp] theorem State.advance_draws (s : State) (t : Nat) : (s.advance t).draws = s.draws := rfl

/-! `draw` changes nothing but draws. -/

@[simp] theorem State.draw_pending (s : State) : (s.draw).pending = s.pending := rfl
@[simp] theorem State.draw_clk (s : State) : (s.draw).clk = s.clk := rfl
@[simp] theorem State.draw_dev (s : State) : (s.draw).dev = s.dev := rfl
@[simp] theorem State.draw_ledger (s : State) : (s.draw).ledger = s.ledger := rfl
@[simp] theorem State.draw_fabric (s : State) : (s.draw).fabric = s.fabric := rfl
@[simp] theorem State.draw_dict (s : State) : (s.draw).dict = s.dict := rfl
@[simp] theorem State.draw_model (s : State) : (s.draw).model = s.model := rfl
@[simp] theorem State.draw_loam (s : State) : (s.draw).loam = s.loam := rfl
@[simp] theorem State.draw_hyd (s : State) : (s.draw).hyd = s.hyd := rfl
@[simp] theorem State.draw_estim (s : State) : (s.draw).estim = s.estim := rfl
@[simp] theorem State.draw_disp (s : State) : (s.draw).disp = s.disp := rfl
@[simp] theorem State.draw_metr (s : State) : (s.draw).metr = s.metr := rfl
@[simp] theorem State.draw_heat (s : State) : (s.draw).heat = s.heat := rfl
@[simp] theorem State.draw_health (s : State) : (s.draw).health = s.health := rfl
@[simp] theorem State.draw_cal (s : State) : (s.draw).cal = s.cal := rfl
@[simp] theorem State.draw_sync (s : State) : (s.draw).sync = s.sync := rfl
@[simp] theorem State.draw_lease (s : State) : (s.draw).lease = s.lease := rfl
@[simp] theorem State.draw_casc (s : State) : (s.draw).casc = s.casc := rfl
@[simp] theorem State.draw_net (s : State) : (s.draw).net = s.net := rfl
@[simp] theorem State.draw_logic (s : State) : (s.draw).logic = s.logic := rfl
@[simp] theorem State.draw_ctrl (s : State) : (s.draw).ctrl = s.ctrl := rfl
@[simp] theorem State.draw_power (s : State) : (s.draw).power = s.power := rfl
@[simp] theorem State.draw_keep (s : State) : (s.draw).keep = s.keep := rfl
@[simp] theorem State.draw_tap (s : State) : (s.draw).tap = s.tap := rfl

/-! `setVal` changes nothing but dict. -/

@[simp] theorem State.setVal_pending (s : State) (i j : Nat) (v : Val) : (s.setVal i j v).pending = s.pending := rfl
@[simp] theorem State.setVal_clk (s : State) (i j : Nat) (v : Val) : (s.setVal i j v).clk = s.clk := rfl
@[simp] theorem State.setVal_dev (s : State) (i j : Nat) (v : Val) : (s.setVal i j v).dev = s.dev := rfl
@[simp] theorem State.setVal_ledger (s : State) (i j : Nat) (v : Val) : (s.setVal i j v).ledger = s.ledger := rfl
@[simp] theorem State.setVal_fabric (s : State) (i j : Nat) (v : Val) : (s.setVal i j v).fabric = s.fabric := rfl
@[simp] theorem State.setVal_model (s : State) (i j : Nat) (v : Val) : (s.setVal i j v).model = s.model := rfl
@[simp] theorem State.setVal_loam (s : State) (i j : Nat) (v : Val) : (s.setVal i j v).loam = s.loam := rfl
@[simp] theorem State.setVal_hyd (s : State) (i j : Nat) (v : Val) : (s.setVal i j v).hyd = s.hyd := rfl
@[simp] theorem State.setVal_estim (s : State) (i j : Nat) (v : Val) : (s.setVal i j v).estim = s.estim := rfl
@[simp] theorem State.setVal_disp (s : State) (i j : Nat) (v : Val) : (s.setVal i j v).disp = s.disp := rfl
@[simp] theorem State.setVal_metr (s : State) (i j : Nat) (v : Val) : (s.setVal i j v).metr = s.metr := rfl
@[simp] theorem State.setVal_heat (s : State) (i j : Nat) (v : Val) : (s.setVal i j v).heat = s.heat := rfl
@[simp] theorem State.setVal_health (s : State) (i j : Nat) (v : Val) : (s.setVal i j v).health = s.health := rfl
@[simp] theorem State.setVal_cal (s : State) (i j : Nat) (v : Val) : (s.setVal i j v).cal = s.cal := rfl
@[simp] theorem State.setVal_sync (s : State) (i j : Nat) (v : Val) : (s.setVal i j v).sync = s.sync := rfl
@[simp] theorem State.setVal_lease (s : State) (i j : Nat) (v : Val) : (s.setVal i j v).lease = s.lease := rfl
@[simp] theorem State.setVal_casc (s : State) (i j : Nat) (v : Val) : (s.setVal i j v).casc = s.casc := rfl
@[simp] theorem State.setVal_net (s : State) (i j : Nat) (v : Val) : (s.setVal i j v).net = s.net := rfl
@[simp] theorem State.setVal_logic (s : State) (i j : Nat) (v : Val) : (s.setVal i j v).logic = s.logic := rfl
@[simp] theorem State.setVal_ctrl (s : State) (i j : Nat) (v : Val) : (s.setVal i j v).ctrl = s.ctrl := rfl
@[simp] theorem State.setVal_power (s : State) (i j : Nat) (v : Val) : (s.setVal i j v).power = s.power := rfl
@[simp] theorem State.setVal_keep (s : State) (i j : Nat) (v : Val) : (s.setVal i j v).keep = s.keep := rfl
@[simp] theorem State.setVal_tap (s : State) (i j : Nat) (v : Val) : (s.setVal i j v).tap = s.tap := rfl
@[simp] theorem State.setVal_draws (s : State) (i j : Nat) (v : Val) : (s.setVal i j v).draws = s.draws := rfl

/-! `setQueue` changes nothing but net. -/

@[simp] theorem State.setQueue_pending (s : State) (q : QId) (v : Queue) : (s.setQueue q v).pending = s.pending := rfl
@[simp] theorem State.setQueue_clk (s : State) (q : QId) (v : Queue) : (s.setQueue q v).clk = s.clk := rfl
@[simp] theorem State.setQueue_dev (s : State) (q : QId) (v : Queue) : (s.setQueue q v).dev = s.dev := rfl
@[simp] theorem State.setQueue_ledger (s : State) (q : QId) (v : Queue) : (s.setQueue q v).ledger = s.ledger := rfl
@[simp] theorem State.setQueue_fabric (s : State) (q : QId) (v : Queue) : (s.setQueue q v).fabric = s.fabric := rfl
@[simp] theorem State.setQueue_dict (s : State) (q : QId) (v : Queue) : (s.setQueue q v).dict = s.dict := rfl
@[simp] theorem State.setQueue_model (s : State) (q : QId) (v : Queue) : (s.setQueue q v).model = s.model := rfl
@[simp] theorem State.setQueue_loam (s : State) (q : QId) (v : Queue) : (s.setQueue q v).loam = s.loam := rfl
@[simp] theorem State.setQueue_hyd (s : State) (q : QId) (v : Queue) : (s.setQueue q v).hyd = s.hyd := rfl
@[simp] theorem State.setQueue_estim (s : State) (q : QId) (v : Queue) : (s.setQueue q v).estim = s.estim := rfl
@[simp] theorem State.setQueue_disp (s : State) (q : QId) (v : Queue) : (s.setQueue q v).disp = s.disp := rfl
@[simp] theorem State.setQueue_metr (s : State) (q : QId) (v : Queue) : (s.setQueue q v).metr = s.metr := rfl
@[simp] theorem State.setQueue_heat (s : State) (q : QId) (v : Queue) : (s.setQueue q v).heat = s.heat := rfl
@[simp] theorem State.setQueue_health (s : State) (q : QId) (v : Queue) : (s.setQueue q v).health = s.health := rfl
@[simp] theorem State.setQueue_cal (s : State) (q : QId) (v : Queue) : (s.setQueue q v).cal = s.cal := rfl
@[simp] theorem State.setQueue_sync (s : State) (q : QId) (v : Queue) : (s.setQueue q v).sync = s.sync := rfl
@[simp] theorem State.setQueue_lease (s : State) (q : QId) (v : Queue) : (s.setQueue q v).lease = s.lease := rfl
@[simp] theorem State.setQueue_casc (s : State) (q : QId) (v : Queue) : (s.setQueue q v).casc = s.casc := rfl
@[simp] theorem State.setQueue_logic (s : State) (q : QId) (v : Queue) : (s.setQueue q v).logic = s.logic := rfl
@[simp] theorem State.setQueue_ctrl (s : State) (q : QId) (v : Queue) : (s.setQueue q v).ctrl = s.ctrl := rfl
@[simp] theorem State.setQueue_power (s : State) (q : QId) (v : Queue) : (s.setQueue q v).power = s.power := rfl
@[simp] theorem State.setQueue_keep (s : State) (q : QId) (v : Queue) : (s.setQueue q v).keep = s.keep := rfl
@[simp] theorem State.setQueue_tap (s : State) (q : QId) (v : Queue) : (s.setQueue q v).tap = s.tap := rfl
@[simp] theorem State.setQueue_draws (s : State) (q : QId) (v : Queue) : (s.setQueue q v).draws = s.draws := rfl

/-! `pushQ` changes nothing but net, draws. -/

@[simp] theorem State.pushQ_pending (s : State) (q : QId) (x : QItem) : (s.pushQ q x).pending = s.pending := rfl
@[simp] theorem State.pushQ_clk (s : State) (q : QId) (x : QItem) : (s.pushQ q x).clk = s.clk := rfl
@[simp] theorem State.pushQ_dev (s : State) (q : QId) (x : QItem) : (s.pushQ q x).dev = s.dev := rfl
@[simp] theorem State.pushQ_ledger (s : State) (q : QId) (x : QItem) : (s.pushQ q x).ledger = s.ledger := rfl
@[simp] theorem State.pushQ_fabric (s : State) (q : QId) (x : QItem) : (s.pushQ q x).fabric = s.fabric := rfl
@[simp] theorem State.pushQ_dict (s : State) (q : QId) (x : QItem) : (s.pushQ q x).dict = s.dict := rfl
@[simp] theorem State.pushQ_model (s : State) (q : QId) (x : QItem) : (s.pushQ q x).model = s.model := rfl
@[simp] theorem State.pushQ_loam (s : State) (q : QId) (x : QItem) : (s.pushQ q x).loam = s.loam := rfl
@[simp] theorem State.pushQ_hyd (s : State) (q : QId) (x : QItem) : (s.pushQ q x).hyd = s.hyd := rfl
@[simp] theorem State.pushQ_estim (s : State) (q : QId) (x : QItem) : (s.pushQ q x).estim = s.estim := rfl
@[simp] theorem State.pushQ_disp (s : State) (q : QId) (x : QItem) : (s.pushQ q x).disp = s.disp := rfl
@[simp] theorem State.pushQ_metr (s : State) (q : QId) (x : QItem) : (s.pushQ q x).metr = s.metr := rfl
@[simp] theorem State.pushQ_heat (s : State) (q : QId) (x : QItem) : (s.pushQ q x).heat = s.heat := rfl
@[simp] theorem State.pushQ_health (s : State) (q : QId) (x : QItem) : (s.pushQ q x).health = s.health := rfl
@[simp] theorem State.pushQ_cal (s : State) (q : QId) (x : QItem) : (s.pushQ q x).cal = s.cal := rfl
@[simp] theorem State.pushQ_sync (s : State) (q : QId) (x : QItem) : (s.pushQ q x).sync = s.sync := rfl
@[simp] theorem State.pushQ_lease (s : State) (q : QId) (x : QItem) : (s.pushQ q x).lease = s.lease := rfl
@[simp] theorem State.pushQ_casc (s : State) (q : QId) (x : QItem) : (s.pushQ q x).casc = s.casc := rfl
@[simp] theorem State.pushQ_logic (s : State) (q : QId) (x : QItem) : (s.pushQ q x).logic = s.logic := rfl
@[simp] theorem State.pushQ_ctrl (s : State) (q : QId) (x : QItem) : (s.pushQ q x).ctrl = s.ctrl := rfl
@[simp] theorem State.pushQ_power (s : State) (q : QId) (x : QItem) : (s.pushQ q x).power = s.power := rfl
@[simp] theorem State.pushQ_keep (s : State) (q : QId) (x : QItem) : (s.pushQ q x).keep = s.keep := rfl
@[simp] theorem State.pushQ_tap (s : State) (q : QId) (x : QItem) : (s.pushQ q x).tap = s.tap := rfl

/-! `popQ` changes nothing but net, draws. -/

@[simp] theorem State.popQ_pending (s : State) (q : QId) : (s.popQ q).pending = s.pending := rfl
@[simp] theorem State.popQ_clk (s : State) (q : QId) : (s.popQ q).clk = s.clk := rfl
@[simp] theorem State.popQ_dev (s : State) (q : QId) : (s.popQ q).dev = s.dev := rfl
@[simp] theorem State.popQ_ledger (s : State) (q : QId) : (s.popQ q).ledger = s.ledger := rfl
@[simp] theorem State.popQ_fabric (s : State) (q : QId) : (s.popQ q).fabric = s.fabric := rfl
@[simp] theorem State.popQ_dict (s : State) (q : QId) : (s.popQ q).dict = s.dict := rfl
@[simp] theorem State.popQ_model (s : State) (q : QId) : (s.popQ q).model = s.model := rfl
@[simp] theorem State.popQ_loam (s : State) (q : QId) : (s.popQ q).loam = s.loam := rfl
@[simp] theorem State.popQ_hyd (s : State) (q : QId) : (s.popQ q).hyd = s.hyd := rfl
@[simp] theorem State.popQ_estim (s : State) (q : QId) : (s.popQ q).estim = s.estim := rfl
@[simp] theorem State.popQ_disp (s : State) (q : QId) : (s.popQ q).disp = s.disp := rfl
@[simp] theorem State.popQ_metr (s : State) (q : QId) : (s.popQ q).metr = s.metr := rfl
@[simp] theorem State.popQ_heat (s : State) (q : QId) : (s.popQ q).heat = s.heat := rfl
@[simp] theorem State.popQ_health (s : State) (q : QId) : (s.popQ q).health = s.health := rfl
@[simp] theorem State.popQ_cal (s : State) (q : QId) : (s.popQ q).cal = s.cal := rfl
@[simp] theorem State.popQ_sync (s : State) (q : QId) : (s.popQ q).sync = s.sync := rfl
@[simp] theorem State.popQ_lease (s : State) (q : QId) : (s.popQ q).lease = s.lease := rfl
@[simp] theorem State.popQ_casc (s : State) (q : QId) : (s.popQ q).casc = s.casc := rfl
@[simp] theorem State.popQ_logic (s : State) (q : QId) : (s.popQ q).logic = s.logic := rfl
@[simp] theorem State.popQ_ctrl (s : State) (q : QId) : (s.popQ q).ctrl = s.ctrl := rfl
@[simp] theorem State.popQ_power (s : State) (q : QId) : (s.popQ q).power = s.power := rfl
@[simp] theorem State.popQ_keep (s : State) (q : QId) : (s.popQ q).keep = s.keep := rfl
@[simp] theorem State.popQ_tap (s : State) (q : QId) : (s.popQ q).tap = s.tap := rfl

/-! `setAlmRow` changes nothing but ledger. -/

@[simp] theorem State.setAlmRow_pending (s : State) (n : Nat) (r : AlmRow) : (s.setAlmRow n r).pending = s.pending := rfl
@[simp] theorem State.setAlmRow_clk (s : State) (n : Nat) (r : AlmRow) : (s.setAlmRow n r).clk = s.clk := rfl
@[simp] theorem State.setAlmRow_dev (s : State) (n : Nat) (r : AlmRow) : (s.setAlmRow n r).dev = s.dev := rfl
@[simp] theorem State.setAlmRow_fabric (s : State) (n : Nat) (r : AlmRow) : (s.setAlmRow n r).fabric = s.fabric := rfl
@[simp] theorem State.setAlmRow_dict (s : State) (n : Nat) (r : AlmRow) : (s.setAlmRow n r).dict = s.dict := rfl
@[simp] theorem State.setAlmRow_model (s : State) (n : Nat) (r : AlmRow) : (s.setAlmRow n r).model = s.model := rfl
@[simp] theorem State.setAlmRow_loam (s : State) (n : Nat) (r : AlmRow) : (s.setAlmRow n r).loam = s.loam := rfl
@[simp] theorem State.setAlmRow_hyd (s : State) (n : Nat) (r : AlmRow) : (s.setAlmRow n r).hyd = s.hyd := rfl
@[simp] theorem State.setAlmRow_estim (s : State) (n : Nat) (r : AlmRow) : (s.setAlmRow n r).estim = s.estim := rfl
@[simp] theorem State.setAlmRow_disp (s : State) (n : Nat) (r : AlmRow) : (s.setAlmRow n r).disp = s.disp := rfl
@[simp] theorem State.setAlmRow_metr (s : State) (n : Nat) (r : AlmRow) : (s.setAlmRow n r).metr = s.metr := rfl
@[simp] theorem State.setAlmRow_heat (s : State) (n : Nat) (r : AlmRow) : (s.setAlmRow n r).heat = s.heat := rfl
@[simp] theorem State.setAlmRow_health (s : State) (n : Nat) (r : AlmRow) : (s.setAlmRow n r).health = s.health := rfl
@[simp] theorem State.setAlmRow_cal (s : State) (n : Nat) (r : AlmRow) : (s.setAlmRow n r).cal = s.cal := rfl
@[simp] theorem State.setAlmRow_sync (s : State) (n : Nat) (r : AlmRow) : (s.setAlmRow n r).sync = s.sync := rfl
@[simp] theorem State.setAlmRow_lease (s : State) (n : Nat) (r : AlmRow) : (s.setAlmRow n r).lease = s.lease := rfl
@[simp] theorem State.setAlmRow_casc (s : State) (n : Nat) (r : AlmRow) : (s.setAlmRow n r).casc = s.casc := rfl
@[simp] theorem State.setAlmRow_net (s : State) (n : Nat) (r : AlmRow) : (s.setAlmRow n r).net = s.net := rfl
@[simp] theorem State.setAlmRow_logic (s : State) (n : Nat) (r : AlmRow) : (s.setAlmRow n r).logic = s.logic := rfl
@[simp] theorem State.setAlmRow_ctrl (s : State) (n : Nat) (r : AlmRow) : (s.setAlmRow n r).ctrl = s.ctrl := rfl
@[simp] theorem State.setAlmRow_power (s : State) (n : Nat) (r : AlmRow) : (s.setAlmRow n r).power = s.power := rfl
@[simp] theorem State.setAlmRow_keep (s : State) (n : Nat) (r : AlmRow) : (s.setAlmRow n r).keep = s.keep := rfl
@[simp] theorem State.setAlmRow_tap (s : State) (n : Nat) (r : AlmRow) : (s.setAlmRow n r).tap = s.tap := rfl
@[simp] theorem State.setAlmRow_draws (s : State) (n : Nat) (r : AlmRow) : (s.setAlmRow n r).draws = s.draws := rfl

/-! `setSub` changes nothing but ledger. -/

@[simp] theorem State.setSub_pending (s : State) (n : Nat) (r : Sub) : (s.setSub n r).pending = s.pending := rfl
@[simp] theorem State.setSub_clk (s : State) (n : Nat) (r : Sub) : (s.setSub n r).clk = s.clk := rfl
@[simp] theorem State.setSub_dev (s : State) (n : Nat) (r : Sub) : (s.setSub n r).dev = s.dev := rfl
@[simp] theorem State.setSub_fabric (s : State) (n : Nat) (r : Sub) : (s.setSub n r).fabric = s.fabric := rfl
@[simp] theorem State.setSub_dict (s : State) (n : Nat) (r : Sub) : (s.setSub n r).dict = s.dict := rfl
@[simp] theorem State.setSub_model (s : State) (n : Nat) (r : Sub) : (s.setSub n r).model = s.model := rfl
@[simp] theorem State.setSub_loam (s : State) (n : Nat) (r : Sub) : (s.setSub n r).loam = s.loam := rfl
@[simp] theorem State.setSub_hyd (s : State) (n : Nat) (r : Sub) : (s.setSub n r).hyd = s.hyd := rfl
@[simp] theorem State.setSub_estim (s : State) (n : Nat) (r : Sub) : (s.setSub n r).estim = s.estim := rfl
@[simp] theorem State.setSub_disp (s : State) (n : Nat) (r : Sub) : (s.setSub n r).disp = s.disp := rfl
@[simp] theorem State.setSub_metr (s : State) (n : Nat) (r : Sub) : (s.setSub n r).metr = s.metr := rfl
@[simp] theorem State.setSub_heat (s : State) (n : Nat) (r : Sub) : (s.setSub n r).heat = s.heat := rfl
@[simp] theorem State.setSub_health (s : State) (n : Nat) (r : Sub) : (s.setSub n r).health = s.health := rfl
@[simp] theorem State.setSub_cal (s : State) (n : Nat) (r : Sub) : (s.setSub n r).cal = s.cal := rfl
@[simp] theorem State.setSub_sync (s : State) (n : Nat) (r : Sub) : (s.setSub n r).sync = s.sync := rfl
@[simp] theorem State.setSub_lease (s : State) (n : Nat) (r : Sub) : (s.setSub n r).lease = s.lease := rfl
@[simp] theorem State.setSub_casc (s : State) (n : Nat) (r : Sub) : (s.setSub n r).casc = s.casc := rfl
@[simp] theorem State.setSub_net (s : State) (n : Nat) (r : Sub) : (s.setSub n r).net = s.net := rfl
@[simp] theorem State.setSub_logic (s : State) (n : Nat) (r : Sub) : (s.setSub n r).logic = s.logic := rfl
@[simp] theorem State.setSub_ctrl (s : State) (n : Nat) (r : Sub) : (s.setSub n r).ctrl = s.ctrl := rfl
@[simp] theorem State.setSub_power (s : State) (n : Nat) (r : Sub) : (s.setSub n r).power = s.power := rfl
@[simp] theorem State.setSub_keep (s : State) (n : Nat) (r : Sub) : (s.setSub n r).keep = s.keep := rfl
@[simp] theorem State.setSub_tap (s : State) (n : Nat) (r : Sub) : (s.setSub n r).tap = s.tap := rfl
@[simp] theorem State.setSub_draws (s : State) (n : Nat) (r : Sub) : (s.setSub n r).draws = s.draws := rfl

/-! `setLost` changes nothing but ledger. -/

@[simp] theorem State.setLost_pending (s : State) (i : Island) (n : Nat) : (s.setLost i n).pending = s.pending := rfl
@[simp] theorem State.setLost_clk (s : State) (i : Island) (n : Nat) : (s.setLost i n).clk = s.clk := rfl
@[simp] theorem State.setLost_dev (s : State) (i : Island) (n : Nat) : (s.setLost i n).dev = s.dev := rfl
@[simp] theorem State.setLost_fabric (s : State) (i : Island) (n : Nat) : (s.setLost i n).fabric = s.fabric := rfl
@[simp] theorem State.setLost_dict (s : State) (i : Island) (n : Nat) : (s.setLost i n).dict = s.dict := rfl
@[simp] theorem State.setLost_model (s : State) (i : Island) (n : Nat) : (s.setLost i n).model = s.model := rfl
@[simp] theorem State.setLost_loam (s : State) (i : Island) (n : Nat) : (s.setLost i n).loam = s.loam := rfl
@[simp] theorem State.setLost_hyd (s : State) (i : Island) (n : Nat) : (s.setLost i n).hyd = s.hyd := rfl
@[simp] theorem State.setLost_estim (s : State) (i : Island) (n : Nat) : (s.setLost i n).estim = s.estim := rfl
@[simp] theorem State.setLost_disp (s : State) (i : Island) (n : Nat) : (s.setLost i n).disp = s.disp := rfl
@[simp] theorem State.setLost_metr (s : State) (i : Island) (n : Nat) : (s.setLost i n).metr = s.metr := rfl
@[simp] theorem State.setLost_heat (s : State) (i : Island) (n : Nat) : (s.setLost i n).heat = s.heat := rfl
@[simp] theorem State.setLost_health (s : State) (i : Island) (n : Nat) : (s.setLost i n).health = s.health := rfl
@[simp] theorem State.setLost_cal (s : State) (i : Island) (n : Nat) : (s.setLost i n).cal = s.cal := rfl
@[simp] theorem State.setLost_sync (s : State) (i : Island) (n : Nat) : (s.setLost i n).sync = s.sync := rfl
@[simp] theorem State.setLost_lease (s : State) (i : Island) (n : Nat) : (s.setLost i n).lease = s.lease := rfl
@[simp] theorem State.setLost_casc (s : State) (i : Island) (n : Nat) : (s.setLost i n).casc = s.casc := rfl
@[simp] theorem State.setLost_net (s : State) (i : Island) (n : Nat) : (s.setLost i n).net = s.net := rfl
@[simp] theorem State.setLost_logic (s : State) (i : Island) (n : Nat) : (s.setLost i n).logic = s.logic := rfl
@[simp] theorem State.setLost_ctrl (s : State) (i : Island) (n : Nat) : (s.setLost i n).ctrl = s.ctrl := rfl
@[simp] theorem State.setLost_power (s : State) (i : Island) (n : Nat) : (s.setLost i n).power = s.power := rfl
@[simp] theorem State.setLost_keep (s : State) (i : Island) (n : Nat) : (s.setLost i n).keep = s.keep := rfl
@[simp] theorem State.setLost_tap (s : State) (i : Island) (n : Nat) : (s.setLost i n).tap = s.tap := rfl
@[simp] theorem State.setLost_draws (s : State) (i : Island) (n : Nat) : (s.setLost i n).draws = s.draws := rfl

/-! `pushEv` changes nothing but net, draws. -/

@[simp] theorem State.pushEv_pending (s : State) (i : Island) (c u : Nat) (a : List EvArg) (e : EvEdge) : (s.pushEv i c u a e).pending = s.pending := rfl
@[simp] theorem State.pushEv_clk (s : State) (i : Island) (c u : Nat) (a : List EvArg) (e : EvEdge) : (s.pushEv i c u a e).clk = s.clk := rfl
@[simp] theorem State.pushEv_dev (s : State) (i : Island) (c u : Nat) (a : List EvArg) (e : EvEdge) : (s.pushEv i c u a e).dev = s.dev := rfl
@[simp] theorem State.pushEv_ledger (s : State) (i : Island) (c u : Nat) (a : List EvArg) (e : EvEdge) : (s.pushEv i c u a e).ledger = s.ledger := rfl
@[simp] theorem State.pushEv_fabric (s : State) (i : Island) (c u : Nat) (a : List EvArg) (e : EvEdge) : (s.pushEv i c u a e).fabric = s.fabric := rfl
@[simp] theorem State.pushEv_dict (s : State) (i : Island) (c u : Nat) (a : List EvArg) (e : EvEdge) : (s.pushEv i c u a e).dict = s.dict := rfl
@[simp] theorem State.pushEv_model (s : State) (i : Island) (c u : Nat) (a : List EvArg) (e : EvEdge) : (s.pushEv i c u a e).model = s.model := rfl
@[simp] theorem State.pushEv_loam (s : State) (i : Island) (c u : Nat) (a : List EvArg) (e : EvEdge) : (s.pushEv i c u a e).loam = s.loam := rfl
@[simp] theorem State.pushEv_hyd (s : State) (i : Island) (c u : Nat) (a : List EvArg) (e : EvEdge) : (s.pushEv i c u a e).hyd = s.hyd := rfl
@[simp] theorem State.pushEv_estim (s : State) (i : Island) (c u : Nat) (a : List EvArg) (e : EvEdge) : (s.pushEv i c u a e).estim = s.estim := rfl
@[simp] theorem State.pushEv_disp (s : State) (i : Island) (c u : Nat) (a : List EvArg) (e : EvEdge) : (s.pushEv i c u a e).disp = s.disp := rfl
@[simp] theorem State.pushEv_metr (s : State) (i : Island) (c u : Nat) (a : List EvArg) (e : EvEdge) : (s.pushEv i c u a e).metr = s.metr := rfl
@[simp] theorem State.pushEv_heat (s : State) (i : Island) (c u : Nat) (a : List EvArg) (e : EvEdge) : (s.pushEv i c u a e).heat = s.heat := rfl
@[simp] theorem State.pushEv_health (s : State) (i : Island) (c u : Nat) (a : List EvArg) (e : EvEdge) : (s.pushEv i c u a e).health = s.health := rfl
@[simp] theorem State.pushEv_cal (s : State) (i : Island) (c u : Nat) (a : List EvArg) (e : EvEdge) : (s.pushEv i c u a e).cal = s.cal := rfl
@[simp] theorem State.pushEv_sync (s : State) (i : Island) (c u : Nat) (a : List EvArg) (e : EvEdge) : (s.pushEv i c u a e).sync = s.sync := rfl
@[simp] theorem State.pushEv_lease (s : State) (i : Island) (c u : Nat) (a : List EvArg) (e : EvEdge) : (s.pushEv i c u a e).lease = s.lease := rfl
@[simp] theorem State.pushEv_casc (s : State) (i : Island) (c u : Nat) (a : List EvArg) (e : EvEdge) : (s.pushEv i c u a e).casc = s.casc := rfl
@[simp] theorem State.pushEv_logic (s : State) (i : Island) (c u : Nat) (a : List EvArg) (e : EvEdge) : (s.pushEv i c u a e).logic = s.logic := rfl
@[simp] theorem State.pushEv_ctrl (s : State) (i : Island) (c u : Nat) (a : List EvArg) (e : EvEdge) : (s.pushEv i c u a e).ctrl = s.ctrl := rfl
@[simp] theorem State.pushEv_power (s : State) (i : Island) (c u : Nat) (a : List EvArg) (e : EvEdge) : (s.pushEv i c u a e).power = s.power := rfl
@[simp] theorem State.pushEv_keep (s : State) (i : Island) (c u : Nat) (a : List EvArg) (e : EvEdge) : (s.pushEv i c u a e).keep = s.keep := rfl
@[simp] theorem State.pushEv_tap (s : State) (i : Island) (c u : Nat) (a : List EvArg) (e : EvEdge) : (s.pushEv i c u a e).tap = s.tap := rfl

/-! `gapEv` changes nothing but net, ledger, draws. -/

@[simp] theorem State.gapEv_pending (s : State) (i : Island) : (s.gapEv i).pending = s.pending := by unfold State.gapEv; split <;> rfl
@[simp] theorem State.gapEv_clk (s : State) (i : Island) : (s.gapEv i).clk = s.clk := by unfold State.gapEv; split <;> rfl
@[simp] theorem State.gapEv_dev (s : State) (i : Island) : (s.gapEv i).dev = s.dev := by unfold State.gapEv; split <;> rfl
@[simp] theorem State.gapEv_fabric (s : State) (i : Island) : (s.gapEv i).fabric = s.fabric := by unfold State.gapEv; split <;> rfl
@[simp] theorem State.gapEv_dict (s : State) (i : Island) : (s.gapEv i).dict = s.dict := by unfold State.gapEv; split <;> rfl
@[simp] theorem State.gapEv_model (s : State) (i : Island) : (s.gapEv i).model = s.model := by unfold State.gapEv; split <;> rfl
@[simp] theorem State.gapEv_loam (s : State) (i : Island) : (s.gapEv i).loam = s.loam := by unfold State.gapEv; split <;> rfl
@[simp] theorem State.gapEv_hyd (s : State) (i : Island) : (s.gapEv i).hyd = s.hyd := by unfold State.gapEv; split <;> rfl
@[simp] theorem State.gapEv_estim (s : State) (i : Island) : (s.gapEv i).estim = s.estim := by unfold State.gapEv; split <;> rfl
@[simp] theorem State.gapEv_disp (s : State) (i : Island) : (s.gapEv i).disp = s.disp := by unfold State.gapEv; split <;> rfl
@[simp] theorem State.gapEv_metr (s : State) (i : Island) : (s.gapEv i).metr = s.metr := by unfold State.gapEv; split <;> rfl
@[simp] theorem State.gapEv_heat (s : State) (i : Island) : (s.gapEv i).heat = s.heat := by unfold State.gapEv; split <;> rfl
@[simp] theorem State.gapEv_health (s : State) (i : Island) : (s.gapEv i).health = s.health := by unfold State.gapEv; split <;> rfl
@[simp] theorem State.gapEv_cal (s : State) (i : Island) : (s.gapEv i).cal = s.cal := by unfold State.gapEv; split <;> rfl
@[simp] theorem State.gapEv_sync (s : State) (i : Island) : (s.gapEv i).sync = s.sync := by unfold State.gapEv; split <;> rfl
@[simp] theorem State.gapEv_lease (s : State) (i : Island) : (s.gapEv i).lease = s.lease := by unfold State.gapEv; split <;> rfl
@[simp] theorem State.gapEv_casc (s : State) (i : Island) : (s.gapEv i).casc = s.casc := by unfold State.gapEv; split <;> rfl
@[simp] theorem State.gapEv_logic (s : State) (i : Island) : (s.gapEv i).logic = s.logic := by unfold State.gapEv; split <;> rfl
@[simp] theorem State.gapEv_ctrl (s : State) (i : Island) : (s.gapEv i).ctrl = s.ctrl := by unfold State.gapEv; split <;> rfl
@[simp] theorem State.gapEv_power (s : State) (i : Island) : (s.gapEv i).power = s.power := by unfold State.gapEv; split <;> rfl
@[simp] theorem State.gapEv_keep (s : State) (i : Island) : (s.gapEv i).keep = s.keep := by unfold State.gapEv; split <;> rfl
@[simp] theorem State.gapEv_tap (s : State) (i : Island) : (s.gapEv i).tap = s.tap := by unfold State.gapEv; split <;> rfl

/-! `postE` changes nothing but net, ledger, draws. -/

@[simp] theorem State.postE_pending (s : State) (i : Island) (c u : Nat) (a : List EvArg) (e : EvEdge) : (s.postE i c u a e).pending = s.pending := by simp only [State.postE]; split <;> simp
@[simp] theorem State.postE_clk (s : State) (i : Island) (c u : Nat) (a : List EvArg) (e : EvEdge) : (s.postE i c u a e).clk = s.clk := by simp only [State.postE]; split <;> simp
@[simp] theorem State.postE_dev (s : State) (i : Island) (c u : Nat) (a : List EvArg) (e : EvEdge) : (s.postE i c u a e).dev = s.dev := by simp only [State.postE]; split <;> simp
@[simp] theorem State.postE_fabric (s : State) (i : Island) (c u : Nat) (a : List EvArg) (e : EvEdge) : (s.postE i c u a e).fabric = s.fabric := by simp only [State.postE]; split <;> simp
@[simp] theorem State.postE_dict (s : State) (i : Island) (c u : Nat) (a : List EvArg) (e : EvEdge) : (s.postE i c u a e).dict = s.dict := by simp only [State.postE]; split <;> simp
@[simp] theorem State.postE_model (s : State) (i : Island) (c u : Nat) (a : List EvArg) (e : EvEdge) : (s.postE i c u a e).model = s.model := by simp only [State.postE]; split <;> simp
@[simp] theorem State.postE_loam (s : State) (i : Island) (c u : Nat) (a : List EvArg) (e : EvEdge) : (s.postE i c u a e).loam = s.loam := by simp only [State.postE]; split <;> simp
@[simp] theorem State.postE_hyd (s : State) (i : Island) (c u : Nat) (a : List EvArg) (e : EvEdge) : (s.postE i c u a e).hyd = s.hyd := by simp only [State.postE]; split <;> simp
@[simp] theorem State.postE_estim (s : State) (i : Island) (c u : Nat) (a : List EvArg) (e : EvEdge) : (s.postE i c u a e).estim = s.estim := by simp only [State.postE]; split <;> simp
@[simp] theorem State.postE_disp (s : State) (i : Island) (c u : Nat) (a : List EvArg) (e : EvEdge) : (s.postE i c u a e).disp = s.disp := by simp only [State.postE]; split <;> simp
@[simp] theorem State.postE_metr (s : State) (i : Island) (c u : Nat) (a : List EvArg) (e : EvEdge) : (s.postE i c u a e).metr = s.metr := by simp only [State.postE]; split <;> simp
@[simp] theorem State.postE_heat (s : State) (i : Island) (c u : Nat) (a : List EvArg) (e : EvEdge) : (s.postE i c u a e).heat = s.heat := by simp only [State.postE]; split <;> simp
@[simp] theorem State.postE_health (s : State) (i : Island) (c u : Nat) (a : List EvArg) (e : EvEdge) : (s.postE i c u a e).health = s.health := by simp only [State.postE]; split <;> simp
@[simp] theorem State.postE_cal (s : State) (i : Island) (c u : Nat) (a : List EvArg) (e : EvEdge) : (s.postE i c u a e).cal = s.cal := by simp only [State.postE]; split <;> simp
@[simp] theorem State.postE_sync (s : State) (i : Island) (c u : Nat) (a : List EvArg) (e : EvEdge) : (s.postE i c u a e).sync = s.sync := by simp only [State.postE]; split <;> simp
@[simp] theorem State.postE_lease (s : State) (i : Island) (c u : Nat) (a : List EvArg) (e : EvEdge) : (s.postE i c u a e).lease = s.lease := by simp only [State.postE]; split <;> simp
@[simp] theorem State.postE_casc (s : State) (i : Island) (c u : Nat) (a : List EvArg) (e : EvEdge) : (s.postE i c u a e).casc = s.casc := by simp only [State.postE]; split <;> simp
@[simp] theorem State.postE_logic (s : State) (i : Island) (c u : Nat) (a : List EvArg) (e : EvEdge) : (s.postE i c u a e).logic = s.logic := by simp only [State.postE]; split <;> simp
@[simp] theorem State.postE_ctrl (s : State) (i : Island) (c u : Nat) (a : List EvArg) (e : EvEdge) : (s.postE i c u a e).ctrl = s.ctrl := by simp only [State.postE]; split <;> simp
@[simp] theorem State.postE_power (s : State) (i : Island) (c u : Nat) (a : List EvArg) (e : EvEdge) : (s.postE i c u a e).power = s.power := by simp only [State.postE]; split <;> simp
@[simp] theorem State.postE_keep (s : State) (i : Island) (c u : Nat) (a : List EvArg) (e : EvEdge) : (s.postE i c u a e).keep = s.keep := by simp only [State.postE]; split <;> simp
@[simp] theorem State.postE_tap (s : State) (i : Island) (c u : Nat) (a : List EvArg) (e : EvEdge) : (s.postE i c u a e).tap = s.tap := by simp only [State.postE]; split <;> simp

/-! `post` changes nothing but net, ledger, draws. -/

@[simp] theorem State.post_pending (s : State) (i : Island) (c u : Nat) (a : List EvArg) : (s.post i c u a).pending = s.pending := by simp [State.post]
@[simp] theorem State.post_clk (s : State) (i : Island) (c u : Nat) (a : List EvArg) : (s.post i c u a).clk = s.clk := by simp [State.post]
@[simp] theorem State.post_dev (s : State) (i : Island) (c u : Nat) (a : List EvArg) : (s.post i c u a).dev = s.dev := by simp [State.post]
@[simp] theorem State.post_fabric (s : State) (i : Island) (c u : Nat) (a : List EvArg) : (s.post i c u a).fabric = s.fabric := by simp [State.post]
@[simp] theorem State.post_dict (s : State) (i : Island) (c u : Nat) (a : List EvArg) : (s.post i c u a).dict = s.dict := by simp [State.post]
@[simp] theorem State.post_model (s : State) (i : Island) (c u : Nat) (a : List EvArg) : (s.post i c u a).model = s.model := by simp [State.post]
@[simp] theorem State.post_loam (s : State) (i : Island) (c u : Nat) (a : List EvArg) : (s.post i c u a).loam = s.loam := by simp [State.post]
@[simp] theorem State.post_hyd (s : State) (i : Island) (c u : Nat) (a : List EvArg) : (s.post i c u a).hyd = s.hyd := by simp [State.post]
@[simp] theorem State.post_estim (s : State) (i : Island) (c u : Nat) (a : List EvArg) : (s.post i c u a).estim = s.estim := by simp [State.post]
@[simp] theorem State.post_disp (s : State) (i : Island) (c u : Nat) (a : List EvArg) : (s.post i c u a).disp = s.disp := by simp [State.post]
@[simp] theorem State.post_metr (s : State) (i : Island) (c u : Nat) (a : List EvArg) : (s.post i c u a).metr = s.metr := by simp [State.post]
@[simp] theorem State.post_heat (s : State) (i : Island) (c u : Nat) (a : List EvArg) : (s.post i c u a).heat = s.heat := by simp [State.post]
@[simp] theorem State.post_health (s : State) (i : Island) (c u : Nat) (a : List EvArg) : (s.post i c u a).health = s.health := by simp [State.post]
@[simp] theorem State.post_cal (s : State) (i : Island) (c u : Nat) (a : List EvArg) : (s.post i c u a).cal = s.cal := by simp [State.post]
@[simp] theorem State.post_sync (s : State) (i : Island) (c u : Nat) (a : List EvArg) : (s.post i c u a).sync = s.sync := by simp [State.post]
@[simp] theorem State.post_lease (s : State) (i : Island) (c u : Nat) (a : List EvArg) : (s.post i c u a).lease = s.lease := by simp [State.post]
@[simp] theorem State.post_casc (s : State) (i : Island) (c u : Nat) (a : List EvArg) : (s.post i c u a).casc = s.casc := by simp [State.post]
@[simp] theorem State.post_logic (s : State) (i : Island) (c u : Nat) (a : List EvArg) : (s.post i c u a).logic = s.logic := by simp [State.post]
@[simp] theorem State.post_ctrl (s : State) (i : Island) (c u : Nat) (a : List EvArg) : (s.post i c u a).ctrl = s.ctrl := by simp [State.post]
@[simp] theorem State.post_power (s : State) (i : Island) (c u : Nat) (a : List EvArg) : (s.post i c u a).power = s.power := by simp [State.post]
@[simp] theorem State.post_keep (s : State) (i : Island) (c u : Nat) (a : List EvArg) : (s.post i c u a).keep = s.keep := by simp [State.post]
@[simp] theorem State.post_tap (s : State) (i : Island) (c u : Nat) (a : List EvArg) : (s.post i c u a).tap = s.tap := by simp [State.post]

/-! `logState` changes nothing but net, ledger, draws. -/

@[simp] theorem State.logState_pending (s : State) : (s.logState).pending = s.pending := by simp [State.logState]
@[simp] theorem State.logState_clk (s : State) : (s.logState).clk = s.clk := by simp [State.logState]
@[simp] theorem State.logState_dev (s : State) : (s.logState).dev = s.dev := by simp [State.logState]
@[simp] theorem State.logState_fabric (s : State) : (s.logState).fabric = s.fabric := by simp [State.logState]
@[simp] theorem State.logState_dict (s : State) : (s.logState).dict = s.dict := by simp [State.logState]
@[simp] theorem State.logState_model (s : State) : (s.logState).model = s.model := by simp [State.logState]
@[simp] theorem State.logState_loam (s : State) : (s.logState).loam = s.loam := by simp [State.logState]
@[simp] theorem State.logState_hyd (s : State) : (s.logState).hyd = s.hyd := by simp [State.logState]
@[simp] theorem State.logState_estim (s : State) : (s.logState).estim = s.estim := by simp [State.logState]
@[simp] theorem State.logState_disp (s : State) : (s.logState).disp = s.disp := by simp [State.logState]
@[simp] theorem State.logState_metr (s : State) : (s.logState).metr = s.metr := by simp [State.logState]
@[simp] theorem State.logState_heat (s : State) : (s.logState).heat = s.heat := by simp [State.logState]
@[simp] theorem State.logState_health (s : State) : (s.logState).health = s.health := by simp [State.logState]
@[simp] theorem State.logState_cal (s : State) : (s.logState).cal = s.cal := by simp [State.logState]
@[simp] theorem State.logState_sync (s : State) : (s.logState).sync = s.sync := by simp [State.logState]
@[simp] theorem State.logState_lease (s : State) : (s.logState).lease = s.lease := by simp [State.logState]
@[simp] theorem State.logState_casc (s : State) : (s.logState).casc = s.casc := by simp [State.logState]
@[simp] theorem State.logState_logic (s : State) : (s.logState).logic = s.logic := by simp [State.logState]
@[simp] theorem State.logState_ctrl (s : State) : (s.logState).ctrl = s.ctrl := by simp [State.logState]
@[simp] theorem State.logState_power (s : State) : (s.logState).power = s.power := by simp [State.logState]
@[simp] theorem State.logState_keep (s : State) : (s.logState).keep = s.keep := by simp [State.logState]
@[simp] theorem State.logState_tap (s : State) : (s.logState).tap = s.tap := by simp [State.logState]

/-! `logCause` changes nothing but net, ledger, draws. -/

@[simp] theorem State.logCause_pending (s : State) : (s.logCause).pending = s.pending := by simp [State.logCause]
@[simp] theorem State.logCause_clk (s : State) : (s.logCause).clk = s.clk := by simp [State.logCause]
@[simp] theorem State.logCause_dev (s : State) : (s.logCause).dev = s.dev := by simp [State.logCause]
@[simp] theorem State.logCause_fabric (s : State) : (s.logCause).fabric = s.fabric := by simp [State.logCause]
@[simp] theorem State.logCause_dict (s : State) : (s.logCause).dict = s.dict := by simp [State.logCause]
@[simp] theorem State.logCause_model (s : State) : (s.logCause).model = s.model := by simp [State.logCause]
@[simp] theorem State.logCause_loam (s : State) : (s.logCause).loam = s.loam := by simp [State.logCause]
@[simp] theorem State.logCause_hyd (s : State) : (s.logCause).hyd = s.hyd := by simp [State.logCause]
@[simp] theorem State.logCause_estim (s : State) : (s.logCause).estim = s.estim := by simp [State.logCause]
@[simp] theorem State.logCause_disp (s : State) : (s.logCause).disp = s.disp := by simp [State.logCause]
@[simp] theorem State.logCause_metr (s : State) : (s.logCause).metr = s.metr := by simp [State.logCause]
@[simp] theorem State.logCause_heat (s : State) : (s.logCause).heat = s.heat := by simp [State.logCause]
@[simp] theorem State.logCause_health (s : State) : (s.logCause).health = s.health := by simp [State.logCause]
@[simp] theorem State.logCause_cal (s : State) : (s.logCause).cal = s.cal := by simp [State.logCause]
@[simp] theorem State.logCause_sync (s : State) : (s.logCause).sync = s.sync := by simp [State.logCause]
@[simp] theorem State.logCause_lease (s : State) : (s.logCause).lease = s.lease := by simp [State.logCause]
@[simp] theorem State.logCause_casc (s : State) : (s.logCause).casc = s.casc := by simp [State.logCause]
@[simp] theorem State.logCause_logic (s : State) : (s.logCause).logic = s.logic := by simp [State.logCause]
@[simp] theorem State.logCause_ctrl (s : State) : (s.logCause).ctrl = s.ctrl := by simp [State.logCause]
@[simp] theorem State.logCause_power (s : State) : (s.logCause).power = s.power := by simp [State.logCause]
@[simp] theorem State.logCause_keep (s : State) : (s.logCause).keep = s.keep := by simp [State.logCause]
@[simp] theorem State.logCause_tap (s : State) : (s.logCause).tap = s.tap := by simp [State.logCause]

/-! `enter` changes nothing but dev, net, ledger, draws. -/

@[simp] theorem State.enter_pending (s : State) (d : DevState) : (s.enter d).pending = s.pending := by unfold State.enter; split <;> simp
@[simp] theorem State.enter_clk (s : State) (d : DevState) : (s.enter d).clk = s.clk := by unfold State.enter; split <;> simp
@[simp] theorem State.enter_fabric (s : State) (d : DevState) : (s.enter d).fabric = s.fabric := by unfold State.enter; split <;> simp
@[simp] theorem State.enter_dict (s : State) (d : DevState) : (s.enter d).dict = s.dict := by unfold State.enter; split <;> simp
@[simp] theorem State.enter_model (s : State) (d : DevState) : (s.enter d).model = s.model := by unfold State.enter; split <;> simp
@[simp] theorem State.enter_loam (s : State) (d : DevState) : (s.enter d).loam = s.loam := by unfold State.enter; split <;> simp
@[simp] theorem State.enter_hyd (s : State) (d : DevState) : (s.enter d).hyd = s.hyd := by unfold State.enter; split <;> simp
@[simp] theorem State.enter_estim (s : State) (d : DevState) : (s.enter d).estim = s.estim := by unfold State.enter; split <;> simp
@[simp] theorem State.enter_disp (s : State) (d : DevState) : (s.enter d).disp = s.disp := by unfold State.enter; split <;> simp
@[simp] theorem State.enter_metr (s : State) (d : DevState) : (s.enter d).metr = s.metr := by unfold State.enter; split <;> simp
@[simp] theorem State.enter_heat (s : State) (d : DevState) : (s.enter d).heat = s.heat := by unfold State.enter; split <;> simp
@[simp] theorem State.enter_health (s : State) (d : DevState) : (s.enter d).health = s.health := by unfold State.enter; split <;> simp
@[simp] theorem State.enter_cal (s : State) (d : DevState) : (s.enter d).cal = s.cal := by unfold State.enter; split <;> simp
@[simp] theorem State.enter_sync (s : State) (d : DevState) : (s.enter d).sync = s.sync := by unfold State.enter; split <;> simp
@[simp] theorem State.enter_lease (s : State) (d : DevState) : (s.enter d).lease = s.lease := by unfold State.enter; split <;> simp
@[simp] theorem State.enter_casc (s : State) (d : DevState) : (s.enter d).casc = s.casc := by unfold State.enter; split <;> simp
@[simp] theorem State.enter_logic (s : State) (d : DevState) : (s.enter d).logic = s.logic := by unfold State.enter; split <;> simp
@[simp] theorem State.enter_ctrl (s : State) (d : DevState) : (s.enter d).ctrl = s.ctrl := by unfold State.enter; split <;> simp
@[simp] theorem State.enter_power (s : State) (d : DevState) : (s.enter d).power = s.power := by unfold State.enter; split <;> simp
@[simp] theorem State.enter_keep (s : State) (d : DevState) : (s.enter d).keep = s.keep := by unfold State.enter; split <;> simp
@[simp] theorem State.enter_tap (s : State) (d : DevState) : (s.enter d).tap = s.tap := by unfold State.enter; split <;> simp

/-! `setCause` changes nothing but dev, net, ledger, draws. -/

@[simp] theorem State.setCause_pending (s : State) (b : Nat) (o : Bool) : (s.setCause b o).pending = s.pending := by simp only [State.setCause]; repeat (first | split | simp)
@[simp] theorem State.setCause_clk (s : State) (b : Nat) (o : Bool) : (s.setCause b o).clk = s.clk := by simp only [State.setCause]; repeat (first | split | simp)
@[simp] theorem State.setCause_fabric (s : State) (b : Nat) (o : Bool) : (s.setCause b o).fabric = s.fabric := by simp only [State.setCause]; repeat (first | split | simp)
@[simp] theorem State.setCause_dict (s : State) (b : Nat) (o : Bool) : (s.setCause b o).dict = s.dict := by simp only [State.setCause]; repeat (first | split | simp)
@[simp] theorem State.setCause_model (s : State) (b : Nat) (o : Bool) : (s.setCause b o).model = s.model := by simp only [State.setCause]; repeat (first | split | simp)
@[simp] theorem State.setCause_loam (s : State) (b : Nat) (o : Bool) : (s.setCause b o).loam = s.loam := by simp only [State.setCause]; repeat (first | split | simp)
@[simp] theorem State.setCause_hyd (s : State) (b : Nat) (o : Bool) : (s.setCause b o).hyd = s.hyd := by simp only [State.setCause]; repeat (first | split | simp)
@[simp] theorem State.setCause_estim (s : State) (b : Nat) (o : Bool) : (s.setCause b o).estim = s.estim := by simp only [State.setCause]; repeat (first | split | simp)
@[simp] theorem State.setCause_disp (s : State) (b : Nat) (o : Bool) : (s.setCause b o).disp = s.disp := by simp only [State.setCause]; repeat (first | split | simp)
@[simp] theorem State.setCause_metr (s : State) (b : Nat) (o : Bool) : (s.setCause b o).metr = s.metr := by simp only [State.setCause]; repeat (first | split | simp)
@[simp] theorem State.setCause_heat (s : State) (b : Nat) (o : Bool) : (s.setCause b o).heat = s.heat := by simp only [State.setCause]; repeat (first | split | simp)
@[simp] theorem State.setCause_health (s : State) (b : Nat) (o : Bool) : (s.setCause b o).health = s.health := by simp only [State.setCause]; repeat (first | split | simp)
@[simp] theorem State.setCause_cal (s : State) (b : Nat) (o : Bool) : (s.setCause b o).cal = s.cal := by simp only [State.setCause]; repeat (first | split | simp)
@[simp] theorem State.setCause_sync (s : State) (b : Nat) (o : Bool) : (s.setCause b o).sync = s.sync := by simp only [State.setCause]; repeat (first | split | simp)
@[simp] theorem State.setCause_lease (s : State) (b : Nat) (o : Bool) : (s.setCause b o).lease = s.lease := by simp only [State.setCause]; repeat (first | split | simp)
@[simp] theorem State.setCause_casc (s : State) (b : Nat) (o : Bool) : (s.setCause b o).casc = s.casc := by simp only [State.setCause]; repeat (first | split | simp)
@[simp] theorem State.setCause_logic (s : State) (b : Nat) (o : Bool) : (s.setCause b o).logic = s.logic := by simp only [State.setCause]; repeat (first | split | simp)
@[simp] theorem State.setCause_ctrl (s : State) (b : Nat) (o : Bool) : (s.setCause b o).ctrl = s.ctrl := by simp only [State.setCause]; repeat (first | split | simp)
@[simp] theorem State.setCause_power (s : State) (b : Nat) (o : Bool) : (s.setCause b o).power = s.power := by simp only [State.setCause]; repeat (first | split | simp)
@[simp] theorem State.setCause_keep (s : State) (b : Nat) (o : Bool) : (s.setCause b o).keep = s.keep := by simp only [State.setCause]; repeat (first | split | simp)
@[simp] theorem State.setCause_tap (s : State) (b : Nat) (o : Bool) : (s.setCause b o).tap = s.tap := by simp only [State.setCause]; repeat (first | split | simp)

/-! `clearHold` changes nothing but dev, net, ledger, draws. -/

@[simp] theorem State.clearHold_pending (s : State) (c : Nat) : (s.clearHold c).pending = s.pending := by unfold State.clearHold; split <;> simp [State.holdBit]
@[simp] theorem State.clearHold_clk (s : State) (c : Nat) : (s.clearHold c).clk = s.clk := by unfold State.clearHold; split <;> simp [State.holdBit]
@[simp] theorem State.clearHold_fabric (s : State) (c : Nat) : (s.clearHold c).fabric = s.fabric := by unfold State.clearHold; split <;> simp [State.holdBit]
@[simp] theorem State.clearHold_dict (s : State) (c : Nat) : (s.clearHold c).dict = s.dict := by unfold State.clearHold; split <;> simp [State.holdBit]
@[simp] theorem State.clearHold_model (s : State) (c : Nat) : (s.clearHold c).model = s.model := by unfold State.clearHold; split <;> simp [State.holdBit]
@[simp] theorem State.clearHold_loam (s : State) (c : Nat) : (s.clearHold c).loam = s.loam := by unfold State.clearHold; split <;> simp [State.holdBit]
@[simp] theorem State.clearHold_hyd (s : State) (c : Nat) : (s.clearHold c).hyd = s.hyd := by unfold State.clearHold; split <;> simp [State.holdBit]
@[simp] theorem State.clearHold_estim (s : State) (c : Nat) : (s.clearHold c).estim = s.estim := by unfold State.clearHold; split <;> simp [State.holdBit]
@[simp] theorem State.clearHold_disp (s : State) (c : Nat) : (s.clearHold c).disp = s.disp := by unfold State.clearHold; split <;> simp [State.holdBit]
@[simp] theorem State.clearHold_metr (s : State) (c : Nat) : (s.clearHold c).metr = s.metr := by unfold State.clearHold; split <;> simp [State.holdBit]
@[simp] theorem State.clearHold_heat (s : State) (c : Nat) : (s.clearHold c).heat = s.heat := by unfold State.clearHold; split <;> simp [State.holdBit]
@[simp] theorem State.clearHold_health (s : State) (c : Nat) : (s.clearHold c).health = s.health := by unfold State.clearHold; split <;> simp [State.holdBit]
@[simp] theorem State.clearHold_cal (s : State) (c : Nat) : (s.clearHold c).cal = s.cal := by unfold State.clearHold; split <;> simp [State.holdBit]
@[simp] theorem State.clearHold_sync (s : State) (c : Nat) : (s.clearHold c).sync = s.sync := by unfold State.clearHold; split <;> simp [State.holdBit]
@[simp] theorem State.clearHold_lease (s : State) (c : Nat) : (s.clearHold c).lease = s.lease := by unfold State.clearHold; split <;> simp [State.holdBit]
@[simp] theorem State.clearHold_casc (s : State) (c : Nat) : (s.clearHold c).casc = s.casc := by unfold State.clearHold; split <;> simp [State.holdBit]
@[simp] theorem State.clearHold_logic (s : State) (c : Nat) : (s.clearHold c).logic = s.logic := by unfold State.clearHold; split <;> simp [State.holdBit]
@[simp] theorem State.clearHold_ctrl (s : State) (c : Nat) : (s.clearHold c).ctrl = s.ctrl := by unfold State.clearHold; split <;> simp [State.holdBit]
@[simp] theorem State.clearHold_power (s : State) (c : Nat) : (s.clearHold c).power = s.power := by unfold State.clearHold; split <;> simp [State.holdBit]
@[simp] theorem State.clearHold_keep (s : State) (c : Nat) : (s.clearHold c).keep = s.keep := by unfold State.clearHold; split <;> simp [State.holdBit]
@[simp] theorem State.clearHold_tap (s : State) (c : Nat) : (s.clearHold c).tap = s.tap := by unfold State.clearHold; split <;> simp [State.holdBit]

end Machine
end Sys2Proof
end

