-- ==== Sys2Proof/Laws/Command.lean ====
section
/-! SUPPORT. From a meaning to a statement that its command completes: one lemma for each way in which a meaning is written. -/

namespace Sys2Proof
namespace Machine

/-- A state that kept the queue and the raw clock is the answer. -/
theorem State.became_eq (s u : State) (hp : u.pending = s.pending) (hr : u.clk.raw = s.clk.raw) : s.became u = .next u := by
  simp only [State.became, ← hp, ← hr]

/-- Whatever a meaning made of the state, the answer has the queue and the raw clock of the state found. -/
theorem State.became_next (s u : State) : ∃ v, s.became u = .next v ∧ v.pending = s.pending ∧ v.clk.raw = s.clk.raw :=
  ⟨_, rfl, rfl, rfl⟩

/-- A command of an island that runs completes with what its effect makes of the state at its moment. -/
theorem does_onIsland {c : Instr} {i : Island} {t : Nat} {s : State} {f : State → State} {P : State → Prop}
    (he : exec c s = onIsland i t s f) (hl : s.live i t)
    (hp : (f (s.advance t)).pending = s.pending) (hr : (f (s.advance t)).clk.raw = (s.advance t).clk.raw)
    (h : P (f (s.advance t))) : Does c s P :=
  ⟨_, by rw [he, onIsland_runs i t s f hl, State.became_eq _ _ (by simpa using hp) hr], h⟩

/-- As `does_onIsland`, for a command that names a unit. -/
theorem does_onUnit {c : Instr} {ok : Bool} {i : Island} {t : Nat} {s : State} {f : State → State} {P : State → Prop}
    (he : exec c s = onUnit ok i t s f) (ho : ok = true) (hl : s.live i t)
    (hp : (f (s.advance t)).pending = s.pending) (hr : (f (s.advance t)).clk.raw = (s.advance t).clk.raw)
    (h : P (f (s.advance t))) : Does c s P :=
  ⟨_, by rw [he, onUnit_runs ok i t s f ho hl, State.became_eq _ _ (by simpa using hp) hr], h⟩

/-- As `does_onIsland`, for a command that acts whatever runs. -/
theorem does_atMoment {c : Instr} {t : Nat} {s : State} {f : State → State} {P : State → Prop}
    (he : exec c s = atMoment t s f)
    (hp : (f (s.advance t)).pending = s.pending) (hr : (f (s.advance t)).clk.raw = (s.advance t).clk.raw)
    (h : P (f (s.advance t))) : Does c s P :=
  ⟨_, by rw [he, atMoment, State.became_eq _ _ (by simpa using hp) hr], h⟩

/-- A logic instruction completes with what it makes of the state. -/
theorem does_became {c : Instr} {s u : State} {P : State → Prop} (he : exec c s = s.became u)
    (hp : u.pending = s.pending) (hr : u.clk.raw = s.clk.raw) (h : P u) : Does c s P :=
  ⟨_, by rw [he, State.became_eq _ _ hp hr], h⟩

/-- A command that acts whatever runs always completes; its queue stays and raw time does not run back. -/
theorem atMoment_done (t : Nat) (s : State) (f : State → State) :
    ∃ u, atMoment t s f = .next u ∧ u.pending = s.pending ∧ s.clk.raw ≤ u.clk.raw :=
  ⟨_, rfl, s.advance_pending t, s.advance_raw_le t⟩

/-- So does a command of an island, running or stopped. -/
theorem onIsland_done (i : Island) (t : Nat) (s : State) (f : State → State) :
    ∃ u, onIsland i t s f = .next u ∧ u.pending = s.pending ∧ s.clk.raw ≤ u.clk.raw := atMoment_done t s _

/-- So does a command that names a unit that exists. -/
theorem onUnit_done {ok : Bool} (i : Island) (t : Nat) (s : State) (f : State → State) (h : ok = true) :
    ∃ u, onUnit ok i t s f = .next u ∧ u.pending = s.pending ∧ s.clk.raw ≤ u.clk.raw := by
  subst h; exact atMoment_done t s _

/-- A unit that does not exist is a fault. -/
theorem onUnit_stop {ok : Bool} (i : Island) (t : Nat) (s : State) (f : State → State) (h : ok = false) :
    onUnit ok i t s f = .fault .noSuchUnit := by
  subst h; rfl

/-! ## Free values within bounds -/

/-- An island's copy of device time is never above the later of what it read before and device time (R29). -/
theorem State.localTime_le (s : State) (i : Island) : s.localTime i ≤ max (Tab.get 0 s.net.localTime i.num) s.clk.dev :=
  max_le_max (Nat.le_refl _) (Nat.sub_le _ _)

/-- Nor is it more than 40 ns late. -/
theorem State.le_localTime (s : State) (i : Island) : s.clk.dev - 40 ≤ s.localTime i := by
  have h : Config.freeLag s.draws % 41 < 41 := Nat.mod_lt _ (by decide)
  exact Nat.le_trans (by omega) (Nat.le_max_right _ _)

/-- A job whose deadline is not reached on any copy of device time computes. -/
theorem State.computes_of (s : State) (c : Nat) (h : (decide (s.loam.running = some c) && decide ((s.job c).state = 1) &&
    decide (max (Tab.get 0 s.net.localTime Island.solv.num) s.clk.dev < (s.job c).deadline) && !(s.job c).inputLost && !(s.job c).met) = true) :
    s.computes c = true := by
  simp only [State.computes, Bool.and_eq_true, decide_eq_true_eq] at h ⊢
  exact ⟨⟨⟨h.1.1.1, Nat.lt_of_le_of_lt (s.localTime_le .solv) h.1.1.2⟩, h.1.2⟩, h.2⟩

/-- The staging holds at least 16 MiB. -/
theorem le_stagingRoom (n : Nat) (h : n ≤ 16777216) : n ≤ stagingRoom := Nat.le_trans h (Nat.le_add_right _ _)

end Machine
end Sys2Proof
end

