-- ==== Sys2Proof/Laws/Access.lean ====
section
/-! SUPPORT. What the dictionary server makes of a request it takes up, and of a write that every check lets through. -/

namespace Sys2Proof
namespace Machine

@[simp] theorem Acc.req_src (a : Acc) (p : Pdu) : (a.req p).src = a.src := rfl
@[simp] theorem Acc.req_pdu (a : Acc) (p : Pdu) : (a.req p).pdu = p := rfl

theorem Acc.req_ctx (a : Acc) (cs flags idx sub : Nat) (b : Octets) : (a.req (a.pdu cs flags idx sub b)).ctx = a.ctx := rfl

/-- A request that is taken up is served, remembered and answered. -/
theorem State.access_takes (s : State) (r : Req) (h : s.takes r) :
    s.access r = ((((s.turn r).serveCs r).s.remember r ((s.turn r).serveCs r).reply).reply r ((s.turn r).serveCs r).reply
      ((s.turn r).owedKey r)) := by
  obtain ⟨h1, h2, h3, h4, h5, h6⟩ := h
  have hn : (s.takeToken r).1.now = s.now := by
    unfold State.takeToken; split; rfl; simp only []; split <;> rfl
  have hd : (s.takeToken r).1.dev = s.dev := by
    unfold State.takeToken; split; rfl; simp only []; split <;> rfl
  have hin : (s.takeToken r).1.serveIn r = ((((s.turn r).serveCs r).s.remember r ((s.turn r).serveCs r).reply).reply r
      ((s.turn r).serveCs r).reply ((s.turn r).owedKey r)) := by
    have ht : (s.takeToken r).1.modSess r.ctx (fun v => { v with idleSince := (s.takeToken r).1.now }) = s.turn r := by
      rw [State.turn, hn]
    simp only [State.serveIn, ht, if_neg h6]
  have hp : (s.takeToken r).1.pathServed r.src = true := by
    simp only [State.pathServed, State.booting, hd] at h1 ⊢; exact h1
  have hb : (s.takeToken r).1.booting = s.booting := by simp [State.booting, hd]
  simp only [State.access, h1, h2, State.serveReq, hp]
  by_cases hnet : r.net = true
  · obtain ⟨ha, hf, hau⟩ := h4 hnet
    simp [hnet, State.serveNet, ha, h3, hf, hau, hin]
  · have hnet' : r.net = false := by simpa using hnet
    simp [hnet', State.serveHost, hb, h5 hnet', hin]

/-- Where every check before the owner's passes, a write does what its owner makes of it. -/
theorem State.serveWrite_done (v w : State) (r : Req) (e : Ent) (he : v.entryOk r .write r.pdu.index r.pdu.sub e)
    (ht : v.sealOk r 2 r.pdu.index r.pdu.sub r.pdu.data (v.needsTrailer r r.pdu.index r.pdu.sub e))
    (hl : r.pdu.data.length ≤ r.limit) (h7 : e.badLength r.pdu.index r.pdu.sub r.pdu.data = false) (h8 : e.badValue r.pdu.data = false)
    (hs : (v.sealed r 2 r.pdu.index r.pdu.sub r.pdu.data (v.needsTrailer r r.pdu.index r.pdu.sub e)).shut r.pdu.index = false)
    (hr : (v.sealed r 2 r.pdu.index r.pdu.sub r.pdu.data (v.needsTrailer r r.pdu.index r.pdu.sub e)).readOpen r.pdu.index r.pdu.sub true = false)
    (hd : (v.sealed r 2 r.pdu.index r.pdu.sub r.pdu.data (v.needsTrailer r r.pdu.index r.pdu.sub e)).applyWrite r.ctx r.pdu.index r.pdu.sub
      r.pdu.data = .done w) : v.serveWrite r = w.yes 0 [] := by
  have hl' : ¬ (r.limit < r.pdu.data.length) := by omega
  simp only [State.entryOk, State.sealOk, State.sealed] at *
  simp [State.serveWrite, he, ht, hl', State.writeValue, h7, h8, hs, hr, hd]

/-- What only differs in the network part. -/
def OnlyNet (s u : State) : Prop := u = { s with net := u.net }

theorem OnlyNet.trans {s u w : State} (h : OnlyNet s u) (k : OnlyNet u w) : OnlyNet s w := by
  rw [OnlyNet] at h k
  rw [h] at k
  exact k

theorem OnlyNet.rfl' (s : State) : OnlyNet s s := rfl

theorem OnlyNet.of (s : State) (m : Net) : OnlyNet s { s with net := m } := rfl

theorem State.modSess_net (s : State) (n : Nat) (f : Session → Session) : OnlyNet s (s.modSess n f) := OnlyNet.of ..

/-- Check 6 leaves the same state whether or not it asks for a trailer. -/
theorem State.sealed_need (v : State) (r : Req) (cs idx sub : Nat) (b : Octets) (x y : Bool) :
    v.sealed r cs idx sub b x = v.sealed r cs idx sub b y := by
  simp only [State.sealed, State.trailerCheck, State.trailer]; split <;> rfl

/-- A check 6 that passes changes the session table alone. -/
theorem State.sealed_net (v : State) (r : Req) (cs idx sub : Nat) (b : Octets) (x : Bool) (h : v.sealOk r cs idx sub b x) :
    OnlyNet v (v.sealed r cs idx sub b x) := by
  simp only [State.sealOk, State.sealed, State.trailerCheck, State.trailer] at *
  split at h
  · exact OnlyNet.rfl' v
  · split at h
    · simp at h
    · rename_i h1
      rw [if_neg h1]
      split at h
      · simp at h
      · rename_i h2; rw [if_neg h2]; exact OnlyNet.of ..

/-- Taking up a request changes the session table alone. -/
theorem State.turn_net (s : State) (r : Req) : OnlyNet s (s.turn r) := by
  have h : OnlyNet s (s.takeToken r).1 := by
    unfold State.takeToken
    split
    · exact OnlyNet.rfl' s
    · simp only []
      split <;> exact OnlyNet.of ..
  exact h.trans (State.modSess_net ..)

theorem State.remember_net (s : State) (r : Req) (v : Reply) : OnlyNet s (s.remember r v) := by
  unfold State.remember
  split
  · exact State.modSess_net ..
  · exact OnlyNet.rfl' s

theorem State.emit_net (s : State) (f : Sent) : OnlyNet s (s.emit f) := OnlyNet.of ..

theorem State.modMac_net (s : State) (m : Nat) (f : Mac → Mac) : OnlyNet s (s.modMac m f) := OnlyNet.of ..

theorem State.sendNow_net (s : State) (d : Datagram) : OnlyNet s (s.sendNow d) := OnlyNet.of ..

theorem State.modPort_net (s : State) (m : Nat) (f : CanPort → CanPort) : OnlyNet s (s.modPort m f) := OnlyNet.of ..

theorem State.sendUdp_net (s : State) (d : Datagram) : OnlyNet s (s.sendUdp d) := by
  unfold State.sendUdp
  split
  · exact OnlyNet.rfl' s
  · simp only []
    split
    · exact State.sendNow_net ..
    · split
      · exact (((State.modMac_net ..).trans (State.emit_net ..)).trans (State.emit_net ..)).trans (State.emit_net ..)
      · exact State.modMac_net ..

theorem State.sendCan_net (s : State) (p a b : Nat) (f : CanFrame) (c : Option Nat) : OnlyNet s (s.sendCan p a b f c) := by
  unfold State.sendCan
  split
  · exact OnlyNet.rfl' s
  · exact State.modPort_net ..

/-- Sending an answer changes the network part alone. -/
theorem State.sendTo_net (s : State) (d : Peer) (p : Pdu) (b : Octets) : OnlyNet s (s.sendTo d p b) := by
  unfold State.sendTo
  split
  · exact State.sendCan_net ..
  · exact State.sendUdp_net ..
  · exact OnlyNet.of ..

/-- The owner of an entry gets the value in the state at hand, but for the session table. -/
theorem State.atOwner_net (s : State) (a : Acc) (idx sub : Nat) (b : Octets) (h : s.writes a idx sub b) :
    OnlyNet s (s.atOwner a idx sub b) := by
  obtain ⟨_, _, e, _, h1, _⟩ := h
  rw [State.atOwner, State.sealed_need _ _ _ _ _ _ false _]
  exact (State.turn_net s _).trans (State.sealed_net _ _ _ _ _ _ _ h1)

/-- A write that every check lets through leaves what its owner made of the value, but for the session table and the answer. -/
theorem State.writeWhole_done (s v : State) (a : Acc) (idx sub : Nat) (b : Octets) (h : s.writes a idx sub b)
    (hd : (s.atOwner a idx sub b).applyWrite a.ctx idx sub b = .done v) : OnlyNet v (s.writeWhole a idx sub b) := by
  obtain ⟨hl, ht, e, he, h1, h7, h8, hs, hr⟩ := h
  have hsw := State.serveWrite_done (s.turn (a.req (a.pdu 2 0 idx sub b))) v (a.req (a.pdu 2 0 idx sub b)) e he h1
    (by
      have : (a.req (a.pdu 2 0 idx sub b)).limit = a.room a.crit.isSome := by
        simp only [Req.limit, Acc.room, Acc.req, Acc.pdu, Pdu.crit]
        cases a.src <;> simp
        cases a.crit <;> simp [b2n, bitOf]
      rw [this]; exact hl)
    h7 h8 (by rw [State.sealed_need _ _ _ _ _ _ _ false]; exact hs) (by rw [State.sealed_need _ _ _ _ _ _ _ false]; exact hr)
    (by rw [State.sealed_need _ _ _ _ _ _ _ false]; exact hd)
  have hcs : (s.turn (a.req (a.pdu 2 0 idx sub b))).serveCs (a.req (a.pdu 2 0 idx sub b)) = v.yes 0 [] := hsw
  unfold State.writeWhole
  rw [if_pos hl, State.access_takes s _ ht, hcs]
  have hm := State.remember_net v (a.req (a.pdu 2 0 idx sub b)) (v.yes 0 []).reply
  exact hm.trans (State.sendTo_net ..)

/-- The owner of an entry gets the value in the state at hand with another network part. -/
theorem State.atOwner_eq (s : State) (a : Acc) (idx sub : Nat) (b : Octets) (h : s.writes a idx sub b) :
    ∃ n, s.atOwner a idx sub b = { s with net := n } := ⟨_, State.atOwner_net s a idx sub b h⟩

/-- A write that may be made completes with what the owner makes of the value, but for the network part. -/
theorem does_write {c : Instr} {ok : Bool} {t idx sub : Nat} {a : Acc} {b : Octets} {s v : State} {P : State → Prop}
    (he : exec c s = writeCmd ok t a idx sub b s) (ho : ok = true) (h : s.mayWrite t a idx sub b)
    (hd : ((s.advance t).atOwner a idx sub b).applyWrite a.ctx idx sub b = .done v)
    (hp : v.pending = s.pending) (hr : v.clk.raw = (s.advance t).clk.raw) (hP : ∀ n, P { v with net := n }) : Does c s P := by
  have hw := State.writeWhole_done _ v a idx sub b h.2 hd
  refine does_onUnit (f := fun s => s.writeWhole a idx sub b) (he.trans rfl) ho h.1 ?_ ?_ ?_
  · rw [hw]; exact hp
  · rw [hw]; exact hr
  · rw [hw]; exact hP _

/-! ## What the storing of a value leaves alone -/

/-- Storing a value changes the dictionary alone. -/
theorem State.store_only (s : State) (idx sub : Nat) (b : Octets) : s.store idx sub b = { s with dict := (s.store idx sub b).dict } := by
  unfold State.store; split <;> rfl

/-- What is mirrored to the partner lanes changes the lease alone. -/
theorem State.mirror_only (s : State) (x : MirrorItem) : s.mirror x = { s with lease := (s.mirror x).lease } := by
  unfold State.mirror; split <;> rfl

/-- An operating input changes the dictionary, and the lease where it is mirrored. -/
theorem State.storeInput_only (s : State) (idx sub : Nat) (b : Octets) :
    s.storeInput idx sub b = { s with dict := (s.store idx sub b).dict, lease := (s.storeInput idx sub b).lease } :=
  (State.mirror_only _ _).trans
    (congrArg (fun v : State => { v with lease := (s.storeInput idx sub b).lease }) (State.store_only s idx sub b))

end Machine
end Sys2Proof
end

