-- ==== Sys2Proof/Laws/Parts.lean ====
section
/-! SUPPORT. Updates of one part of the state: the part as it is written, and one unit read back after any unit of it was written. -/

namespace Sys2Proof
namespace Machine

/-- A table read back after one key was written. -/
theorem Tab.get_put {α : Type} [DecidableEq α] (d : α) (m : Tab α) (k j : Nat) (v : α) :
    Tab.get d (Tab.put d m k v) j = if j = k then v else Tab.get d m j := by
  split
  · next h => rw [h, Tab.get_put_self]
  · next h => exact Tab.get_put_ne d m k j v h

/-! ## One part replaced -/

@[simp] theorem State.modModel_eq (s : State) (f : Model → Model) : s.modModel f = { s with model := f s.model } := rfl
@[simp] theorem State.modLoam_eq (s : State) (f : Loam → Loam) : s.modLoam f = { s with loam := f s.loam } := rfl
@[simp] theorem State.modHyd_eq (s : State) (f : Hyd → Hyd) : s.modHyd f = { s with hyd := f s.hyd } := rfl
@[simp] theorem State.modEstim_eq (s : State) (f : Estim → Estim) : s.modEstim f = { s with estim := f s.estim } := rfl
@[simp] theorem State.modDisp_eq (s : State) (f : Disp → Disp) : s.modDisp f = { s with disp := f s.disp } := rfl
@[simp] theorem State.modHealth_eq (s : State) (f : Health → Health) : s.modHealth f = { s with health := f s.health } := rfl
@[simp] theorem State.modCal_eq (s : State) (f : Cal → Cal) : s.modCal f = { s with cal := f s.cal } := rfl
@[simp] theorem State.modSync_eq (s : State) (f : Sync → Sync) : s.modSync f = { s with sync := f s.sync } := rfl
@[simp] theorem State.modLease_eq (s : State) (f : Lease → Lease) : s.modLease f = { s with lease := f s.lease } := rfl
@[simp] theorem State.modCasc_eq (s : State) (f : Cascade → Cascade) : s.modCasc f = { s with casc := f s.casc } := rfl
@[simp] theorem State.modLogic_eq (s : State) (f : Logic → Logic) : s.modLogic f = { s with logic := f s.logic } := rfl
@[simp] theorem State.modPower_eq (s : State) (f : Power → Power) : s.modPower f = { s with power := f s.power } := rfl

/-! ## One unit written -/

theorem State.setJob_job (s : State) (k j : Nat) (v : Job) : (s.setJob k v).job j = if j = k then v else s.job j :=
  Tab.get_put _ _ _ _ _
theorem State.setPort_port (s : State) (k j : Nat) (v : CanPort) : (s.setPort k v).port j = if j = k then v else s.port j :=
  Tab.get_put _ _ _ _ _
theorem State.setLoop_loop (s : State) (k j : Nat) (v : Loop) : (s.setLoop k v).loop j = if j = k then v else s.loop j :=
  Tab.get_put _ _ _ _ _
theorem State.setProbe_probe (s : State) (k j : Nat) (v : Probe) : (s.setProbe k v).probe j = if j = k then v else s.probe j :=
  Tab.get_put _ _ _ _ _
theorem State.setChan_chan (s : State) (k j : Nat) (v : Chan) : (s.setChan k v).chan j = if j = k then v else s.chan j :=
  Tab.get_put _ _ _ _ _
theorem State.setCp_cp (s : State) (k j : Nat) (v : CpMeter) : (s.setCp k v).cp j = if j = k then v else s.cp j :=
  Tab.get_put _ _ _ _ _
theorem State.setPo_po (s : State) (k j : Nat) (v : PulseOut) : (s.setPo k v).po j = if j = k then v else s.po j :=
  Tab.get_put _ _ _ _ _
theorem State.setJport_jport (s : State) (k j : Nat) (v : JPort) : (s.setJport k v).jport j = if j = k then v else s.jport j :=
  Tab.get_put _ _ _ _ _
theorem State.setCrossing_crossing (s : State) (k j : Nat) (v : Crossing) : (s.setCrossing k v).crossing j = if j = k then v else s.crossing j :=
  Tab.get_put _ _ _ _ _
theorem State.setPulse_pulse (s : State) (k j : Nat) (v : PulseIn) : (s.setPulse k v).pulse j = if j = k then v else s.pulse j :=
  Tab.get_put _ _ _ _ _
theorem State.setPoolTest_poolTest (s : State) (k j : Nat) (v : TestStat) : (s.setPoolTest k v).poolTest j = if j = k then v else s.poolTest j :=
  Tab.get_put _ _ _ _ _
theorem State.setCrc_crcChan (s : State) (k j : Nat) (v : CrcChan) : (s.setCrc k v).crcChan j = if j = k then v else s.crcChan j :=
  Tab.get_put _ _ _ _ _
theorem State.setSub_sub (s : State) (k j : Nat) (v : Sub) : (s.setSub k v).sub j = if j = k then v else s.sub j :=
  Tab.get_put _ _ _ _ _
theorem State.setAlmRow_almRow (s : State) (k j : Nat) (v : AlmRow) : (s.setAlmRow k v).almRow j = if j = k then v else s.almRow j :=
  Tab.get_put _ _ _ _ _
theorem State.setQueue_queue (s : State) (q r : QId) (v : Queue) : (s.setQueue q v).queue r = if r.num = q.num then v else s.queue r :=
  Tab.get_put _ _ _ _ _
theorem State.modSess_session (s : State) (k j : Nat) (f : Session → Session) :
    (s.modSess k f).session j = if j = k then f (s.session k) else s.session j :=
  Tab.get_put _ _ _ _ _
theorem State.modMac_mac (s : State) (k j : Nat) (f : Mac → Mac) :
    (s.modMac k f).mac j = if j = k then f (s.mac k) else s.mac j :=
  Tab.get_put _ _ _ _ _
theorem State.modPeer_peer (s : State) (k j : Nat) (f : Peer16 → Peer16) :
    (s.modPeer k f).peer j = if j = k then f (s.peer k) else s.peer j :=
  Tab.get_put _ _ _ _ _
theorem State.modPort_port (s : State) (k j : Nat) (f : CanPort → CanPort) :
    (s.modPort k f).port j = if j = k then f (s.port k) else s.port j :=
  State.setPort_port _ _ _ _
theorem State.modLoop_loop (s : State) (k j : Nat) (f : Loop → Loop) :
    (s.modLoop k f).loop j = if j = k then f (s.loop k) else s.loop j :=
  State.setLoop_loop _ _ _ _
theorem State.modChan_chan (s : State) (k j : Nat) (f : Chan → Chan) :
    (s.modChan k f).chan j = if j = k then f (s.chan k) else s.chan j :=
  State.setChan_chan _ _ _ _
theorem State.modJport_jport (s : State) (k j : Nat) (f : JPort → JPort) :
    (s.modJport k f).jport j = if j = k then f (s.jport k) else s.jport j :=
  State.setJport_jport _ _ _ _
theorem State.modJob_job (s : State) (k j : Nat) (f : Job → Job) :
    (s.modJob k f).job j = if j = k then f (s.job k) else s.job j :=
  State.setJob_job _ _ _ _

end Machine
end Sys2Proof
end

