-- ==== Sys2Proof/Tests/Slice0.lean ====
section
/-! SUPPORT. Tests: each check of WellFormed refuses an ill-formed command; worked examples of the manual; single commands; and for every
statement with hypotheses a witness that meets them all, clause by clause. -/

namespace Sys2Proof
namespace Tests

set_option maxRecDepth 10000
set_option Elab.async false

open Sys2Proof.Machine

/-- A device in RUN, its host port trusted and in the service role, its generator of random numbers good. -/
def wRun : State :=
  { State.reset with
    dev := { state := .run, prev := .coldInit }
    power := { State.reset.power with straps := { hostRole := true, hTrust := true }, started := true, trained := true, bisted := true } }

/-- The same device in another state. -/
def wIn (d : DevState) : State := { wRun with dev := { wRun.dev with state := d } }

/-- An access from the host port. -/
def wHost : Acc := { src := .host, session := 0, tag := 7, crit := none }

/-! ## WellFormed -/

namespace Smoke

/-- An access whose transaction tag does not fit its octet, a descriptor of no area, and operands of no meaning. -/
def wBadAcc : Acc := { wHost with tag := 256 }
def wBadOpd : Opd := { area := 9, type := 0, indexed := false, index := 0 }
/-- A number that no field holds. -/
def big : Nat := 99999999999999999999
def wWord : Opd := { area := 3, type := 1, indexed := false, index := 0 }
def wEval : EvalIn := { landed := true, code := 0, residueBad := false, working := [], checkpoint := [], lost := false }
def wFab : FabWord := {}
def wFr : CanFrame := { ext := false, fd := false, brs := false, id := 0, data := [] }
def wJf : JFrame := { ftype := 7, flags := 3, seq := 0, ack := 0, msg := 0, payload := [], good := true }
theorem test_ill_formed_1 :
    ([.clockSwitch 0 big 0, .fabricWordReceive 0 big 0 wFab 0, .fabricWordReceive 0 0 big wFab 0, .ackWord 0 big 0 0 false, .ackWord 0 0
     big 0 false, .replayWord 0 big 0 0 false, .replayWord 0 0 big 0 false, .faultWord 0 big 0 0 false, .faultWord 0 0 big 0 false,
     .replayTimeout 0 big 0, .replayTimeout 0 0 big, .eventPost 0 big 0 0 [] .plain, .eventGap 0 big, .transferTimeout 0 big, .recipe 0 wHost big
     [], .tariffSeries 0 wHost big [], .fcSeries 0 wHost big [], .loamIterationComplete 0 big, .loamDeadline 0 big, .loamAbortRequest
     0 big 0 0, .loamResidueMismatch 0 false big 0 false none, .loopEvaluation 0 big wEval, .modeReqOff 0 wHost big, .modeReqOpen 0 wHost big,
     .modeReqClosed 0 wHost big, .modeReqTrack 0 wHost big, .logicModeRequest 0 big 0, .coefClassWrite 0 wHost big 0 [], .coefClassWrite 0 wHost
     0 big [], .loopLiveWrite 0 wHost big 0 []] : List Instr).all (fun c => !c.wf) = true := by decide +kernel

theorem test_ill_formed_2 :
    ([.loopLiveWrite 0 wHost 0 big [], .loopClearSticky 0 wHost big, .pwmPeriodStart 0 big, .aiBackgroundConversion 0 big 0, .repPrefetch 0 big
     false false 0, .repClear 0 wHost big, .repConfig 0 wHost big [], .repTable 0 wHost big [], .probeConfig 0 wHost big [], .captureDone 0 big,
     .windowEnd 0 big [], .freqLost 0 big, .halfCycle 0 big, .waveArm 0 wHost big, .waveTrigger 0 wHost big, .energyClear 0 wHost big,
     .cpConfigWrite 0 wHost big 0 [], .cpConfigWrite 0 wHost 0 big [], .poConfig 0 wHost big [], .calRequest 0 wHost big 0, .calAbort 0 wHost big
     0, .cpCalClear 0 wHost big, .calIntervalExpiry 0 big, .modulatorFault 0 big, .reportTimeout 0 big, .setpointFrame 0 big, .setpointRefresh 0
     big, .commandFrame 0 big, .commandRefresh 0 big, .pulseEdge 0 big false] : List Instr).all (fun c => !c.wf) = true := by decide +kernel

theorem test_ill_formed_3 :
    ([.piConfig 0 wHost big [], .piClear 0 wHost big, .chClear 0 wHost big, .programCycle 0 0 ({ stalls := [9000], words := [(9, 0)] }), .kWord 0
     wHost big 0, .portEnable 0 wHost big, .portDisable 0 wHost big, .portIntegrated 0 big, .restrictTimeout 0 big, .portModeChange 0 big,
     .canLatch 0 big, .canArbitrationLost 0 big, .canTxDone 0 big, .canFrameError 0 big .protocolException, .canRecovered 0 big, .busoffRecover 0
     wHost big, .canFrameReceive 0 big wFr false false, .canDispatch 0 big, .appTx 0 wHost big 0 [], .appTx 0 wHost 0 big [], .appCancel 0 wHost
     big 0, .dupPairExpiry 0 big, .dupClear 0 wHost big, .portClearSticky 0 wHost big, .filterWrite 0 wHost big 0 [], .filterWrite 0 wHost 0 big
     [], .filterAll 0 wHost big [], .spareRequest 0 wHost big, .canControllerFault 0 big, .canTakeover 0 big] : List Instr).all (fun c => !c.wf) = true := by decide +kernel

theorem test_ill_formed_4 :
    ([.ethFrameReceive 0 big .other, .arpResolveTimeout 0 big, .arpCacheExpiry 0 big, .sessionOpenTimeout 0 big, .sessionKill 0 wHost big,
     .keyWrapped 0 wHost big [], .keyErase 0 wHost big, .queuePush 0 (.canA 8) (.raw []), .queuePop 0 (.canA 8) false [], .spillBurstWrite 0 (.canA
     8), .spillBurstRead 0 (.canA 8) [] 0 0, .queueFault 0 (.canA 8), .queueResetDone 0 (.canA 8), .queueFlush 0 (.canA 8), .calFieldWrite 0
     wHost big 0, .ptpSync 0 big [], .ptpFollowUp 0 big [], .ptpDelayResp 0 big [], .ptpAnnounce 0 big [], .redPathLost 0 big 0, .redPathLost 0 0
     big, .redPartnerLost 0 big, .mirror 0 big [], .vote 0 big [], .jiestFrameReceive 0 big [] false, .nak 0 big 0, .jiestSignalDetected 0 big,
     .jiestAligned 0 big, .jiestIdentity 0 big [], .jiestTrainTimeout 0 big] : List Instr).all (fun c => !c.wf) = true := by decide +kernel

theorem test_ill_formed_5 :
    ([.jiestRetry 0 big, .jiestSignalLost 0 big, .jiestLaneSpared 0 big false 0 0, .jiestLaneSpared 0 0 false big 0, .timeEcho 0 big [], .coreFrame 0
     big 0 0, .boundaryTable 0 big [], .roundStart 0 big [], .roundPrices 0 big [], .roundFlows 0 big [], .roundReport 0 big [],
     .roundCommit 0 big [], .roundContinue 0 big [], .crcStart 0 wHost big, .crcAbort 0 wHost big, .crcScanDone 0 big [] 0 0, .crcConfig 0 wHost
     big [], .crcClear 0 wHost big, .selftestDone 0 big false 0, .bgTest 0 big, .houseMismatch 0 big false, .ageRead 0 big 0, .wearEm 0 big,
     .sramScrub 0 big 0, .subscription 0 wHost big [], .exportSend 0 big, .coalesceExpiry 0 big, .tracePackExpiry 0 big 0, .ethLinkChange 0 big 0
     false, .sarConverterFault 0 big] : List Instr).all (fun c => !c.wf) = true := by decide +kernel

theorem test_ill_formed_6 :
    ([.enterSafeHold 0 wBadAcc, .leaveSafeHold 0 wBadAcc, .enterService 0 wBadAcc, .writeEntry 0 wBadAcc 0 0 [] [], .writeEntry 0 wHost big 0 []
     [], .writeEntry 0 wHost 0 big [] [], .readInit 0 wBadAcc 0 0 [], .readInit 0 wHost big 0 [], .readInit 0 wHost 0 big [], .writeInit 0
     wBadAcc 0 0 0, .writeInit 0 wHost big 0 0, .writeInit 0 wHost 0 big 0, .writeInit 0 wHost 0 0 big, .segmentWrite 0 wBadAcc 0 false [],
     .segmentWrite 0 wHost big false [], .segmentRead 0 wBadAcc 0 [], .segmentRead 0 wHost big [], .describe 0 wBadAcc 0 0, .describe 0 wHost big
     0, .describe 0 wHost 0 big, .abortXfer 0 wBadAcc 0 0 0, .abortXfer 0 wHost big 0 0, .abortXfer 0 wHost 0 big 0, .abortXfer 0 wHost 0 0 big,
     .storeAll 0 wBadAcc, .restoreDefaults 0 wBadAcc, .modelImageStage 0 wBadAcc 0 [], .modelImageStage 0 wHost big [], .modelActivate 0 wBadAcc,
     .recipe 0 wBadAcc 0 []] : List Instr).all (fun c => !c.wf) = true := by decide +kernel

theorem test_ill_formed_7 :
    ([.recipeAssign 0 wBadAcc [], .tariffSeries 0 wBadAcc 0 [], .tariffAll 0 wBadAcc [], .fcSeries 0 wBadAcc 0 [], .fcAll 0 wBadAcc [],
     .estimReset 0 wBadAcc, .replanNow 0 wBadAcc, .forceCold 0 wBadAcc, .horizon 0 wBadAcc 0, .horizon 0 wHost big, .stepLen 0 wBadAcc 0,
     .stepLen 0 wHost big, .modeReqOff 0 wBadAcc 0, .modeReqOpen 0 wBadAcc 0, .modeReqClosed 0 wBadAcc 0, .modeReqTrack 0 wBadAcc 0,
     .coefClassWrite 0 wBadAcc 0 0 [], .loopLiveWrite 0 wBadAcc 0 0 [], .loopClearSticky 0 wBadAcc 0, .repClear 0 wBadAcc 0, .repConfig 0 wBadAcc
     0 [], .repTable 0 wBadAcc 0 [], .probeConfig 0 wBadAcc 0 [], .armProbes 0 wBadAcc 0, .armProbes 0 wHost big, .triggerNow 0 wBadAcc 0,
     .triggerNow 0 wHost big, .traceAbort 0 wBadAcc 0, .traceAbort 0 wHost big, .clearFlags 0 wBadAcc 0] : List Instr).all (fun c => !c.wf) = true := by decide +kernel

theorem test_ill_formed_8 :
    ([.clearFlags 0 wHost big, .waveArm 0 wBadAcc 0, .waveTrigger 0 wBadAcc 0, .energyClear 0 wBadAcc 0, .cpConfigWrite 0 wBadAcc 0 0 [],
     .poConfig 0 wBadAcc 0 [], .calRequest 0 wBadAcc 0 0, .calRequest 0 wHost 0 big, .calAbort 0 wBadAcc 0 0, .calAbort 0 wHost 0 big,
     .cpCalClear 0 wBadAcc 0, .piConfig 0 wBadAcc 0 [], .piClear 0 wBadAcc 0, .chClear 0 wBadAcc 0, .csNow 0 wBadAcc, .csAt 0 wBadAcc 0, .csAt 0
     wHost big, .csAtCancel 0 wBadAcc, .stopProgram 0 wBadAcc, .startWarm 0 wBadAcc, .startCold 0 wBadAcc, .progActivate 0 wBadAcc, .resetFault 0
     wBadAcc, .progImageStage 0 wBadAcc 0 [], .progImageStage 0 wHost big [], .changeSet 0 wBadAcc [], .kWord 0 wBadAcc 0 0, .kWord 0 wHost 0
     big, .forceSet 0 wBadAcc 0 0, .forceSet 0 wHost big 0] : List Instr).all (fun c => !c.wf) = true := by decide +kernel

theorem test_ill_formed_9 :
    ([.forceSet 0 wHost 0 big, .forceRelease 0 wBadAcc 0, .forceRelease 0 wHost big, .forceReleaseAll 0 wBadAcc, .warmRestartRequest 0 wBadAcc,
     .coldRestartRequest 0 wBadAcc, .tstb wBadOpd, .tstn wBadOpd, .andb wBadOpd, .andn wBadOpd, .orb wBadOpd, .orn wBadOpd, .xorb wBadOpd, .setb
     wBadOpd, .clrb wBadOpd, .stb wBadOpd, .ldtb big, .ldw wBadOpd, .ldwb wBadOpd, .ldi 0 big, .stw wBadOpd, .add wBadOpd, .subOp wBadOpd, .mul
     wBadOpd, .div wBadOpd, .modOp wBadOpd, .mulq wBadOpd, .lim wBadOpd wWord, .lim wWord wBadOpd, .minOp wBadOpd] : List Instr).all (fun c => !c.wf) = true := by decide +kernel

theorem test_ill_formed_10 :
    ([.maxOp wBadOpd, .andw wBadOpd, .orw wBadOpd, .xorw wBadOpd, .shl big, .shr big, .sar big, .cmp big wWord, .cmp 0 wBadOpd, .bmov wBadOpd
     wWord, .bmov wWord wBadOpd, .jmp big, .jmpt big, .jmpf big, .callOp big, .loopOp big, .tmr big, .ctu big, .ctd big, .crs big, .edr big, .edf
     big, .evt big, .portEnable 0 wBadAcc 0, .portDisable 0 wBadAcc 0, .busoffRecover 0 wBadAcc 0, .appTx 0 wBadAcc 0 0 [], .appCancel 0 wBadAcc
     0 0, .appCancel 0 wHost 0 big, .dupClear 0 wBadAcc 0] : List Instr).all (fun c => !c.wf) = true := by decide +kernel

theorem test_ill_formed_11 :
    ([.portClearSticky 0 wBadAcc 0, .filterWrite 0 wBadAcc 0 0 [], .filterAll 0 wBadAcc 0 [], .spareRequest 0 wBadAcc 0, .openSession 0 .host big
     0 0 [], .openSession 0 .host 0 big 0 [], .openSession 0 .host 0 0 big [], .openSession 0 .host 0 0 0 [1], .confirmSession 0 wBadAcc [],
     .confirmSession 0 wHost [1], .closeSession 0 wBadAcc, .sessionKill 0 wBadAcc 0, .keyWrapped 0 wBadAcc 0 [], .keyErase 0 wBadAcc 0,
     .calHaltSet 0 wBadAcc, .calHaltClear 0 wBadAcc, .calLatchRead 0 wBadAcc, .calBlock 0 wBadAcc, .calFieldWrite 0 wBadAcc 0 0, .calFieldWrite 0
     wHost 0 big, .offsetStep 0 wBadAcc 0, .offsetStep 0 wHost 99999999999, .alarmWrite 0 wBadAcc [], .wakeWrite 0 wBadAcc [], .calendarClear 0
     wBadAcc, .timeSource 0 wBadAcc 0, .timeSource 0 wHost big, .handover 0 wBadAcc 0, .handover 0 wHost big, .readmit 0 wBadAcc 0] : List Instr).all (fun c => !c.wf) = true := by decide +kernel

theorem test_ill_formed_12 :
    ([.readmit 0 wHost big, .leaseClearSticky 0 wBadAcc, .crcStart 0 wBadAcc 0, .crcAbort 0 wBadAcc 0, .crcScanDone 0 0 ([(9, 0)]) 0 0, .crcConfig
     0 wBadAcc 0 [], .crcClear 0 wBadAcc 0, .stRequest 0 wBadAcc [], .stAbort 0 wBadAcc 0, .stAbort 0 wHost big, .stClear 0 wBadAcc, .fullBist 0
     wBadAcc, .alarmAck 0 wBadAcc 0 0, .alarmAck 0 wHost big 0, .alarmAck 0 wHost 0 big, .alarmAckAll 0 wBadAcc, .alarmReset 0 wBadAcc 0,
     .alarmReset 0 wHost big, .alarmResetAll 0 wBadAcc, .logRead 0 wBadAcc, .alarmRows 0 wBadAcc, .subscription 0 wBadAcc 0 [], .shedClear 0
     wBadAcc, .standbyReq 0 wBadAcc, .jiestPorts 0 wBadAcc 0, .jiestPorts 0 wHost big,
     .powerOn 0 512 0 0 false false, .powerOn 0 0 4 0 false false, .powerOn 0 0 0 8 false false, .saveComplete 0 { pos := 512 }, .parkTimeout 0 { lane := 4 }] : List Instr).all (fun c => !c.wf) = true := by decide +kernel

end Smoke

/-! ## Worked examples of the manual, and the standards' own check values -/

namespace Examples

/-- R187: the two stores of a head at scale −48 into scale −21. -/
theorem test_store_ties_to_even :
    storeWord (182976512 * 2 ^ 27 + 2 ^ 26) (-48) (-21) = (182976512, false) ∧
    storeWord (182976512 * 2 ^ 27 + 3 * 2 ^ 26) (-48) (-21) = (182976514, false) := by decide

/-- R188: iteration 4 of the dual vector z, and iteration 5 with its block exponents. -/
theorem test_renormalise :
    renormalise (-40) [(0, [100663296, 5])] = ({ sc := -42, words := [402653184, 20] }, false, false) ∧
    blockExp (-42) [(805306368, -42, false), (7, -42, false)] = some 1 ∧
    storeWord 7 (-42) (-41) = (4, false) ∧ storeWord 5 (-42) (-41) = (2, false) ∧
    renormalise (-42) [(0, [13]), (1, [402653184, 4, 2]), (0, [6])] =
      ({ sc := -41, words := [6, 402653184, 4, 2, 3] }, false, false) := by decide +kernel

/-- R194: the pivots of a column with c_j = −27 and e_δ = 20, and the reciprocal of the replaced one. -/
theorem test_pivots :
    pivotOf (-300) (-27) (-27) 20 = ((-268435456, -46), true) ∧ pivotOf 0 (-27) (-27) 20 = ((268435456, -46), true) ∧
    pivotOf 512 (-27) (-27) 20 = ((512, -27), false) ∧ unitRcp (-268435456) (-46) = (-268435456, -10, false) := by decide +kernel

/-- Loop 212's coefficients and limits (R221). -/
def coef212 : Coef :=
  { kp := 20480, ki := 68, kd := 24576, ad := 26214, b := 32768, c := 0, kff := 0, kpf := 3277, shP := 2, shI := 0, shD := 3, shFf := 0,
    shPf := 0, xo := 0, freeze := false, reclose := false, fallback := false, reqLogic := false }
def lim212 : Limits := { imin := 0, imax := 24576, umin := 0, umax := 32767, rate := 655 }

/-- R221–R223: loop 212's evaluation at 19:40. -/
theorem test_law_native :
    (let o := lawNative coef212 lim212 214748365 (-30)
        { sp := 19200, y := 18790, f := 0, pf := 13200, rep := 0, inc := true, close := false, uHeld := 0, edPrev := -18786 }
     [o.ep, o.ed, o.p, o.acc, o.i, o.d, o.ff, o.v] = [410, -18790, 1025, 214776245, 6554, -48, 1320, 8851]) ∧
    outputOf .closed coef212 lim212 0 0 8851 0 8700 = (8851, false) := by decide +kernel

/-- R224: loop 212 in compatibility mode: the P term aligns to 1024 at the output. -/
theorem test_law_compat :
    (lawCompat { coef212 with shP := 18, xo := 16 } lim212 0 0
      { sp := 19200, y := 18790, f := 0, pf := 0, rep := 0, inc := false, close := false, uHeld := 0, edPrev := 0 }).p = 1024 := by
  decide +kernel

/-- R231: loop 212 closes from `MAN` 30 000 with p + d + ff = 2297: the integrator clamps, the output is rate limited. -/
theorem test_law_close :
    (let o := lawNative { coef212 with kd := 0, ad := 32767 } lim212 0 (-48)
        { sp := 19200, y := 18790, f := 0, pf := 13200, rep := 0, inc := true, close := true, uHeld := 30000, edPrev := 0 }
     [o.p, o.d, o.ff, o.acc, o.i, o.v] = [1025, -48, 1320, 805306368, 24576, 26873] ∧ o.satClose = true) ∧
    outputOf .closed coef212 lim212 0 0 26873 0 30000 = (29345, true) := by decide +kernel

/-- R71, R359: the identifiers of the operator station's request, of the two trip frames and of channel 17's report. -/
theorem test_identifiers :
    canId 2 0x00 40 0 0x2B = 0x0805002B ∧ canId 0 0x05 0 127 0 = 0x00501FC0 ∧ canId 0 0x01 16 127 0 = 0x00121FC0 ∧
    canId 5 0x01 20 127 4811 = 0x14129FCB := by decide

/-- R64: the operator station's request for SAFE_HOLD, without its trailer's tag. -/
theorem test_request_octets :
    ({ cs := 2, session := 0x11, tag := 0x2B, flags := 1, index := 0x1001, sub := 6, resv := 0, length := 1, data := [1], trailer := none } :
      Pdu).octets = [0x02, 0x11, 0x2B, 0x01, 0x01, 0x10, 0x06, 0x00, 0x01, 0x00, 0x01] := by decide +kernel

/-- R391: the critical block of that request under counter 274. -/
theorem test_critical_block :
    critBlock 0x02 0x11 0x2B 0x01 0x1001 6 1 274 [1] =
      [0x50, 0x58, 0x43, 0x31, 0x02, 0x11, 0x2B, 0x01, 0x01, 0x10, 0x06, 0x01, 0x00, 0x00, 0x00, 0x12, 0x01, 0, 0, 0, 0, 0, 0, 0x01] := by
  decide +kernel

/-- R369: channel 17's report passes neither of two pairs. -/
theorem test_filters :
    passes (leBytes 4 0x18000000 ++ leBytes 4 0 ++ leBytes 4 3) { ext := true, fd := true, brs := true, id := 0x14129FCB, data := [] } = false ∧
    passes (leBytes 4 0x1C000000 ++ leBytes 4 0x08000000 ++ leBytes 4 3)
      { ext := true, fd := true, brs := true, id := 0x14129FCB, data := [] } = false ∧
    passes (leBytes 4 0 ++ leBytes 4 0 ++ leBytes 4 3) { ext := true, fd := true, brs := true, id := 0x14129FCB, data := [] } = true := by
  decide +kernel

/-- R276: K of Harrowfield's CP0, and U_din of R281's thresholds. -/
theorem test_meter_constant : mantissa (12000 * 4096 * (1600 * 4096)) (28800 * 2 ^ 38) = (349525333, -33) := by decide +kernel

/-- R286: 173 205.0 mWh at 100 imp/kWh and 30 ms give 17 pulses of 47 samples, 94 samples apart, and leave 3 205.0 mWh. -/
theorem test_pulse_output :
    (let p := ({ cfg := [0, 0, 0, 30] ++ leBytes 4 100 } : PulseOut).owe (173205 * 2 ^ 32) 1600
     (p.due, p.gap, p.high, p.residue) = (17, 94, 47, 3205 * 2 ^ 32 * 100)) := by decide +kernel

/-- R336, R337: the fragment that starts CHP A, its words as the manual lists them. -/
def chpA : List Word32 :=
  [0x05000000, 0x10010208, 0x11000000, 0x10010209, 0xF0000005, 0x25000000, 0x30000800, 0x05000000, 0x30000800, 0x2D000000, 0x20005340,
   0xE000000C, 0x2D000000, 0x20005341, 0x05000000, 0x10005340, 0x2D000000, 0x20010201]

theorem test_fragment_decodes :
    (insOf 18 0x0100 chpA).1.map (fun i => (i.at_, i.opc, i.len)) =
      [(0x100, 0x01, 2), (0x102, 0x04, 2), (0x104, 0x3C, 1), (0x105, 0x09, 2), (0x107, 0x01, 2), (0x109, 0x0B, 2), (0x10B, 0x38, 1),
       (0x10C, 0x0B, 2), (0x10E, 0x01, 2), (0x110, 0x0B, 2)] ∧ (insOf 18 0x0100 chpA).2 = none ∧
    Opd.ofWord 0x20005340 = { area := 2, type := 0, indexed := false, index := 0x029A * 32 } := by decide +kernel

/-- The ten instructions take 11 LOGIC cycles. -/
theorem test_fragment_cycles :
    (Nat.repeat (fun l => Logic.step1 l chpA) 10 ({} : Logic)).regs.cycles = 11 := by decide +kernel

/-- R27: the arbiter's ranks put CTRL before COMM; METR's, the highest of the three, settles ties only. -/
theorem test_ranks : Island.metr.rank < Island.ctrl.rank ∧ Island.ctrl.rank < Island.comm.rank := by decide

/-- R80, R485: the check value of CRC-32C; the CRC unit with R80's parameters gives the same. -/
theorem test_crc :
    crc32c (textOctets "123456789") = 0xE3069283 ∧
    crcOf 32 0x1EDC6F41 0xFFFFFFFF 0xFFFFFFFF true true (textOctets "123456789") = 0xE3069283 := by decide +kernel

/-- FIPS 180-4: SHA-256 of "abc". -/
theorem test_sha256 :
    (sha256 (textOctets "abc")).take 8 = [0xba, 0x78, 0x16, 0xbf, 0x8f, 0x01, 0xcf, 0xea] := by decide +kernel

/-- RFC 4231, test case 2. -/
theorem test_hmac :
    (hmac (textOctets "Jefe") (textOctets "what do ya want for nothing?")).take 8 =
      [0x5b, 0xdc, 0xc1, 0x46, 0xbf, 0x60, 0x75, 0x4e] := by decide +kernel

/-- FIPS 197, appendix C.3: one AES-256 block. -/
theorem test_aes :
    aesDecrypt (aesRoundKeys ((List.range 32).map (fun k => BitVec.ofNat 8 k)))
      [0x8e, 0xa2, 0xb7, 0xca, 0x51, 0x67, 0x45, 0xbf, 0xea, 0xfc, 0x49, 0x90, 0x4b, 0x49, 0x60, 0x89] =
    [0x00, 0x11, 0x22, 0x33, 0x44, 0x55, 0x66, 0x77, 0x88, 0x99, 0xaa, 0xbb, 0xcc, 0xdd, 0xee, 0xff] := by decide +kernel

end Examples

/-! ## Single commands -/

namespace Commands

/-- What a command leaves, or the state it found where it stopped. -/
def after (o : Out) (s : State) : State :=
  match o with
  | .next u => u
  | _ => s

/-- The last response of context 0. -/
def answer (o : Out) (s : State) : Octets := ((after o s).session 0).lastResp

/-- R62: a read of an index that does not exist and a write of a read-only entry are refused with their codes. -/
theorem test_refusals :
    answer (execReadInit 0 wHost 0x7FFF 1 [] wRun) wRun = ((wHost.req (wHost.pdu 4 0 0x7FFF 1 [])).pdu.abort 0x0A01) ∧
    answer (execWrite 0 wHost 0x1001 1 [1] [] wRun) wRun = ((wHost.req (wHost.pdu 2 0 0x1001 1 [1])).pdu.abort 0x0A02) := by
  decide +kernel

/-- R44: request 1 enters SAFE_HOLD with hold cause 1. -/
theorem test_safe_hold :
    (after (execEnterSafeHold 0 wHost wRun) wRun).dev.state = .safeHold ∧
    bitOf (after (execEnterSafeHold 0 wHost wRun) wRun).dev.hold 1 = true := by decide +kernel

/-- R531, R536: the boot instant takes the straps and counts the boot. -/
theorem test_power_on :
    (after (execPowerOn 5 3 1 2 true false State.reset) State.reset).power.straps.pos = 3 ∧
    (after (execPowerOn 5 3 1 2 true false State.reset) State.reset).dev.bootCount = 1 := by decide +kernel

/-- The engine with a running program, WA as given, M word 1 as given. -/
def wEngine (wa m : Word32) : State :=
  { wRun with logic := { wRun.logic with prog := .run, m := [(1, m)], regs := { wa := wa } } }
/-- M word 1. -/
def m1 : Opd := { area := 3, type := 1, indexed := false, index := 1 }

/-- R338: ADD clamps and sets `SAT`. -/
theorem test_add_saturates :
    (after (execAdd m1 (wEngine 0x7FFFFFFF 1)) wRun).logic.regs.wa = 0x7FFFFFFF ∧
    (after (execAdd m1 (wEngine 0x7FFFFFFF 1)) wRun).logic.regs.sat = true ∧
    (after (execAdd m1 (wEngine 3 0xFFFFFFFE)) wRun).logic.regs.wa = 1 := by decide +kernel

/-- R338: DIV truncates towards 0, the quotient of −2³¹ and −1 is clamped, a division by 0 gives the limit of WA's sign. -/
theorem test_div_corners :
    (after (execDiv m1 (wEngine 0xFFFFFFF9 2)) wRun).logic.regs.wa = 0xFFFFFFFD ∧
    (after (execDiv m1 (wEngine 0x80000000 0xFFFFFFFF)) wRun).logic.regs.wa = 0x7FFFFFFF ∧
    (after (execDiv m1 (wEngine 0xFFFFFFF9 0)) wRun).logic.regs.wa = 0x80000000 ∧
    (after (execDiv m1 (wEngine 0xFFFFFFF9 0)) wRun).logic.regs.div0 = true := by decide +kernel

/-- R338: MOD takes the sign of the dividend. -/
theorem test_mod_sign : (after (execMod m1 (wEngine 0xFFFFFFF9 2)) wRun).logic.regs.wa = 0xFFFFFFFF := by decide +kernel

/-- R337: SAR copies the sign, SHR does not. -/
theorem test_shifts :
    (after (execSar 4 (wEngine 0x80000000 0)) wRun).logic.regs.wa = 0xF8000000 ∧
    (after (execShr 4 (wEngine 0x80000000 0)) wRun).logic.regs.wa = 0x08000000 := by decide +kernel

/-- R331: an S16 store clamps into the low half and keeps the high half. -/
theorem test_store_half :
    Tab.get 0 (after (execStw { m1 with type := 2 } (wEngine 0x00012345 0xABCD0000)) wRun).logic.m 1 = 0xABCD7FFF := by decide +kernel

/-- R415, R414: a calendar second at midnight before a leap day, and after it. -/
theorem test_leap_day :
    (State.enterSecond { wRun with cal := { f := { sec := 0x59, min := 0x59, hour := 0x23, day := 0x28, month := 2, year := 0x24, century := 32 } } }).cal.f.day = 0x29 ∧
    (State.enterSecond { wRun with cal := { f := { sec := 0x59, min := 0x59, hour := 0x23, day := 0x29, month := 2, year := 0x24, century := 32 } } }).cal.f.month = 3 := by
  decide +kernel

/-- The queue is worked off in order. -/
theorem test_step_order :
    (after (step { wRun with pending := [.eventGap 0 3, .calTempRead 0 (-40)] }) wRun).pending = [.calTempRead 0 (-40)] ∧
    (after (step { wRun with pending := [.calTempRead 0 (-40), .eventGap 0 3] }) wRun).cal.temp = -40 := by decide +kernel

end Commands

/-! ## Witnesses: for each statement, states and operands that meet the hypotheses of each of its clauses -/

/-- `State.writes` as a computation. -/
def writesB (s : State) (a : Acc) (idx sub : Nat) (b : Octets) : Bool :=
  let r := a.req (a.pdu 2 0 idx sub b)
  decide (b.length ≤ a.room a.crit.isSome) && decide (s.takes r) &&
  (match (s.turn r).entryCode r .write idx sub with
   | (some e, 0) => decide ((s.turn r).sealOk r 2 idx sub b ((s.turn r).needsTrailer r idx sub e)) &&
     !e.badLength idx sub b && !e.badValue b && !(s.atOwner a idx sub b).shut idx && !(s.atOwner a idx sub b).readOpen idx sub true
   | _ => false)

theorem writes_of (s : State) (a : Acc) (idx sub : Nat) (b : Octets) (h : writesB s a idx sub b = true) : s.writes a idx sub b := by
  simp only [writesB, Bool.and_eq_true, decide_eq_true_eq] at h
  obtain ⟨⟨h1, h2⟩, h3⟩ := h
  refine ⟨h1, h2, ?_⟩
  split at h3
  · rename_i e he
    simp only [Bool.and_eq_true, decide_eq_true_eq, Bool.not_eq_true'] at h3
    obtain ⟨⟨⟨⟨h4, h5⟩, h6⟩, h7⟩, h8⟩ := h3
    exact ⟨e, he, h4, h5, h6, h7, h8⟩
  · exact absurd h3 (by decide)

/-- A value of a variable length within its entry's bounds. -/
theorem fits (e : Ent) (idx sub n : Nat) (b : Octets) (hb : b.length = n)
    (h : (e.ty.size.isNone && decide (n ≤ e.maxLen) && decide (e.lo ≤ (n : Int)) && !e.fixed idx sub) = true) :
    e.badLength idx sub b = false := by
  simp only [Bool.and_eq_true, decide_eq_true_eq, Bool.not_eq_true', Option.isNone_iff_eq_none] at h
  obtain ⟨⟨⟨h1, h2⟩, h3⟩, h4⟩ := h
  subst hb
  simp [Ent.badLength, h1, h4, h2, h3]

/-- As `writes_of`, with the island running. -/
theorem may {s : State} {t idx sub : Nat} {a : Acc} {b : Octets}
    (h : ((s.advance t).runs .house && writesB (s.advance t) a idx sub b) = true) : s.mayWrite t a idx sub b := by
  simp only [Bool.and_eq_true] at h
  exact ⟨h.1, writes_of _ _ _ _ _ h.2⟩

namespace W01

def wFab (c : Crossing) : State := { wRun with fabric := Tab.insert [] (crossNo 1 5) c }

theorem witness_ClockCommands :
    (∃ (t isl : Nat) (s : State), isl < 8 ∧ s.live .house t ∧ s.spareClock isl = true) ∧
    (∃ (t isl : Nat) (s : State), isl < 8 ∧ s.live .house t ∧ s.spareClock isl = false) ∧
    (∃ (t : Nat) (s : State), s.live .backup t ∧ bitOf s.dev.hold 2 = false) ∧
    (∃ (t : Nat) (s : State), s.live .backup t) ∧
    (∃ (t : Nat) (s : State), s.live .house t ∧ bitOf s.dev.degraded 4 = true ∧ s.dev.fabricUntil ≤ (s.advance t).clk.dev ∧
        s.dev.state = .degraded ∧ s.dev.degraded = 2 ^ 4) :=
  ⟨⟨0, 2, wRun, by decide +kernel⟩,
   ⟨0, 2, ({ wRun with dev := { wRun.dev with onSpare := [2] } }), by decide +kernel⟩,
   ⟨0, wRun, by decide +kernel⟩,
   ⟨0, wRun, by decide +kernel⟩,
   ⟨0, ({ wRun with dev := { wRun.dev with state := .degraded, degraded := 16 } }), by decide +kernel⟩⟩

theorem witness_FabricCommands :
    (∃ (t a b : Nat) (w : FabWord) (err : BitVec 37) (s : State) (c : Crossing), crossOk a b = true ∧ s.crossing (crossNo a b) = c ∧
        s.live (islandOf b) t ∧ c.resend = none ∧ c.window.length < 16 ∧ c.flushing = false ∧ c.fifo = [] ∧ c.faultAt = none ∧
        c.sent % 32 = c.expect ∧ goodWord (w.bits ^^^ err) = true) ∧
    (∃ (t a b : Nat) (w : FabWord) (err : BitVec 37) (s : State) (c : Crossing), crossOk a b = true ∧ s.crossing (crossNo a b) = c ∧
        s.live (islandOf b) t ∧ c.resend = none ∧ c.window.length < 16 ∧ c.flushing = false ∧ c.fifo = [] ∧ c.faultAt = none ∧
        c.sent % 32 = c.expect ∧ goodWord (w.bits ^^^ err) = false ∧ c.failed < 3) ∧
    (∃ (t a b : Nat) (w : FabWord) (err : BitVec 37) (s : State) (c : Crossing), crossOk a b = true ∧ s.crossing (crossNo a b) = c ∧
        s.live (islandOf b) t ∧ c.resend = none ∧ c.window.length < 16 ∧ c.flushing = false ∧ c.fifo = [] ∧ c.faultAt = none ∧
        c.sent % 32 = c.expect ∧ goodWord (w.bits ^^^ err) = false ∧ c.failed = 3) ∧
    (∃ (t a b k : Nat) (data : BitVec 32) (par : Bool) (s : State) (c : Crossing), crossOk a b = true ∧ s.crossing (crossNo a b) = c ∧
        s.live (islandOf a) t ∧ c.place (data.toNat % 32) = some k ∧ parityHolds (reverseRaw par 7 data) = true) ∧
    (∃ (t a b k : Nat) (data : BitVec 32) (par : Bool) (s : State) (c : Crossing), crossOk a b = true ∧ s.crossing (crossNo a b) = c ∧
        s.live (islandOf a) t ∧ c.place (data.toNat % 32) = some k ∧ parityHolds (reverseRaw par 8 data) = true) ∧
    (∃ (t a b k : Nat) (data : BitVec 32) (par : Bool) (s : State) (c : Crossing), crossOk a b = true ∧ s.crossing (crossNo a b) = c ∧
        s.live (islandOf a) t ∧ c.place (data.toNat % 32) = some k ∧ parityHolds (reverseRaw par 9 data) = true) ∧
    (∃ (t a b : Nat) (s : State) (c : Crossing), crossOk a b = true ∧ s.crossing (crossNo a b) = c ∧ s.live (islandOf b) t ∧ c.fifo = [] ∧
        c.waiting = true ∧ c.repeats < 3 ∧ c.askedAt * 1000 + 32 * (islandOf b).periodPs ≤ (s.advance t).ps) ∧
    (∃ (a b : Nat) (data : BitVec 32) (par : Bool), crossOk a b = true ∧ parityHolds (reverseRaw par 7 data) = false) ∧
    (∃ (a b : Nat) (data : BitVec 32) (par : Bool), crossOk a b = true ∧ parityHolds (reverseRaw par 8 data) = false) ∧
    (∃ (a b : Nat) (data : BitVec 32) (par : Bool), crossOk a b = true ∧ parityHolds (reverseRaw par 9 data) = false) :=
  ⟨⟨0, 1, 5, ({ data := 3 }), 0, (wFab { sent := 3, expect := 3 }), ({ sent := 3, expect := 3 }), by decide +kernel⟩,
   ⟨0, 1, 5, ({ data := 3 }), 1, (wFab { sent := 3, expect := 3 }), ({ sent := 3, expect := 3 }), by decide +kernel⟩,
   ⟨0, 1, 5, ({ data := 3 }), 1, (wFab { sent := 3, expect := 3, failed := 3 }), ({ sent := 3, expect := 3, failed := 3 }), by decide +kernel⟩,
   ⟨0, 1, 5, 0, 2, false, (wFab { sent := 3, window := [{}] }), ({ sent := 3, window := [{}] }), by decide +kernel⟩,
   ⟨0, 1, 5, 0, 2, false, (wFab { sent := 3, window := [{}] }), ({ sent := 3, window := [{}] }), by decide +kernel⟩,
   ⟨0, 1, 5, 0, 2, true, (wFab { sent := 3, window := [{}] }), ({ sent := 3, window := [{}] }), by decide +kernel⟩,
   ⟨1000, 1, 5, (wFab { waiting := true }), ({ waiting := true }), by decide +kernel⟩,
   ⟨1, 5, 2, true, by decide +kernel⟩,
   ⟨1, 5, 2, true, by decide +kernel⟩,
   ⟨1, 5, 2, false, by decide +kernel⟩⟩

theorem witness_EventCommands :
    (∃ (t isl : Nat) (s : State), isl < 9 ∧ s.live (islandOf isl) t ∧ s.lostOf (islandOf isl) = 0 ∧ (s.advance t).hasRoom (.island isl) = true) ∧
    (∃ (t isl : Nat) (s : State), isl < 9 ∧ s.live (islandOf isl) t ∧ (s.advance t).hasRoom (.island isl) = false) ∧
    (∃ (t isl : Nat) (s : State), isl < 9 ∧ s.live (islandOf isl) t ∧ s.lostOf (islandOf isl) ≠ 0 ∧ (s.advance t).hasRoom (.island isl) = true) ∧
    (∃ (t i : Nat) (e : Ev) (s : State), s.live .house t ∧ s.ledger.lastSlot ≠ some ((s.advance t).now / 8) ∧
        (s.advance t).arbiterPick = some i ∧ (s.advance t).frontQ (.island i) = some (.ev e, false)) :=
  ⟨⟨0, 1, wRun, by decide +kernel⟩,
   ⟨0, 1, ({ wRun with net := { wRun.net with qs := Tab.insert [] 1 { wp := 4000 } } }), by decide +kernel⟩,
   ⟨0, 1, ({ wRun with ledger := { wRun.ledger with evLostBy := [(1, 4)] } }), by decide +kernel⟩,
   ⟨100, 5, ({ code := 1, unit := 0, args := [], edge := .plain, capture := 0, eligible := 0 }),
      ({ wRun with net := { wRun.net with qs := Tab.insert [] 5 { wp := 1, wpS := 1, head := [(.ev { code := 1, unit := 0, args := [], edge := .plain, capture := 0, eligible := 0 }, false)] } } }),
      by decide +kernel⟩⟩

end W01

namespace W02

/-- A transfer open on the host port. -/
def wXfer (x : Transfer) : State := { wRun with net := { wRun.net with sess := [(0, { xfer := some x })] } }
def wWr : Transfer := { write := true, index := 0x6810, sub := 1, total := 4, next := 2, prev := some 0, prevResp := [], data := [8, 255], inPlace := false, tag := 1, since := 0 }
def wRd : Transfer := { write := false, index := 0x6810, sub := 1, total := 4, next := 1, prev := some 0, prevResp := [], data := [8, 255, 0, 0], inPlace := false, tag := 1, since := 0 }
def wKey : KeySlot := { key := zeros 32, role := 2, usage := 1, partner := 0 }
def wKeys : State := { wRun with net := { wRun.net with keys := [(9, some wKey)] } }
def wOpening (p : Peer) (n : Nat) : State := { wKeys with net := { wKeys.net with sess := [(n, { state := .opening, peer := p, slot := 9, partner := 77, nc := zeros 16, nd := zeros 16 })] } }
/-- An image's write of which `n` octets have come and 2 are to come. -/
def wStage (idx sub n : Nat) : Transfer :=
  { write := true, index := idx, sub := sub, total := n + 2, next := n, prev := none, prevResp := [], data := zeros n, inPlace := false, tag := 1, since := 0 }
/-- The row of an entry. -/
def wEnt (idx sub : Nat) : Ent := (entOf idx sub).getD ⟨0, 1, .u8, .ro, false, false, false, 0, .num 0, 0, 0, ""⟩
def wReady : State := { wRun with net := { wRun.net with host := { hrdyBy := 0 } } }

theorem witness_WriteReachesItsOwner :
    (∃ (t idx sub : Nat) (a : Acc) (b : Octets) (s v : State), (s.advance t).writes a idx sub b ∧
        ((s.advance t).atOwner a idx sub b).applyWrite a.ctx idx sub b = .done v ∧ s.live .house t ∧ v.pending = s.pending ∧
        v.clk.raw = (s.advance t).clk.raw) :=
  ⟨0, 0x6001, 1, wHost, [1], wRun, (((wRun.advance 0).atOwner wHost 0x6001 1 [1]).haltSet), writes_of _ _ _ _ _ (by decide +kernel), rfl,
      by decide +kernel⟩

theorem witness_PlainWriteIsStored :
    (∃ (t idx sub : Nat) (a : Acc) (b : Octets) (s : State), (s.advance t).writes a idx sub b ∧
        ((s.advance t).atOwner a idx sub b).ownerWrite a.ctx idx sub b = .plain ∧ s.live .house t) ∧
    (∃ (idx sub : Nat) (e : Ent), entOf idx sub = some e) ∧
    (∃ (idx sub : Nat) (e : Ent), entOf idx sub = some e ∧ e.ty = .octets) ∧
    (∃ (idx sub : Nat) (e : Ent) (i j : Nat), entOf idx sub = some e ∧ sub < 256 ∧ j < 256 ∧ (i ≠ idx ∨ j ≠ sub)) :=
  ⟨⟨0, 0x2800, 1, wHost, ([100, 0]), wRun, writes_of _ _ _ _ _ (by decide +kernel), rfl, by decide +kernel⟩,
   ⟨0x2800, 1, (wEnt 0x2800 1), by decide +kernel⟩,
   ⟨0x6810, 1, (wEnt 0x6810 1), by decide +kernel⟩,
   ⟨0x2800, 1, (wEnt 0x2800 1), 3, 4, by decide +kernel⟩⟩

theorem witness_TransferCommands :
    (∃ (t idx sub : Nat) (a : Acc) (r : Req) (b : Octets) (s : State), r = a.req (a.pdu 3 0 idx sub []) ∧ s.live .house t ∧
        (s.advance t).takes r ∧ (((s.advance t).turn r).session r.ctx).xfer = none ∧
        (((s.advance t).turn r).readValue r 4294967295).reply = .good 0 b) ∧
    (∃ (t idx sub total : Nat) (a : Acc) (r : Req) (e : Ent) (s v : State), r = a.req (a.pdu 4 0 idx sub (leBytes 4 total)) ∧
        v = (s.advance t).turn r ∧ v.staged + total ≤ stagingRoom ∧ s.live .house t ∧ (s.advance t).takes r ∧ a.crit = none ∧
        total < 4294967296 ∧ v.entryOk r .write idx sub e ∧ e.badTotal total = false ∧ v.shut idx = false ∧ v.stateForbids r idx sub e = false ∧
        (v.session r.ctx).xfer = none ∧ v.readOpen idx sub true = false ∧ (idx = 0x2000 → sub = 1 → v.model.stage.status ≠ 3) ∧
        (idx = 0x5000 → sub = 3 → v.logic.stage.status ≠ 3)) ∧
    (∃ (t offset : Nat) (a : Acc) (b : Octets) (r : Req) (x : Transfer) (s : State), r = a.req (a.segment offset false b) ∧ s.live .house t ∧
        a.crit = none ∧ (s.advance t).takes r ∧ (((s.advance t).turn r).session r.ctx).xfer = some x ∧ x.write = true ∧ r.pdu.offset = x.next ∧
        b.length ≤ r.limit ∧ x.next + b.length ≤ x.total) ∧
    (∃ (t offset : Nat) (a : Acc) (b : Octets) (r : Req) (x : Transfer) (e : Ent) (s v w y : State), r = a.req (a.segment offset true b) ∧
        v = (s.advance t).turn r ∧
        w = (v.setXfer r.ctx none).sealed r 4 x.index x.sub (x.data ++ b) ((v.setXfer r.ctx none).needsTrailer r x.index x.sub e) ∧
        w.applyWrite r.ctx x.index x.sub (x.data ++ b) = .done y ∧ s.live .house t ∧ (s.advance t).takes r ∧ (v.session r.ctx).xfer = some x ∧
        x.write = true ∧ r.pdu.offset = x.next ∧ b.length ≤ r.limit ∧ x.next + b.length = x.total ∧ entAt x.index x.sub = some e ∧
        (v.setXfer r.ctx none).sealOk r 4 x.index x.sub (x.data ++ b) ((v.setXfer r.ctx none).needsTrailer r x.index x.sub e) ∧
        e.badLength x.index x.sub (x.data ++ b) = false ∧ e.badValue (x.data ++ b) = false ∧ w.shut x.index = false ∧
        w.readOpen x.index x.sub true = false ∧ y.pending = s.pending ∧ y.clk.raw = (s.advance t).clk.raw) ∧
    (∃ (t offset : Nat) (a : Acc) (r : Req) (x : Transfer) (s : State), r = a.req (a.segment offset false []) ∧ s.live .house t ∧ a.crit = none ∧
        (s.advance t).takes r ∧ (((s.advance t).turn r).session r.ctx).xfer = some x ∧ x.write = false ∧ r.pdu.offset = x.next ∧
        x.inPlace = false ∧ x.total - x.next ≤ r.segment ∧ x.next ≤ x.total) ∧
    (∃ (t idx sub : Nat) (a : Acc) (r : Req) (e : Ent) (s v : State), r = a.req (a.pdu 6 0 idx sub []) ∧ v = (s.advance t).turn r ∧
        s.live .house t ∧ a.crit = none ∧ (s.advance t).takes r ∧ v.entryOk r .describe idx sub e ∧ v.shut idx = false) ∧
    (∃ (t idx sub code : Nat) (a : Acc) (r : Req) (x : Transfer) (s : State), r = a.req (a.pdu 7 0 idx sub (leBytes 2 code)) ∧ s.live .house t ∧
        (s.advance t).takes r ∧ a.crit = none ∧ (((s.advance t).turn r).session r.ctx).xfer = some x) ∧
    (∃ (t n : Nat) (x : Transfer) (s : State), n < 256 ∧ s.live .house t ∧ (s.session n).xfer = some x ∧
        x.since + 1000000000 ≤ (s.advance t).now) :=
  ⟨⟨0, 0x6810, 1, wHost, (wHost.req (wHost.pdu 3 0 0x6810 1 [])), (zeros 4), wRun, rfl, by decide +kernel⟩,
   ⟨0, 0x6810, 1, 4, wHost, (wHost.req (wHost.pdu 4 0 0x6810 1 (leBytes 4 4))), (wEnt 0x6810 1), wRun,
      ((wRun.advance 0).turn (wHost.req (wHost.pdu 4 0 0x6810 1 (leBytes 4 4)))), rfl, rfl, le_stagingRoom _ (by decide +kernel),
      by decide +kernel⟩,
   ⟨0, 2, wHost, [0], (wHost.req (wHost.segment 2 false [0])), wWr, (wXfer wWr), rfl, by decide +kernel⟩,
   ⟨0, 2, wHost, ([0, 0]), (wHost.req (wHost.segment 2 true [0, 0])), wWr, (wEnt 0x6810 1), (wXfer wWr),
      (((wXfer wWr).advance 0).turn (wHost.req (wHost.segment 2 true [0, 0]))),
      ((((wXfer wWr).advance 0).turn (wHost.req (wHost.segment 2 true [0, 0]))).setXfer 0 none),
      (((((wXfer wWr).advance 0).turn (wHost.req (wHost.segment 2 true [0, 0]))).setXfer 0 none).modHealth (fun h => { h with lastReq := [8, 255, 0, 0], queue := [{ pool := 8, elem := 255, force := false }] })),
      rfl, rfl, rfl, rfl, by decide +kernel⟩,
   ⟨0, 1, wHost, (wHost.req (wHost.segment 1 false [])), wRd, (wXfer wRd), rfl, by decide +kernel⟩,
   ⟨0, 0x6810, 1, wHost, (wHost.req (wHost.pdu 6 0 0x6810 1 [])), (wEnt 0x6810 1), wRun,
      ((wRun.advance 0).turn (wHost.req (wHost.pdu 6 0 0x6810 1 []))), rfl, rfl, by decide +kernel⟩,
   ⟨0, 0x6810, 1, 9, wHost, (wHost.req (wHost.pdu 7 0 0x6810 1 (leBytes 2 9))), wWr, (wXfer wWr), rfl, by decide +kernel⟩,
   ⟨1000000000, 0, wWr, (wXfer wWr), by decide +kernel⟩⟩

theorem witness_HostAndReadCommands :
    (∃ (t : Nat) (b : Octets) (p : Pdu) (s : State), (s.advance t).hostReady = true ∧ s.live .house t ∧ s.net.host.resp = none ∧
        s.net.host.busy = false ∧ 10 ≤ b.length ∧ b.length ≤ 1054 ∧ hostPdu b = some p ∧ (s.advance t).hasRoom .request = true ∧
        (s.advance t).metered { src := .host, cls := 0, pdu := p } = false) ∧
    (∃ (t : Nat) (s : State), (s.advance t).hostReady = true ∧ s.live .house t) ∧
    (∃ (t : Nat) (b : Octets) (s : State), (s.advance t).hostReady = true ∧ s.live .house t ∧ s.net.host.resp = some b) ∧
    (∃ (t : Nat) (x : Tab Val) (s : State), s.live .mem t ∧ s.dict.storing = some x) ∧
    (∃ (t : Nat) (a : Acc) (r : Req) (e : Ent) (s v : State), r = a.req (a.pdu 1 0 0x6C00 3 []) ∧ v = (s.advance t).turn r ∧ s.live .house t ∧
        a.crit = none ∧ (s.advance t).takes r ∧ v.entryOk r .read 0x6C00 3 e ∧ v.shut 0x6C00 = false ∧ (v.readLog r.ctx).2.length ≤ r.limit) ∧
    (∃ (t : Nat) (a : Acc) (r : Req) (e : Ent) (s v : State), r = a.req (a.pdu 1 0 0x6C10 2 []) ∧ v = (s.advance t).turn r ∧ s.live .house t ∧
        a.crit = none ∧ (s.advance t).takes r ∧ v.entryOk r .read 0x6C10 2 e ∧ v.shut 0x6C10 = false ∧ (v.readRows r.ctx).2.length ≤ r.limit) ∧
    (∃ (t : Nat) (a : Acc) (r : Req) (e : Ent) (s v : State), r = a.req (a.pdu 1 0 0x6000 1 []) ∧ v = (s.advance t).turn r ∧ s.live .house t ∧
        a.crit = none ∧ (s.advance t).takes r ∧ v.entryOk r .read 0x6000 1 e ∧ v.shut 0x6000 = false) ∧
    (∃ (t : Nat) (a : Acc) (r : Req) (e : Ent) (s v : State), r = a.req (a.pdu 1 0 0x6000 0x0A []) ∧ v = (s.advance t).turn r ∧ s.live .house t ∧
        a.crit = none ∧ (s.advance t).takes r ∧ v.entryOk r .read 0x6000 0x0A e ∧ v.shut 0x6000 = false) ∧
    (∃ (t : Nat) (b : Octets) (s : State), s.live .house t ∧ s.model.stage.coming = some b) ∧
    (∃ (t : Nat) (b : Octets) (s : State), s.live .house t ∧ s.logic.stage.coming = some b) :=
  ⟨⟨0, ([1, 0, 7, 0, 0, 16, 1, 0, 0, 0]),
      ({ cs := 1, session := 0, tag := 7, flags := 0, index := 0x1000, sub := 1, resv := 0, length := 0, data := [], trailer := none }), wReady,
      decide_eq_true (show 0 + Config.freeHrdy 0 % 1 ≤ 0 by rw [Nat.mod_one]), by decide +kernel⟩,
   ⟨0, wReady, decide_eq_true (show 0 + Config.freeHrdy 0 % 1 ≤ 0 by rw [Nat.mod_one]), by decide +kernel⟩,
   ⟨0, ([1, 2]), ({ wReady with net := { wReady.net with host := { wReady.net.host with resp := some [1, 2] } } }),
      decide_eq_true (show 0 + Config.freeHrdy 0 % 1 ≤ 0 by rw [Nat.mod_one]), by decide +kernel⟩,
   ⟨0, ([(5, .num 3)]), ({ wRun with dict := { wRun.dict with storing := some [(5, .num 3)] } }), by decide +kernel⟩,
   ⟨0, wHost, (wHost.req (wHost.pdu 1 0 0x6C00 3 [])), (wEnt 0x6C00 3), wRun, ((wRun.advance 0).turn (wHost.req (wHost.pdu 1 0 0x6C00 3 []))),
      rfl, rfl, by decide +kernel⟩,
   ⟨0, wHost, (wHost.req (wHost.pdu 1 0 0x6C10 2 [])), (wEnt 0x6C10 2), wRun, ((wRun.advance 0).turn (wHost.req (wHost.pdu 1 0 0x6C10 2 []))),
      rfl, rfl, by decide +kernel⟩,
   ⟨0, wHost, (wHost.req (wHost.pdu 1 0 0x6000 1 [])), (wEnt 0x6000 1), wRun, ((wRun.advance 0).turn (wHost.req (wHost.pdu 1 0 0x6000 1 []))),
      rfl, rfl, by decide +kernel⟩,
   ⟨0, wHost, (wHost.req (wHost.pdu 1 0 0x6000 0x0A [])), (wEnt 0x6000 0x0A), wRun,
      ((wRun.advance 0).turn (wHost.req (wHost.pdu 1 0 0x6000 0x0A []))), rfl, rfl, by decide +kernel⟩,
   ⟨0, (zeros 300), ({ wRun with model := { wRun.model with stage := { wRun.model.stage with coming := some (zeros 300) } } }),
      by decide +kernel⟩,
   ⟨0, (zeros 300), (wRun.modLogic (fun l => { l with stage := { l.stage with coming := some (zeros 300) } })), by decide +kernel⟩⟩

theorem witness_ImageStaging :
    (∃ (t offset : Nat) (a : Acc) (b : Octets) (r : Req) (x : Transfer) (e : Ent) (s v w : State), r = a.req (a.segment offset true b) ∧
        v = (s.advance t).turn r ∧ (v.session r.ctx).xfer = some x ∧
        w = (v.setXfer r.ctx none).sealed r 4 x.index x.sub (x.data ++ b) ((v.setXfer r.ctx none).needsTrailer r x.index x.sub e) ∧
        s.live .house t ∧ (s.advance t).takes r ∧ x.write = true ∧ r.pdu.offset = x.next ∧ b.length ≤ r.limit ∧ x.next + b.length = x.total ∧
        entAt x.index x.sub = some e ∧
        (v.setXfer r.ctx none).sealOk r 4 x.index x.sub (x.data ++ b) ((v.setXfer r.ctx none).needsTrailer r x.index x.sub e) ∧
        e.badLength x.index x.sub (x.data ++ b) = false ∧ e.badValue (x.data ++ b) = false ∧ w.shut x.index = false ∧
        w.readOpen x.index x.sub true = false ∧ x.index = 0x2000 ∧ x.sub = 1 ∧ s.model.stage.status ≠ 3 ∧ s.model.stage.coming = none) ∧
    (∃ (t offset : Nat) (a : Acc) (b : Octets) (r : Req) (x : Transfer) (e : Ent) (s v w : State), r = a.req (a.segment offset true b) ∧
        v = (s.advance t).turn r ∧ (v.session r.ctx).xfer = some x ∧
        w = (v.setXfer r.ctx none).sealed r 4 x.index x.sub (x.data ++ b) ((v.setXfer r.ctx none).needsTrailer r x.index x.sub e) ∧
        e.badLength x.index x.sub (x.data ++ b) = false ∧ s.live .house t ∧ (s.advance t).takes r ∧ x.write = true ∧ r.pdu.offset = x.next ∧
        b.length ≤ r.limit ∧ x.next + b.length = x.total ∧ entAt x.index x.sub = some e ∧
        (v.setXfer r.ctx none).sealOk r 4 x.index x.sub (x.data ++ b) ((v.setXfer r.ctx none).needsTrailer r x.index x.sub e) ∧
        e.badValue (x.data ++ b) = false ∧ w.shut x.index = false ∧ w.readOpen x.index x.sub true = false ∧ x.index = 0x5000 ∧ x.sub = 3 ∧
        s.logic.stage.status ≠ 3 ∧ s.logic.stage.coming = none) :=
  ⟨⟨0, 254, wHost, ([1, 2]), (wHost.req (wHost.segment 254 true [1, 2])), (wStage 0x2000 1 254), (wEnt 0x2000 1), (wXfer (wStage 0x2000 1 254)),
      (((wXfer (wStage 0x2000 1 254)).advance 0).turn (wHost.req (wHost.segment 254 true [1, 2]))),
      ((((wXfer (wStage 0x2000 1 254)).advance 0).turn (wHost.req (wHost.segment 254 true [1, 2]))).setXfer 0 none), rfl, rfl, rfl, rfl,
      by decide +kernel⟩,
   ⟨0, 77926, wHost, ([1, 2]), (wHost.req (wHost.segment 77926 true [1, 2])), (wStage 0x5000 3 77926), (wEnt 0x5000 3),
      (wXfer (wStage 0x5000 3 77926)), (((wXfer (wStage 0x5000 3 77926)).advance 0).turn (wHost.req (wHost.segment 77926 true [1, 2]))),
      ((((wXfer (wStage 0x5000 3 77926)).advance 0).turn (wHost.req (wHost.segment 77926 true [1, 2]))).setXfer 0 none), rfl, rfl, rfl, rfl,
      fits _ _ _ 77928 _ (List.length_append.trans (congrArg (· + 2) List.length_replicate)) (by decide +kernel), by decide +kernel⟩⟩

theorem witness_SessionCommands :
    (∃ (t tag slot partner : Nat) (nonce : Octets) (a : Acc) (r : Req) (k : KeySlot) (s : State),
        a = { src := .host, session := 0, tag := tag, crit := none } ∧
        r = a.req (a.pdu 0x10 0 0 0 (leBytes 1 slot ++ zeros 3 ++ leBytes 4 partner ++ nonce)) ∧ s.live .house t ∧ s.booting = false ∧
        ((s.advance t).takeToken r).2 = true ∧ nonce.length = 16 ∧ slot < 64 ∧ partner < 4294967296 ∧ s.net.rngFailed = false ∧
        (s.session 0).lastReq ≠ some r ∧ s.keySlot slot = some k ∧ bitOf k.usage 0 = true ∧ (k.partner = 0 ∨ k.partner = partner)) ∧
    (∃ (t tag slot partner n : Nat) (nonce : Octets) (src : Peer) (a : Acc) (r : Req) (k : KeySlot) (s : State),
        a = { src := src, session := 0, tag := tag, crit := none } ∧
        r = a.req (a.pdu 0x10 0 0 0 (leBytes 1 slot ++ zeros 3 ++ leBytes 4 partner ++ nonce)) ∧ s.live .house t ∧ src ≠ .host ∧
        s.pathServed src = true ∧ ((s.advance t).takeToken r).2 = true ∧ nonce.length = 16 ∧ slot < 64 ∧ partner < 4294967296 ∧
        s.net.rngFailed = false ∧ s.keySlot slot = some k ∧ bitOf k.usage 0 = true ∧ (k.partner = 0 ∨ k.partner = partner) ∧
        ((s.advance t).takeToken r).1.pickContext = some n) ∧
    (∃ (t : Nat) (a : Acc) (proof k : Octets) (r : Req) (s : State), r = a.req (a.pdu 0x11 0 0 0 proof) ∧
        proof = trunc96 (hmac k (proofMsg "PXO2" (s.session a.ctx).nd (s.session a.ctx).nc a.ctx (s.session a.ctx).partner)) ∧ s.live .house t ∧
        (a.src = .host → s.booting = false ∧ (s.session 0).lastReq ≠ some r) ∧
        (a.src ≠ .host → s.pathServed a.src = true ∧ a.session ≠ 0 ∧ a.crit = none) ∧ ((s.advance t).takeToken r).2 = true ∧ proof.length = 12 ∧
        (s.session a.ctx).state = .opening ∧ (s.session a.ctx).peer = a.src ∧ s.slotKey a.ctx = some k) ∧
    (∃ (t : Nat) (a : Acc) (c : Trailer) (r : Req) (s v : State), r = a.req (a.pdu 0x12 0 0 0 []) ∧
        v = ((s.advance t).takeToken r).1.modSess 0 (fun x => { x with idleSince := (s.advance t).now }) ∧ s.live .house t ∧ a.src = .host ∧
        a.crit = some c ∧ s.booting = false ∧ ((s.advance t).takeToken r).2 = true ∧ (s.session 0).lastReq ≠ some r ∧
        (v.trailer 0 0x12 r.pdu 0 0 [] true).2 = 0) ∧
    (∃ (t : Nat) (a : Acc) (r : Req) (s v : State), r = a.req (a.pdu 0x12 0 0 0 []) ∧ v = (s.advance t).turn r ∧ s.live .house t ∧
        a.src ≠ .host ∧ s.pathServed a.src = true ∧ ((s.advance t).takeToken r).2 = true ∧ r.malformed = false ∧
        ((s.advance t).takeToken r).1.authentic r = true ∧ (v.session a.session).lastReq ≠ some r ∧
        (v.trailer a.session 0x12 r.pdu 0 0 [] true).2 = 0) ∧
    (∃ (t n : Nat) (s : State), n < 256 ∧ s.live .house t ∧ (s.session n).state = .opening ∧
        (s.session n).openingSince + 2000000000 ≤ (s.advance t).now) ∧
    (∃ (t : Nat) (s : State), s.live .house t) :=
  ⟨⟨0, 7, 9, 77, (zeros 16), wHost, (wHost.req (wHost.pdu 0x10 0 0 0 (leBytes 1 9 ++ zeros 3 ++ leBytes 4 77 ++ zeros 16))), wKey, wKeys, rfl,
      rfl, by decide +kernel⟩,
   ⟨0, 7, 9, 77, 1, (zeros 16), (.udp 0 5 47121), ({ wHost with src := .udp 0 5 47121 }),
      (({ wHost with src := .udp 0 5 47121 } : Acc).req (({ wHost with src := .udp 0 5 47121 } : Acc).pdu 0x10 0 0 0 (leBytes 1 9 ++ zeros 3 ++ leBytes 4 77 ++ zeros 16))),
      wKey, wKeys, rfl, rfl, by decide +kernel⟩,
   ⟨0, wHost, (trunc96 (hmac (zeros 32) (proofMsg "PXO2" (zeros 16) (zeros 16) 0 77))), (zeros 32),
      (wHost.req (wHost.pdu 0x11 0 0 0 (trunc96 (hmac (zeros 32) (proofMsg "PXO2" (zeros 16) (zeros 16) 0 77))))), (wOpening .host 0), rfl, rfl,
      by decide +kernel⟩,
   ⟨0, ({ wHost with crit := some { counter := 1, tag := trunc96 (hmac (zeros 32) (critBlock 0x12 0 7 1 0 0 0 1 [])) } }),
      ({ counter := 1, tag := trunc96 (hmac (zeros 32) (critBlock 0x12 0 7 1 0 0 0 1 [])) }),
      (({ wHost with crit := some { counter := 1, tag := trunc96 (hmac (zeros 32) (critBlock 0x12 0 7 1 0 0 0 1 [])) } } : Acc).req (({ wHost with crit := some { counter := 1, tag := trunc96 (hmac (zeros 32) (critBlock 0x12 0 7 1 0 0 0 1 [])) } } : Acc).pdu 0x12 0 0 0 [])),
      ({ wKeys with net := { wKeys.net with sess := [(0, { state := .opened, slot := 9, role := 2, key := zeros 32, tokens := 64000000000 })] } }),
      (((({ wKeys with net := { wKeys.net with sess := [(0, { state := .opened, slot := 9, role := 2, key := zeros 32, tokens := 64000000000 })] } } : State).advance 0).takeToken (({ wHost with crit := some { counter := 1, tag := trunc96 (hmac (zeros 32) (critBlock 0x12 0 7 1 0 0 0 1 [])) } } : Acc).req (({ wHost with crit := some { counter := 1, tag := trunc96 (hmac (zeros 32) (critBlock 0x12 0 7 1 0 0 0 1 [])) } } : Acc).pdu 0x12 0 0 0 []))).1.modSess 0 (fun x => { x with idleSince := 0 })),
      rfl, rfl, by decide +kernel⟩,
   ⟨0,
      (({ wHost with src := .udp 0 5 47121, session := 3, crit := some { counter := 5, tag := trunc96 (hmac (zeros 32) (critBlock 0x12 3 7 1 0 0 0 5 [])) } } : Acc)),
      (({ wHost with src := .udp 0 5 47121, session := 3, crit := some { counter := 5, tag := trunc96 (hmac (zeros 32) (critBlock 0x12 3 7 1 0 0 0 5 [])) } } : Acc).req (({ wHost with src := .udp 0 5 47121, session := 3, crit := some { counter := 5, tag := trunc96 (hmac (zeros 32) (critBlock 0x12 3 7 1 0 0 0 5 [])) } } : Acc).pdu 0x12 0 0 0 [])),
      (({ wKeys with net := { wKeys.net with sess := [(3, { state := .opened, peer := .udp 0 5 47121, role := 2, slot := 9, key := zeros 32, counter := 4, tokens := 64000000000 })] } } : State)),
      ((({ wKeys with net := { wKeys.net with sess := [(3, { state := .opened, peer := .udp 0 5 47121, role := 2, slot := 9, key := zeros 32, counter := 4, tokens := 64000000000 })] } } : State).advance 0).turn (({ wHost with src := .udp 0 5 47121, session := 3, crit := some { counter := 5, tag := trunc96 (hmac (zeros 32) (critBlock 0x12 3 7 1 0 0 0 5 [])) } } : Acc).req (({ wHost with src := .udp 0 5 47121, session := 3, crit := some { counter := 5, tag := trunc96 (hmac (zeros 32) (critBlock 0x12 3 7 1 0 0 0 5 [])) } } : Acc).pdu 0x12 0 0 0 []))),
      rfl, rfl, by decide +kernel⟩,
   ⟨2000000000, 1, (wOpening (.udp 0 5 47121) 1), by decide +kernel⟩,
   ⟨0, wKeys, by decide +kernel⟩⟩

end W02

namespace W03

/-- A model image with one channel, of type 1, at node 5 of CAN port 2. -/
def wImg : Octets := patch (patch (zeros 300) 136 (leBytes 4 200)) 200 [1, 0, 0, 0, 0, 0, 0, 0, 2, 5]
/-- A device in RUN with that image active. -/
def wModel : State := { wRun with model := { wRun.model with active := some wImg } }
def wSnap : HydSnap := { start := 0, vals := [], img := wImg, k := [], x := [], light := [], chans := [], ai := [], held := 0 }
/-- A job of a class. -/
def wJob (s : State) (c : Nat) (j : Job) : State := { s with loam := { s.loam with jobs := Tab.insert s.loam.jobs c j } }
def wPlan (p : Plan) : State := { wModel with disp := { wModel.disp with plan := p } }
def wReSnap : ReSnap := wModel.takeInputs 0 none []
/-- A loss job of two groups with one channel's samples, and one whose numbers do not fit its scale codes. -/
def wLoss : LossJob := { groups := [1, 2], rows := [(8, 1, 1 / 100, [1, 2])], sigmaLambda := 100, tempSigma := 100, maxStep := 50, lo := 200, hi := 5000 }
def wLossBig : LossJob := { wLoss with rows := [(8796093022207, 1, 1 / 100, [1, 0])], sigmaLambda := 1000 }
/-- The loss job of an estimation run, as a job of class 3 that SOLV runs. -/
def wLossJob (l : LossJob) (j : Job) : State :=
  (wJob { wModel with estim := { wModel.estim with lossJob := some l } } 3 j).modLoam (fun v => { v with running := some 3 })

theorem witness_ModelAndHydraulicCommands :
    (∃ (t : Nat) (s : State), s.live .mem t ∧ s.model.stage.status = 3 ∧ s.model.active ≠ none) ∧
    (∃ (t : Nat) (s : State), s.live .mem t ∧ s.model.stage.status = 3) ∧
    (∃ (t g : Nat) (img : Octets) (s : State), s.live .house t ∧ s.model.next = some (g, img) ∧ (s.advance t).periodDue ≠ none) ∧
    (∃ (t : Nat) (s : State), s.live .house t ∧ s.lightMinute (s.advance t).clk.dev = 0) ∧
    (∃ (t start : Nat) (s : State), s.live .solv t ∧ (s.advance t).periodDue = some start) ∧
    (∃ (t st : Nat) (n : HydSnap) (s : State), s.live .solv t ∧ s.hyd.snap = some n ∧ (s.advance t).hydEnd n ((s.advance t).job 0) = some st ∧
        s.mayEnd 0 = true) ∧
    (∃ (t : Nat) (n : HydSnap) (p : DelivProbe) (s : State), s.live .solv t ∧ s.hyd.snap = some n ∧ s.hyd.probe = some p ∧ (s.job 1).state = 2 ∧
        (s.job 1).reason = some .deadlineEmpty ∧ (s.job 1).done = none ∧ s.mayEnd 1 = true) ∧
    (∃ (t : Nat) (s : State), s.live .solv t ∧ s.model.active ≠ none ∧ s.up = true ∧ s.hyd.stale = false ∧
        s.hyd.lastPub + s.hydCfg 0x2830 15 * 1000000000 ≤ (s.advance t).clk.dev) :=
  ⟨⟨0, ({ wModel with model := { wModel.model with stage := { wModel.model.stage with status := 3, image := [1] } } }), by decide +kernel⟩,
   ⟨0, ({ wModel with model := { wModel.model with stage := { wModel.model.stage with status := 3, image := [1] } } }), by decide +kernel⟩,
   ⟨0, 4, wImg, ({ wModel with model := { wModel.model with next := some (4, wImg) } }), by decide +kernel⟩,
   ⟨0, wModel, by decide +kernel⟩,
   ⟨4000000000000, 4000000000000, wModel, by decide +kernel⟩,
   ⟨0, 6, wSnap,
      ((wJob { wModel with hyd := { wModel.hyd with snap := some wSnap } } 0 { state := 2, reason := some .deadlineEmpty }).modLoam (fun l => { l with running := some 0 })),
      by decide +kernel⟩,
   ⟨0, wSnap, ({ cons := [], f := [] }),
      ((wJob { wModel with hyd := { wModel.hyd with snap := some wSnap, probe := some { cons := [], f := [] } } } 1 { state := 2, reason := some .deadlineEmpty }).modLoam (fun l => { l with running := some 1 })),
      by decide +kernel⟩,
   ⟨4000000000000, wModel, by decide +kernel⟩⟩

theorem witness_EstimatorCommands :
    (∃ (t stop : Nat) (s : State), s.live .solv t ∧ s.model.active ≠ none ∧ s.up = true ∧ s.power.jobsHeld = false ∧
        stop = (s.advance t).clk.dev / (s.hydCfg 0x2840 1 * 1000000000) * (s.hydCfg 0x2840 1 * 1000000000) ∧ s.estim.win.start < stop ∧
        (s.advance t).estimates = true ∧ s.estim.reset = false ∧ (s.estim.win.periods = 0 ∨ 2 * s.estim.win.published < s.estim.win.periods)) ∧
    (∃ (t stop : Nat) (s : State), s.live .solv t ∧ s.model.active ≠ none ∧ s.up = true ∧ s.power.jobsHeld = false ∧
        stop = (s.advance t).clk.dev / (s.hydCfg 0x2840 1 * 1000000000) * (s.hydCfg 0x2840 1 * 1000000000) ∧ s.estim.win.start < stop ∧
        (s.advance t).estimates = true ∧ s.estim.reset = true) ∧
    (∃ (t stop : Nat) (s : State), s.live .solv t ∧ s.model.active ≠ none ∧ s.up = true ∧ s.power.jobsHeld = false ∧
        stop = (s.advance t).clk.dev / (s.hydCfg 0x2840 1 * 1000000000) * (s.hydCfg 0x2840 1 * 1000000000) ∧ s.estim.win.start < stop ∧
        (s.advance t).estimates = true ∧ s.estim.reset = false ∧ s.estim.win.periods ≠ 0 ∧ s.estim.win.periods ≤ 2 * s.estim.win.published) ∧
    (∃ (t stop : Nat) (s : State), s.live .solv t ∧ s.model.active ≠ none ∧ s.up = true ∧ s.power.jobsHeld = false ∧
        stop = (s.advance t).clk.dev / (s.hydCfg 0x2840 1 * 1000000000) * (s.hydCfg 0x2840 1 * 1000000000) ∧ s.estim.win.start < stop ∧
        (s.advance t).estimates = false) ∧
    (∃ (t : Nat) (l : LossJob) (s : State), s.live .solv t ∧ s.estim.lossJob = some l ∧ (s.advance t).estimates = true ∧ s.mayEnd 3 = true ∧
        (((s.job 3).state = 1 ∧ (s.job 3).met = true) ∨ ((s.job 3).state = 2 ∧ (s.job 3).reason = some .complete))) ∧
    (∃ (t : Nat) (l : LossJob) (s : State), s.live .solv t ∧ s.estim.lossJob = some l ∧ (s.advance t).estimates = true ∧ s.mayEnd 3 = true ∧
        (s.job 3).state = 2 ∧ ((s.job 3).reason = some .deadlineEmpty ∨ (s.job 3).reason = some .overflow)) ∧
    (∃ (t : Nat) (s : State), s.live .solv t ∧ (s.advance t).quarterOver = true) :=
  ⟨⟨4000000000000, 3600000000000, ({ wModel with estim := { wModel.estim with win := { wModel.estim.win with periods := 3 } } }),
      by decide +kernel⟩,
   ⟨4000000000000, 3600000000000, ({ wModel with estim := { wModel.estim with reset := true, loss := [(1, 3)] } }), by decide +kernel⟩,
   ⟨4000000000000, 3600000000000,
      ({ wModel with estim := { wModel.estim with win := { wModel.estim.win with periods := 3, published := 2 } } }), by decide +kernel⟩,
   ⟨4000000000000, 3600000000000, ({ wModel with lease := { wRun.lease with cfg := 1, peers := [(1, { role := 2 })] } }), by decide +kernel⟩,
   ⟨0, wLoss, (wLossJob wLoss { state := 1, met := true, done := some [] }), by decide +kernel⟩,
   ⟨0, wLoss, (wLossJob wLoss { state := 2, reason := some .overflow }), by decide +kernel⟩,
   ⟨1000000000000, ({ wModel with disp := { wModel.disp with quarter := { start := 0, periods := 4, irr := 400 } } }), by decide +kernel⟩⟩

theorem witness_PlannerAndJobCommands :
    (∃ (t : Nat) (s : State), s.live .solv t ∧ s.nat 0x6410 1 = 0 ∧ s.model.active ≠ none ∧ s.up = true ∧ s.power.jobsHeld = false ∧
        (s.advance t).inputsHeld = true ∧ s.nat 0x2810 1 = 1 ∧ (s.job 2).alive = false ∧ s.disp.nowPending = true) ∧
    (∃ (t st : Nat) (r : ReSnap) (s : State), s.disp.run = some r ∧ s.live .solv t ∧ r.round = none ∧ (r.verdict (s.job 2)).status = some st ∧
        s.mayEnd 2 = true ∧ (s.advance t).inputsHeld = true) ∧
    (∃ (t : Nat) (s : State), s.live .house t ∧ s.disp.plan.inForce = true ∧ s.disp.plan.withdrawn = false ∧
        s.disp.plan.past < s.disp.plan.passed (s.advance t).clk.dev) ∧
    (∃ (t : Nat) (s : State), s.live .house t ∧ s.disp.plan.inForce = true ∧ s.disp.plan.stale = false ∧
        s.disp.plan.time + s.nat 0x2801 20 * 1000000000 ≤ (s.advance t).clk.dev) ∧
    (∃ (t r c : Nat) (s : State), s.live .solv t ∧ s.loam.running = some r ∧ s.nextClass = some c ∧ c < r) ∧
    (∃ (t c : Nat) (i : Iteration) (s : State), (s.advance t).computes c = true ∧ (s.advance t).iterationOf c = some i ∧ c < 4 ∧ s.live .solv t ∧
        i.work.ovf = none) ∧
    (∃ (t c : Nat) (i : Iteration) (s : State), (s.advance t).computes c = true ∧ (s.advance t).iterationOf c = some i ∧ c < 4 ∧ s.live .solv t ∧
        i.work.ovf ≠ none) ∧
    (∃ (t c : Nat) (s : State), (s.job c).deadline ≤ (s.advance t).localTime .solv ∧ c < 4 ∧ s.live .solv t ∧ (s.job c).state = 1 ∧
        (s.job c).met = false) ∧
    (∃ (t c no : Nat) (s : State), c < 4 ∧ s.live .solv t ∧ s.loam.doneNos.contains no = false ∧ (s.job c).no = no ∧ (s.job c).alive = true) ∧
    (∃ (t c no : Nat) (s : State), c < 4 ∧ s.live .solv t ∧ s.loam.doneNos.contains no = true) ∧
    (∃ (t c : Nat) (s : State), s.live .solv t ∧ s.loam.running = some c ∧ (s.job c).state = 1) ∧
    (∃ (t c lane : Nat) (s : State), s.live .solv t ∧ s.loam.running = some c ∧ (s.job c).state = 1 ∧ lane < 68) ∧
    (∃ (t c : Nat) (s : State), s.live .solv t ∧ s.loam.running = some c ∧ (s.job c).state = 1 ∧
        s.loam.dividersOut.contains (1 - s.loam.divider) = false) :=
  ⟨⟨0,
      ({ wModel with disp := { wModel.disp with nowPending := true }, dict := { wModel.dict with vals := [(0x281001, .num 1), (0x281003, .num 1)] } }),
      by decide +kernel⟩,
   ⟨0, 6, wReSnap,
      ((wJob { wModel with disp := { wModel.disp with run := some wReSnap } } 2 { state := 2, reason := some .deadlineEmpty }).modLoam (fun l => { l with running := some 2 })),
      rfl, by decide +kernel⟩,
   ⟨1000000000000,
      (wPlan { inForce := true, ends := [900000000000, 1800000000000, 2700000000000], steps := [{ ms := 900000, dec := [], st := [] }, { ms := 900000, dec := [], st := [] }, { ms := 900000, dec := [], st := [] }], stepLen := 15 }),
      by decide +kernel⟩,
   ⟨9000000000000, (wPlan { inForce := true }), by decide +kernel⟩,
   ⟨0, 1, 0, ((wJob (wJob wModel 0 { state := 1 }) 1 { state := 1 }).modLoam (fun l => { l with running := some 1 })), by decide +kernel⟩,
   ⟨0, 3, (((wLossJob wLoss { state := 1, deadline := 100 }).advance 0).iterLoss wLoss), (wLossJob wLoss { state := 1, deadline := 100 }),
      State.computes_of _ _ (by decide +kernel), rfl, by decide +kernel⟩,
   ⟨0, 3, (((wLossJob wLossBig { state := 1, deadline := 100 }).advance 0).iterLoss wLossBig),
      (wLossJob wLossBig { state := 1, deadline := 100 }), State.computes_of _ _ (by decide +kernel), rfl, by decide +kernel⟩,
   ⟨200, 0, (wJob wModel 0 { state := 1, deadline := 100 }), (Nat.le_trans (by decide +kernel) (State.le_localTime _ _)), by decide +kernel⟩,
   ⟨0, 0, 0, (wJob wModel 0 { state := 1, deadline := 100 }), by decide +kernel⟩,
   ⟨0, 0, 5, (wModel.modLoam (fun l => { l with doneNos := [5] })), by decide +kernel⟩,
   ⟨0, 0, ((wJob wModel 0 { state := 1, deadline := 100, iters := 4 }).modLoam (fun l => { l with running := some 0 })), by decide +kernel⟩,
   ⟨0, 0, 4, ((wJob wModel 0 { state := 1, deadline := 100, iters := 4 }).modLoam (fun l => { l with running := some 0 })), by decide +kernel⟩,
   ⟨0, 0, ((wJob wModel 0 { state := 1, deadline := 100, iters := 4 }).modLoam (fun l => { l with running := some 0 })), by decide +kernel⟩⟩

end W03

namespace W07

/-- A loop in a state, over a device in RUN. -/
def wLoop (l : Loop) : State := { wRun with ctrl := { wRun.ctrl with loops := Tab.insert [] 5 l } }
/-- Entry values over a state. -/
def wVals (s : State) (v : Tab Val) : State := { s with dict := { s.dict with vals := v } }
/-- A probe in a state. -/
def wProbe (v : Probe) : State := { wRun with ctrl := { wRun.ctrl with probes := Tab.insert [] 3 v } }
def wSub (u : Sub) : State := { wRun with ledger := { wRun.ledger with subs := [(2, u)] } }

theorem witness_LoopCommands :
    (∃ (t n m : Nat) (x : EvalIn) (s : State), n < 1024 ∧ s.live .ctrl t ∧ (s.advance t).sampleNo n (s.advance t).tick = some m ∧
        (s.loop n).state ≠ .off ∧ (s.advance t).acts = true ∧ s.loopPipe n ≠ 3 ∧ s.testedBare 2 (s.loopPipe n) = false ∧
        (s.loop n).lastTick ≠ some (s.advance t).tick ∧ x.working = [] ∧ x.checkpoint = [] ∧ x.lost = false ∧ x.residueBad = false ∧
        ((s.src n 0).kind = 1 → x.landed = true ∧ s.converterOf (s.src n 0).index ≠ 3)) ∧
    (∃ (t n m : Nat) (x : EvalIn) (s : State), n < 1024 ∧ s.live .ctrl t ∧ (s.advance t).sampleNo n (s.advance t).tick = some m ∧
        (s.loop n).state ≠ .off ∧ (s.advance t).acts = true ∧ s.loopPipe n ≠ 3 ∧ s.testedBare 2 (s.loopPipe n) = false ∧
        (s.loop n).lastTick ≠ some (s.advance t).tick ∧ x.working = [] ∧ x.checkpoint = [] ∧ x.lost = false ∧ x.residueBad = false ∧
        (s.src n 0).kind = 1 ∧ x.landed = false) ∧
    (∃ (t k : Nat) (s : State), k < 16 ∧ s.live .ctrl t ∧ s.converterOf k ≠ 3) ∧
    (∃ (t k at_ : Nat) (s : State), k < 2 ∧ s.live .ctrl t ∧ s.ctrl.pipeBad = some (k, at_) ∧ at_ < (s.advance t).tick ∧ s.ctrl.pipe0 = 0 ∧
        s.ctrl.pipe1 = 1 ∧ s.poolOut 2 0 = []) ∧
    (∃ (t k : Nat) (s : State), k < 16 ∧ s.live .ctrl t ∧ Tab.get {} s.ctrl.pwm k = {} ∧ Tab.get 0 s.ctrl.pwPeriod k ≠ 0 ∧
        0 < pwmMultiple (Tab.get 0 s.ctrl.pwPeriod k) (s.advance t).clk.dev) ∧
    (∃ (t n w : Nat) (s : State), n < 1024 ∧ s.live .ctrl t ∧ w < 65536 ∧ w ≠ (s.loop n).reqWord ∧ w % 8 = 6 ∧ (s.coef n).reqLogic = true ∧
        s.holding = false ∧ (s.loop n).state = .opened) ∧
    (∃ (t n : Nat) (s : State), n < 1024 ∧ s.live .ctrl t) :=
  ⟨⟨0, 5, 0, ({ landed := true, code := 100, residueBad := false, working := [], checkpoint := [], lost := false }),
      (wLoop { state := .closed, slot := some 0, ovrConsec := 2 }), by decide +kernel⟩,
   ⟨0, 5, 0, ({ landed := false, code := 100, residueBad := false, working := [], checkpoint := [], lost := false }),
      (wVals (wLoop { state := .closed, slot := some 0, ovrConsec := 2 }) [(0x300505, .oct ([1, 0, 0, 0] ++ zeros 68))]), by decide +kernel⟩,
   ⟨0, 1, wRun, by decide +kernel⟩,
   ⟨2000000, 1, 0, ({ wRun with ctrl := { wRun.ctrl with pipeBad := some (1, 0) } }), by decide +kernel⟩,
   ⟨200000, 1, ({ wRun with ctrl := { wRun.ctrl with pwPeriod := [(1, 1000)], pwHigh := [(1, 50)] } }), by decide +kernel⟩,
   ⟨0, 5, 14, (wVals (wLoop { state := .opened, uPrev := 77 }) [(0x300506, .oct (zeros 22 ++ [8, 0]))]), by decide +kernel⟩,
   ⟨0, 5, (wLoop { state := .opened, reqWord := 14 }), by decide +kernel⟩⟩

theorem witness_ProbeAndRepCommands :
    (∃ (t n m : Nat) (s : State), n < 1024 ∧ s.live .ctrl t ∧ (s.repCfg n).enable = true ∧ (s.loop n).state ≠ .off ∧
        (s.advance t).sampleNo n (s.advance t).tick = some m ∧ (s.loop n).rep.poison = []) ∧
    (∃ (t p : Nat) (s : State), p < 32 ∧ s.live .ctrl t ∧ (s.probe p).state = 2 ∧ (s.probeCfg p).post ≤ (s.probe p).post.length) ∧
    (∃ (t p : Nat) (s : State), p < 32 ∧ s.live .ctrl t ∧ (s.probe p).state ≠ 2) ∧
    (∃ (t n p t0 : Nat) (recs : List Octets) (s : State), n < 8 ∧ s.live .ctrl t ∧ Tab.find (s.sub n).gather p = some (t0, recs) ∧
        t0 + 100000000 ≤ (s.advance t).now ∧ (s.advance t).hasRoom (.traceq n) = true) ∧
    (∃ (t n p t0 : Nat) (recs : List Octets) (s : State), n < 8 ∧ s.live .ctrl t ∧ Tab.find (s.sub n).gather p = some (t0, recs) ∧
        (s.advance t).now < t0 + 100000000) :=
  ⟨⟨0, 5, 0, (wVals (wLoop { state := .closed, rep := { table := [(1, 9)] } }) [(0x380501, .oct (leBytes 4 4 ++ zeros 11 ++ [1]))]),
      by decide +kernel⟩,
   ⟨0, 3, (wProbe { state := 2, post := List.replicate 1100 [0] }), by decide +kernel⟩,
   ⟨0, 3, (wProbe { state := 1 }), by decide +kernel⟩,
   ⟨100000000, 2, 3, 0, ([[1, 2]]), (wSub { gather := [(3, (0, [[1, 2]]))] }), by decide +kernel⟩,
   ⟨99999999, 2, 3, 0, ([[1, 2]]), (wSub { gather := [(3, (0, [[1, 2]]))] }), by decide +kernel⟩⟩

end W07

namespace W09

/-- A model image with one channel, of type 1, at node 5 of CAN port 2. -/
def wImg : Octets := patch (patch (zeros 300) 136 (leBytes 4 200)) 200 [1, 0, 0, 0, 0, 0, 0, 0, 2, 5]
/-- A device in RUN with that image active, holding the lease. -/
def wModel : State := { wRun with model := { wRun.model with active := some wImg }, lease := { wRun.lease with state := 2 } }
/-- Connection point 2. -/
def wCp (c : CpMeter) : State := { wRun with metr := { wRun.metr with cps := [(2, c)] } }
def wMetr (m : Metr) : State := { wRun with metr := m }
def wChan (c : Chan) : State := { wModel with heat := { wModel.heat with chans := [(0, c)] } }
def wRep : Octets := leBytes 2 7 ++ [0, 1] ++ leBytes 4 100 ++ leBytes 4 50 ++ zeros 36

theorem witness_MeteringCommands :
    (∃ (t c : Nat) (s : State), c < 4 ∧ s.live .metr t ∧ s.up = true ∧ cfgPhases (s.cp c).cfg ≠ 0 ∧ (s.cp c).lost = false ∧
        (s.cp c).crossed + 1 < winCycles (cfgFn (s.cp c).cfg)) ∧
    (∃ (t c : Nat) (w : Win) (rest : List Win) (s : State), c < 4 ∧ s.live .metr t ∧ (s.cp c).ended = w :: rest ∧ (s.cp c).clearPending = false) ∧
    (∃ (t c : Nat) (w : Win) (rest : List Win) (s : State), c < 4 ∧ s.live .metr t ∧ (s.cp c).ended = w :: rest ∧ (s.cp c).clearPending = true ∧
        (s.cp c).clearSkip = 0 ∧ s.power.saving = false) ∧
    (∃ (t c : Nat) (x : Rat) (s : State), c < 4 ∧ s.live .metr t ∧ cfgPhases (s.cp c).cfg ≠ 0 ∧ (s.cp c).lost = false ∧ (s.cp c).lastX = some x ∧
        x + 40000000 ≤ ((s.advance t).clk.dev : Rat)) ∧
    (∃ (t c : Nat) (h : Half) (r : List Half) (s : State), c < 4 ∧ s.live .metr t ∧ (s.cp c).halves = h :: r) ∧
    (∃ (t : Nat) (s : State), s.live .metr t ∧ s.metr.wave.state = 2 ∧ s.metr.wave.time + 96000000 ≤ (s.advance t).clk.dev) :=
  ⟨⟨0, 2, (wCp { cfg := [(1, .num 7)] }), by decide +kernel⟩,
   ⟨0, 2, {}, [], (wCp { ended := [{}] }), by decide +kernel⟩,
   ⟨0, 2, {}, [],
      ({ wCp { ended := [{}], clearPending := true } with metr := { (wCp { ended := [{}], clearPending := true }).metr with regs := [(57, 9)] } }),
      by decide +kernel⟩,
   ⟨50000000, 2, 0, (wCp { cfg := [(1, .num 7)], lastX := some 0, r := 3 }), by decide +kernel⟩,
   ⟨0, 2, ({ time := 0, n := 1, v2 := [1, 1, 1] }), [], (wCp { halves := [{ time := 0, n := 1, v2 := [1, 1, 1] }] }), by decide +kernel⟩,
   ⟨96000000, (wMetr { wave := { state := 2, cp := 1 } }), by decide +kernel⟩⟩

theorem witness_CalibrationCommands :
    (∃ (t c : Nat) (s : State), c < 4 ∧ s.live .metr t ∧ s.nat (0x4800 + c) 0x0B ≠ 0 ∧
        (s.cp c).calAt + s.nat (0x4800 + c) 0x0B * 3600000000000 ≤ (s.advance t).now ∧ s.modulatorsGone = false ∧ s.metr.calQueue = []) ∧
    (∃ (t i m : Nat) (r : List Nat) (s : State), s.live .metr t ∧ s.metr.cal = none ∧ s.metr.calQueue = i :: r ∧ s.freeModulator = some m) ∧
    (∃ (t : Nat) (r : CalRun) (s : State), s.live .metr t ∧ s.metr.cal = some r ∧ r.step = 1 ∧ (s.advance t).calReached r 1024 = true) ∧
    (∃ (t : Nat) (r : CalRun) (s : State), s.live .metr t ∧ s.metr.cal = some r ∧ r.step = 2 ∧ (s.advance t).calReached r 13312 = true) ∧
    (∃ (t : Nat) (r : CalRun) (tr : Int × Nat) (s : State), s.live .metr t ∧ s.metr.cal = some r ∧ r.step = 4 ∧ r.found = some tr ∧
        trimsPass tr = true ∧ (s.advance t).calReached r 14336 = true) ∧
    (∃ (t i m x : Nat) (s : State), m < 30 ∧ i < 28 ∧ s.live .metr t ∧ s.metr.cal = none ∧
        (List.range 28).find? (fun i => decide (s.modOf i = m)) = some i ∧
        (List.range 30).find? (fun x => !(List.range 28).any (fun i => decide (s.modOf i = x)) && !(s.poolOut 4 0).contains x && decide (x ≠ m))
        = some x) :=
  ⟨⟨90000000000000000, 2, ({ wRun with dict := { wRun.dict with vals := [(0x48020B, .num 24)] } }), by decide +kernel⟩,
   ⟨0, 18, 28, [], (wMetr { calQueue := [18] }), by decide +kernel⟩,
   ⟨128000000, (({ input := 18, step := 1, t0 := 0, old := 18, spare := 28, range := 1 } : CalRun)),
      (wMetr { cal := some (({ input := 18, step := 1, t0 := 0, old := 18, spare := 28, range := 1 } : CalRun)) }), by decide +kernel⟩,
   ⟨1664000000, (({ input := 18, step := 2, t0 := 0, old := 18, spare := 28, range := 1 } : CalRun)),
      (wMetr { cal := some (({ input := 18, step := 2, t0 := 0, old := 18, spare := 28, range := 1 } : CalRun)) }), by decide +kernel⟩,
   ⟨1792000000, (({ input := 18, step := 4, t0 := 0, old := 18, spare := 28, range := 1, found := some (5, 1073741824) } : CalRun)),
      ((5, 1073741824)),
      (wMetr { serves := [(18, 28)], cal := some (({ input := 18, step := 4, t0 := 0, old := 18, spare := 28, range := 1, found := some (5, 1073741824) } : CalRun)) }),
      by decide +kernel⟩,
   ⟨0, 18, 18, 28, wRun, by decide +kernel⟩⟩

theorem witness_ReportCommands :
    (∃ (t c : Nat) (src : RepSrc) (b : Octets) (x : Baseline) (s : State), s.live .metr t ∧ b.length = 48 ∧ s.reportChan src = some c ∧
        (reportOf b).type = (s.chanOf c).type ∧ (s.chan c).lastSeq ≠ some (reportOf b).seq ∧
        ((s.chanOf c).type = 1 ∨ (s.chanOf c).type = 2 ∨ (s.chanOf c).type = 4) ∧ (s.chan c).base = some x ∧ bitOf (reportOf b).flags 0 = false ∧
        diff32 (reportOf b).vFwd x.vFwd < 2147483648 ∧ diff32 (reportOf b).vRev x.vRev < 2147483648) ∧
    (∃ (t c : Nat) (s : State), c < 512 ∧ s.live .metr t ∧ (s.chan c).fresh = true ∧ (s.advance t).chanFresh c = false) ∧
    (∃ (t i : Nat) (level : Bool) (s : State), i < 32 ∧ s.live .metr t ∧ s.piMode i = 1 ∧ (s.pulse i).first = false ∧ (s.pulse i).level ≠ level ∧
        s.piOpt i 1 = false ∧ level ≠ s.piOpt i 0 ∧ (s.pulse i).since + s.piFilter i ≤ (s.advance t).now) :=
  ⟨⟨0, 0, (.can 2 5), wRep, ({ vFwd := 10, vRev := 20, ownE := 0, seq := 3 }),
      (wChan { got := true, seq := 6, base := some { vFwd := 10, vRev := 20, ownE := 0, seq := 3 } }), by decide +kernel⟩,
   ⟨900000000000, 0, (wChan { got := true, fresh := true }), by decide +kernel⟩,
   ⟨20000000, 6, true,
      ({ wRun with dict := { wRun.dict with vals := [(0x483601, .oct [1, 10, 0, 0])] }, heat := { wRun.heat with pulses := [(6, { first := false, count := 3 })] } }),
      by decide +kernel⟩⟩

theorem witness_ChannelFrameCommands :
    (∃ (t c d : Nat) (s : State), c < 512 ∧ s.live .comm t ∧ (s.advance t).leaseHolder = true ∧ s.chanType c ≠ 0 ∧
        (s.chan c).spChanged = some d ∧ (s.advance t).pastBoundary d = true) ∧
    (∃ (t c : Nat) (s : State), c < 512 ∧ s.live .comm t ∧ (s.advance t).leaseHolder = true ∧ s.chanType c ≠ 0 ∧ (s.chan c).spSent ≠ 0 ∧
        (s.chan c).spSent + s.nat (0x4000 + c) 5 * 1000000 ≤ (s.advance t).clk.dev) ∧
    (∃ (t c d : Nat) (s : State), c < 512 ∧ s.live .comm t ∧ (s.advance t).leaseHolder = true ∧ s.chanType c ≠ 0 ∧
        Tab.find s.logic.cmdDue c = some d ∧ (s.advance t).pastBoundary d = true) ∧
    (∃ (t c d : Nat) (s : State), c < 512 ∧ s.live .comm t ∧ (s.advance t).leaseHolder = true ∧ s.chanType c ≠ 0 ∧
        Tab.find s.logic.cmdSent c = some d ∧ d + s.nat (0x4000 + c) 5 * 1000000 ≤ (s.advance t).clk.dev) :=
  ⟨⟨10000000, 0, 5000000, ({ wChan { spChanged := some 5000000 } with clk := { dev := 5000000 } }), by decide +kernel⟩,
   ⟨90000000000, 0, (wChan { spSent := 4 }), by decide +kernel⟩,
   ⟨10000000, 0, 5000000, ({ wModel with logic := { wModel.logic with cmdDue := [(0, 5000000)] } }), by decide +kernel⟩,
   ⟨90000000000, 0, 5000000, ({ wModel with logic := { wModel.logic with cmdSent := [(0, 5000000)] } }), by decide +kernel⟩⟩

theorem witness_CoreSampleCommands :
    (∃ (t : Nat) (r : CsReq) (s : State), s.live .tbase t ∧ s.heat.cs.reqs = [r] ∧ r.time ≤ (s.advance t).clk.dev) ∧
    (∃ (t : Nat) (h : Shadow) (s : State), s.live .house t ∧ s.heat.cs.latched = some h) ∧
    (∃ (t : Nat) (s : State), s.live .house t ∧ s.up = true ∧ s.heat.iv.next ≤ (s.advance t).clk.dev ∧ s.power.deferIv = [] ∧
        s.power.saving = false) ∧
    (∃ (t : Nat) (c : RetCopy) (s : State), s.live .house t ∧ s.up = true ∧ s.power.jobsHeld = false ∧ (s.advance t).retentionDue = true ∧
        c = (s.advance t).retCopy (((s.retNewest.map (·.gen)).getD 0 + 1) % 4294967296)) :=
  ⟨⟨60, ({ time := 50, cause := 1, cascade := 0 }),
      ({ wRun with heat := { wRun.heat with cs := { reqs := [{ time := 50, cause := 1, cascade := 0 }] } } }), by decide +kernel⟩,
   ⟨60, {}, ({ wRun with heat := { wRun.heat with cs := { latched := some {} } } }), by decide +kernel⟩,
   ⟨60, wRun, by decide +kernel⟩,
   ⟨60, ((wRun.advance 60).retCopy 1), wRun, by decide +kernel⟩⟩

end W09

namespace W11

/-- A program: END at its first word, one timer. -/
def wProg : Program :=
  { code := [0xD8000000], entry := 0, kInit := [(2, 7)], timers := [(1, { type := 1, res := 0, preset := 2 })], retain := [4], mInit := [], dioOut := 0,
    stopClear := false, retainHash := 77, crc := 5 }
/-- The logic engine in a state, its program running. -/
def wLogic (l : Logic) : State := { wRun with logic := { l with prog := .run, loaded := some wProg } }
/-- Registers TB, WA, WB. -/
def wRegs (tb : Bool) (wa wb : Word32) : Logic := { m := [(0, 0xFFFF0005), (1, 0x80000000)], regs := { tb := tb, wa := wa, wb := wb } }
/-- An operand in M: its type and element. -/
def wOpd (ty i : Nat) : Opd := { area := 3, type := ty, indexed := false, index := i }

theorem witness_LogicBitInstructions :
    (∃ (d : Opd) (s : State), d.inside s.logic.regs.wb = true) ∧
    (∃ (d : Opd) (s : State), d.inside s.logic.regs.wb = true ∧ s.logic.regs.tb = true) ∧
    (∃ (d : Opd) (s : State), d.inside s.logic.regs.wb = true ∧ s.logic.regs.tb = false) :=
  ⟨⟨(wOpd 0 34), (wLogic (wRegs true 7 3)), by decide +kernel⟩,
   ⟨(wOpd 0 34), (wLogic (wRegs true 7 3)), by decide +kernel⟩,
   ⟨(wOpd 0 34), (wLogic (wRegs false 7 3)), by decide +kernel⟩⟩

theorem witness_StoredBitAlone :
    (∃ (d : Opd) (s u : State), (exec (.stb d) s = .next u ∨ exec (.setb d) s = .next u ∨ exec (.clrb d) s = .next u) ∧ d.area = 3 ∧ d.type = 0 ∧
        d.inside s.logic.regs.wb = true) ∧
    (∃ (d : Opd) (s u : State) (w : Nat), (exec (.stb d) s = .next u ∨ exec (.setb d) s = .next u ∨ exec (.clrb d) s = .next u) ∧ d.area = 3 ∧
        d.type = 0 ∧ d.inside s.logic.regs.wb = true ∧ w ≠ d.elem s.logic.regs.wb / 32) ∧
    (∃ (d : Opd) (s u : State) (b : Nat), (exec (.stb d) s = .next u ∨ exec (.setb d) s = .next u ∨ exec (.clrb d) s = .next u) ∧ d.area = 3 ∧
        d.type = 0 ∧ d.inside s.logic.regs.wb = true ∧ b < 32 ∧ b ≠ d.elem s.logic.regs.wb % 32) :=
  ⟨⟨(wOpd 0 34), (wLogic (wRegs true 7 3)), ((wLogic (wRegs true 7 3)).ranTo 2 1 (fun l => l.storeBit (wOpd 0 34) true)), .inl rfl,
      by decide +kernel⟩,
   ⟨(wOpd 0 34), (wLogic (wRegs true 7 3)), ((wLogic (wRegs true 7 3)).ranTo 2 1 (fun l => l.storeBit (wOpd 0 34) true)), 0, .inl rfl,
      by decide +kernel⟩,
   ⟨(wOpd 0 34), (wLogic (wRegs true 7 3)), ((wLogic (wRegs true 7 3)).ranTo 2 1 (fun l => l.storeBit (wOpd 0 34) true)), 4, .inl rfl,
      by decide +kernel⟩⟩

theorem witness_LogicWordInstructions :
    (∃ (d : Opd) (s : State), d.inside s.logic.regs.wb = true) ∧
    (∃ (d : Opd) (s : State) (e : Opd), d.inside s.logic.regs.wb = true ∧ e.inside s.logic.regs.wb = true) :=
  ⟨⟨(wOpd 2 0), (wLogic (wRegs true 7 3)), by decide +kernel⟩,
   ⟨(wOpd 2 0), (wLogic (wRegs true 7 3)), (wOpd 1 1), by decide +kernel⟩⟩

theorem witness_LogicArithmetic :
    (∃ (d : Opd) (s : State) (a b : Int), a = s.logic.regs.wa.toInt ∧ b = (s.logic.load d).toInt ∧ d.inside s.logic.regs.wb = true) ∧
    (∃ (d : Opd) (s : State) (a b : Int), a = s.logic.regs.wa.toInt ∧ b = (s.logic.load d).toInt ∧ d.inside s.logic.regs.wb = true ∧ b ≠ 0) ∧
    (∃ (d : Opd) (s : State) (a b : Int), a = s.logic.regs.wa.toInt ∧ b = (s.logic.load d).toInt ∧ d.inside s.logic.regs.wb = true ∧ b = 0) ∧
    (∃ (d : Opd) (s : State) (a b : Int), a = s.logic.regs.wa.toInt ∧ b = (s.logic.load d).toInt) :=
  ⟨⟨(wOpd 1 0), (wLogic (wRegs true 0x80000000 3)), -2147483648, -65531, by decide +kernel⟩,
   ⟨(wOpd 1 0), (wLogic (wRegs true 0x80000000 3)), -2147483648, -65531, by decide +kernel⟩,
   ⟨(wOpd 1 9), (wLogic (wRegs true 0x80000000 3)), -2147483648, 0, by decide +kernel⟩,
   ⟨(wOpd 1 0), (wLogic (wRegs true 0x80000000 3)), -2147483648, -65531, by decide +kernel⟩⟩

theorem witness_LogicFlow :
    (∃ (d : Opd) (s : State), d.inside s.logic.regs.wb = true) ∧
    (∃ (s : State), s.logic.regs.tb = true) ∧
    (∃ (s : State), s.logic.regs.tb = false) ∧
    (∃ (s : State), s.logic.regs.stack.length < 16) ∧
    (∃ (s : State) (a : Nat) (rest : List Nat), s.logic.regs.stack = a :: rest) ∧
    (∃ (s : State), s.logic.regs.wb ≠ 1) ∧
    (∃ (s : State), s.logic.regs.wb = 1) :=
  ⟨⟨(wOpd 1 0), (wLogic (wRegs true 7 3)), by decide +kernel⟩,
   ⟨(wLogic (wRegs true 7 3)), by decide +kernel⟩,
   ⟨(wLogic (wRegs false 7 3)), by decide +kernel⟩,
   ⟨(wLogic (wRegs true 7 3)), by decide +kernel⟩,
   ⟨(wLogic { regs := { stack := [5, 6] } }), 5, [6], by decide +kernel⟩,
   ⟨(wLogic (wRegs true 7 3)), by decide +kernel⟩,
   ⟨(wLogic (wRegs true 7 1)), by decide +kernel⟩⟩

theorem witness_LogicFaults :
    (∃ (c : Instr) (code : Nat) (d e : Opd) (n : Nat) (p : Program) (s : State), s.logic.prog = .run ∧ s.logic.loaded = some p ∧
        p.stopClear = false ∧
        ((code = 1 ∧ d.inside s.logic.regs.wb = false ∧ (c ∈ [.tstb d, .tstn d, .andb d, .andn d, .orb d, .orn d, .xorb d, .setb d, .clrb d, .stb
        d] ∨ c ∈ [.ldw d, .ldwb d, .stw d, .minOp d, .maxOp d, .andw d, .orw d, .xorw d, .lim d e, .lim e d] ∨ c ∈ [.add d, .subOp d, .mul d,
        .div d, .modOp d, .mulq d, .cmp n d])) ∨ (code = 2 ∧ 16 ≤ s.logic.regs.stack.length ∧ c = .callOp n) ∨ (code = 3 ∧ s.logic.regs.stack =
        [] ∧ c = .ret) ∨ (code = 4 ∧ 256 < s.logic.regs.wb.toNat ∧ c = .bmov d e))) :=
  ⟨(.bmov (wOpd 1 0) (wOpd 1 9)), 4, (wOpd 1 0), (wOpd 1 9), 0, wProg, (wLogic (wRegs true 7 257)), by decide +kernel⟩

theorem witness_LogicUnits :
    (∃ (n : Nat) (p : Program) (s : State), s.logic.loaded = some p ∧ Tab.find p.timers n = none) ∧
    (∃ (n : Nat) (p : Program) (x : TimerDecl) (tm : Timer) (k e : Nat) (s : State), s.logic.loaded = some p ∧ Tab.find p.timers n = some x ∧
        tm = Tab.get {} s.logic.t n ∧ k = ((s.logic.word 4 x.preset).toInt).toNat ∧
        e = Min.min ((s.logic.snap - tm.start) / timerRes x.res) 4294967295 ∧ (x.type = 1 ∨ x.type = 2 ∨ x.type = 3) ∧ tm.phase ≤ 2) ∧
    (∃ (n : Nat) (c : Counter) (s : State), c = Tab.get {} s.logic.c n) ∧
    (∃ (n : Nat) (c : Counter) (s : State), c = Tab.get {} s.logic.c n ∧ s.logic.regs.tb = true) ∧
    (∃ (n : Nat) (c : Counter) (s : State), c = Tab.get {} s.logic.c n ∧ s.logic.regs.tb = false) ∧
    (∃ (n : Nat) (x : Detector) (s : State), x = Tab.get {} s.logic.e n) ∧
    (∃ (d e : Opd) (i j n : Nat) (s : State), n = s.logic.regs.wb.toNat ∧ n ≤ 256 ∧ e.area = 3 ∧ d.area ≠ 3 ∧ i = d.elem s.logic.regs.wb ∧
        j = e.elem s.logic.regs.wb ∧ i + n ≤ areaSize d.area ∧ j + n ≤ areaSize 3) ∧
    (∃ (k : Nat) (s : State), k < 9 ∧ islandOf k = .logic ∧ s.logic.regs.tb = true ∧ s.logic.regs.evtCount < 16 ∧ s.lostOf .logic = 0 ∧
        s.hasRoom (.island k) = true) ∧
    (∃ (k : Nat) (s : State), k < 9 ∧ islandOf k = .logic ∧ s.logic.regs.tb = true ∧ 16 ≤ s.logic.regs.evtCount) ∧
    (∃ (k : Nat) (s : State), k < 9 ∧ islandOf k = .logic ∧ s.logic.regs.tb = false) :=
  ⟨⟨2, wProg, (wLogic (wRegs true 7 3)), by decide +kernel⟩,
   ⟨1, wProg, ({ type := 1, res := 0, preset := 2 }), ({ phase := 1, prev := true, start := 3000000 }), 5, 6,
      (wLogic { wRegs true 7 3 with k := [(2, 5)], snap := 9000000, t := [(1, { phase := 1, prev := true, start := 3000000 })] }),
      by decide +kernel⟩,
   ⟨1, {}, (wLogic (wRegs true 7 3)), by decide +kernel⟩,
   ⟨1, {}, (wLogic (wRegs true 7 3)), by decide +kernel⟩,
   ⟨0x35, {}, (wLogic (wRegs false 7 3)), by decide +kernel⟩,
   ⟨1, {}, (wLogic (wRegs true 7 3)), by decide +kernel⟩,
   ⟨({ area := 4, type := 1, indexed := false, index := 0 }), (wOpd 1 0), 0, 0, 3, (wLogic (wRegs true 7 3)), by decide +kernel⟩,
   ⟨2, (wLogic (wRegs true 7 3)), by decide +kernel⟩,
   ⟨2, (wLogic { regs := { tb := true, evtCount := 16 } }), by decide +kernel⟩,
   ⟨2, (wLogic {}), by decide +kernel⟩⟩

theorem witness_ProgramCommands :
    (∃ (t : Nat) (p : Program) (s : State), s.live .logic t ∧ s.logic.loaded = some p ∧ s.logic.prog = .run ∧
        s.logic.nextStart ≤ (s.advance t).now ∧ (s.advance t).acts = true) ∧
    (∃ (t : Nat) (p : Program) (s : State) (w : Word32) (rest : List Word32), s.live .logic t ∧ s.logic.loaded = some p ∧ s.logic.prog = .run ∧
        s.logic.nextStart ≤ (s.advance t).now ∧ (s.advance t).acts = true ∧ p.code.drop p.entry = w :: rest ∧ w.toNat / 67108864 = 0x36 ∧
        s.holding = false ∧ s.logic.forces = [] ∧ s.logic.forceOps = [] ∧ s.logic.change = none ∧ s.logic.stopReq = false ∧
        1 ≤ s.nat 0x5000 0x0A) ∧
    (∃ (t : Nat) (p : Program) (s : State) (w : Word32) (rest : List Word32) (r : Retained), s.live .logic t ∧ s.logic.loaded = some p ∧
        s.logic.prog = .run ∧ s.logic.nextStart ≤ (s.advance t).now ∧ (s.advance t).acts = true ∧ p.code.drop p.entry = w :: rest ∧
        w.toNat / 67108864 = 0x36 ∧ (s.advance t).retainNeeded = false ∧ s.logic.forceOps = [] ∧ s.logic.change = none ∧
        s.keep.retained.read = some r ∧ r.dataHash = p.retainHash) ∧
    (∃ (t : Nat) (s : State), s.live .logic t ∧ (s.advance t).acts = true ∧ s.logic.prog = .run ∧
        s.logic.nextStart + logicNs 400 + s.nat 0x5000 0x0A * 1000000 ≤ (s.advance t).now ∧ s.nat 0x5000 0x0B = 0) ∧
    (∃ (t : Nat) (s : State), s.live .logic t ∧ (s.advance t).acts = true ∧ s.logic.prog = .run ∧
        s.logic.nextStart + logicNs 400 + s.nat 0x5000 0x0A * 1000000 ≤ (s.advance t).now ∧ s.nat 0x5000 0x0B = 1) ∧
    (∃ (t : Nat) (s : State), s.live .logic t ∧ s.logic.prog = .run ∧ (s.advance t).retainNeeded = true) ∧
    (∃ (t : Nat) (s : State), s.live .mem t ∧ s.logic.stage.status = 3) :=
  ⟨⟨0, wProg, (wLogic {}), by decide +kernel⟩,
   ⟨0, wProg, (wLogic {}), 0xD8000000, [], by decide +kernel⟩,
   ⟨0, wProg,
      ({ wLogic { m := [(4, 5)] } with keep := { wRun.keep with retained := wRun.keep.retained.write { m := [(4, 9)], dataHash := 77 } } }),
      0xD8000000, [], ({ m := [(4, 9)], dataHash := 77 }), by decide +kernel⟩,
   ⟨4000000000, (wLogic {}), by decide +kernel⟩,
   ⟨4000000000, ({ wLogic {} with dict := { wRun.dict with vals := [(0x50000B, .num 1)] } }), by decide +kernel⟩,
   ⟨0, (wLogic { retainDue := true, m := [(4, 5)] }), by decide +kernel⟩,
   ⟨0, ({ wRun with logic := { stage := { status := 3, image := zeros 200 } } }), by decide +kernel⟩⟩

end W11

namespace W12

/-- CAN port 2 in a state. -/
def wPort (v : CanPort) : State := { wRun with net := { wRun.net with ports := [(2, v)] } }
/-- A frame. -/
def wFrame : CanFrame := { ext := false, fd := false, brs := false, id := 5, data := [1] }
/-- A port with the frame in its buffer 3. -/
def wBuf (n : Nat) : State := wPort { state := .normal, bufs := [(3, { state := n, frame := some wFrame })] }
/-- An entry of queue A of port 2. -/
def wRxE : CanRx := { time := 5, frame := wFrame, esi := false, filter := 0, lostBefore := false, monitor := false }
/-- The entry at the head of its queue. -/
def wRxQ : State := { wPort { state := .normal } with net := { (wPort { state := .normal }).net with qs := [(12, { wp := 1, wpS := 1, head := [(.rx wRxE, false)] })] } }
/-- The first filter pair of port 2 passes every standard frame. -/
def wPass : State := { wPort { state := .normal } with dict := { wRun.dict with vals := [(0x584241, .oct (zeros 8 ++ [1] ++ zeros 759))] } }
/-- MAC 0 with its link up. -/
def wMac : State := { wRun with net := { wRun.net with macs := [(0, { speed := 2 })] }, dict := { wRun.dict with vals := [(0x110001, .num 1)] } }

theorem only3 (b' : Nat) (f' : CanFrame) (hb : b' < 32) (h1 : (((wBuf 1).port 2).buf b').state = 1)
    (h2 : (((wBuf 1).port 2).buf b').frame = some f') (_ : ((wBuf 1).port 2).maySend (bitOf ((wBuf 1).nat (0x1200 + 2) 5) 0) f' = true) :
    arbKey wFrame 3 ≤ arbKey f' b' := by
  obtain rfl := (by decide +kernel : ∀ b < 32, (((wBuf 1).port 2).buf b).state = 1 → b = 3) b' hb h1
  cases (show some wFrame = some f' from h2)
  exact Nat.le_refl _

theorem witness_CanPortCommands :
    (∃ (t p : Nat) (s : State), p < 8 ∧ s.live .comm t ∧ (s.port p).state = .integrating ∧ (s.port p).takeover = none) ∧
    (∃ (t p : Nat) (s : State), p < 8 ∧ s.live .comm t ∧ (s.port p).state = .restricted ∧ (s.advance t).leaseHolder = true ∧
        (s.port p).restrictSince + s.nat (0x1200 + p) 6 * 1000000 ≤ (s.advance t).now) ∧
    (∃ (t p : Nat) (s : State), p < 8 ∧ s.live .comm t ∧ (s.port p).state = .normal ∧ (s.advance t).drives = false) ∧
    (∃ (t p : Nat) (s : State), p < 8 ∧ s.live .comm t ∧ (s.port p).state = .busOff ∧ (s.port p).recovering = true) ∧
    (∃ (t p : Nat) (s : State), p < 8 ∧ s.live .comm t) ∧
    (∃ (t p b : Nat) (f : CanFrame) (s : State),
        (∀ b' f', b' < 32 → ((s.port p).buf b').state = 1 → ((s.port p).buf b').frame = some f' → (s.port p).maySend (bitOf (s.nat (0x1200 + p)
        5) 0) f' = true → arbKey f b ≤ arbKey f' b') ∧
        p < 8 ∧ b < 32 ∧ s.live .comm t ∧ (s.port p).latched = none ∧ ((s.port p).buf b).state = 1 ∧ ((s.port p).buf b).frame = some f ∧
        (s.port p).maySend (bitOf (s.nat (0x1200 + p) 5) 0) f = true) ∧
    (∃ (t p b : Nat) (f : CanFrame) (s : State), p < 8 ∧ s.live .comm t ∧ (s.port p).latched = some b ∧ ((s.port p).buf b).cancel = false ∧
        ((s.port p).buf b).frame = some f ∧ (s.port p).held = []) ∧
    (∃ (t p b : Nat) (f : CanFrame) (s : State), p < 8 ∧ s.live .comm t ∧ (s.port p).latched = some b ∧ ((s.port p).buf b).cancel = false ∧
        ((s.port p).buf b).frame = some f ∧ (s.port p).held = [] ∧ (s.port p).state = .normal ∧ (s.port p).tecErr ≤ 247) ∧
    (∃ (t c : Nat) (s : State), c < 8 ∧ s.live .comm t ∧ (s.port c).controller ≠ 8 ∧ s.spareFree = true) ∧
    (∃ (t p : Nat) (s : State), p < 8 ∧ s.live .comm t ∧ (s.port p).takeover.isSome = true ∧ (s.port p).controller ≠ 8 ∧
        (s.port p).state ≠ .off ∧ (s.port p).latched = none ∧ (s.port p).err = 0) :=
  ⟨⟨0, 2, (wPort { state := .integrating }), by decide +kernel⟩,
   ⟨2000000000, 2, ({ wPort { state := .restricted } with lease := { wRun.lease with state := 2, own := true } }), by decide +kernel⟩,
   ⟨0, 2, (wPort { state := .normal }), by decide +kernel⟩,
   ⟨0, 2, (wPort { state := .busOff, recovering := true }), by decide +kernel⟩,
   ⟨0, 2, (wPort { pairs := [{ id := 3, pos := 4, count := 2, last := 0, own := false }] }), by decide +kernel⟩,
   ⟨0, 2, 3, wFrame, (wBuf 1), only3, by decide +kernel⟩,
   ⟨0, 2, 3, wFrame, (wBuf 2), by decide +kernel⟩,
   ⟨0, 2, 3, wFrame, (wBuf 2), by decide +kernel⟩,
   ⟨0, 2, (wBuf 1), by decide +kernel⟩,
   ⟨0, 2, (wPort { state := .normal, takeover := some 0 }), by decide +kernel⟩⟩

theorem witness_ReceptionCommands :
    (∃ (t p : Nat) (f : CanFrame) (s : State) (k : Nat), p < 8 ∧ s.live .comm t ∧ (s.port p).state = .normal ∧ (s.port p).takeover = none ∧
        (f.fd = true → bitOf (s.nat (0x1200 + p) 5) 0 = true) ∧ s.filterOf p f = some k ∧ bitOf (u8At (s.filterPair p k) 8) 2 = false ∧
        (s.advance t).hasRoom (.canA p) = true) ∧
    (∃ (t p : Nat) (f : CanFrame) (s : State), p < 8 ∧ s.live .comm t ∧ (s.port p).state = .normal ∧ (s.port p).takeover = none ∧
        (f.fd = true → bitOf (s.nat (0x1200 + p) 5) 0 = true) ∧ s.filterOf p f = none) ∧
    (∃ (t p : Nat) (f : CanFrame) (s : State), p < 8 ∧ s.live .comm t ∧ (s.port p).state = .normal ∧ (s.port p).takeover = none ∧
        (f.fd = true → bitOf (s.nat (0x1200 + p) 5) 0 = true)) ∧
    (∃ (t p : Nat) (e : CanRx) (s : State), p < 8 ∧ s.live .comm t ∧ (s.advance t).frontQ (.canA p) = some (.rx e, false) ∧ e.frame.ext = false) ∧
    (∃ (t p : Nat) (s : State), p < 8 ∧ s.live .comm t ∧ (s.advance t).frontQ (.canA p) = none ∧ (s.advance t).frontQ (.canB p) = none) ∧
    (∃ (t m : Nat) (s : State), m < 2 ∧ (s.advance t).macServed = true ∧ s.macUp m = true ∧ (s.mac m).waiting = []) ∧
    (∃ (t m : Nat) (b : Octets) (s : State), m < 2 ∧ (s.advance t).macServed = true ∧ s.macUp m = true ∧ b.length ≤ 1472) ∧
    (∃ (t m : Nat) (s : State), m < 2 ∧ (s.advance t).macServed = true ∧ s.macUp m = true) ∧
    (∃ (t m : Nat) (s : State), m < 2 ∧ s.live .comm t) ∧
    (∃ (t m : Nat) (s : State) (speed : Nat), m < 2 ∧ s.live .comm t ∧ speed < 4) :=
  ⟨⟨0, 2, wFrame, wPass, 0, by decide +kernel⟩,
   ⟨0, 2, wFrame, (wPort { state := .normal }), by decide +kernel⟩,
   ⟨0, 2, wFrame, wPass, by decide +kernel⟩,
   ⟨0, 2, wRxE, wRxQ, by decide +kernel⟩,
   ⟨0, 2, wPass, by decide +kernel⟩,
   ⟨0, 0, wMac, by decide +kernel⟩,
   ⟨0, 0, ([1, 2]), wMac, by decide +kernel⟩,
   ⟨0, 0, wMac, by decide +kernel⟩,
   ⟨0, 0, wPass, by decide +kernel⟩,
   ⟨0, 0, wPass, 3, by decide +kernel⟩⟩

end W12

namespace W14

/-- A queue in a state. -/
def wQ (q : QId) (v : Queue) : State := { wRun with net := { wRun.net with qs := [(q.num, v)] } }
/-- Entries of no meaning. -/
def wItems (n : Nat) : List (QItem × Bool) := List.replicate n (.raw [], false)
/-- A held log entry. -/
def wHold (t : Nat) : LogHold := { ent := { admitTime := 9, seq := 4, lag := 0, source := 5, unit := 0, code := 0x0101, args := [] }, repeats := 2, lastSeq := 6, filled := t }
/-- Subscription 2 in a state. -/
def wSub (v : Machine.Sub) : State := { wRun with ledger := { wRun.ledger with subs := [(2, v)] } }

theorem witness_QueueCommands :
    (∃ (t : Nat) (q : QId) (s : State), q.ok = true ∧ s.live q.ends.1 t ∧ (s.advance t).hasRoom q = true) ∧
    (∃ (t : Nat) (q : QId) (s : State), q.ok = true ∧ s.live q.ends.1 t ∧ (s.advance t).hasRoom q = false) ∧
    (∃ (t : Nat) (q : QId) (s : State), q.ok = true ∧ s.live q.ends.2 t ∧ (s.advance t).frontQ q = none ∧
        ((s.queue q).see (s.advance t).ps).empty = true) ∧
    (∃ (t : Nat) (q : QId) (s : State), q.ok = true ∧ q = .capture ∧ s.live q.ends.2 t ∧ ((s.advance t).frontQ q).isSome = true) ∧
    (∃ (t : Nat) (q : QId) (s : State), q.ok = true ∧ s.live .mem t ∧ s.power.trained = true ∧ 16 ≤ (s.queue q).tail.length ∧
        (s.queue q).spill.length + 16 ≤ q.spillSize) ∧
    (∃ (t : Nat) (q : QId) (s : State), q.ok = true ∧ s.live .mem t ∧ (s.queue q).head = [] ∧ 16 ≤ (s.queue q).spill.length) ∧
    (∃ (t : Nat) (q : QId) (s : State), q.ok = true ∧ s.live q.ends.1 t) ∧
    (∃ (t : Nat) (q : QId) (s : State), q.ok = true ∧ s.live q.ends.1 t ∧ (s.queue q).resetting = true) ∧
    (∃ (t : Nat) (q : QId) (s : State), q.ok = true ∧ s.live q.ends.2 t ∧ (s.queue q).resetting = false ∧ (s.queue q).flushTo = none) :=
  ⟨⟨0, .capture, wRun, by decide +kernel⟩,
   ⟨0, .request, (wQ .request { wp := 4096 }), by decide +kernel⟩,
   ⟨0, (.traceq 3), wRun, by decide +kernel⟩,
   ⟨0, .capture, (wQ .capture { wp := 1, wpS := 1, head := wItems 1 }), by decide +kernel⟩,
   ⟨0, .capture, (wQ .capture { tail := wItems 16, wp := 16 }), by decide +kernel⟩,
   ⟨0, .capture, (wQ .capture { spill := wItems 17, wp := 17 }), by decide +kernel⟩,
   ⟨0, .capture, (wQ .capture { head := wItems 2, wp := 2 }), by decide +kernel⟩,
   ⟨0, .capture, (wQ .capture { resetting := true }), by decide +kernel⟩,
   ⟨0, .capture, (wQ .capture { head := wItems 2, wp := 2, wpS := 2 }), by decide +kernel⟩⟩

theorem witness_ExportCommands :
    (∃ (t n src : Nat) (s : State), n < 8 ∧ s.live .comm t ∧ (s.advance t).pathOpen ((s.sub n).refill (s.advance t).now) = true ∧
        ((s.sub n).refill (s.advance t).now).alarmDue = some src ∧ 1000000000 ≤ ((s.sub n).refill (s.advance t).now).tokens) ∧
    (∃ (t n : Nat) (h : LogHold) (s : State), n < 8 ∧ s.live .house t ∧ (s.sub n).hold = some h ∧
        h.filled + (s.sub n).coalesce * 10000000 ≤ (s.advance t).now ∧ (s.advance t).hasRoom (.logq n) = true) ∧
    (∃ (t n : Nat) (h : LogHold) (s : State), n < 8 ∧ s.live .house t ∧ (s.sub n).hold = some h ∧
        (s.advance t).now < h.filled + (s.sub n).coalesce * 10000000) :=
  ⟨⟨1000000000, 2, 0x123,
      ({ wSub { path := 1, content := 1, dirty := [0x123] } with net := { wRun.net with macs := [(0, { speed := 2 })] }, dict := { wRun.dict with vals := [(0x110001, .num 1)] } }),
      by decide +kernel⟩,
   ⟨1000000000, 2, (wHold 0), (wSub { path := 1, content := 2, hold := some (wHold 0) }), by decide +kernel⟩,
   ⟨0, 2, (wHold 0), (wSub { path := 1, content := 2, hold := some (wHold 0) }), by decide +kernel⟩⟩

end W14

namespace W15

/-- The calendar in a state. -/
def wCal (c : Cal) : State := { wRun with cal := c }
/-- A foreign master and its identity. -/
def wId : Octets := [1, 2, 3, 4, 5, 6, 7, 8, 0, 1]
/-- The synchroniser in a state, with PTP as its source on MAC 0. -/
def wSync (y : Sync) : State := { wRun with sync := y, dict := { wRun.dict with vals := [(0x601002, .num 1), (0x110201, .num 0)] } }
/-- A selected master. -/
def wSel : Sync := { master := wId ++ [0, 0], foreign := [{ id := wId, rank := zeros 16, last := 0, interval := 1000000000, ready := true }], syncs := 3 }
/-- A PTP message of a kind from the master: flags, sequence 9, tail. -/
def wPtp (k fl : Nat) (r : Octets) : Octets := [BitVec.ofNat 8 k, 2, 0, 0, 0, 0, BitVec.ofNat 8 fl, 0] ++ zeros 12 ++ wId ++ [0, 9, 0, 0] ++ r

theorem witness_CalendarCommands :
    (∃ (t : Nat) (s : State), s.live .backup t ∧ s.cal.halt = false ∧ s.cal.f.ok = true ∧ s.cal.jump = false ∧ s.cal.step = none ∧
        (s.advance t).prescaled s.cal.since 1024 = true) ∧
    (∃ (t : Nat) (s : State), s.live .backup t ∧ s.cal.halt = true) ∧
    (∃ (t : Nat) (s : State), s.live .backup t ∧ s.cal.halt = false ∧ bitOf (u8At (s.oct 0x6001 5) 3) 0 = true ∧
        (s.advance t).prescaled s.cal.wakeStart (wakePeriods (s.oct 0x6001 5)) = true) ∧
    (∃ (t : Nat) (x : Int) (s : State), s.live .backup t ∧ -32768 ≤ x ∧ x ≤ 32767 ∧
        (∀ a, s.cal.tempAt = some a → (s.advance t).prescaled a 65536 = true)) :=
  ⟨⟨1000000000, (wCal { f := { sec := 0x58, min := 0x59, hour := 0x23, day := 0x28, month := 2, weekday := 6 } }), by decide +kernel⟩,
   ⟨0, (wCal { halt := true }), by decide +kernel⟩,
   ⟨100000000000000, ({ wRun with dict := { wRun.dict with vals := [(0x600105, .oct [5, 0, 0, 1])] } }), by decide +kernel⟩,
   ⟨0, -40, wRun, by decide +kernel⟩⟩

theorem witness_SynchronisationCommands :
    (∃ (t m : Nat) (b : Octets) (s : State), m < 2 ∧ s.live .tbase t ∧ s.ptpTaken m 0 b = true ∧ s.fromMaster b = true ∧ s.sync.state ≠ 4 ∧
        bitOf (u8At b 6) 1 = false) ∧
    (∃ (t m : Nat) (b : Octets) (s : State), m < 2 ∧ s.live .tbase t ∧ s.ptpTaken m 0 b = true ∧ s.fromMaster b = true ∧ s.sync.state ≠ 4 ∧
        bitOf (u8At b 6) 1 = true) ∧
    (∃ (t m t2 : Nat) (b : Octets) (s : State), m < 2 ∧ s.live .tbase t ∧ s.ptpTaken m 8 b = true ∧ s.fromMaster b = true ∧ s.sync.state ≠ 4 ∧
        s.sync.pend = some (be b 30 2, t2)) ∧
    (∃ (t m : Nat) (s : State), s.live .tbase t ∧ s.nat 0x6010 2 = 1 ∧ s.nat 0x1102 1 = m ∧ m < 2 ∧ s.sync.syncs ≠ 0 ∧
        s.sync.foreign.any (·.ready) = true ∧ (s.advance t).delayReqDue = true) ∧
    (∃ (t m t3 : Nat) (b : Octets) (s : State), slice b 44 10 = ownPort m ∧ m < 2 ∧ s.live .tbase t ∧ s.ptpTaken m 9 b = true ∧
        s.fromMaster b = true ∧ s.sync.req = some (be b 30 2, t3)) ∧
    (∃ (t m : Nat) (b : Octets) (s : State), m < 2 ∧ s.live .tbase t ∧ s.ptpTaken m 11 b = true ∧ s.sync.foreign = []) ∧
    (∃ (t : Nat) (s : State), s.live .tbase t) ∧
    (∃ (t : Nat) (s : State), s.live .tbase t ∧ s.sync.state = 2 ∧ s.sync.lastMeas + 3 * s.sync.interval ≤ (s.advance t).now) ∧
    (∃ (t e : Nat) (s : State), s.live .tbase t ∧ s.sync.lockWaitEnd = some e ∧ e ≤ (s.advance t).now) :=
  ⟨⟨0, 0, (wPtp 0 0 (zeros 10)), (wSync wSel), by decide +kernel⟩,
   ⟨0, 0, (wPtp 0 2 (zeros 10)), (wSync wSel), by decide +kernel⟩,
   ⟨0, 0, 77, (wPtp 8 0 (zeros 10)), (wSync { wSel with pend := some (9, 77) }), by decide +kernel⟩,
   ⟨0, 0, (wSync wSel), by decide +kernel⟩,
   ⟨0, 0, 5, (wPtp 9 0 (zeros 10 ++ ownPort 0)), (wSync { wSel with req := some (9, 5) }), rfl, by decide +kernel⟩,
   ⟨0, 0, (wPtp 11 0 (zeros 30)), (wSync {}), by decide +kernel⟩,
   ⟨0, (wSync wSel), by decide +kernel⟩,
   ⟨3000000000, (wSync { state := 2 }), by decide +kernel⟩,
   ⟨0, 0, (wSync { lockWaitEnd := some 0 }), by decide +kernel⟩⟩

end W15

namespace W16

/-- A message of lane B. -/
def wMsg : RedMsg :=
  { type := 1, lane := 1, role := 0, flags := 5, boot := 3, cycle := 9, req := 0, grant := 0, grantTo := 255, exclude := 0, modelCrc := 0,
    progCrc := 0, fw := 0, tR := 1000, l := 32, g := 4, tag := zeros 8 }
/-- Lane A of a duplex position. -/
def wLane (l : Lease) : State :=
  { wRun with power := { wRun.power with straps := { wRun.power.straps with cfg := 1 } }, lease := { l with cfg := 1 } }

theorem witness_LeaseCommands :
    (∃ (t : Nat) (s : State), s.live .house t ∧ s.up = true ∧ s.single = true ∧ s.lease.state = 2 ∧
        (s.advance t).boundaryNo = s.lease.boundary + 1) ∧
    (∃ (t : Nat) (s : State), s.live .house t ∧ s.up = false ∧ (s.advance t).boundaryNo = s.lease.boundary + 1) ∧
    (∃ (t : Nat) (m : RedMsg) (s : State) (tq c : Nat), s.live .house t ∧ s.hears m ∧ m.type = 2 ∧ m.grantTo = s.lane ∧ s.lease.excluded = 0 ∧
        s.lease.claim = some (m.grant, tq, c) ∧ s.lease.state = 1) ∧
    (∃ (t : Nat) (m : RedMsg) (s : State), s.live .house t ∧ s.hears m ∧ m.type = 2 ∧ m.grantTo = s.lane ∧ s.lease.excluded = 0 ∧
        s.lease.claim = none ∧ s.lease.state = 2 ∧ s.lease.req = m.grant ∧ s.lease.granted = false ∧ (s.advance t).now < s.lease.timer) ∧
    (∃ (t : Nat) (m : RedMsg) (s : State), s.live .house t ∧ s.hears m ∧ s.lease.state = 0 ∧ s.lease.excluded = 0 ∧ s.lease.excludeVotes = 0 ∧
        m.exclude = 0 ∧ (s.advance t).refrainsOther m.lane = false ∧ m.type = 1 ∧ m.role = 2 ∧ m.req ≠ 0) ∧
    (∃ (t : Nat) (m : RedMsg) (s : State), s.live .house t ∧ s.hears m ∧ s.lease.state = 0 ∧ s.lease.excluded = 0 ∧ s.lease.excludeVotes = 0 ∧
        m.exclude = 0 ∧ (s.advance t).refrainsOther m.lane = false ∧ m.type = 1 ∧ m.role ≠ 2) ∧
    (∃ (t : Nat) (m : RedMsg) (s : State), s.live .house t ∧ s.hears m ∧ s.lease.state = 0 ∧ s.lease.excluded = 0 ∧ s.lease.excludeVotes = 0 ∧
        m.exclude = 0 ∧ (s.advance t).refrainsOther m.lane = false ∧ m.type = 3 ∧ m.role ≠ 2) ∧
    (∃ (t : Nat) (m : RedMsg) (s : State), s.live .house t ∧ s.hears m ∧ m.type = 4) ∧
    (∃ (t : Nat) (s : State), s.live .tbase t ∧ s.lease.state = 2 ∧ s.single = false ∧ s.lease.timer ≤ (s.advance t).now) ∧
    (∃ (t : Nat) (s : State), s.live .tbase t) ∧
    (∃ (t q tq c : Nat) (s : State), s.live .house t ∧ s.lease.claim = some (q, tq, c) ∧ s.lease.state = 1 ∧ c + 3 ≤ s.lease.cycle) :=
  ⟨⟨1000000, ({ wRun with lease := { state := 2, own := true } }), by decide +kernel⟩,
   ⟨1000000, (wIn .selftest), by decide +kernel⟩,
   ⟨0, ({ wMsg with type := 2, grant := 5, grantTo := 0 }), (wLane { state := 1, claim := some (5, 0, 0), cycle := 2, req := 5 }), 0, 0,
      by decide +kernel⟩,
   ⟨0, ({ wMsg with type := 2, grant := 5, grantTo := 0 }), (wLane { state := 2, req := 5, timer := 1000000, cycle := 2 }), by decide +kernel⟩,
   ⟨0, ({ wMsg with role := 2, req := 6 }), (wLane {}), by decide +kernel⟩,
   ⟨0, wMsg, (wLane {}), by decide +kernel⟩,
   ⟨0, ({ wMsg with type := 3, role := 1, req := 6 }), (wLane {}), by decide +kernel⟩,
   ⟨0, ({ wMsg with type := 4 }), (wLane { refrain := [(1, 9000000)], peers := [(1, { role := 2, holderAt := some 0 })] }), by decide +kernel⟩,
   ⟨60, (wLane { state := 2, own := true, timer := 50 }), by decide +kernel⟩,
   ⟨60, (wLane { refrain := [(1, 50)] }), by decide +kernel⟩,
   ⟨0, 5, 0, 0, (wLane { state := 1, claim := some (5, 0, 0), cycle := 3 }), by decide +kernel⟩⟩

/-- Lane A of a triplex position whose output vectors are compared. -/
def wTriplex : State :=
  { wRun with power := { wRun.power with straps := { wRun.power.straps with cfg := 2 } }
              lease := { cfg := 2, state := 2, cycle := 5, resyncDone := true, peers := [(1, { flags := 4 })] } }

theorem others (y : Nat) (h1 : y ≠ 1) (h2 : wTriplex.mates.contains y = true) :
    bitOf wTriplex.lease.excluded y = false ∧ (wTriplex.peer y).vectorAt ≠ wTriplex.lease.cycle := by
  obtain rfl | rfl : y = 1 ∨ y = 2 := by simpa using (show ([1, 2] : List Nat).contains y = true from h2)
  · exact absurd rfl h1
  · decide +kernel

theorem witness_PartnerCommands :
    (∃ (t x : Nat) (s : State), x < 3 ∧ s.live .house t ∧ s.mates.contains x = true ∧ (s.peer x).jiestLost = false ∧
        (s.peer x).jiestAt + 3 ≤ s.lease.cycle) ∧
    (∃ (t x : Nat) (s : State), x < 3 ∧ s.live .house t ∧ s.mates.contains x = true ∧ (s.peer x).silent = false ∧
        (s.peer x).at_ + 3 ≤ s.lease.cycle) ∧
    (∃ (t x : Nat) (s : State) (l : List MirrorItem), x < 3 ∧ s.live .house t ∧ s.mates.contains x = true ∧ s.up = true ∧ s.lease.state ≠ 2 ∧
        s.holderSeen = some x ∧ l.all (fun i => !i.atOnce) = true) ∧
    (∃ (t x : Nat) (s : State), x < 3 ∧ s.live .house t ∧ s.mates.contains x = true ∧ s.up = true ∧ s.lease.state ≠ 2 ∧ s.holderSeen = some x) ∧
    (∃ (t x : Nat) (s : State),
        (∀ y, y ≠ x → s.mates.contains y = true → bitOf s.lease.excluded y = false ∧ (s.peer y).vectorAt ≠ s.lease.cycle) ∧ x < 3 ∧
        s.live .house t ∧ s.mates.contains x = true ∧ s.lease.cfg = 2 ∧ s.single = false ∧ s.up = true ∧ bitOf s.lease.excluded x = false ∧
        s.lease.state ≠ 3 ∧ s.lease.resyncDone = true ∧ bitOf (s.peer x).flags 2 = true ∧ (s.peer x).vectorAt ≠ s.lease.cycle) ∧
    (∃ (t : Nat) (s : State), s.live .house t ∧ s.single = false ∧ s.lease.resyncDone = false ∧ s.holderSeen.isSome = true ∧ s.lease.inbox = []) :=
  ⟨⟨0, 1, (wLane { cycle := 3, peers := [(1, { jiestLost := false })] }), by decide +kernel⟩,
   ⟨0, 1, (wLane { cycle := 3, peers := [(1, { silent := false })] }), by decide +kernel⟩,
   ⟨0, 1, (wLane { peers := [(1, { role := 2, holderAt := some 0 })] }), [.logicWord 3 4 5], by decide +kernel⟩,
   ⟨0, 1, (wLane { peers := [(1, { role := 2, holderAt := some 0 })] }), by decide +kernel⟩,
   ⟨0, 1, wTriplex, others, by decide +kernel⟩,
   ⟨0, (wLane { peers := [(1, { role := 2, holderAt := some 0 })] }), by decide +kernel⟩⟩

end W16

namespace W17

/-- Jiest port 1 in a state. -/
def wJ (v : JPort) : State := { wRun with casc := { wRun.casc with ports := [(1, v)] } }
/-- A frame. -/
def wJF : JFrame := { ftype := 7, flags := 3, seq := 9, ack := 0, msg := 0, payload := [1], good := true }
/-- A model image with one boundary node, of tag 77 and index 2, on a port. -/
def wBndImg (port : Octet) : Octets := patch (patch (patch (zeros 300) 72 (leBytes 4 200)) 30 [1, 0]) 200 [77, 0, 0, 0, 0, 5, 2, port]
/-- A device at a position of the cascade, its boundary on a port, that port and port 1 UP. -/
def wCasc (pos : Nat) (port : Octet) (c : Cascade) : State :=
  { wRun with power := { wRun.power with straps := { wRun.power.straps with pos := pos } }, model := { wRun.model with active := some (wBndImg port) }
              casc := { c with ports := [(0, { state := 2 }), (1, { state := 2 })], bounds := [(2, { matched := true })] }
              dict := { wRun.dict with vals := [(0x641001, .num 1), (0x281001, .num 1), (0x281003, .num 1)] } }
/-- A cascade re-plan that runs, in a round. -/
def wRound (r : Nat) : Cascade :=
  { running := true, round := r, par := { ts := 5, horizon := 2, stepLen := 15, period := 600, roundMs := 80, roundsMax := 16, tol := 50 } }
/-- A message of that re-plan: kind, round, and the content after its start. -/
def wRMsg (k r : Nat) (b : Octets) : Octets := [BitVec.ofNat 8 k, BitVec.ofNat 8 r, 0, 0] ++ leBytes 8 5 ++ b
def wReSnap : ReSnap := (wCasc 1 0 {}).takeInputs 0 (some 3) []
def wEnded (s : State) (r : ReSnap) : State := { s with disp := { s.disp with run := some r }, loam := { s.loam with running := some 2, jobs := [(2, { state := 2, reason := some .deadlineEmpty })] } }

theorem witness_JiestCommands :
    (∃ (t p : Nat) (s : State) (b : Octets), p < 5 ∧ s.live .comm t ∧ (s.jport p).state = 2 ∧ (jframeOf b false).good = true ∧ u8At b 0 = 7 ∧
        u8At b 1 % 16 = 3 ∧ u8At b 2 = (s.jport p).rxSeq) ∧
    (∃ (t p : Nat) (s : State) (b : Octets) (viol : Bool), p < 5 ∧ s.live .comm t ∧ (s.jport p).state = 2 ∧
        (viol = true ∨ u32At b (8 + u16At b 4) ≠ crc32c (b.take (8 + u16At b 4))) ∧ (s.jport p).fails < 3) ∧
    (∃ (t p : Nat) (s : State) (b : Octets) (viol : Bool), p < 5 ∧ s.live .comm t ∧ (s.jport p).state = 2 ∧
        (viol = true ∨ u32At b (8 + u16At b 4) ≠ crc32c (b.take (8 + u16At b 4))) ∧ (s.jport p).fails = 3) ∧
    (∃ (t p : Nat) (s : State) (ack : Nat) (f : JFrame), p < 5 ∧ s.live .comm t ∧ (s.jport p).state = 2 ∧ (s.jport p).window = [f] ∧
        (s.jport p).waiting = [] ∧ f.seq ≠ ack % 256) ∧
    (∃ (t p : Nat) (s : State), p < 5 ∧ s.live .comm t ∧ s.jEnabled p = true ∧ (s.jport p).state = 0) ∧
    (∃ (t p : Nat) (s : State), p < 5 ∧ s.live .comm t ∧ (s.jport p).state = 1) ∧
    (∃ (t p : Nat) (s : State) (b : Octets), p < 5 ∧ s.live .comm t ∧ (s.jport p).state = 1 ∧ (s.jport p).aligned = true ∧ b.length = 32 ∧
        s.wiringOk p (u16At b 0) (u8At b 2) (u8At b 3) = true) ∧
    (∃ (t p : Nat) (s : State) (b : Octets), p < 5 ∧ s.live .comm t ∧ (s.jport p).state = 1 ∧ (s.jport p).aligned = true ∧ b.length = 32 ∧
        s.wiringOk p (u16At b 0) (u8At b 2) (u8At b 3) = false) ∧
    (∃ (t p : Nat) (s : State), p < 5 ∧ s.live .comm t ∧ (s.jport p).state = 1 ∧ (s.jport p).since + 100000000 ≤ (s.advance t).now) ∧
    (∃ (t p : Nat) (s : State), p < 5 ∧ s.live .comm t ∧ (s.jport p).state = 4 ∧ (s.jport p).since + 1000000000 ≤ (s.advance t).now) ∧
    (∃ (t p : Nat) (s : State), p < 5 ∧ s.live .comm t ∧ (s.jport p).state = 2) ∧
    (∃ (t p : Nat) (s : State) (rx : Bool) (l n : Nat), p < 5 ∧ s.live .comm t ∧ l < 2 ∧ (rx = true → 16 ≤ n) ∧
        (if rx then (s.jport p).rx else (s.jport p).tx) = [0, 1] ∧ (if rx then (s.jport p).rxOut else (s.jport p).txOut) = []) :=
  ⟨⟨0, 1, (wJ { state := 2, rxSeq := 9 }), wJF.whole, by decide +kernel⟩,
   ⟨0, 1, (wJ { state := 2, rxSeq := 9, fails := 2 }), wJF.octets, true, by decide +kernel⟩,
   ⟨0, 1, (wJ { state := 2, rxSeq := 9, fails := 3 }), wJF.octets, true, by decide +kernel⟩,
   ⟨0, 1, (wJ { state := 2, window := [wJF] }), 1, wJF, by decide +kernel⟩,
   ⟨0, 1, ({ wJ {} with dict := { wRun.dict with vals := [(0x641002, .num 2)] } }), by decide +kernel⟩,
   ⟨0, 1, (wJ { state := 1 }), by decide +kernel⟩,
   ⟨0, 1, (wJ { state := 1, aligned := true }), ([1, 0, 0, 0] ++ zeros 28), by decide +kernel⟩,
   ⟨0, 1, (wJ { state := 1, aligned := true }), (zeros 32), by decide +kernel⟩,
   ⟨100000000, 1, (wJ { state := 1 }), by decide +kernel⟩,
   ⟨1000000000, 1, (wJ { state := 4 }), by decide +kernel⟩,
   ⟨0, 1, (wJ { state := 2 }), by decide +kernel⟩,
   ⟨0, 1, (wJ {}), true, 1, 16, by decide +kernel⟩⟩

theorem witness_TreeCommands :
    (∃ (t p : Nat) (s : State), (p = 1 ∨ p = 2) ∧ s.live .comm t ∧ s.jUp p = true ∧ (s.advance t).timeDue = true) ∧
    (∃ (t : Nat) (b : Octets) (s : State), s.live .comm t ∧ s.jUp 0 = true ∧ 24 ≤ b.length ∧ u8At b 0 = 0 ∧ s.nat 0x6010 2 ≠ 2) ∧
    (∃ (t p : Nat) (b : Octets) (s : State), (p = 1 ∨ p = 2) ∧ s.live .comm t ∧ s.jUp p = true ∧ b.length = 32 ∧ u8At b 0 = 1 ∧
        Tab.find s.casc.t1 p = some (u64At b 8)) ∧
    (∃ (t p n time : Nat) (s : State), p < 3 ∧ s.live .comm t ∧ s.jUp p = true ∧ s.casc.lastCore ≠ n ∧ (s.advance t).clk.dev + 1000000 ≤ time) ∧
    (∃ (t p n time : Nat) (s : State), p < 3 ∧ s.live .comm t ∧ s.jUp p = true ∧ s.casc.lastCore ≠ n ∧ time < (s.advance t).clk.dev + 1000000) ∧
    (∃ (t p n : Nat) (s : State), p < 5 ∧ s.live .comm t ∧ s.jUp p = true ∧ s.casc.lastCore = n) ∧
    (∃ (t p n : Nat) (b : Octets) (s : State), p < 3 ∧ s.live .comm t ∧ s.jUp p = true ∧ (s.advance t).inputsHeld = true ∧ u8At b 0 = 4 ∧
        bndNodes s.img = [n] ∧ s.bndPort n = p) :=
  ⟨⟨0, 1, (wJ { state := 2 }), by decide +kernel⟩,
   ⟨0, (zeros 32), (wCasc 1 0 {}), by decide +kernel⟩,
   ⟨0, 1, ([1, 0, 0, 0, 0, 0, 0, 0, 5] ++ zeros 23), (wCasc 0 1 { t1 := [(1, 5)] }), by decide +kernel⟩,
   ⟨0, 1, 4, 1000000, (wCasc 0 1 {}), by decide +kernel⟩,
   ⟨0, 1, 4, 999999, (wCasc 0 1 {}), by decide +kernel⟩,
   ⟨0, 1, 4, (wCasc 0 1 { lastCore := 4 }), by decide +kernel⟩,
   ⟨0, 1, 0, ([4] ++ zeros 11 ++ [77, 0, 0, 0, 2]), (wCasc 0 1 {}), by decide +kernel⟩⟩

theorem witness_RoundCommands :
    (∃ (t p : Nat) (s : State), p < 5 ∧ s.live .comm t ∧ (s.advance t).inputsHeld = true ∧ s.nat 0x6410 1 ≠ 0 ∧ s.model.active ≠ none ∧
        s.up = true ∧ s.isMaster = true ∧ (s.advance t).masterDue = true ∧ s.nat 0x2810 1 = 1 ∧ (s.job 2).alive = false) ∧
    (∃ (t p : Nat) (b : Octets) (s : State), p < 5 ∧ s.live .comm t ∧ (s.advance t).inputsHeld = true ∧ s.nat 0x6410 1 ≠ 0 ∧
        s.model.active ≠ none ∧ s.up = true ∧ s.isMaster = false ∧ s.jUp p = true ∧ u8At b 0 = 0 ∧ b.length = 26 ∧ p ≠ 1 ∧ p ≠ 2 ∧
        s.casc.running = false) ∧
    (∃ (t p n : Nat) (b : Octets) (x : Nat × List Int) (s : State), p < 5 ∧ s.live .comm t ∧ (s.advance t).inputsHeld = true ∧ s.jUp p = true ∧
        s.upperNodes = [n] ∧ s.ofRun 1 b = true ∧ s.casc.round ≤ u8At b 1 ∧
        (valuesOf b s.casc.par.horizon).find? (fun x => decide (x.1 = s.bndTag n)) = some x) ∧
    (∃ (t p n : Nat) (b : Octets) (x : Nat × List Int) (s : State), p < 5 ∧ s.live .comm t ∧ (s.advance t).inputsHeld = true ∧ s.jUp p = true ∧
        s.lowerNodes = [n] ∧ s.ofRun 2 b = true ∧ s.casc.round ≤ u8At b 1 ∧ (s.advance t).clk.dev < s.casc.par.at_ (u8At b 1 + 1) ∧
        (valuesOf b s.casc.par.horizon).find? (fun x => decide (x.1 = s.bndTag n)) = some x) ∧
    (∃ (t p : Nat) (b : Octets) (s : State), p < 5 ∧ p ≠ 0 ∧ s.live .comm t ∧ s.jUp p = true ∧ (s.advance t).inputsHeld = true ∧
        s.ofRun 3 b = true ∧ u8At b 1 + 1 = s.casc.round) ∧
    (∃ (t st : Nat) (r : ReSnap) (s : State), s.disp.run = some r ∧ s.live .solv t ∧ r.round = some s.casc.round ∧ s.casc.running = true ∧
        (r.verdict (s.job 2)).status = some st ∧ s.mayEnd 2 = true ∧ (s.advance t).inputsHeld = true) ∧
    (∃ (t : Nat) (s : State), s.live .house t ∧ s.casc.running = true ∧ 1 < s.casc.round ∧
        s.casc.par.at_ s.casc.round + 1000000 ≤ (s.advance t).clk.dev ∧ s.isMaster = false ∧ s.casc.reported = false) ∧
    (∃ (t : Nat) (s : State), s.live .house t ∧ s.casc.running = true ∧ (s.advance t).inputsHeld = true ∧
        (s.advance t).clk.dev < (s.advance t).cascDeadline ∧ s.casc.par.at_ (s.casc.round + 1) ≤ (s.advance t).clk.dev ∧
        s.casc.round ≤ s.casc.par.roundsMax) ∧
    (∃ (t : Nat) (s : State), s.live .house t ∧ s.casc.running = true ∧ s.isMaster = true ∧ 2 ≤ s.casc.round ∧ s.casc.reports = [] ∧
        s.casc.par.at_ s.casc.round + 2000000 ≤ (s.advance t).clk.dev ∧ s.casc.ownZ ≤ s.casc.par.tol) ∧
    (∃ (t : Nat) (s : State), s.live .house t ∧ s.casc.running = true ∧ s.isMaster = true ∧ 2 ≤ s.casc.round ∧ s.casc.reports = [] ∧
        s.casc.par.at_ s.casc.round + 2000000 ≤ (s.advance t).clk.dev ∧ s.casc.par.tol < s.casc.ownZ ∧ s.casc.round - 1 ≠ s.casc.par.roundsMax ∧
        s.casc.par.at_ (s.casc.round + 1) + 2000000 + s.nat 0x6410 9 * 1000000 ≤ (s.advance t).cascDeadline) ∧
    (∃ (t p : Nat) (b : Octets) (s : State), p < 5 ∧ s.live .comm t ∧ s.jUp p = true ∧ (s.advance t).inputsHeld = true ∧ s.isMaster = false ∧
        s.casc.round ≤ u8At b 1 + 1 ∧ s.ofRun 5 b = true) ∧
    (∃ (t p : Nat) (b : Octets) (s : State), p < 5 ∧ s.live .comm t ∧ s.jUp p = true ∧ (s.advance t).inputsHeld = true ∧ s.isMaster = false ∧
        s.casc.round ≤ u8At b 1 + 1 ∧ s.ofRun 6 b = true) :=
  ⟨⟨0, 0, (wCasc 0 1 { nowAt := some 0 }), by decide +kernel⟩,
   ⟨0, 0, (zeros 26), (wCasc 1 0 {}), by decide +kernel⟩,
   ⟨0, 0, 0, (wRMsg 1 3 ([1, 0, 0, 0] ++ [77, 0, 0, 0] ++ leBytes 4 9 ++ leBytes 4 8)), ((77, [9, 8])), (wCasc 1 0 (wRound 3)),
      by decide +kernel⟩,
   ⟨0, 1, 0, (wRMsg 2 3 ([1, 0, 0, 0] ++ [77, 0, 0, 0] ++ leBytes 4 9 ++ leBytes 4 8)), ((77, [9, 8])), (wCasc 0 1 (wRound 3)),
      by decide +kernel⟩,
   ⟨0, 1, (wRMsg 3 2 (leBytes 4 60 ++ [0])), (wCasc 0 1 (wRound 3)), by decide +kernel⟩,
   ⟨0, 6, wReSnap, (wEnded (wCasc 1 0 (wRound 3)) wReSnap), rfl, by decide +kernel⟩,
   ⟨200000000, (wCasc 1 0 (wRound 2)), by decide +kernel⟩,
   ⟨200000000, (wCasc 1 0 (wRound 2)), by decide +kernel⟩,
   ⟨100000000, (wCasc 0 1 (wRound 2)), by decide +kernel⟩,
   ⟨100000000, (wCasc 0 1 { wRound 2 with ownZ := 51 }), by decide +kernel⟩,
   ⟨0, 0, (wRMsg 5 2 []), (wCasc 1 0 (wRound 3)), by decide +kernel⟩,
   ⟨0, 0, (wRMsg 6 2 []), (wCasc 1 0 (wRound 3)), by decide +kernel⟩⟩

end W17

namespace W18

/-- The pools and scans in a state. -/
def wHealth (h : Health) : State := { wRun with health := h }

theorem witness_IntegrityCommands :
    (∃ (t c : Nat) (s : State), c < 4 ∧ s.live .house t ∧ (s.crcChan c).state = 1) ∧
    (∃ (t p age : Nat) (r : TestRun) (s : State), p < 9 ∧ p ≠ 4 ∧ s.live .house t ∧ (s.poolTest p).run = some r ∧ age < 65536 ∧
        age < u16At (s.oct 0x6830 1) 0 ∧ age < u16At (s.oct 0x6830 1) 2) ∧
    (∃ (t p e : Nat) (s : State), (∃ new, (s.advance t).bgNext p = some (e, new)) ∧ p < 9 ∧ p ≠ 4 ∧ s.live .house t ∧ (s.poolTest p).run = none ∧
        s.health.queue.find? (fun r => decide (r.pool = p)) = none ∧ s.nat 0x6810 5 ≠ 0 ∧
        (s.inService p e = true → (s.freeSpare p (poolUnit p e)).isSome = true)) ∧
    (∃ (t core : Nat) (s : State), core < 3 ∧ s.live .house t ∧ 0 < s.sparesFree 8 0) ∧
    (∃ (t core : Nat) (s : State), core < 3 ∧ s.live .house t ∧ s.sparesFree 8 0 = 0 ∧ s.health.mismatchAt = none) ∧
    (∃ (t core : Nat) (s : State), core < 3 ∧ s.live .house t ∧ s.sparesFree 8 0 = 0 ∧ bitOf s.dev.hold 3 = false) ∧
    (∃ (t i age : Nat) (s : State), i < 164 ∧ s.live .house t ∧ age < 65536 ∧ age < u16At (s.oct 0x6830 1) 0 ∧ age < u16At (s.oct 0x6830 1) 2) ∧
    (∃ (t isl : Nat) (s : State), isl < 9 ∧ s.live .house t ∧ Tab.get 0 s.health.canaries isl < 3) ∧
    (∃ (t isl : Nat) (s : State), isl < 8 ∧ s.live (islandOf isl) t) ∧
    (∃ (t : Nat) (s : State), s.live .house t ∧ (s.advance t).thermDue = true) ∧
    (∃ (t : Nat) (s : State), s.live .mem t ∧ 3600 ≤ s.health.seconds) ∧
    (∃ (t k : Nat) (s : State), k < 2 ∧ s.live .ctrl t ∧ s.ctrl.conv0 = 0 ∧ s.ctrl.conv1 = 1 ∧ s.poolOut 5 0 = []) :=
  ⟨⟨0, 2, (wHealth { crc := [(2, { state := 1 })] }), by decide +kernel⟩,
   ⟨0, 2, 0, (({ elem := 3, cover := none, forced := false, background := false, start := 0 } : TestRun)),
      (wHealth { tests := [(2, { run := some { elem := 3, cover := none, forced := false, background := false, start := 0 } })] }),
      by decide +kernel⟩,
   ⟨0, 2, 0, wRun, ⟨true, by decide +kernel⟩, by decide +kernel⟩,
   ⟨0, 1, wRun, by decide +kernel⟩,
   ⟨0, 1, (wHealth { out := [(poolKey 8 0, [0])] }), by decide +kernel⟩,
   ⟨0, 1, (wHealth { out := [(poolKey 8 0, [0])] }), by decide +kernel⟩,
   ⟨0, 4, 100, wRun, by decide +kernel⟩,
   ⟨0, 3, wRun, by decide +kernel⟩,
   ⟨0, 3, wRun, by decide +kernel⟩,
   ⟨0, wRun, by decide +kernel⟩,
   ⟨0, (wHealth { seconds := 3600 }), by decide +kernel⟩,
   ⟨0, 1, wRun, by decide +kernel⟩⟩

end W18

namespace W20

/-- A device with its supplies in a state. -/
def wPow (d : DevState) (p : Power) : State := { wIn d with power := p }
/-- A device that has stood PARKED. -/
def wOn : Power := { wRun.power with supplies := true }

theorem witness_SupplyCommands :
    (∃ (s : State), (s.dev.state = .off ∨ s.power.resetN = false ∨ s.power.started = false)) ∧
    (∃ (s : State), s.dev.state ≠ .off ∧ s.power.resetN = true ∧ s.power.saving = false ∧ s.dict.storing = none ∧ s.model.stage.status ≠ 3 ∧
        s.logic.stage.status ≠ 3) ∧
    (∃ (s : State), s.dev.state ≠ .off ∧ s.dev.state ≠ .parked ∧ s.power.saved = false) ∧
    (∃ (s : State), (s.dev.state = .parked ∨ s.power.saved = true)) ∧
    (∃ (t : Nat) (s : State), s.live .house t ∧ s.dev.state = .parked ∧ s.power.parkedAt + s.nat 0x5001 0x0C * 1000000000 ≤ (s.advance t).now) ∧
    (∃ (s : State), s.power.supplies = false ∧ s.power.backupOn = true) ∧
    (∃ (s : State), s.power.backupOn = false) :=
  ⟨⟨State.reset, by decide +kernel⟩,
   ⟨wRun, by decide +kernel⟩,
   ⟨wRun, by decide +kernel⟩,
   ⟨(wPow .parked wOn), by decide +kernel⟩,
   ⟨4000000000000, (wPow .parked wOn), by decide +kernel⟩,
   ⟨(wPow .off { wOn with supplies := false, backupOn := true, vbat := true }), by decide +kernel⟩,
   ⟨(wPow .off { wOn with backupOn := false }), by decide +kernel⟩⟩

theorem witness_BootAndSaveCommands :
    (∃ (t : Nat) (s : State), s.live .house t ∧ s.dev.state = .boot ∧ s.power.halted = false ∧ bitOf s.power.straps.cfg 1 = false) ∧
    (∃ (t : Nat) (s : State), s.live .house t ∧ s.dev.state = .selftest ∧ s.power.halted = false ∧ s.power.bisted = false) ∧
    (∃ (t : Nat) (s : State), s.live .mem t ∧ s.dev.state = .selftest ∧ s.power.halted = false ∧ s.power.bisted = true ∧ s.power.trained = false) ∧
    (∃ (t : Nat) (s : State), s.live .mem t ∧ s.dev.state = .selftest ∧ s.power.halted = false ∧ s.power.bisted = true ∧
        s.power.trained = false ∧ s.power.trainTries = 2) ∧
    (∃ (t : Nat) (s : State), s.live .mem t ∧ s.dev.state = .selftest ∧ s.power.halted = false ∧ s.power.bisted = true ∧
        s.power.trained = false ∧ s.power.trainTries < 2) ∧
    (∃ (t : Nat) (s : State), s.live .house t ∧ (s.dev.state = .coldInit ∨ s.dev.state = .warmInit) ∧ (s.advance t).lockOver = true) ∧
    (∃ (t : Nat) (s : State), s.live .house t ∧ s.power.pfailN = true ∧ s.up = true ∧ s.power.saving = false) ∧
    (∃ (t : Nat) (s : State), s.live .house t ∧ s.power.saving = true ∧ s.power.saveThen = 0 ∧ s.power.pfailN = false ∧ s.power.deferIv = [] ∧
        s.power.deferClear = false) ∧
    (∃ (t : Nat) (s : State), s.live .house t ∧ s.power.saved = true ∧ s.power.saving = false ∧ s.up = true) ∧
    (∃ (t : Nat) (s : State), s.live .house t ∧ s.up = true ∧ s.power.saving = false ∧
        s.power.checkpointAt + s.nat 0x5001 7 * 1000000000 ≤ (s.advance t).now) :=
  ⟨⟨0, (wIn .boot), by decide +kernel⟩,
   ⟨0, (wPow .selftest { wOn with bisted := false }), by decide +kernel⟩,
   ⟨0, (wPow .selftest { wOn with trained := false }), by decide +kernel⟩,
   ⟨0, (wPow .selftest { wOn with trained := false, trainTries := 2 }), by decide +kernel⟩,
   ⟨0, (wPow .selftest { wOn with trained := false, trainTries := 1 }), by decide +kernel⟩,
   ⟨0, (wIn .coldInit), by decide +kernel⟩,
   ⟨0, wRun, by decide +kernel⟩,
   ⟨0, (wPow .run { wOn with saving := true, saveThen := 0, pfailN := false }), by decide +kernel⟩,
   ⟨0, (wPow .run { wOn with saved := true, pfailN := false }), by decide +kernel⟩,
   ⟨4000000000000, wRun, by decide +kernel⟩⟩

theorem witness_TapCommands :
    (∃ (s : State), s.power.supplies = true) :=
  ⟨({ wRun with power := { wOn with resetN := false } }), by decide +kernel⟩

end W20

namespace W21

/-- A host session of the service role under which protected entries are written. -/
def wKeyed (s : State) : State :=
  { s with net := { s.net with sess := Tab.insert s.net.sess 3 { state := .opened, peer := .udp 0 0x0A000005 47121, role := 2, key := zeros 32, counter := 4, tokens := 64000000000 } } }
/-- An access over that session, sealed. -/
def wSeal (idx sub : Nat) (v : Octets) : Acc :=
  { src := .udp 0 0x0A000005 47121, session := 3, tag := 7,
    crit := some { counter := 5, tag := trunc96 (hmac (zeros 32) (critBlock 2 3 7 1 idx sub v.length 5 v)) } }
/-- Lane A of a duplex position that holds the lease, with its mate heard. -/
def wHolder : State :=
  wKeyed { wRun with
    power := { wRun.power with straps := { wRun.power.straps with cfg := 1 } }
    lease := { wRun.lease with cfg := 1, state := 2, timer := 100000, peers := [(1, { flags := 1, silent := false, dissent := 3 })] } }

theorem witness_DeviceRequests :
    (∃ (t : Nat) (a : Acc) (s : State), s.mayWrite t a 0x1001 6 [1] ∧ s.up = true ∧ bitOf s.dev.hold 1 = false) ∧
    (∃ (t : Nat) (a : Acc) (s : State), s.mayWrite t a 0x1001 6 [2] ∧ s.dev.state = .safeHold ∧ putBit s.dev.hold 1 false = 0 ∧
        s.activating = false) ∧
    (∃ (t : Nat) (a : Acc) (s : State), s.mayWrite t a 0x1001 6 [3] ∧ (s.operating = true ∨ s.dev.state = .safeHold) ∧
        ((s.advance t).atOwner a 0x1001 6 [3]).roleOf a.ctx = 2) ∧
    (∃ (t : Nat) (a : Acc) (s : State), s.mayWrite t a 0x1010 1 (leBytes 4 0x5AFE) ∧ s.dict.storing = none) ∧
    (∃ (t : Nat) (a : Acc) (s : State), s.mayWrite t a 0x1011 1 (leBytes 4 0xD3FA) ∧ s.dict.storing = none) ∧
    (∃ (t : Nat) (a : Acc) (s : State), s.mayWrite t a 0x5001 1 [1] ∧ s.power.saving = false ∧ s.dev.state = .service) ∧
    (∃ (t : Nat) (a : Acc) (s : State), s.mayWrite t a 0x5001 1 [2] ∧ s.power.saving = false ∧ s.dev.state = .service) ∧
    (∃ (t : Nat) (a : Acc) (s : State), s.mayWrite t a 0x5001 0x0A (leBytes 4 0x57B0) ∧ s.holding = true ∧ s.power.saving = false) :=
  ⟨⟨0, wHost, wRun, may (by decide +kernel), by decide +kernel⟩,
   ⟨0, wHost, ({ wIn .safeHold with dev := { (wIn .safeHold).dev with hold := 2 } }), may (by decide +kernel), by decide +kernel⟩,
   ⟨0, wHost, wRun, may (by decide +kernel), by decide +kernel⟩,
   ⟨0, wHost, wRun, may (by decide +kernel), by decide +kernel⟩,
   ⟨0, wHost, wRun, may (by decide +kernel), by decide +kernel⟩,
   ⟨0, wHost, (wIn .service), may (by decide +kernel), by decide +kernel⟩,
   ⟨0, wHost, (wIn .service), may (by decide +kernel), by decide +kernel⟩,
   ⟨0, wHost, (wIn .safeHold), may (by decide +kernel), by decide +kernel⟩⟩

theorem witness_CalendarWrites :
    (∃ (t : Nat) (a : Acc) (s : State), s.mayWrite t a 0x6001 1 [1] ∧ s.cal.halt = false) ∧
    (∃ (t : Nat) (a : Acc) (s : State), s.mayWrite t a 0x6001 1 [1] ∧ s.cal.halt = true) ∧
    (∃ (t : Nat) (a : Acc) (s : State), s.mayWrite t a 0x6001 1 [0] ∧ s.cal.halt = true ∧ s.cal.f.ok = true) ∧
    (∃ (t : Nat) (a : Acc) (s : State), s.mayWrite t a 0x6001 1 [0] ∧ s.cal.halt = false) ∧
    (∃ (t sub v : Nat) (a : Acc) (s : State), s.mayWrite t a 0x6000 sub (leBytes 1 v) ∧ 1 ≤ sub ∧ sub ≤ 8 ∧ v < 256 ∧ s.cal.halt = true) ∧
    (∃ (t sub v : Nat) (a : Acc) (s : State), s.mayWrite t a 0x6000 sub (leBytes 1 v) ∧ 1 ≤ sub ∧ sub ≤ 8 ∧ v < 256 ∧ s.cal.halt = false) ∧
    (∃ (t : Nat) (v : Int) (a : Acc) (s : State), s.mayWrite t a 0x6001 9 (leInt 4 v) ∧ v ≠ 0 ∧ -2147483648 ≤ v ∧ v < 2147483648 ∧
        s.cal.halt = false ∧ s.cal.step = none) ∧
    (∃ (t : Nat) (v : Octets) (a : Acc) (s : State), s.mayWrite t a 0x6001 4 v) ∧
    (∃ (t : Nat) (v : Octets) (a : Acc) (s : State), s.mayWrite t a 0x6001 5 v ∧ wakeOk v = true) ∧
    (∃ (t : Nat) (a : Acc) (s : State), s.mayWrite t a 0x6001 3 [1]) ∧
    (∃ (t v : Nat) (a : Acc) (s : State), s.mayWrite t a 0x6010 2 (leBytes 1 v)) :=
  ⟨⟨0, wHost, wRun, may (by decide +kernel), by decide +kernel⟩,
   ⟨0, wHost, ({ wRun with cal := { wRun.cal with halt := true } }), may (by decide +kernel), by decide +kernel⟩,
   ⟨0, wHost, ({ wRun with cal := { wRun.cal with halt := true } }), may (by decide +kernel), by decide +kernel⟩,
   ⟨0, wHost, wRun, may (by decide +kernel), by decide +kernel⟩,
   ⟨0, 3, 18, wHost, ({ wRun with cal := { wRun.cal with halt := true } }), may (by decide +kernel), by decide +kernel⟩,
   ⟨0, 3, 18, wHost, wRun, may (by decide +kernel), by decide +kernel⟩,
   ⟨0, -5, wHost, wRun, may (by decide +kernel), by decide +kernel⟩,
   ⟨0, ([1, 2, 3, 4, 5, 6, 7]), wHost, wRun, may (by decide +kernel)⟩,
   ⟨0, ([10, 0, 1, 1]), wHost, wRun, may (by decide +kernel), by decide +kernel⟩,
   ⟨0, wHost, wRun, may (by decide +kernel)⟩,
   ⟨0, 1, wHost, wRun, may (by decide +kernel)⟩⟩

theorem witness_LaneAndTestWrites :
    (∃ (t x : Nat) (a : Acc) (s : State), s.mayWrite t a 0x6400 0x0B (leBytes 1 x) ∧ x < 256 ∧ s.single = false ∧
        (s.advance t).leaseHolder = true ∧ s.mates.contains x = true ∧ bitOf (s.peer x).flags 0 = true ∧ (s.peer x).silent = false) ∧
    (∃ (t x : Nat) (a : Acc) (s : State), s.mayWrite t a 0x6400 0x0C (leBytes 1 x) ∧ x < 256 ∧ s.single = false ∧
        (s.advance t).leaseHolder = true ∧ s.mates.contains x = true ∧ bitOf s.lease.excluded x = true) ∧
    (∃ (t : Nat) (a : Acc) (s : State), s.mayWrite t a 0x6401 9 [1]) ∧
    (∃ (t v : Nat) (a : Acc) (s : State), s.mayWrite t a 0x6410 2 (leBytes 1 v) ∧ v < 256) ∧
    (∃ (t c : Nat) (a : Acc) (s : State), s.mayWrite t a (0x6800 + c) 2 [1] ∧ c < 4 ∧ (s.crcChan c).state ≠ 1 ∧ s.scanOk (s.crcCfg c) = true) ∧
    (∃ (t c : Nat) (a : Acc) (s : State), s.mayWrite t a (0x6800 + c) 2 [2] ∧ c < 4) ∧
    (∃ (t c : Nat) (v : Octets) (a : Acc) (s : State), s.mayWrite t a (0x6800 + c) 1 v ∧ c < 4 ∧ crcCfgOk v = true ∧ (s.crcChan c).state ≠ 1) ∧
    (∃ (t c : Nat) (a : Acc) (s : State), s.mayWrite t a (0x6800 + c) 5 [1] ∧ c < 4) ∧
    (∃ (t p e o : Nat) (a : Acc) (s : State), s.mayWrite t a 0x6810 1 [p, e, o, 0] ∧ p ≤ 8 ∧ e < 256 ∧ (e = 255 ∨ e < poolElems p) ∧ o ≤ 1 ∧
        (e = 255 ∨ rotating p = true ∨ s.inService p e = false) ∧ (o = 1 → s.dev.state = .service) ∧ s.health.queue.length < 32 ∧
        (o = 1 ∨ s.poolGone p = false)) ∧
    (∃ (t p : Nat) (a : Acc) (s : State) (r : _), s.mayWrite t a 0x6810 2 (leBytes 1 p) ∧ p ≤ 8 ∧ p ≠ 4 ∧ (s.poolTest p).run = some r) ∧
    (∃ (t p : Nat) (a : Acc) (s : State) (r : _), s.mayWrite t a 0x6810 2 (leBytes 1 p) ∧ p ≤ 8 ∧ p ≠ 4 ∧ (s.poolTest p).run = none ∧
        s.health.queue.find? (fun q => decide (q.pool = p)) = some r) ∧
    (∃ (t p : Nat) (a : Acc) (s : State), s.mayWrite t a 0x6810 2 (leBytes 1 p) ∧ p ≤ 8 ∧ p ≠ 4 ∧ (s.poolTest p).run = none ∧
        s.health.queue.find? (fun q => decide (q.pool = p)) = none ∧ ((s.poolTest p).outcome = 1 ∨ (s.poolTest p).outcome = 2)) ∧
    (∃ (t : Nat) (a : Acc) (r : CalRun) (s : State), s.mayWrite t a 0x6810 2 [4] ∧ (s.poolTest 4).run = none ∧ s.metr.cal = some r) ∧
    (∃ (t : Nat) (a : Acc) (s : State), s.mayWrite t a 0x6810 6 [1]) ∧
    (∃ (t : Nat) (a : Acc) (s : State), s.mayWrite t a 0x6810 7 (leBytes 4 0xB157) ∧ s.dev.state = .service) :=
  ⟨⟨0, 1, (wSeal 0x6400 0x0B [1]), wHolder, may (by decide +kernel), by decide +kernel⟩,
   ⟨0, 1, (wSeal 0x6400 0x0C [1]),
      ({ wHolder with lease := { wHolder.lease with excluded := 2 }, dev := { wHolder.dev with state := .degraded, degraded := 64 } }),
      may (by decide +kernel), by decide +kernel⟩,
   ⟨0, wHost, wRun, may (by decide +kernel)⟩,
   ⟨0, 5, wHost, wRun, may (by decide +kernel), by decide +kernel⟩,
   ⟨0, 2, wHost, ({ wRun with dict := { wRun.dict with vals := [(0x680201, .oct (leBytes 4 0x80000000 ++ leBytes 4 64 ++ zeros 32))] } }),
      may (by decide +kernel), by decide +kernel⟩,
   ⟨0, 2, wHost, wRun, may (by decide +kernel), by decide +kernel⟩,
   ⟨0, 2, (leBytes 4 0x80000000 ++ leBytes 4 64 ++ leBytes 8 0x04C11DB7 ++ zeros 16 ++ [32, 3, 6] ++ zeros 5), wHost, wRun,
      may (by decide +kernel), by decide +kernel⟩,
   ⟨0, 2, wHost, wRun, may (by decide +kernel), by decide +kernel⟩,
   ⟨0, 8, 255, 0, wHost, wRun, may (by decide +kernel), by decide +kernel⟩,
   ⟨0, 2, wHost,
      ({ wRun with health := { wRun.health with tests := [(2, { run := some { elem := 3, cover := none, forced := false, background := false, start := 0 } })] } }),
      (({ elem := 3, cover := none, forced := false, background := false, start := 0 } : TestRun)), may (by decide +kernel), by decide +kernel⟩,
   ⟨0, 2, wHost, ({ wRun with health := { wRun.health with queue := [{ pool := 2, elem := 1, force := false }] } }),
      (({ pool := 2, elem := 1, force := false } : StReq)), may (by decide +kernel), by decide +kernel⟩,
   ⟨0, 2, wHost, ({ wRun with health := { wRun.health with tests := [(2, { outcome := 1 })] } }), may (by decide +kernel), by decide +kernel⟩,
   ⟨0, wHost, ({ input := 3, step := 1, t0 := 0, old := 3, spare := 28, range := 0 } : CalRun),
      ({ wRun with metr := { wRun.metr with cal := some { input := 3, step := 1, t0 := 0, old := 3, spare := 28, range := 0 } } }),
      may (by decide +kernel), by decide +kernel⟩,
   ⟨0, wHost, ({ wRun with health := { wRun.health with tests := [(2, { outcome := 1, late := true })] } }), may (by decide +kernel)⟩,
   ⟨0, wHost, (wIn .service), may (by decide +kernel), by decide +kernel⟩⟩

theorem witness_AlarmWrites :
    (∃ (t src n : Nat) (a : Acc) (s : State), s.mayWrite t a 0x6C10 4 (leBytes 2 src ++ leBytes 4 n) ∧ src < 0x1000 ∧ n < 4294967296 ∧
        (s.almRow src).count = n) ∧
    (∃ (t : Nat) (a : Acc) (s : State), s.mayWrite t a 0x6C10 4 (leBytes 2 0xFFFF ++ leBytes 4 0)) ∧
    (∃ (t src : Nat) (a : Acc) (s : State), s.mayWrite t a 0x6C10 5 (leBytes 2 src) ∧ src < 0x1000) ∧
    (∃ (t : Nat) (a : Acc) (s : State), s.mayWrite t a 0x6C10 5 (leBytes 2 0xFFFF)) ∧
    (∃ (t n : Nat) (v : Octets) (a : Acc) (s : State), s.mayWrite t a 0x6C00 (0x10 + n) v ∧ n < 8 ∧ subOk v = true) ∧
    (∃ (t : Nat) (a : Acc) (s : State), s.mayWrite t a 0x6C20 2 [1]) :=
  ⟨⟨0, 0x123, 2, wHost,
      ({ wRun with ledger := { wRun.ledger with alarms := [(0x10, { sticky := true, count := 9 }), (0x123, { sticky := true, count := 2 })] } }),
      may (by decide +kernel), by decide +kernel⟩,
   ⟨0, wHost,
      ({ wRun with ledger := { wRun.ledger with alarms := [(0x10, { sticky := true, count := 9 }), (0x123, { sticky := true, count := 2 })] } }),
      may (by decide +kernel)⟩,
   ⟨0, 0x123, wHost,
      ({ wRun with ledger := { wRun.ledger with alarms := [(0x10, { sticky := true, count := 9 }), (0x123, { sticky := true, count := 2 })] } }),
      may (by decide +kernel), by decide +kernel⟩,
   ⟨0, wHost,
      ({ wRun with ledger := { wRun.ledger with alarms := [(0x10, { sticky := true, count := 9 }), (0x123, { sticky := true, count := 2 })] } }),
      may (by decide +kernel)⟩,
   ⟨0, 2, ([1, 7, 255, 1] ++ leBytes 4 0x0A000002 ++ leBytes 2 5000 ++ leBytes 2 50 ++ [32, 10] ++ leBytes 4 1000000 ++ [0, 0]), wHost,
      ({ wRun with ledger := { wRun.ledger with alarms := [(0x10, { sticky := true, count := 9 }), (0x123, { sticky := true, count := 2 })] } }),
      may (by decide +kernel), by decide +kernel⟩,
   ⟨0, wHost,
      ({ wRun with ledger := { wRun.ledger with alarms := [(0x10, { sticky := true, count := 9 }), (0x123, { sticky := true, count := 2 })] } }),
      may (by decide +kernel)⟩⟩

end W21

namespace W22

/-- A recipe of two bands and one segment. -/
def wRecipe : Octets := patch (patch (patch (patch (zeros 536) 0 [1, 2, 1, 0, 0, 0, 60, 0]) 14 [1, 0]) 26 [1, 0]) 60 [0, 0, 0, 64, 0, 0, 0, 64]

theorem witness_ModelWrites :
    (∃ (t : Nat) (a : Acc) (s : State), s.mayWrite t a 0x2000 3 (leBytes 4 0x4D0D) ∧ s.model.stage.status = 1 ∧ s.model.stage.coming = none ∧
        ((s.advance t).atOwner a 0x2000 3 (leBytes 4 0x4D0D)).stagingOpen 0x2000 1 = false ∧ (s.topoChange = false ∨ s.operating = false)) ∧
    (∃ (t r : Nat) (v : Octets) (a : Acc) (s : State), s.mayWrite t a (0x7000 + r) 1 v ∧ r < 256 ∧ v.length = 536 ∧ recipeOk v = true ∧
        s.recipeClash r v = false ∧ (s.advance t).inputsHeld = true) ∧
    (∃ (t : Nat) (v : Octets) (a : Acc) (s : State), s.mayWrite t a 0x2006 2 v ∧ v.length = 64 ∧ s.assignOk v = true ∧
        (s.advance t).inputsHeld = true) ∧
    (∃ (t j : Nat) (v : Octets) (a : Acc) (s : State), s.mayWrite t a 0x2007 (j + 1) v ∧ j < 8 ∧ tarLen v = true ∧ tarOk j v = true ∧
        (s.advance t).inputsHeld = true) ∧
    (∃ (t : Nat) (v : Octets) (l : List Octets) (a : Acc) (s : State), s.mayWrite t a 0x2007 9 v ∧ cutSeries tarLenOf 8 v = some l ∧
        l.all tarLen = true ∧ (∀ j, j < 8 → tarOk j (nth [] l j) = true) ∧ (s.advance t).inputsHeld = true) ∧
    (∃ (t q : Nat) (v : Octets) (a : Acc) (s : State), s.mayWrite t a 0x2008 (q + 1) v ∧ q < 3 ∧ fcLen v = true ∧ fcOk v = true ∧
        (s.advance t).inputsHeld = true) ∧
    (∃ (t : Nat) (v : Octets) (l : List Octets) (a : Acc) (s : State), s.mayWrite t a 0x2008 4 v ∧ cutSeries fcLenOf 3 v = some l ∧
        l.all fcLen = true ∧ l.all fcOk = true ∧ (s.advance t).inputsHeld = true) ∧
    (∃ (t : Nat) (a : Acc) (s : State), s.mayWrite t a 0x2840 0x0D (leBytes 4 0xE57A)) ∧
    (∃ (t : Nat) (a : Acc) (s : State), s.mayWrite t a 0x2810 5 (leBytes 4 0x9A1D) ∧ s.nat 0x6410 1 = 0) ∧
    (∃ (t : Nat) (a : Acc) (s : State), s.mayWrite t a 0x2810 5 (leBytes 4 0x9A1D) ∧ s.nat 0x6410 1 ≠ 0 ∧ s.isMaster = true) ∧
    (∃ (t : Nat) (a : Acc) (s : State), s.mayWrite t a 0x2810 6 (leBytes 4 0xC01D)) ∧
    (∃ (t n : Nat) (a : Acc) (s : State), s.mayWrite t a 0x2810 3 (leBytes 2 n) ∧ n < 65536 ∧ s.horizonFits n = true) ∧
    (∃ (t n : Nat) (a : Acc) (s : State), s.mayWrite t a 0x2810 4 (leBytes 1 n) ∧ n < 256 ∧ n ≠ 0 ∧ 1440 % n = 0 ∧
        s.horizonFits (s.nat 0x2810 3) = true) :=
  ⟨⟨0, wHost,
      ({ wRun with model := { wRun.model with stage := { wRun.model.stage with status := 1, image := zeros 300 ++ leBytes 4 (crc32c (zeros 300)) } } }),
      may (by decide +kernel), by decide +kernel⟩,
   ⟨0, 9, wRecipe, wHost, wRun, may (by decide +kernel), by decide +kernel⟩,
   ⟨0, (leBytes 2 9 ++ leBytes 2 65535 ++ List.replicate 60 255), wHost, wRun, may (by decide +kernel), by decide +kernel⟩,
   ⟨0, 2, (zeros 4), wHost, wRun, may (by decide +kernel), by decide +kernel⟩,
   ⟨0, (zeros 32), (List.replicate 8 (zeros 4)), wHost, wRun, may (by decide +kernel), by decide +kernel⟩,
   ⟨0, 1, (zeros 16), wHost, wRun, may (by decide +kernel), by decide +kernel⟩,
   ⟨0, (zeros 48), ([zeros 16, zeros 16, zeros 16]), wHost, wRun, may (by decide +kernel), by decide +kernel⟩,
   ⟨0, wHost, wRun, may (by decide +kernel)⟩,
   ⟨0, wHost, wRun, may (by decide +kernel), by decide +kernel⟩,
   ⟨0, wHost, ({ wRun with dict := { wRun.dict with vals := [(0x641001, .num 1)] } }), may (by decide +kernel), by decide +kernel⟩,
   ⟨0, wHost, wRun, may (by decide +kernel)⟩,
   ⟨0, 96, wHost, wRun, may (by decide +kernel), by decide +kernel⟩,
   ⟨0, 30, wHost, wRun, may (by decide +kernel), by decide +kernel⟩⟩

end W22

namespace W23

/-- A loop in a state, over a device in RUN. -/
def wLoop (l : Loop) : State := { wRun with ctrl := { wRun.ctrl with loops := Tab.insert [] 5 l } }
/-- Entry values over a state. -/
def wVals (s : State) (v : Tab Val) : State := { s with dict := { s.dict with vals := v } }
/-- A probe in a state. -/
def wProbe (v : Probe) : State := { wRun with ctrl := { wRun.ctrl with probes := Tab.insert [] 3 v } }

theorem witness_LoopWrites :
    (∃ (t n : Nat) (a : Acc) (s : State), s.mayWrite t a (0x3000 + n) 0x0D [0] ∧ n < 1024 ∧ (s.coef n).reqLogic = false ∧
        (s.loop n).state ≠ .off) ∧
    (∃ (t n : Nat) (a : Acc) (s : State), s.mayWrite t a (0x3000 + n) 0x0D [1] ∧ n < 1024 ∧ (s.coef n).reqLogic = false ∧ s.holding = false ∧
        ((s.loop n).state = .closed ∨ (s.loop n).state = .track ∨ (s.loop n).state = .hold ∧ (s.advance t).holdFree n = true)) ∧
    (∃ (t n : Nat) (a : Acc) (s : State), s.mayWrite t a (0x3000 + n) 0x0D [2] ∧ n < 1024 ∧ (s.coef n).reqLogic = false ∧ s.holding = false ∧
        ((s.loop n).state = .opened ∨ (s.loop n).state = .track ∧ (s.loop n).forced = false ∨ (s.loop n).state = .hold ∧ (s.advance t).holdFree n
        = true)) ∧
    (∃ (t n : Nat) (a : Acc) (s : State), s.mayWrite t a (0x3000 + n) 0x0D [3] ∧ n < 1024 ∧ (s.coef n).reqLogic = false ∧ s.holding = false ∧
        s.hasTrack n = true ∧ ((s.loop n).state = .opened ∨ (s.loop n).state = .closed)) ∧
    (∃ (t n r q : Nat) (a : Acc) (s : State), s.mayWrite t a (0x3000 + n) 0x0D [r] ∧ n < 1024 ∧ 1 ≤ r ∧ r ≤ 3 ∧ (s.coef n).reqLogic = false ∧
        s.holding = false ∧ (s.loop n).state = .off ∧ (r = 3 → s.hasTrack n = true) ∧ (s.advance t).destHeld n (s.src n 5) = false ∧
        (s.advance t).cascadeOk n = true ∧ (s.advance t).innerUp n = true ∧ (s.advance t).mirrorFull = false ∧
        ((s.repCfg n).enable = true → (s.advance t).repLoadOk n true = true) ∧ (s.advance t).slotFromOff n = some q) ∧
    (∃ (t n sub : Nat) (v : Octets) (a : Acc) (s s1 s2 : State), s.mayWrite t a (0x3000 + n) sub v ∧
        s1 = (s.advance t).store (0x3000 + n) sub v ∧ n < 1024 ∧ (1 ≤ sub ∧ sub ≤ 6 ∨ sub = 0x0C) ∧ (s.advance t).coefValueOk n sub v = true ∧
        (s.loop n).coefOpen = true ∧ (sub = 5 → (s.advance t).newDestHeld n v = false) ∧ (sub = 1 ∨ sub = 6 → s2 = s1) ∧
        (2 ≤ sub ∧ sub ≤ 4 → s.isOuter n = true → s2 = s1) ∧ (2 ≤ sub ∧ sub ≤ 4 → s.isOuter n = false → s1.readmit n = some s2) ∧
        (sub = 5 → s1.readmit n = some s2) ∧ (sub = 0x0C → (s1.readmit n).bind (fun x => x.readmitFormer (s.outerOf n)) = some s2)) ∧
    (∃ (t n sub : Nat) (v : Octets) (a : Acc) (s : State), s.mayWrite t a (0x3000 + n) sub v ∧ n < 1024 ∧ 7 ≤ sub ∧ sub ≤ 0x0B ∧
        (sub = 7 → limitsOk v = true)) ∧
    (∃ (t n : Nat) (a : Acc) (s : State), s.mayWrite t a (0x3400 + n) 9 [1] ∧ n < 1024) ∧
    (∃ (t n : Nat) (a : Acc) (s : State), s.mayWrite t a (0x3800 + n) 2 [1] ∧ n < 1024) ∧
    (∃ (t n : Nat) (v : Octets) (a : Acc) (s : State), s.mayWrite t a (0x3800 + n) 1 v ∧ n < 1024 ∧ (repCfg v).ok v = true ∧
        (s.loop n).coefOpen = true ∧
        ((repCfg v).enable = false ∨ (s.repCfg n).enable = true ∨ (s.loop n).state = .off ∨ (s.advance t).repLoadOk n true = true)) ∧
    (∃ (t n : Nat) (v : Octets) (a : Acc) (s : State), s.mayWrite t a (0x3800 + n) 5 v ∧ n < 1024 ∧ v.length = 2 * (s.repCfg n).p ∧
        (s.loop n).coefOpen = true) :=
  ⟨⟨0, 5, wHost, (wLoop { state := .closed, uPrev := 1234 }), may (by decide +kernel), by decide +kernel⟩,
   ⟨0, 5, wHost, (wLoop { state := .closed, uPrev := 1234 }), may (by decide +kernel), by decide +kernel⟩,
   ⟨0, 5, wHost, (wLoop { state := .opened, uPrev := 1234 }), may (by decide +kernel), by decide +kernel⟩,
   ⟨0, 5, wHost, (wVals (wLoop { state := .opened, uPrev := 1234 }) [(0x300505, .oct (zeros 48 ++ [1] ++ zeros 23))]), may (by decide +kernel),
      by decide +kernel⟩,
   ⟨0, 5, 1, 0, wHost, (wVals (wLoop {}) [(0x300501, .num 0)]), may (by decide +kernel), by decide +kernel⟩,
   ⟨0, 5, 2, (leBytes 4 250), wHost, wRun, ((wRun.advance 0).store 0x3005 2 (leBytes 4 250)), ((wRun.advance 0).store 0x3005 2 (leBytes 4 250)),
      may (by decide +kernel), rfl, by decide +kernel⟩,
   ⟨0, 5, 8, (leInt 2 77), wHost, wRun, may (by decide +kernel), by decide +kernel⟩,
   ⟨0, 5, wHost, (wLoop { state := .closed, reqRej := true, rep := { kept := true } }), may (by decide +kernel), by decide +kernel⟩,
   ⟨0, 5, wHost, (wLoop { state := .closed, rep := { table := [(1, 5)] } }), may (by decide +kernel), by decide +kernel⟩,
   ⟨0, 5, (leBytes 4 4 ++ zeros 12), wHost, (wLoop {}), may (by decide +kernel), by decide +kernel⟩,
   ⟨0, 5, (zeros 4), wHost, (wLoop {}), may (by decide +kernel), by decide +kernel⟩⟩

theorem witness_ProbeWrites :
    (∃ (t p : Nat) (v : Octets) (a : Acc) (s : State), s.mayWrite t a (0x3C00 + p) 1 v ∧ p < 32 ∧ (probeCfg v).ok v = true ∧
        (s.probe p).active = false) ∧
    (∃ (t mask : Nat) (a : Acc) (s : State), s.mayWrite t a 0x3C80 1 (leBytes 4 mask) ∧ mask < 4294967296 ∧
        (∀ p, p < 32 → bitOf mask p = true → (s.probe p).active = false ∧ ((s.advance t).atOwner a 0x3C80 1 (leBytes 4 mask)).traceReadOpen p =
        false)) ∧
    (∃ (t mask : Nat) (a : Acc) (s : State), s.mayWrite t a 0x3C80 2 (leBytes 4 mask) ∧ mask < 4294967296 ∧
        (∀ p, p < 32 → bitOf mask p = true → (s.probe p).state ≠ 1)) ∧
    (∃ (t p : Nat) (a : Acc) (s : State), s.mayWrite t a 0x3C80 2 (leBytes 4 (2 ^ p)) ∧ p < 32 ∧ (s.probe p).state = 1) ∧
    (∃ (t mask : Nat) (a : Acc) (s : State), s.mayWrite t a 0x3C80 3 (leBytes 4 mask) ∧ mask < 4294967296) ∧
    (∃ (t mask : Nat) (a : Acc) (s : State), s.mayWrite t a 0x3C80 5 (leBytes 4 mask) ∧ mask < 4294967296) :=
  ⟨⟨0, 3, (zeros 12 ++ leBytes 4 100 ++ leBytes 2 1 ++ zeros 14), wHost, wRun, may (by decide +kernel), by decide +kernel⟩,
   ⟨0, 9, wHost, wRun, may (by decide +kernel), by decide +kernel⟩,
   ⟨0, 9, wHost, wRun, may (by decide +kernel), by decide +kernel⟩,
   ⟨0, 3, wHost, (wProbe { state := 1, late := true }), may (by decide +kernel), by decide +kernel⟩,
   ⟨0, 9, wHost, (wProbe { state := 2 }), may (by decide +kernel), by decide +kernel⟩,
   ⟨0, 9, wHost, (wProbe { state := 3, late := true }), may (by decide +kernel), by decide +kernel⟩⟩

end W23

namespace W24

/-- A program with one RETAIN word. -/
def wProg : Program :=
  { code := [0], entry := 0, kInit := [(2, 7)], timers := [], retain := [4], mInit := [(3, 9), (4, 8)], dioOut := 0, stopClear := false,
    retainHash := 77, crc := 5 }
/-- The logic engine in a state. -/
def wLogic (l : Logic) : State := { wRun with logic := l }

theorem witness_LogicWrites :
    (∃ (t : Nat) (a : Acc) (s : State), s.mayWrite t a 0x5000 2 [1] ∧ s.logic.prog = .run ∧ s.acts = true ∧
        s.logic.nextStart ≤ (s.advance t).now) ∧
    (∃ (t : Nat) (a : Acc) (s : State), s.mayWrite t a 0x5000 2 [1] ∧ s.logic.prog = .run ∧
        ((s.advance t).now < s.logic.nextStart ∨ s.acts = false)) ∧
    (∃ (t : Nat) (p : Program) (a : Acc) (s : State), s.mayWrite t a 0x5000 2 [2] ∧ s.logic.prog = .stop ∧ s.logic.loaded = some p ∧
        s.logic.stage.status ≠ 3 ∧ p.retainHash = s.logic.dataHash ∧ Tab.wf 0 s.logic.m = true) ∧
    (∃ (t : Nat) (p : Program) (a : Acc) (s : State), s.mayWrite t a 0x5000 2 [3] ∧ s.logic.prog = .stop ∧ s.logic.loaded = some p ∧
        s.logic.stage.status ≠ 3) ∧
    (∃ (t : Nat) (a : Acc) (s : State), s.mayWrite t a 0x5000 2 [4] ∧ s.logic.stage.status = 1 ∧ (s.logic.prog = .empty ∨ s.logic.prog = .stop) ∧
        ((s.advance t).atOwner a 0x5000 2 [4]).stagingOpen 0x5000 3 = false) ∧
    (∃ (t : Nat) (a : Acc) (s : State), s.mayWrite t a 0x5000 2 [5] ∧ s.logic.prog = .halt) ∧
    (∃ (t : Nat) (v : Octets) (a : Acc) (s : State), s.mayWrite t a 0x5010 1 v ∧ v.length = 4 + 8 * u16At v 0 ∧ u16At v 0 ≠ 0 ∧ u16At v 0 ≤ 64 ∧
        u16At v 2 = 0 ∧ (changesOf (v.drop 4) (u16At v 0)).all Change.ok = true ∧ s.logic.change = none ∧ s.logic.prog = .run) ∧
    (∃ (t : Nat) (v : Octets) (a : Acc) (s : State), s.mayWrite t a 0x5010 1 v ∧ v.length = 4 + 8 * u16At v 0 ∧ u16At v 0 ≠ 0 ∧ u16At v 0 ≤ 64 ∧
        u16At v 2 = 0 ∧ (changesOf (v.drop 4) (u16At v 0)).all Change.ok = true ∧ s.logic.change = none ∧ s.logic.prog ≠ .run) ∧
    (∃ (t w v : Nat) (a : Acc) (s : State), s.mayWrite t a (0x5100 + w / 64) (w % 64 + 1) (leBytes 4 v) ∧ w < 16384 ∧ v < 4294967296 ∧
        s.logic.change = none ∧ s.logic.prog = .run) ∧
    (∃ (t w v : Nat) (a : Acc) (s : State), s.mayWrite t a (0x5100 + w / 64) (w % 64 + 1) (leBytes 4 v) ∧ w < 16384 ∧ v < 4294967296 ∧
        s.logic.change = none ∧ s.logic.prog ≠ .run) ∧
    (∃ (t n v : Nat) (d : Opd) (a : Acc) (s : State), s.mayWrite t a 0x5200 1 (leBytes 4 n ++ leBytes 4 v) ∧ n < 4294967296 ∧ v < 4294967296 ∧
        d = Opd.ofWord (BitVec.ofNat 32 n) ∧ d.plainIn [1, 2, 3] [0, 1] = true ∧ (d.type = 0 → v ≤ 1) ∧
        s.logic.forcesSoon.any (fun f => decide (f.area = d.area) && decide (f.word = d.element.1) && (f.bit.isSome != d.element.2.isSome)) = false ∧
        (s.logic.forcesSoon.length < 256 ∨ s.logic.forcesSoon.any (fun f => f.same d.area d.element.1 d.element.2) = true) ∧ s.logic.prog = .run) ∧
    (∃ (t n v : Nat) (d : Opd) (a : Acc) (s : State), s.mayWrite t a 0x5200 1 (leBytes 4 n ++ leBytes 4 v) ∧ n < 4294967296 ∧ v < 4294967296 ∧
        d = Opd.ofWord (BitVec.ofNat 32 n) ∧ d.plainIn [1, 2, 3] [0, 1] = true ∧ (d.type = 0 → v ≤ 1) ∧
        s.logic.forcesSoon.any (fun f => decide (f.area = d.area) && decide (f.word = d.element.1) && (f.bit.isSome != d.element.2.isSome)) = false ∧
        (s.logic.forcesSoon.length < 256 ∨ s.logic.forcesSoon.any (fun f => f.same d.area d.element.1 d.element.2) = true) ∧ s.logic.prog ≠ .run) ∧
    (∃ (t n : Nat) (d : Opd) (a : Acc) (s : State), s.mayWrite t a 0x5200 2 (leBytes 4 n) ∧ n < 4294967295 ∧ d = Opd.ofWord (BitVec.ofNat 32 n) ∧
        s.logic.prog = .run) ∧
    (∃ (t n : Nat) (d : Opd) (a : Acc) (s : State), s.mayWrite t a 0x5200 2 (leBytes 4 n) ∧ n < 4294967295 ∧ d = Opd.ofWord (BitVec.ofNat 32 n) ∧
        s.logic.prog ≠ .run) ∧
    (∃ (t : Nat) (a : Acc) (s : State), s.mayWrite t a 0x5200 2 (leBytes 4 0xFFFFFFFF) ∧ s.logic.prog = .run) ∧
    (∃ (t : Nat) (a : Acc) (s : State), s.mayWrite t a 0x5200 2 (leBytes 4 0xFFFFFFFF) ∧ s.logic.prog ≠ .run) :=
  ⟨⟨0, wHost, (wLogic { prog := .run }), may (by decide +kernel), by decide +kernel⟩,
   ⟨0, wHost, (wLogic { prog := .run, nextStart := 50 }), may (by decide +kernel), by decide +kernel⟩,
   ⟨0, wProg, wHost,
      (wLogic { prog := .stop, loaded := some wProg, dataHash := 77, m := [(3, 1), (4, 2), (6, 3)], k := [(1, 4)], forces := [{ area := 1, word := 0, bit := none, value := 0 }] }),
      may (by decide +kernel), by decide +kernel⟩,
   ⟨0, wProg, wHost, (wLogic { prog := .stop, loaded := some wProg, m := [(3, 1)], k := [(1, 4)], c := [(1, { count := 3 })], q := [(1, 1)] }),
      may (by decide +kernel), by decide +kernel⟩,
   ⟨0, wHost, (wLogic { prog := .stop, stage := { status := 1, image := zeros 8 ++ leBytes 4 (crc32c (zeros 8)) } }), may (by decide +kernel),
      by decide +kernel⟩,
   ⟨0, wHost, ({ wLogic { prog := .halt } with dev := { state := .safeHold, hold := 32 } }), may (by decide +kernel), by decide +kernel⟩,
   ⟨0, (leBytes 2 1 ++ zeros 2 ++ leBytes 4 0x41000005 ++ leBytes 4 9), wHost, (wLogic { prog := .run }), may (by decide +kernel),
      by decide +kernel⟩,
   ⟨0, (leBytes 2 1 ++ zeros 2 ++ leBytes 4 0x41000005 ++ leBytes 4 9), wHost, (wLogic { prog := .stop }), may (by decide +kernel),
      by decide +kernel⟩,
   ⟨0, 130, 99, wHost, (wLogic { prog := .run }), may (by decide +kernel), by decide +kernel⟩,
   ⟨0, 130, 99, wHost, (wLogic { prog := .stop, k := [(3, 3)] }), may (by decide +kernel), by decide +kernel⟩,
   ⟨0, 0x11000023, 99, (Opd.ofWord (BitVec.ofNat 32 0x11000023)), wHost, (wLogic { prog := .run }), may (by decide +kernel), by decide +kernel⟩,
   ⟨0, 0x11000023, 99, (Opd.ofWord (BitVec.ofNat 32 0x11000023)), wHost, (wLogic { prog := .stop }), may (by decide +kernel), by decide +kernel⟩,
   ⟨0, 0x11000023, (Opd.ofWord (BitVec.ofNat 32 0x11000023)), wHost, (wLogic { prog := .run }), may (by decide +kernel), by decide +kernel⟩,
   ⟨0, 0x11000023, (Opd.ofWord (BitVec.ofNat 32 0x11000023)), wHost,
      (wLogic { prog := .halt, forces := [{ area := 1, word := 35, bit := none, value := 4 }, { area := 1, word := 5, bit := none, value := 4 }] }),
      may (by decide +kernel), by decide +kernel⟩,
   ⟨0, wHost, (wLogic { prog := .run }), may (by decide +kernel), by decide +kernel⟩,
   ⟨0, wHost, (wLogic { prog := .stop, forces := [{ area := 1, word := 35, bit := none, value := 4 }] }), may (by decide +kernel),
      by decide +kernel⟩⟩

end W24

namespace W25

/-- A session of the service role under which protected entries are written. -/
def wKeyed (s : State) : State :=
  { s with net := { s.net with sess := Tab.insert s.net.sess 3 { state := .opened, peer := .udp 0 0x0A000005 47121, role := 2, key := zeros 32, counter := 4, tokens := 64000000000 } } }
/-- An access over that session, sealed. -/
def wSeal (idx sub : Nat) (v : Octets) : Acc :=
  { src := .udp 0 0x0A000005 47121, session := 3, tag := 7,
    crit := some { counter := 5, tag := trunc96 (hmac (zeros 32) (critBlock 2 3 7 1 idx sub v.length 5 v)) } }
/-- Connection points over a device in RUN. -/
def wCp (l : Tab CpMeter) : State := { wRun with metr := { wRun.metr with cps := l } }
/-- The metering island in a state. -/
def wMetr (m : Metr) : State := { wRun with metr := m }

theorem witness_MeterWrites :
    (∃ (t c : Nat) (a : Acc) (s : State), s.mayWrite t a 0x4880 3 (leBytes 1 c) ∧ c < 4 ∧ s.metr.wave.state ≠ 1 ∧ s.metr.wave.state ≠ 2 ∧
        ((s.advance t).atOwner a 0x4880 3 (leBytes 1 c)).readOpen 0x4880 5 false = false) ∧
    (∃ (t c : Nat) (a : Acc) (s : State), s.mayWrite t a 0x4880 3 (leBytes 1 (16 + c)) ∧ c < 4 ∧ s.metr.wave.state ≠ 1 ∧ s.metr.wave.state ≠ 2 ∧
        ((s.advance t).atOwner a 0x4880 3 (leBytes 1 (16 + c))).readOpen 0x4880 5 false = false) ∧
    (∃ (t c : Nat) (a : Acc) (s : State), s.mayWrite t a (0x4810 + c) 0x1E (leBytes 4 0xC1EA) ∧ c < 4 ∧ cfgPhases (s.cp c).cfg ≠ 0) ∧
    (∃ (t c : Nat) (a : Acc) (s : State), s.mayWrite t a (0x4810 + c) 0x1E (leBytes 4 0xC1EA) ∧ c < 4 ∧ cfgPhases (s.cp c).cfg = 0) ∧
    (∃ (t c sub : Nat) (v : Octets) (a : Acc) (s : State), s.mayWrite t a (0x4800 + c) sub v ∧ c < 4 ∧ 1 ≤ sub ∧ sub ≤ 0x0B ∧
        (sub = 1 → leNat v < 16) ∧ (sub = 2 → leNat v = 50 ∨ leNat v = 60) ∧ (sub = 5 → v.length = 27 ∧ vScaleOk v = true) ∧
        (6 ≤ sub ∧ sub ≤ 9 → v.length = 108 ∧ iInputOk v = true) ∧ (sub = 10 → v.length = 8 ∧ threshOk v = true)) ∧
    (∃ (t j : Nat) (v : Octets) (a : Acc) (s : State), s.mayWrite t a 0x4820 (j + 1) v ∧ j < 8 ∧ v.length = 8 ∧ poCfgOk v = true) ∧
    (∃ (t c k : Nat) (a : Acc) (s : State), s.mayWrite t a (0x4800 + c) 0x30 (leBytes 1 k) ∧ c < 4 ∧ k ≤ 7 ∧ s.modulatorsGone = false ∧ k < 7 ∧
        s.metr.calQueue.length < 30) ∧
    (∃ (t c k : Nat) (a : Acc) (s : State), s.mayWrite t a (0x4800 + c) 0x30 (leBytes 1 k) ∧ c < 4 ∧ k ≤ 7 ∧ s.modulatorsGone = false ∧ k = 7 ∧
        s.metr.calQueue.length ≤ 23) ∧
    (∃ (t c k : Nat) (a : Acc) (s : State) (r : _), s.mayWrite t a (0x4800 + c) 0x31 (leBytes 1 k) ∧ c < 4 ∧ k < 7 ∧ s.metr.cal = some r ∧
        r.input = 7 * c + k) ∧
    (∃ (t c k : Nat) (a : Acc) (s : State), s.mayWrite t a (0x4800 + c) 0x31 (leBytes 1 k) ∧ c < 4 ∧ k < 7 ∧ s.metr.cal = none ∧
        s.metr.calQueue.contains (7 * c + k) = true) ∧
    (∃ (t c k : Nat) (a : Acc) (s : State), s.mayWrite t a (0x4800 + c) 0x31 (leBytes 1 k) ∧ c < 4 ∧ k < 7 ∧ s.metr.cal = none ∧
        s.metr.calQueue.contains (7 * c + k) = false ∧ (s.calSt (7 * c + k)).outcome = 1) ∧
    (∃ (t c : Nat) (a : Acc) (s : State), s.mayWrite t a (0x4800 + c) 0x33 [1] ∧ c < 4) ∧
    (∃ (t i m d o : Nat) (a : Acc) (s : State), s.mayWrite t a (0x4830 + i) 1 [m, d, o, 0] ∧ i < 32 ∧ m ≤ 3 ∧ 1 ≤ d ∧ d ≤ 50 ∧ o ≤ 7 ∧
        (bitOf o 1 = true → i % 2 = 0 ∧ s.piMode (i + 1) = 3)) ∧
    (∃ (t i : Nat) (a : Acc) (s : State), s.mayWrite t a (0x4830 + i) 4 (leBytes 4 0xC1EA) ∧ i < 32) ∧
    (∃ (t c : Nat) (a : Acc) (s : State), s.mayWrite t a (0x4200 + c) 6 (leBytes 4 0xC1EA) ∧ c < 512) ∧
    (∃ (t : Nat) (a : Acc) (s : State), s.mayWrite t a 0x48F0 1 [1] ∧ (∀ l, s.heat.cs.lastLatch = some l → l + 5000000 ≤ (s.advance t).clk.dev)) ∧
    (∃ (t time : Nat) (a : Acc) (s : State), s.mayWrite t a 0x48F0 2 (leBytes 8 time) ∧ time ≠ 0 ∧ time < 18446744073709551616 ∧
        s.csPending = none ∧ (s.advance t).clk.dev + 10000000 ≤ time ∧
        s.heat.cs.reqs.any (fun r => near5 r.time time && decide (r.time ≠ time)) = false ∧ (s.advance t).boundaryNear time = false ∧
        s.nat 0x48F0 3 ≠ 1) ∧
    (∃ (t time : Nat) (a : Acc) (s : State), s.mayWrite t a 0x48F0 2 (leBytes 8 time) ∧ time ≠ 0 ∧ time < 18446744073709551616 ∧
        s.csPending = none ∧ (s.advance t).clk.dev + 10000000 ≤ time ∧
        s.heat.cs.reqs.any (fun r => near5 r.time time && decide (r.time ≠ time)) = false ∧ (s.advance t).boundaryNear time = false ∧
        s.nat 0x48F0 3 = 1 ∧ s.pos = 0) ∧
    (∃ (t : Nat) (a : Acc) (s : State), s.mayWrite t a 0x48F0 2 (leBytes 8 0)) :=
  ⟨⟨0, 2, wHost, wRun, may (by decide +kernel), by decide +kernel⟩,
   ⟨0, 2, wHost, wRun, may (by decide +kernel), by decide +kernel⟩,
   ⟨0, 2, (wSeal 0x4812 0x1E (leBytes 4 0xC1EA)), (wKeyed (wCp [(2, { cfg := [(1, .num 7)] })])), may (by decide +kernel), by decide +kernel⟩,
   ⟨0, 2, (wSeal 0x4812 0x1E (leBytes 4 0xC1EA)), (wKeyed (wMetr { regs := [(57, 5), (90, 3)] })), may (by decide +kernel), by decide +kernel⟩,
   ⟨0, 2, 6, ([1, 0, 0, 0] ++ leBytes 4 400 ++ [244] ++ zeros 99), wHost, wRun, may (by decide +kernel), by decide +kernel⟩,
   ⟨0, 3, ([2, 1, 255, 4] ++ leBytes 4 1000), wHost, wRun, may (by decide +kernel), by decide +kernel⟩,
   ⟨0, 2, 4, wHost, wRun, may (by decide +kernel), by decide +kernel⟩,
   ⟨0, 2, 7, wHost, wRun, may (by decide +kernel), by decide +kernel⟩,
   ⟨0, 2, 4, wHost, (wMetr { cal := some { input := 18, step := 1, t0 := 0, old := 9, spare := 29, range := 0 } }),
      ({ input := 18, step := 1, t0 := 0, old := 9, spare := 29, range := 0 } : CalRun), may (by decide +kernel), by decide +kernel⟩,
   ⟨0, 2, 4, wHost, (wMetr { calQueue := [3, 18, 4] }), may (by decide +kernel), by decide +kernel⟩,
   ⟨0, 2, 4, wHost, (wMetr { calStatus := [(18, { outcome := 1 })] }), may (by decide +kernel), by decide +kernel⟩,
   ⟨0, 2, wHost, (wMetr { calStatus := [(18, { outcome := 1, late := true }), (21, { late := true })] }), may (by decide +kernel),
      by decide +kernel⟩,
   ⟨0, 6, 3, 10, 2, wHost, ({ wRun with dict := { wRun.dict with vals := [(0x483701, .oct [3, 1, 0, 0])] } }), may (by decide +kernel),
      by decide +kernel⟩,
   ⟨0, 6, (wSeal 0x4836 4 (leBytes 4 0xC1EA)),
      (wKeyed { wRun with heat := { wRun.heat with pulses := [(6, { count := 12 }), (7, { count := 3 })] } }), may (by decide +kernel),
      by decide +kernel⟩,
   ⟨0, 2, (wSeal 0x4202 6 (leBytes 4 0xC1EA)),
      (wKeyed { wRun with heat := { wRun.heat with chans := [(2, { regs := { ePos := 4 } }), (7, { regs := { vFwd := 4 } })] } }),
      may (by decide +kernel), by decide +kernel⟩,
   ⟨0, wHost, wRun, may (by decide +kernel), by decide +kernel⟩,
   ⟨0, 50000000, wHost, wRun, may (by decide +kernel), by decide +kernel⟩,
   ⟨0, 50000000, wHost, ({ wRun with dict := { wRun.dict with vals := [(0x48F003, .num 1)] } }), may (by decide +kernel), by decide +kernel⟩,
   ⟨0, wHost,
      ({ wRun with heat := { wRun.heat with cs := { reqs := [{ time := 9, cause := 2, cascade := 0 }, { time := 9, cause := 1, cascade := 0 }] } } }),
      may (by decide +kernel)⟩⟩

end W25

namespace W26

/-- A session of the service role under which protected entries are written. -/
def wKeyed (s : State) : State :=
  { s with net := { s.net with sess := Tab.insert s.net.sess 3 { state := .opened, peer := .udp 0 0x0A000005 47121, role := 2, slot := 9, key := zeros 32, counter := 4, tokens := 64000000000 }, keys := [(9, some { key := zeros 32, role := 2, usage := 2, partner := 0 })] } }
/-- An access over that session, sealed. -/
def wSeal (idx sub : Nat) (v : Octets) : Acc :=
  { src := .udp 0 0x0A000005 47121, session := 3, tag := 7,
    crit := some { counter := 5, tag := trunc96 (hmac (zeros 32) (critBlock 2 3 7 1 idx sub v.length 5 v)) } }
/-- CAN port 2 in a state. -/
def wPort (v : CanPort) : State := { wRun with net := { wRun.net with ports := [(2, v)] } }

theorem witness_PortAndKeyWrites :
    (∃ (t p : Nat) (a : Acc) (s : State), s.mayWrite t a (0x1200 + p) 1 [1] ∧ p < 8 ∧ s.timingOk p = true ∧ (s.port p).lostCtl = false ∧
        (s.port p).state = .off ∧ (s.port p).err = 0) ∧
    (∃ (t p : Nat) (a : Acc) (s : State), s.mayWrite t a (0x1200 + p) 1 [0] ∧ p < 8) ∧
    (∃ (t p : Nat) (a : Acc) (s : State), s.mayWrite t a (0x5800 + p) 9 [1] ∧ p < 8 ∧ (s.port p).state = .busOff ∧ (s.port p).busoffWait = true) ∧
    (∃ (t p b w id : Nat) (d v : Octets) (a : Acc) (s : State), v = leBytes 4 w ++ leBytes 4 d.length ++ d ∧
        s.mayWrite t a (0x5800 + p) (0x0B + b) v ∧ p < 8 ∧ b < 4 ∧ w < 4294967296 ∧ d.length < 256 ∧ canLenOk (bitOf w 30) d.length = true ∧
        id = (if bitOf w 31 then w % 536870912 else w % 2048) ∧
        (bitOf w 31 = true → classOf id ≠ 1 ∧ classOf id ≠ 2 ∧ classOf id ≠ 3 ∧ classOf id ≠ 6) ∧ (bitOf w 31 = false → w % 536870912 < 2048) ∧
        (bitOf w 29 = true → bitOf w 30 = true) ∧ ((s.port p).buf b).state = 0 ∧ (s.port p).state = .normal) ∧
    (∃ (t p mask : Nat) (a : Acc) (s : State), s.mayWrite t a (0x5800 + p) 0x0F (leBytes 1 mask) ∧ p < 8 ∧ mask < 256) ∧
    (∃ (t p : Nat) (a : Acc) (s : State), s.mayWrite t a (0x5800 + p) 8 [1] ∧ p < 8) ∧
    (∃ (t p : Nat) (a : Acc) (s : State), s.mayWrite t a (0x5800 + p) 0x0A [1] ∧ p < 8) ∧
    (∃ (t p k : Nat) (v : Octets) (a : Acc) (s : State), s.mayWrite t a (0x5840 + p) (k + 1) v ∧ p < 8 ∧ k < 64 ∧ filterOk v = true) ∧
    (∃ (t p : Nat) (v : Octets) (a : Acc) (s : State), s.mayWrite t a (0x5840 + p) 0x41 v ∧ p < 8 ∧ filtersOk v 64 = true) ∧
    (∃ (t p : Nat) (a : Acc) (s : State), s.mayWrite t a 0x1208 2 (leBytes 1 p) ∧ p < 8 ∧ s.dev.state = .service ∧ s.spareFree = true) ∧
    (∃ (t n : Nat) (a : Acc) (s : State), s.mayWrite t a (0x1400 + n) 0x0B (leBytes 4 0xC105) ∧ n < 256) ∧
    (∃ (t k : Nat) (v : Octets) (a : Acc) (s : State), s.mayWrite t a (0x1800 + k) 1 v ∧ k < 64 ∧ v.length = 48) ∧
    (∃ (t k : Nat) (a : Acc) (s : State), s.mayWrite t a (0x1800 + k) 2 (leBytes 4 0xE2A5) ∧ k < 64) :=
  ⟨⟨0, 2, wHost, wRun, may (by decide +kernel), by decide +kernel⟩,
   ⟨0, 2, wHost,
      (wPort { state := .normal, bufs := [(2, { state := 1, frame := some { ext := false, fd := false, brs := false, id := 5, data := [] } })] }),
      may (by decide +kernel), by decide +kernel⟩,
   ⟨0, 2, wHost, (wPort { state := .busOff, busoffWait := true }), may (by decide +kernel), by decide +kernel⟩,
   ⟨0, 2, 1, 0x123, 0x123, ([1, 2, 3]), (leBytes 4 0x123 ++ leBytes 4 3 ++ [1, 2, 3]), wHost, (wPort { state := .normal }), rfl,
      may (by decide +kernel), by decide +kernel⟩,
   ⟨0, 2, 3, wHost,
      (wPort { state := .normal, bufs := [(0, { state := 1, frame := some { ext := false, fd := false, brs := false, id := 5, data := [] } }), (1, { state := 2, frame := some { ext := false, fd := false, brs := false, id := 5, data := [] } })] }),
      may (by decide +kernel), by decide +kernel⟩,
   ⟨0, 2, wHost, (wPort { suspended := [4] }), may (by decide +kernel), by decide +kernel⟩,
   ⟨0, 2, wHost, (wPort { dupId := true, bufs := [(1, { late := true })] }), may (by decide +kernel), by decide +kernel⟩,
   ⟨0, 2, 5, (zeros 12), wHost, wRun, may (by decide +kernel), by decide +kernel⟩,
   ⟨0, 2, (zeros 768), wHost, wRun, may (by decide +kernel), by decide +kernel⟩,
   ⟨0, 2, wHost, (wIn .service), may (by decide +kernel), by decide +kernel⟩,
   ⟨0, 3, wHost, (wKeyed wRun), may (by decide +kernel), by decide +kernel⟩,
   ⟨0, 5, (zeros 48), wHost, wRun, may (by decide +kernel), by decide +kernel⟩,
   ⟨0, 5, (wSeal 0x1805 2 (leBytes 4 0xE2A5)), (wKeyed wRun), may (by decide +kernel), by decide +kernel⟩⟩

end W26

namespace W27

/-- CAN port 2 in a state. -/
def wPort (v : CanPort) : State := { wRun with net := { wRun.net with ports := [(2, v)] } }
/-- A message of lane B. -/
def wMsg : RedMsg :=
  { type := 1, lane := 1, role := 0, flags := 5, boot := 3, cycle := 9, req := 0, grant := 0, grantTo := 255, exclude := 0, modelCrc := 0,
    progCrc := 0, fw := 0, tR := 1000, l := 32, g := 4, tag := zeros 8 }
/-- Lane A of a duplex position, and what it knows of lane B. -/
def wDuplex (v : Peer16) : State :=
  { wRun with power := { wRun.power with straps := { wRun.power.straps with cfg := 1 } }
              lease := { wRun.lease with cfg := 1, peers := [(1, v)] } }

theorem witness_StepRunsTheFrontCommand :
    (∃ (c : Instr) (r : List Instr) (s : State), s.pending = c :: r) ∧
    (∃ (s : State), s.pending = []) :=
  ⟨⟨(.readStatus 5), [], ({ wRun with pending := [.readStatus 5] }), by decide +kernel⟩,
   ⟨wRun, by decide +kernel⟩⟩

theorem witness_EveryCommandCompletes :
    (∃ (c : Instr), c.unitsOk = true) ∧
    (∃ (c : Instr), c.unitsOk = false) :=
  ⟨⟨(.eventGap 0 3), by decide +kernel⟩,
   ⟨(.eventGap 0 30), by decide +kernel⟩⟩

theorem witness_StepKeepsSafe :
    (∃ (n : Nat) (s : State), s.safe n) :=
  ⟨0, ({ wRun with pending := [.eventGap 0 3, .readStatus 1] }), by decide +kernel⟩

theorem witness_IdentificationRegister :
    (∃ (w : Nat) (s : State), w = u16At (s.readEntry .host 0 0x1000 3).2 0 ∧ s.power.supplies = true) :=
  ⟨(u16At (wRun.readEntry .host 0 0x1000 3).2 0), wRun, rfl, by decide +kernel⟩

theorem witness_ManualRecovery :
    (∃ (t p : Nat) (s : State), p < 8 ∧ s.live .comm t ∧ (s.port p).state = .normal ∧ (s.port p).latched = none ∧ (s.port p).tecErr = 248 ∧
        bitOf (s.nat (0x1200 + p) 5) 2 = true) ∧
    (∃ (t p : Nat) (s : State), p < 8 ∧ s.live .comm t ∧ (s.port p).state = .busOff ∧ (s.port p).recovering = false) ∧
    (∃ (t p : Nat) (a : Acc) (s : State), s.mayWrite t a (0x5800 + p) 9 [1] ∧ p < 8 ∧ (s.port p).state = .busOff ∧ (s.port p).busoffWait = true) ∧
    (∃ (t p : Nat) (a : Acc) (s : State), s.mayWrite t a (0x5800 + p) 9 [1] ∧ p < 8 ∧
        ((s.port p).state ≠ .busOff ∨ (s.port p).busoffWait = false)) :=
  ⟨⟨0, 2, ({ wPort { state := .normal, tecErr := 248 } with dict := { wRun.dict with vals := [(0x120205, .num 4)] } }), by decide +kernel⟩,
   ⟨0, 2, (wPort { state := .busOff }), by decide +kernel⟩,
   ⟨0, 2, wHost, (wPort { state := .busOff, busoffWait := true }), may (by decide +kernel), by decide +kernel⟩,
   ⟨0, 2, wHost, (wPort { state := .busOff, recovering := true }), may (by decide +kernel), by decide +kernel⟩⟩

theorem lastOnly (n : RedMsg) (r : List RedMsg)
    (h : ((wDuplex { last := [{ wMsg with cycle := 8 }] }).peer wMsg.lane).last = n :: r) :
    (n.boot < wMsg.boot ∨ n.boot = wMsg.boot ∧ n.cycle ≤ wMsg.cycle) ∧ wMsg ∉ n :: r := by
  cases (show [{ wMsg with cycle := 8 }] = n :: r from h)
  decide +kernel

theorem witness_MessagesAccepted :
    (∃ (t : Nat) (m : RedMsg) (s : State), s.live .house t ∧ s.up = true ∧ m.type = 1 ∧ s.mates.contains m.lane = false) ∧
    (∃ (t : Nat) (m : RedMsg) (s : State), s.live .house t ∧ s.up = true ∧ m.type = 1 ∧ s.mates.contains m.lane = true ∧ s.redTagOk m = false ∧
        s.lostOf .house = 0 ∧ (s.advance t).hasRoom (.island Island.house.num) = true) ∧
    (∃ (t : Nat) (m : RedMsg) (s : State) (n : RedMsg) (r : List RedMsg), s.live .house t ∧ s.up = true ∧ m.type = 1 ∧
        s.mates.contains m.lane = true ∧ s.redTagOk m = true ∧ (s.peer m.lane).last = n :: r ∧
        (m.boot < n.boot ∨ m.boot = n.boot ∧ m.cycle < n.cycle ∨ m ∈ n :: r)) ∧
    (∃ (t : Nat) (m : RedMsg) (s : State),
        (∀ n r, (s.peer m.lane).last = n :: r → (n.boot < m.boot ∨ n.boot = m.boot ∧ n.cycle ≤ m.cycle) ∧ m ∉ n :: r) ∧ s.live .house t ∧
        s.up = true ∧ m.type = 1 ∧ s.mates.contains m.lane = true ∧ s.redTagOk m = true) :=
  ⟨⟨0, ({ wMsg with lane := 0 }), (wDuplex {}), by decide +kernel⟩,
   ⟨0, wMsg, ({ wDuplex {} with dict := { wRun.dict with vals := [(0x640006, .num 4)] } }), by decide +kernel⟩,
   ⟨0, wMsg, (wDuplex { last := [{ wMsg with cycle := 10 }] }), ({ wMsg with cycle := 10 }), [], by decide +kernel⟩,
   ⟨0, wMsg, (wDuplex { last := [{ wMsg with cycle := 8 }] }), lastOnly, by decide +kernel⟩⟩

end W27

end Tests
end Sys2Proof
end

section
/-! SUPPORT. What every command of the device keeps: bits set and cleared, the operations that leave the queue, the clock, the device
registers and the power registers alone, and what the operations on states and causes do to the device registers. -/

namespace Sys2Proof
namespace Machine

/-! ## Bits -/

@[simp] theorem bitOf_putBit_true_self (v i : Nat) : bitOf (putBit v i true) i = true := by
  simp [bitOf, putBit, Nat.testBit_or, Nat.testBit_two_pow_self]

@[simp] theorem bitOf_putBit_false_self (v i : Nat) : bitOf (putBit v i false) i = false := by
  cases h : v.testBit i with
  | false => simp [bitOf, putBit, Nat.and_two_pow, h]
  | true =>
    have hsum : 2 ^ i + (v - 2 ^ i) = v := Nat.add_sub_cancel' (Nat.ge_two_pow_of_testBit h)
    have hflip := Nat.testBit_two_pow_add_eq (v - 2 ^ i) i
    rw [hsum, h] at hflip
    simpa [bitOf, putBit, Nat.and_two_pow, h] using hflip

theorem bitOf_putBit_true_of (v i j : Nat) (h : bitOf v i = true) : bitOf (putBit v j true) i = true := by
  simp only [bitOf] at h
  simp [bitOf, putBit, Nat.testBit_or, h]

theorem mem_insRising (x : Nat) (l : List Nat) : x ∈ insRising x l := by
  induction l with
  | nil => simp [insRising]
  | cons y r ih =>
    simp only [insRising]
    split
    · simp
    · split
      · next h => simp [h]
      · exact List.mem_cons_of_mem _ ih

/-! ## The parts that most operations keep -/

/-- What every step of a fold keeps, in the sense of a reflexive and transitive relation, the fold keeps. -/
theorem foldl_of_step {α : Type} {R : State → State → Prop} {f : State → α → State} (hr : ∀ s, R s s)
    (ht : ∀ {s u w}, R s u → R u w → R s w) (h : ∀ s x, R s (f s x)) (l : List α) (s : State) : R s (l.foldl f s) := by
  induction l generalizing s with
  | nil => exact hr s
  | cons x r ih => exact ht (h s x) (ih (f s x))

/-- The waiting commands, the clock, the device registers and the power registers of `u` are those of `s`. -/
structure KeepsCore (s u : State) : Prop where
  pending : u.pending = s.pending
  clk : u.clk = s.clk
  dev : u.dev = s.dev
  power : u.power = s.power

namespace KeepsCore

theorem refl (s : State) : KeepsCore s s := ⟨rfl, rfl, rfl, rfl⟩

theorem trans {s u w : State} (h : KeepsCore s u) (k : KeepsCore u w) : KeepsCore s w :=
  ⟨k.pending.trans h.pending, k.clk.trans h.clk, k.dev.trans h.dev, k.power.trans h.power⟩

theorem foldl {α : Type} {f : State → α → State} (h : ∀ s x, KeepsCore s (f s x)) (l : List α) (s : State) :
    KeepsCore s (l.foldl f s) :=
  foldl_of_step refl trans h l s

theorem ite {s u v : State} {p : Prop} [Decidable p] (hu : KeepsCore s u) (hv : KeepsCore s v) :
    KeepsCore s (if p then u else v) := by
  split
  · exact hu
  · exact hv

end KeepsCore

theorem State.post_keepsCore (s : State) (i : Island) (c u : Nat) (a : List EvArg) : KeepsCore s (s.post i c u a) :=
  ⟨s.post_pending i c u a, s.post_clk i c u a, s.post_dev i c u a, s.post_power i c u a⟩

theorem State.postE_keepsCore (s : State) (i : Island) (c u : Nat) (a : List EvArg) (e : EvEdge) : KeepsCore s (s.postE i c u a e) :=
  ⟨s.postE_pending i c u a e, s.postE_clk i c u a e, s.postE_dev i c u a e, s.postE_power i c u a e⟩

theorem State.modDisp_keepsCore (s : State) (f : Disp → Disp) : KeepsCore s (s.modDisp f) := ⟨rfl, rfl, rfl, rfl⟩
theorem State.modLoam_keepsCore (s : State) (f : Loam → Loam) : KeepsCore s (s.modLoam f) := ⟨rfl, rfl, rfl, rfl⟩
theorem State.modHealth_keepsCore (s : State) (f : Health → Health) : KeepsCore s (s.modHealth f) := ⟨rfl, rfl, rfl, rfl⟩
theorem State.modJob_keepsCore (s : State) (c : Nat) (f : Job → Job) : KeepsCore s (s.modJob c f) := ⟨rfl, rfl, rfl, rfl⟩
theorem State.modChan_keepsCore (s : State) (c : Nat) (f : Chan → Chan) : KeepsCore s (s.modChan c f) := ⟨rfl, rfl, rfl, rfl⟩
theorem State.modPort_keepsCore (s : State) (p : Nat) (f : CanPort → CanPort) : KeepsCore s (s.modPort p f) := ⟨rfl, rfl, rfl, rfl⟩
theorem State.metr_keepsCore (s : State) (m : Metr) : KeepsCore s { s with metr := m } := ⟨rfl, rfl, rfl, rfl⟩
theorem State.sync_keepsCore (s : State) (m : Sync) : KeepsCore s { s with sync := m } := ⟨rfl, rfl, rfl, rfl⟩

/-! ### Loops and channels -/

theorem State.setLoop_keepsCore (s : State) (n : Nat) (l : Loop) : KeepsCore s (s.setLoop n l) := ⟨rfl, rfl, rfl, rfl⟩

theorem State.loopOpen_keepsCore (s : State) (n : Nat) : KeepsCore s (s.loopOpen n) := ⟨rfl, rfl, rfl, rfl⟩

theorem State.loopClose_keepsCore (s : State) (n : Nat) : KeepsCore s (s.loopClose n) := State.setLoop_keepsCore ..

theorem State.forceTrack_keepsCore (s : State) (n : Nat) : KeepsCore s (s.forceTrack n) :=
  .ite (s.setLoop_keepsCore ..) (.refl s)

/-- The loops hold as the device enters SAFE_HOLD or SERVICE; the device itself stays (R226). -/
theorem State.ctrlHold_keepsCore (s : State) : KeepsCore s s.ctrlHold :=
  .foldl (fun s _ => .ite (.refl s) (s.setLoop_keepsCore ..)) _ s

theorem State.leaveHold3_keepsCore (s : State) : KeepsCore s s.leaveHold3 :=
  .foldl (fun s _ => .ite (.ite (s.loopClose_keepsCore _) (s.loopOpen_keepsCore _)) (.refl s)) _ s

/-- The loops leave their holds as the device leaves SAFE_HOLD; the device itself stays (R226, R234). -/
theorem State.ctrlRelease_keepsCore (s : State) : KeepsCore s s.ctrlRelease :=
  s.leaveHold3_keepsCore.trans (.foldl (fun t _ => .ite (t.forceTrack_keepsCore _) (.refl t)) _ _)

theorem State.setSpWord_keepsCore (s : State) (c w : Nat) (raw sc : Int) : KeepsCore s (s.setSpWord c w raw sc) :=
  .ite (.refl s) ⟨rfl, rfl, rfl, rfl⟩

theorem State.planWord_keepsCore (s : State) (c w : Nat) (sc : Int) (q : Rat) : KeepsCore s (s.planWord c w sc q) := by
  unfold State.planWord
  exact (s.setSpWord_keepsCore c w _ _).trans (State.modChan_keepsCore ..)

theorem State.deliverChan_keepsCore (s : State) (p : Plan) (k c : Nat) : KeepsCore s (s.deliverChan p k c) := by
  unfold State.deliverChan
  extract_lets r
  split
  · exact (s.planWord_keepsCore ..).trans (State.planWord_keepsCore ..)
  · exact .ite (s.planWord_keepsCore ..) (s.planWord_keepsCore ..)
  · exact .foldl (fun s _ => s.planWord_keepsCore ..) _ s
  · exact .ite (s.planWord_keepsCore ..) (.refl s)
  · exact .ite (s.planWord_keepsCore ..) (.refl s)
  · exact .refl s

/-- A step of the plan is delivered to the channels alone (R173). -/
theorem State.deliver_keepsCore (s : State) : KeepsCore s s.deliver :=
  .ite (.refl s) ((s.modDisp_keepsCore _).trans (.foldl (fun s _ => s.deliverChan_keepsCore ..) _ _))

/-! ### Saves -/

theorem State.pqEnd_keepsCore (s : State) (c k now : Nat) (b : Bool) : KeepsCore s (s.pqEnd c k now b) :=
  (((s.metr_keepsCore _).trans (State.metr_keepsCore ..)).trans (State.metr_keepsCore ..)).trans (State.postE_keepsCore ..)

theorem State.pqTruncate_keepsCore (s : State) : KeepsCore s s.pqTruncate :=
  .foldl (fun s _ => .foldl (fun s _ => .ite (s.pqEnd_keepsCore ..) (.refl s)) _ s) _ s

theorem State.yieldClass_keepsCore (s : State) (c : Nat) : KeepsCore s (s.yieldClass c) :=
  .ite (s.modLoam_keepsCore _) (s.modLoam_keepsCore _)

theorem State.stopJob_keepsCore (s : State) (c : Nat) (r : JobEnd) : KeepsCore s (s.stopJob c r) :=
  .ite (s.modJob_keepsCore c _) ((s.modJob_keepsCore c _).trans (State.yieldClass_keepsCore ..))

theorem State.dropOwner_keepsCore (s : State) (c : Nat) : KeepsCore s (s.dropOwner c) := by
  unfold State.dropOwner
  split <;> exact ⟨rfl, rfl, rfl, rfl⟩

theorem State.abortJob_keepsCore (s : State) (c : Nat) : KeepsCore s (s.abortJob c) :=
  .ite ((s.stopJob_keepsCore ..).trans (State.dropOwner_keepsCore ..)) (.refl s)

/-- The power registers as a save starts (R542): its trigger, what follows it, device time as its t₀. -/
def Power.saveBegun (p : Power) (trigger then_ dev raw : Nat) (h : Shadow) : Power :=
  { p with saving := true, saved := false, saveTrigger := trigger, saveThen := then_, saveT0 := dev, saveRaw := raw,
           saveLatch := some h, saveRecords := 0, saveDur := 0, saveLoops := none, jobsHeld := true }

/-- What a save ends before it writes its first record: power-quality events and the jobs of Loam (R542). -/
def State.saveQuiet (s : State) : State := (((s.pqTruncate.abortJob 0).abortJob 1).abortJob 2).abortJob 3

theorem State.saveQuiet_keepsCore (s : State) : KeepsCore s s.saveQuiet := by
  unfold State.saveQuiet
  exact (((s.pqTruncate_keepsCore.trans (State.abortJob_keepsCore _ 0)).trans (State.abortJob_keepsCore _ 1)).trans
    (State.abortJob_keepsCore _ 2)).trans (State.abortJob_keepsCore _ 3)

/-- A save starts with what it ends, and then latches its registers. -/
theorem State.saveStart_eq (s : State) (trigger then_ : Nat) :
    s.saveStart trigger then_ = { s.saveQuiet with
      power := s.saveQuiet.power.saveBegun trigger then_ s.saveQuiet.clk.dev s.saveQuiet.clk.raw
        (s.latchShadow s.heat.cs.epoch 0 s.clk.dev 2) } := by
  simp only [State.saveStart, State.modPower_eq, State.saveQuiet, Power.saveBegun, State.now]

theorem State.saveStart_pending (s : State) (trigger then_ : Nat) : (s.saveStart trigger then_).pending = s.pending := by
  simp only [State.saveStart_eq, s.saveQuiet_keepsCore.pending]

theorem State.saveStart_clk (s : State) (trigger then_ : Nat) : (s.saveStart trigger then_).clk = s.clk := by
  simp only [State.saveStart_eq, s.saveQuiet_keepsCore.clk]

theorem State.saveStart_dev (s : State) (trigger then_ : Nat) : (s.saveStart trigger then_).dev = s.dev := by
  simp only [State.saveStart_eq, s.saveQuiet_keepsCore.dev]

theorem State.saveStart_power (s : State) (trigger then_ : Nat) :
    (s.saveStart trigger then_).power =
      s.power.saveBegun trigger then_ s.clk.dev s.clk.raw (s.latchShadow s.heat.cs.epoch 0 s.clk.dev 2) := by
  rw [State.saveStart_eq, s.saveQuiet_keepsCore.power, s.saveQuiet_keepsCore.clk]

/-! ### Clocks and elements -/

/-- The ports stop with CAN_CLK and nothing else does (R357). -/
theorem State.canClockStops_keepsCore (s : State) : KeepsCore s s.canClockStops :=
  .foldl (fun s _ => s.modPort_keepsCore ..) _ s

theorem State.refuseQueued_keepsCore (s : State) (p : Nat) : KeepsCore s (s.refuseQueued p) :=
  .ite (.refl s) ((s.modHealth_keepsCore _).trans
    (.foldl (fun s _ => (s.modHealth_keepsCore _).trans (State.post_keepsCore ..)) _ _))

theorem State.freeCover_keepsCore (s : State) (p u : Nat) : KeepsCore s (s.freeCover p u) := by
  unfold State.freeCover
  split
  · exact .ite (s.modHealth_keepsCore _) (.refl s)
  · exact .refl s

theorem State.syncTo_keepsCore (s : State) (n : Nat) (logged : Bool) : KeepsCore s (s.syncTo n logged) :=
  .ite (.refl s) (.ite ((s.sync_keepsCore _).trans (State.post_keepsCore ..)) (s.sync_keepsCore _))

/-! ## Device states and causes -/

/-- The device registers after a device state is entered (R45). -/
theorem State.enter_dev (s : State) (d : DevState) (h : s.dev.state ≠ d) :
    (s.enter d).dev = { s.dev with state := d, prev := s.dev.state, stateTime := s.clk.dev } := by
  simp [State.enter, h]

/-- Entering a state touches nothing of the device registers but the state, the one before it and its time. -/
theorem State.enter_dev_only (s : State) (d : DevState) :
    ∃ x y n, (s.enter d).dev = { s.dev with state := x, prev := y, stateTime := n } := by
  by_cases h : s.dev.state = d
  · exact ⟨s.dev.state, s.dev.prev, s.dev.stateTime, by simp only [State.enter, if_pos h]⟩
  · exact ⟨_, _, _, s.enter_dev d h⟩

/-- A degraded cause changes, of the device registers, its own bit and the entered state (R46). -/
theorem State.setCause_dev_only (s : State) (b : Nat) (o : Bool) :
    ∃ x y n, (s.setCause b o).dev = { s.dev with degraded := putBit s.dev.degraded b o, state := x, prev := y, stateTime := n } := by
  simp only [State.setCause]
  split
  · next hm => exact ⟨s.dev.state, s.dev.prev, s.dev.stateTime, by rw [hm]⟩
  · split
    · exact State.enter_dev_only _ .degraded
    · split
      · exact State.enter_dev_only _ .run
      · exact ⟨s.dev.state, s.dev.prev, s.dev.stateTime, State.logCause_dev _⟩

/-- The last cause that clears takes a DEGRADED device to RUN (R44, R46). -/
theorem State.setCause_last (s : State) (b : Nat) (hs : s.dev.state = .degraded) (hd : s.dev.degraded ≠ 0)
    (h : putBit s.dev.degraded b false = 0) :
    (s.setCause b false).dev = { s.dev with degraded := 0, state := .run, prev := .degraded, stateTime := s.clk.dev } := by
  have hm : putBit s.dev.degraded b false ≠ s.dev.degraded := h ▸ Ne.symm hd
  simp only [State.setCause, if_neg hm]
  simp [hs, h, State.enter]

theorem State.clearHold_dev (s : State) (c : Nat) (h : bitOf s.dev.hold c = true) :
    (s.clearHold c).dev = { s.dev with hold := putBit s.dev.hold c false } := by
  simp [State.clearHold, h, State.holdBit]

/-- A hold cause that clears leaves its bit clear and the device where it is (R47). -/
theorem State.clearHold_spec (s : State) (c : Nat) :
    bitOf (s.clearHold c).dev.hold c = false ∧ (s.clearHold c).dev.state = s.dev.state := by
  by_cases h : bitOf s.dev.hold c = true
  · simp [State.clearHold_dev s c h]
  · simp [State.clearHold, h]

/-! The onset of a hold cause leaves the waiting commands and the clock. -/

theorem State.holdOnset_pending (s : State) (c : Nat) : (s.holdOnset c).pending = s.pending := by
  unfold State.holdOnset
  split
  · rfl
  · simp only []
    split
    · exact (State.ctrlHold_keepsCore _).pending.trans (State.enter_pending _ _)
    · exact State.logCause_pending _

theorem State.holdOnset_clk (s : State) (c : Nat) : (s.holdOnset c).clk = s.clk := by
  unfold State.holdOnset
  split
  · rfl
  · simp only []
    split
    · exact (State.ctrlHold_keepsCore _).clk.trans (State.enter_clk _ _)
    · exact State.logCause_clk _

theorem State.not_safeHold_of_operating (s : State) (h : s.operating = true) : s.dev.state ≠ .safeHold := by
  intro e; simp [State.operating, e] at h

/-- A hold cause that comes takes an operating device to SAFE_HOLD (R44, R47). -/
theorem State.holdOnset_operating (s : State) (c : Nat) (h : bitOf s.dev.hold c = false) (ho : s.operating = true) :
    (s.holdOnset c).dev =
      { s.dev with hold := putBit s.dev.hold c true, state := .safeHold, prev := s.dev.state, stateTime := s.clk.dev } := by
  have hb : (s.holdBit c true).operating = true := ho
  have hn : (s.holdBit c true).dev.state ≠ .safeHold := s.not_safeHold_of_operating ho
  simp only [State.holdOnset, h, Bool.false_eq_true, if_false, hb, if_true]
  rw [(State.ctrlHold_keepsCore _).dev, State.enter_dev _ _ hn]
  rfl

/-- Where the device does not operate, a hold cause that comes is added (R47). -/
theorem State.holdOnset_idle (s : State) (c : Nat) (h : bitOf s.dev.hold c = false) (ho : s.operating = false) :
    (s.holdOnset c).dev = { s.dev with hold := putBit s.dev.hold c true } := by
  have hb : (s.holdBit c true).operating = false := ho
  simp only [State.holdOnset, h, Bool.false_eq_true, if_false, hb, State.logCause_dev]
  rfl

end Machine
end Sys2Proof
end

section
/-! SUPPORT. Clocks and timed causes (R14, R16, R46): what a failing generator leaves, and the statement about their commands. -/

namespace Sys2Proof
namespace Machine

/-- From `s` to `u` degraded causes may set and none clears; stopped clocks, spares in service, the waiting commands and the clock stay. -/
structure CausesRise (s u : State) : Prop where
  pending : u.pending = s.pending
  clk : u.clk = s.clk
  stopped : u.dev.stopped = s.dev.stopped
  onSpare : u.dev.onSpare = s.dev.onSpare
  dead : u.dev.dead = s.dev.dead
  degraded : ∀ i, bitOf s.dev.degraded i = true → bitOf u.dev.degraded i = true

theorem KeepsCore.causesRise {s u : State} (h : KeepsCore s u) : CausesRise s u where
  pending := h.pending
  clk := h.clk
  stopped := congrArg Dev.stopped h.dev
  onSpare := congrArg Dev.onSpare h.dev
  dead := congrArg Dev.dead h.dev
  degraded _ hi := h.dev ▸ hi

theorem CausesRise.trans {s u w : State} (h : CausesRise s u) (k : CausesRise u w) : CausesRise s w where
  pending := k.pending.trans h.pending
  clk := k.clk.trans h.clk
  stopped := k.stopped.trans h.stopped
  onSpare := k.onSpare.trans h.onSpare
  dead := k.dead.trans h.dead
  degraded i hi := k.degraded i (h.degraded i hi)

theorem State.setCause_causesRise (s : State) (b : Nat) : CausesRise s (s.setCause b true) := by
  obtain ⟨x, y, n, h⟩ := s.setCause_dev_only b true
  exact ⟨s.setCause_pending b true, s.setCause_clk b true, by rw [h], by rw [h], by rw [h],
    fun i hi => by rw [h]; exact bitOf_putBit_true_of _ _ _ hi⟩

/-- The cause that sets is set. -/
theorem State.setCause_bit (s : State) (b : Nat) (o : Bool) : bitOf (s.setCause b o).dev.degraded b = o := by
  obtain ⟨x, y, n, h⟩ := s.setCause_dev_only b o
  cases o <;> simp [h]

/-- The retirement of an element brings `SPARE_IN_USE` and touches no clock (R494). -/
theorem State.retireElem_causesRise (s : State) (p e why : Nat) : CausesRise s (s.retireElem p e why) := by
  unfold State.retireElem
  extract_lets u l v st w x
  split
  · exact (KeepsCore.refl s).causesRise
  · have hv : KeepsCore s v := .ite (s.freeCover_keepsCore p u) (.refl s)
    have hx : KeepsCore s x := (hv.trans (v.modHealth_keepsCore _)).trans (w.modHealth_keepsCore _)
    exact (hx.causesRise.trans (x.setCause_causesRise 0)).trans (State.refuseQueued_keepsCore ..).causesRise

/-- An island goes over to its spare generator with the cause set; its stopped clock stays as it was (R14, R46). -/
theorem State.toSpareClock_spec (s : State) (isl : Nat) :
    (s.toSpareClock isl).pending = s.pending ∧ (s.toSpareClock isl).clk = s.clk ∧
    (s.toSpareClock isl).dev.stopped = s.dev.stopped ∧ isl ∈ (s.toSpareClock isl).dev.onSpare ∧
    bitOf (s.toSpareClock isl).dev.degraded 1 = true := by
  unfold State.toSpareClock
  have r := State.setCause_causesRise { s with dev := { s.dev with onSpare := insRising isl s.dev.onSpare } } 1
  exact ⟨r.pending, r.clk, r.stopped, r.onSpare ▸ mem_insRising isl _, State.setCause_bit _ 1 true⟩

/-- A generator that fails with a spare free: the clock stands for at most 20 µs and the spare is in service (R14, R46). -/
theorem State.clockFails_spare (s : State) (isl dur : Nat) (h : s.spareClock isl = true) :
    (s.clockFails isl dur).pending = s.pending ∧ (s.clockFails isl dur).clk = s.clk ∧
    Tab.find (s.clockFails isl dur).dev.stopped isl = some (s.now + min dur 20000) ∧
    isl ∈ (s.clockFails isl dur).dev.onSpare ∧ bitOf (s.clockFails isl dur).dev.degraded 1 = true := by
  unfold State.clockFails
  extract_lets cur v
  rw [if_pos h]
  have hv : KeepsCore s v := s.post_keepsCore ..
  obtain ⟨hp, hc, hs, ho, hb⟩ := State.toSpareClock_spec
    { v with dev := { v.dev with stopped := Tab.insert v.dev.stopped isl (s.now + min dur 20000) } } isl
  have r := State.retireElem_causesRise (State.toSpareClock
    { v with dev := { v.dev with stopped := Tab.insert v.dev.stopped isl (s.now + min dur 20000) } } isl) 7 cur 0
  refine ⟨r.pending.trans (hp.trans hv.pending), r.clk.trans (hc.trans hv.clk), ?_, r.onSpare ▸ ho, r.degraded 1 hb⟩
  rw [r.stopped, hs]
  exact Tab.find_insert_self ..

/-- A generator that fails with no spare free: the island's clock stands for good (R492). -/
theorem State.clockFails_dead (s : State) (isl dur : Nat) (h : s.spareClock isl = false) :
    (s.clockFails isl dur).pending = s.pending ∧ (s.clockFails isl dur).clk = s.clk ∧
    isl ∈ (s.clockFails isl dur).dev.dead ∧ (s.clockFails isl dur).dev.stopped = s.dev.stopped := by
  unfold State.clockFails
  extract_lets cur v
  rw [if_neg (by simp [h])]
  have hv : KeepsCore s v := s.post_keepsCore ..
  have r := State.retireElem_causesRise { v with dev := { v.dev with dead := insRising isl v.dev.dead } } 7 cur 0
  exact ⟨r.pending.trans hv.pending, r.clk.trans hv.clk, r.dead ▸ mem_insRising isl _,
    r.stopped.trans (show v.dev.stopped = s.dev.stopped by rw [hv.dev])⟩

/-- What CLOCK_SWITCH does on HOUSE: the ports stop with the clock of COMM (R14, R357). -/
def State.clockSwitched (s : State) (isl dur : Nat) : State :=
  if isl = Island.num .comm then (s.clockFails isl dur).canClockStops else s.clockFails isl dur

theorem State.clockSwitched_keepsCore (s : State) (isl dur : Nat) : KeepsCore (s.clockFails isl dur) (s.clockSwitched isl dur) :=
  .ite (State.canClockStops_keepsCore _) (.refl _)

theorem exec_clockSwitch (t isl dur : Nat) (s : State) :
    exec (.clockSwitch t isl dur) s = onUnit (decide (isl < 8)) .house t s (fun s => s.clockSwitched isl dur) := rfl

/-- The state as REFCLK is lost, before the hold cause comes (R16). -/
def State.openLoop (s : State) : State :=
  State.syncTo { s with clk := { s.clk with refclk := false, unsync := true }, cal := { s.cal with steering := false } } 4 false

theorem State.openLoop_spec (s : State) : s.openLoop.pending = s.pending ∧
    s.openLoop.clk = { s.clk with refclk := false, unsync := true } ∧ s.openLoop.dev = s.dev :=
  have h := State.syncTo_keepsCore { s with clk := { s.clk with refclk := false, unsync := true }, cal := { s.cal with steering := false } } 4 false
  ⟨h.pending, h.clk, h.dev⟩

theorem exec_refclkLost (t : Nat) (s : State) :
    exec (.refclkLost t) s = onIsland .backup t s (fun s => s.openLoop.holdOnset 2) := rfl

/-- The state as REFCLK is back, before the hold cause clears (R16). -/
def State.relocked (s : State) : State :=
  if s.sync.state = 4 then State.syncTo { s with clk := { s.clk with refclk := true } } 3 false
  else { s with clk := { s.clk with refclk := true } }

theorem State.relocked_spec (s : State) : s.relocked.pending = s.pending ∧ s.relocked.clk = { s.clk with refclk := true } ∧
    s.relocked.dev = s.dev :=
  have h : KeepsCore { s with clk := { s.clk with refclk := true } } s.relocked := .ite (State.syncTo_keepsCore ..) (.refl _)
  ⟨h.pending, h.clk, h.dev⟩

theorem exec_refclkRelock (t : Nat) (s : State) :
    exec (.refclkRelock t) s = onIsland .backup t s (fun s => s.relocked.clearHold 2) := rfl

/-- The two timed causes, each cleared where its 60 s have ended (R46). -/
def State.causesTimed (s : State) : State :=
  let s := if bitOf s.dev.degraded 4 ∧ s.dev.fabricUntil ≤ s.clk.dev then s.setCause 4 false else s
  if bitOf s.dev.degraded 5 ∧ s.dev.rebuiltUntil ≤ s.clk.dev then s.setCause 5 false else s

theorem exec_degradedCauseTimeout (t : Nat) (s : State) :
    exec (.degradedCauseTimeout t) s = onIsland .house t s State.causesTimed := rfl

/-- FABRIC_FAULT alone, its 60 s over: the device runs (R44, R46). -/
theorem State.causesTimed_fabric (s : State) (hd : s.dev.degraded = 2 ^ 4) (hs : s.dev.state = .degraded)
    (hu : s.dev.fabricUntil ≤ s.clk.dev) : s.causesTimed = s.setCause 4 false ∧
      s.causesTimed.dev.degraded = 0 ∧ s.causesTimed.dev.state = .run := by
  have hdev := s.setCause_last 4 hs (by simp [hd]) (by rw [hd]; decide)
  have h4 : bitOf s.dev.degraded 4 = true := by rw [hd]; decide
  have h5 : bitOf (s.setCause 4 false).dev.degraded 5 = false := by rw [hdev]; exact Nat.zero_testBit 5
  have he : s.causesTimed = s.setCause 4 false := by simp [State.causesTimed, h4, h5, hu]
  exact ⟨he, by rw [he, hdev], by rw [he, hdev]⟩

/-- Settles O1, clause by clause: generators with and without a spare, REFCLK lost and back, the 60 s of FABRIC_FAULT. -/
theorem clockCommands : Obligations.ClockCommands := by
  unfold Obligations.ClockCommands
  refine ⟨fun t isl dur s hi hl hs => ?_, fun t isl dur s hi hl hs => ?_, fun t s hl hb => ?_, fun t s hl => ?_,
    fun t s hl _ hu hs hd => ?_⟩
  · obtain ⟨hp, hc, h1, h2, h3⟩ := (s.advance t).clockFails_spare isl dur hs
    have k := (s.advance t).clockSwitched_keepsCore isl dur
    refine does_onUnit (exec_clockSwitch t isl dur s) (decide_eq_true hi) hl (k.pending.trans hp)
      (congrArg Clk.raw (k.clk.trans hc)) ?_
    rw [k.dev]
    exact ⟨h1, h2, h3⟩
  · obtain ⟨hp, hc, h1, h2⟩ := (s.advance t).clockFails_dead isl dur hs
    have k := (s.advance t).clockSwitched_keepsCore isl dur
    refine does_onUnit (exec_clockSwitch t isl dur s) (decide_eq_true hi) hl (k.pending.trans hp)
      (congrArg Clk.raw (k.clk.trans hc)) ?_
    rw [k.dev]
    exact ⟨h1, h2⟩
  · obtain ⟨hp, hc, hv⟩ := (s.advance t).openLoop_spec
    have hb' : bitOf (s.advance t).openLoop.dev.hold 2 = false := by rw [hv]; exact hb
    have ho : (s.advance t).openLoop.operating = s.operating := by simp [State.operating, hv]
    have hclk := ((s.advance t).openLoop.holdOnset_clk 2).trans hc
    refine does_onIsland (exec_refclkLost t s) hl ((State.holdOnset_pending _ 2).trans hp) (by rw [hclk])
      ⟨congrArg Clk.refclk hclk, congrArg Clk.unsync hclk, ?_, fun h => ?_, fun h => ?_⟩
    · cases h : s.operating with
      | true => rw [State.holdOnset_operating _ 2 hb' (ho.trans h)]; exact bitOf_putBit_true_self ..
      | false => rw [State.holdOnset_idle _ 2 hb' (ho.trans h)]; exact bitOf_putBit_true_self ..
    · rw [State.holdOnset_operating _ 2 hb' (ho.trans h)]
    · rw [State.holdOnset_idle _ 2 hb' (ho.trans h), hv, State.advance_dev]
  · obtain ⟨hp, hc, hv⟩ := (s.advance t).relocked_spec
    obtain ⟨hh, hs⟩ := (s.advance t).relocked.clearHold_spec 2
    have hclk := ((s.advance t).relocked.clearHold_clk 2).trans hc
    exact does_onIsland (exec_refclkRelock t s) hl ((State.clearHold_pending _ 2).trans hp) (by rw [hclk])
      ⟨congrArg Clk.refclk hclk, hh, by rw [hs, hv, State.advance_dev]⟩
  · obtain ⟨he, h0, hr⟩ := (s.advance t).causesTimed_fabric hd hs hu
    exact does_onIsland (exec_degradedCauseTimeout t s) hl (by rw [he, State.setCause_pending, State.advance_pending])
      (by rw [he, State.setCause_clk]) ⟨h0, hr⟩

end Machine
end Sys2Proof
end

section
/-! SUPPORT. Events (R27, R28, R30, R31): what a push, a post and an admission leave, and the statement about their commands. -/

namespace Sys2Proof
namespace Machine

/-! ## A push where there is room -/

@[simp] theorem Queue.settle_wp (q : Queue) : q.settle.wp = q.wp := by
  unfold Queue.settle
  split <;> rfl

theorem Queue.push_wp (q : Queue) (cap ps delay : Nat) (x : QItem) (h : (q.see ps).full cap = false) :
    (q.push cap ps delay x).wp = (q.wp + 1) % 65536 := by
  simp only [Queue.push, h, Bool.false_eq_true, if_false, Queue.settle_wp]
  rfl

theorem State.not_full_of_hasRoom (s : State) (q : QId) (h : s.hasRoom q = true) : ((s.queue q).see s.ps).full (s.cap q) = false := by
  simpa [State.hasRoom] using h

/-- An event pushed where its queue has room moves the queue's write pointer on by one (R402). -/
theorem State.pushEv_wp (s : State) (i : Island) (c u : Nat) (a : List EvArg) (e : EvEdge) (h : s.hasRoom (.island i.num) = true) :
    ((s.pushEv i c u a e).queue (.island i.num)).wp = ((s.queue (.island i.num)).wp + 1) % 65536 := by
  have hq : ∀ x, (((s.readLocal i).pushQ (.island i.num) x).queue (.island i.num)) =
      (s.queue (.island i.num)).push (s.cap (.island i.num)) s.ps ((s.readLocal i).delayTo (.island i.num)) x :=
    fun _ => Tab.get_put_self ..
  rw [State.pushEv, hq, Queue.push_wp _ _ _ _ _ (s.not_full_of_hasRoom _ h)]

/-- An island that owes no gap event posts none. -/
theorem State.gapEv_none (s : State) (i : Island) (h : s.lostOf i = 0) : s.gapEv i = s := by
  simp [State.gapEv, h]

/-- Nor does one whose queue is full. -/
theorem State.gapEv_full (s : State) (i : Island) (h : s.hasRoom (.island i.num) = false) : s.gapEv i = s := by
  simp [State.gapEv, h]

theorem State.gapEv_owed (s : State) (i : Island) (h : s.lostOf i ≠ 0) (hr : s.hasRoom (.island i.num) = true) :
    s.gapEv i = (s.pushEv i Code.eventGap 0 [.u32 (s.lostOf i)] .plain).setLost i 0 := by
  simp [State.gapEv, h, hr]

theorem State.postE_room (s : State) (i : Island) (c u : Nat) (a : List EvArg) (e : EvEdge) (h : s.lostOf i = 0)
    (hr : s.hasRoom (.island i.num) = true) : s.postE i c u a e = s.pushEv i c u a e := by
  simp [State.postE, State.gapEv_none s i h, h, hr]

@[simp] theorem State.setLost_lostOf (s : State) (i : Island) (n : Nat) : (s.setLost i n).lostOf i = n := Tab.get_put_self ..

theorem State.evLostOn_lostOf (s : State) (i : Nat) : (s.evLostOn i).lostOf (islandOf i) = s.lostOf (islandOf i) + 1 := by
  simp only [State.evLostOn, State.lostOf, State.setLost, Tab.get_put_self]

/-- An event posted to a full queue is lost and counted (R31). -/
theorem State.postE_full (s : State) (i c u : Nat) (a : List EvArg) (e : EvEdge)
    (hr : s.hasRoom (.island (islandOf i).num) = false) : s.postE (islandOf i) c u a e = s.evLostOn i := by
  simp [State.postE, State.gapEv_full s (islandOf i) hr, hr, State.evLostOn]

theorem islandOf_num : ∀ i < 9, (islandOf i).num = i := by decide

theorem exec_eventPost (t isl code unit : Nat) (args : List EvArg) (edge : EvEdge) (s : State) :
    exec (.eventPost t isl code unit args edge) s =
      onUnit (decide (isl < 9)) (islandOf isl) t s (fun s => s.postE (islandOf isl) code unit args edge) := rfl

theorem exec_eventGap (t isl : Nat) (s : State) :
    exec (.eventGap t isl) s = onUnit (decide (isl < 9)) (islandOf isl) t s (fun s => s.gapEv (islandOf isl)) := rfl

theorem exec_eventAdmit (t : Nat) (s : State) : exec (.eventAdmit t) s = onIsland .house t s State.arbitrate := rfl

/-! ## The head of BACKUP's queue as HOUSE sees it (R30) -/

theorem State.seen_seen (s : State) (e : Ev) : s.seen (s.seen e) = s.seen e := by
  cases h : e.unseen <;> simp [State.seen, h]

@[simp] theorem State.seen_eligible (s : State) (e : Ev) : (s.seen e).eligible = e.eligible := by
  cases h : e.unseen <;> simp [State.seen, h]

/-- A queue item as HOUSE sees it. -/
def State.seenItem (s : State) : QItem × Bool → QItem × Bool
  | (.ev e, p) => (.ev (s.seen e), p)
  | x => x

theorem Queue.seenBy_eq (q : Queue) (s : State) : q.seenBy s = { q with head := q.head.modifyHead s.seenItem } := by
  unfold Queue.seenBy
  split
  · next e p r h => rw [h]; rfl
  · next h =>
    have hid : q.head.modifyHead s.seenItem = q.head := by
      rcases hq : q.head with _ | ⟨⟨x, p⟩, r⟩
      · rfl
      · cases x with
        | ev e => exact absurd hq (h e p r)
        | _ => rfl
    rw [hid]

theorem Queue.front_seenBy (q : Queue) (s : State) (ps : Nat) : (q.seenBy s).front ps = (q.front ps).map s.seenItem := by
  have he : (({ q with head := q.head.modifyHead s.seenItem } : Queue).see ps).empty = (q.see ps).empty := by
    cases h : q.head <;> simp [Queue.see, Queue.empty, Queue.depthC, h]
  rw [Queue.seenBy_eq, Queue.front, he, Queue.front]
  split
  · rfl
  · cases q.head <;> rfl

/-- HOUSE's look at BACKUP's head changes the network part alone. -/
theorem State.lookBackup_net (s : State) : OnlyNet s s.lookBackup := by
  unfold State.lookBackup
  split
  · exact OnlyNet.of ..
  · exact OnlyNet.rfl' s

theorem State.lookBackup_clk (s : State) : s.lookBackup.clk = s.clk := by rw [s.lookBackup_net]
theorem State.lookBackup_ledger (s : State) : s.lookBackup.ledger = s.ledger := by rw [s.lookBackup_net]
theorem State.lookBackup_pending (s : State) : s.lookBackup.pending = s.pending := by rw [s.lookBackup_net]

theorem State.setQueue_frontQ (s : State) (q r : QId) (v : Queue) :
    (s.setQueue q v).frontQ r = if r.num = q.num then v.front s.ps else s.frontQ r := by
  rw [State.frontQ, State.setQueue_queue, State.frontQ, apply_ite (Queue.front · _), State.ps, State.ps, State.setQueue_clk]

/-- Of the heads of the queues that look changes BACKUP's alone, to what HOUSE sees (R30). -/
theorem State.lookBackup_frontQ (s : State) (i : Nat) :
    s.lookBackup.frontQ (.island i) = if i = 8 then (s.frontQ (.island 8)).map s.seenItem else s.frontQ (.island i) := by
  unfold State.lookBackup
  split
  · exact (s.setQueue_frontQ ..).trans (by rw [Queue.front_seenBy]; rfl)
  · next h =>
    split
    · next hi => simp [hi, Option.not_isSome_iff_eq_none.mp h]
    · rfl

theorem State.lookBackup_eligibleAt (s : State) (i : Nat) : s.lookBackup.eligibleAt i = s.eligibleAt i := by
  have hn : s.lookBackup.now = s.now := congrArg Clk.raw s.lookBackup_clk
  simp only [State.eligibleAt, hn, State.lookBackup_frontQ]
  by_cases hi : i = 8
  · subst hi
    rcases s.frontQ (.island 8) with _ | ⟨x, p⟩
    · rfl
    · cases x <;> simp [State.seenItem]
  · rw [if_neg hi]

theorem State.lookBackup_arbiterPick (s : State) : s.lookBackup.arbiterPick = s.arbiterPick := by
  simp only [State.arbiterPick, State.lookBackup_eligibleAt]

/-- An event at a head, as HOUSE finds it after its look and sees it again, is the event as HOUSE sees it. -/
theorem State.lookBackup_front_ev (s : State) (i : Nat) (e : Ev) (h : s.frontQ (.island i) = some (.ev e, false)) :
    ∃ d, s.lookBackup.frontQ (.island i) = some (.ev d, false) ∧ s.seen d = s.seen e := by
  rw [State.lookBackup_frontQ]
  by_cases hi : i = 8
  · subst hi
    exact ⟨s.seen e, by rw [if_pos rfl, h]; rfl, s.seen_seen e⟩
  · exact ⟨e, by rw [if_neg hi, h], rfl⟩

/-! ## Admission (R28): what follows the log entry leaves the log alone -/

/-- The waiting commands, the clock, the sequence number, the log and the arbiter's slot of `u` are those of `s`. -/
structure KeepsLog (s u : State) : Prop where
  pending : u.pending = s.pending
  clk : u.clk = s.clk
  count : u.ledger.count = s.ledger.count
  log : u.ledger.log = s.ledger.log
  lastSlot : u.ledger.lastSlot = s.ledger.lastSlot

namespace KeepsLog

theorem refl (s : State) : KeepsLog s s := ⟨rfl, rfl, rfl, rfl, rfl⟩

theorem trans {s u w : State} (h : KeepsLog s u) (k : KeepsLog u w) : KeepsLog s w :=
  ⟨k.pending.trans h.pending, k.clk.trans h.clk, k.count.trans h.count, k.log.trans h.log, k.lastSlot.trans h.lastSlot⟩

theorem ite {s u v : State} {p : Prop} [Decidable p] (hu : KeepsLog s u) (hv : KeepsLog s v) :
    KeepsLog s (if p then u else v) := by
  split
  · exact hu
  · exact hv

theorem foldl {α : Type} {f : State → α → State} (h : ∀ s x, KeepsLog s (f s x)) (l : List α) (s : State) :
    KeepsLog s (l.foldl f s) :=
  foldl_of_step refl trans h l s

end KeepsLog

theorem State.setSub_keepsLog (s : State) (n : Nat) (v : Sub) : KeepsLog s (s.setSub n v) := ⟨rfl, rfl, rfl, rfl, rfl⟩
theorem State.setAlmRow_keepsLog (s : State) (n : Nat) (r : AlmRow) : KeepsLog s (s.setAlmRow n r) := ⟨rfl, rfl, rfl, rfl, rfl⟩
theorem State.pushQ_keepsLog (s : State) (q : QId) (x : QItem) : KeepsLog s (s.pushQ q x) := ⟨rfl, rfl, rfl, rfl, rfl⟩

theorem State.dirtyAll_keepsLog (s : State) (src : Nat) : KeepsLog s (s.dirtyAll src) :=
  .foldl (fun s _ => .ite (.refl s) (s.setSub_keepsLog ..)) _ s

theorem State.alarmOf_keepsLog (s : State) (e : Ev) (dev seq : Nat) : KeepsLog s (s.alarmOf e dev seq) := by
  unfold State.alarmOf
  split
  · exact .refl s
  · exact (s.setAlmRow_keepsLog ..).trans (State.dirtyAll_keepsLog ..)

theorem State.pushHold_keepsLog (s : State) (n : Nat) : KeepsLog s (s.pushHold n) := by
  unfold State.pushHold
  extract_lets u
  split
  · exact .refl s
  · exact KeepsLog.trans (.ite (s.setSub_keepsLog ..) (s.setSub_keepsLog ..)) (State.pushQ_keepsLog ..)

theorem State.subLog_keepsLog (s : State) (e : LogEnt) (n : Nat) : KeepsLog s (s.subLog e n) := by
  unfold State.subLog
  extract_lets u
  split
  · exact .refl s
  · split
    · exact .ite (.ite ((s.setSub_keepsLog ..).trans (State.pushHold_keepsLog ..)) (s.setSub_keepsLog ..))
        ((s.pushHold_keepsLog n).trans (State.setSub_keepsLog ..))
    · exact s.setSub_keepsLog ..

/-- An admission numbers and logs its event; the alarm table and the subscriptions that follow leave the log as it is (R28, R510, R512). -/
theorem State.admitEvent_keepsLog (s : State) (i : Island) (e : Ev) :
    KeepsLog { s with ledger := { s.ledger with
      count := s.ledger.count + 1,
      log := Tab.insert s.ledger.log (s.ledger.count % 65536) (logEntOf i e s.clk.dev s.ledger.count) } } (s.admitEvent i e) :=
  (State.alarmOf_keepsLog ..).trans (.foldl (fun s k => s.subLog_keepsLog _ k) _ _)

/-- The arbiter admits the head it picks, as HOUSE sees it, and the slot is taken (R27, R28). -/
theorem State.arbitrate_admits (s : State) (i : Nat) (e : Ev) (hl : s.ledger.lastSlot ≠ some (s.now / 8))
    (hp : s.arbiterPick = some i) (hf : s.frontQ (.island i) = some (.ev e, false)) :
    s.arbitrate = State.admitEvent
      (State.popQ { s.lookBackup with ledger := { s.ledger with lastSlot := some (s.now / 8) } } (.island i)) (islandOf i) (s.seen e) := by
  obtain ⟨d, hd, hde⟩ := s.lookBackup_front_ev i e hf
  have hn : s.lookBackup.now = s.now := congrArg Clk.raw s.lookBackup_clk
  have hs : s.lookBackup.seen d = s.seen e := by rw [← hde, State.seen, State.seen, s.lookBackup_clk]
  have hv : State.frontQ { s.lookBackup with ledger := { s.ledger with lastSlot := some (s.now / 8) } } (.island i) =
      some (.ev d, false) := hd
  simp only [State.arbitrate, s.lookBackup_ledger, hn, if_neg hl, s.lookBackup_arbiterPick, hp, State.admitHead, hv]
  exact congrArg _ hs

/-- Settles O3: a post with room, a post to a full queue, the gap event owed, an admission. -/
theorem eventCommands : Obligations.EventCommands := by
  unfold Obligations.EventCommands
  refine ⟨fun t isl code unit args edge s hi hl h0 hr => ?_, fun t isl code unit args edge s hi hl hr => ?_,
    fun t isl s hi hl h0 hr => ?_, fun t i e s hl hs hp hf => ?_⟩
  · have hn := islandOf_num isl hi
    have he := (s.advance t).postE_room (islandOf isl) code unit args edge h0 (hn.symm ▸ hr)
    refine does_onUnit (exec_eventPost t isl code unit args edge s) (decide_eq_true hi) hl (State.postE_pending ..)
      (congrArg Clk.raw (State.postE_clk ..)) ?_
    rw [he]
    have hw := (s.advance t).pushEv_wp (islandOf isl) code unit args edge (hn.symm ▸ hr)
    rw [hn] at hw
    exact ⟨State.pushEv_ledger .., hw⟩
  · have hn := islandOf_num isl hi
    have he := (s.advance t).postE_full isl code unit args edge (hn.symm ▸ hr)
    refine does_onUnit (exec_eventPost t isl code unit args edge s) (decide_eq_true hi) hl (State.postE_pending ..)
      (congrArg Clk.raw (State.postE_clk ..)) ?_
    rw [he]
    exact ⟨rfl, State.evLostOn_lostOf .., rfl⟩
  · have hn := islandOf_num isl hi
    have he := (s.advance t).gapEv_owed (islandOf isl) h0 (hn.symm ▸ hr)
    refine does_onUnit (exec_eventGap t isl s) (decide_eq_true hi) hl (State.gapEv_pending ..)
      (congrArg Clk.raw (State.gapEv_clk ..)) ?_
    rw [he]
    have hw := (s.advance t).pushEv_wp (islandOf isl) Code.eventGap 0 [.u32 ((s.advance t).lostOf (islandOf isl))] .plain (hn.symm ▸ hr)
    rw [hn] at hw
    exact ⟨State.setLost_lostOf .., hw⟩
  · have ha := (s.advance t).arbitrate_admits i e hs hp hf
    have k := State.admitEvent_keepsLog (State.popQ { (s.advance t).lookBackup with
      ledger := { (s.advance t).ledger with lastSlot := some ((s.advance t).now / 8) } } (.island i)) (islandOf i) ((s.advance t).seen e)
    rw [← ha] at k
    refine does_onIsland (exec_eventAdmit t s) hl (k.pending.trans (s.advance t).lookBackup_pending)
      (congrArg Clk.raw (k.clk.trans (s.advance t).lookBackup_clk)) ⟨k.count, k.lastSlot, ?_⟩
    rw [k.log, ← (s.advance t).lookBackup_clk]
    exact Tab.find_insert_self ..

end Machine
end Sys2Proof
end

section
/-! SUPPORT. Requests to the device (R44, R45, R47, R56, R57, R545, R546): what their owner makes of them, and the statement about their
commands. -/

namespace Sys2Proof
namespace Machine

/-- A write that its owner takes is done as the owner says. -/
theorem State.applyWrite_done {s v : State} {n idx sub : Nat} {b : Octets} (h : s.ownerWrite n idx sub b = .done v) :
    s.applyWrite n idx sub b = .done v := by
  simp [State.applyWrite, h]

/-- A write that may be made completes with what its owner makes of it, but for the network part, in which alone the state that its owner
finds differs from the state at its moment. -/
theorem does_ownerWrite {c : Instr} {t idx sub : Nat} {a : Acc} {b : Octets} {s : State} {f : State → State} {P : State → Prop}
    (he : exec c s = writeCmd true t a idx sub b s) (h : s.mayWrite t a idx sub b)
    (hd : ∀ n, (s.advance t).atOwner a idx sub b = { s.advance t with net := n } →
      State.ownerWrite { s.advance t with net := n } a.ctx idx sub b = .done (f { s.advance t with net := n }))
    (hp : ∀ v, (f v).pending = v.pending) (hr : ∀ v, (f v).clk = v.clk)
    (hP : ∀ n m, P { f { s.advance t with net := n } with net := m }) : Does c s P := by
  obtain ⟨n, hn⟩ := (s.advance t).atOwner_eq a idx sub b h.2
  have hv := hd n hn
  rw [← hn] at hv
  refine does_write he rfl h (State.applyWrite_done hv) ?_ ?_ (hn ▸ hP n)
  · rw [hp, hn]; rfl
  · rw [hr, hn]

/-! ## State requests (R44, R45, R47) -/

/-- A device that enters operation by a request actuates its plan (R173). -/
def State.actuated (s v : State) : State := if s.holding && v.operating then v.deliver else v

theorem State.actuated_keepsCore (s v : State) : KeepsCore v (s.actuated v) :=
  .ite v.deliver_keepsCore (.refl v)

/-- A state request that the device takes (R45). -/
theorem State.ownerWrite_request {s v : State} {n : Nat} {b : Octets}
    (h : s.stateRequest (leNat b) (s.roleOf n) s.activating = .done v) :
    s.ownerWrite n 0x1001 6 b = .done (s.actuated v) := by
  have hr : s.ownerWrite n 0x1001 6 b = s.requestState n b := rfl
  rw [hr, State.requestState, h]
  rfl

/-- A request number is recorded (R45). -/
def State.noteRequest (s : State) (r : Nat) : State := { s with dev := { s.dev with lastRequest := r } }

/-- Request 1, taken: hold cause 1 comes. -/
def State.heldByRequest (s : State) : State := s.actuated ((s.noteRequest 1).holdOnset 1)

theorem State.ownerWrite_hold (s : State) (n : Nat) (h : s.up = true) :
    s.ownerWrite n 0x1001 6 [1] = .done s.heldByRequest :=
  State.ownerWrite_request (if_pos h)

/-- Request 2, taken: the device leaves SAFE_HOLD. -/
def State.leftByRequest (s : State) : State :=
  s.actuated (State.resume { s with dev := { s.dev with hold := 0, lastRequest := 2 } })

theorem State.ownerWrite_leave (s : State) (n : Nat) (hs : s.dev.state = .safeHold) (hh : putBit s.dev.hold 1 false = 0)
    (ha : s.activating = false) : s.ownerWrite n 0x1001 6 [2] = .done s.leftByRequest :=
  State.ownerWrite_request (if_pos ⟨hs, hh, by simp [ha]⟩)

/-- Request 3, taken: the device enters SERVICE and its loops hold. -/
def State.servedByRequest (s : State) : State := s.actuated ((s.noteRequest 3).enter .service).ctrlHold

theorem State.ownerWrite_service (s : State) (n : Nat) (hs : s.operating = true ∨ s.dev.state = .safeHold) (hr : s.roleOf n = 2) :
    s.ownerWrite n 0x1001 6 [3] = .done s.servedByRequest :=
  State.ownerWrite_request (if_pos (by simpa [hr] using hs))

theorem State.heldByRequest_keepsCore (s : State) : KeepsCore ((s.noteRequest 1).holdOnset 1) s.heldByRequest :=
  State.actuated_keepsCore ..

theorem State.heldByRequest_operating (s : State) (h : bitOf s.dev.hold 1 = false) (ho : s.operating = true) :
    s.heldByRequest.dev = { s.dev with
      hold := putBit s.dev.hold 1 true, lastRequest := 1, state := .safeHold, prev := s.dev.state, stateTime := s.clk.dev } :=
  s.heldByRequest_keepsCore.dev.trans ((s.noteRequest 1).holdOnset_operating 1 h ho)

theorem State.heldByRequest_idle (s : State) (h : bitOf s.dev.hold 1 = false) (ho : s.operating = false) :
    s.heldByRequest.dev = { s.dev with hold := putBit s.dev.hold 1 true, lastRequest := 1 } :=
  s.heldByRequest_keepsCore.dev.trans ((s.noteRequest 1).holdOnset_idle 1 h ho)

theorem State.leftByRequest_dev (s : State) (hs : s.dev.state = .safeHold) :
    s.leftByRequest.dev = { s.dev with
      hold := 0, lastRequest := 2, state := if s.dev.degraded = 0 then .run else .degraded, prev := .safeHold,
      stateTime := s.clk.dev } := by
  rw [State.leftByRequest, (State.actuated_keepsCore ..).dev, State.resume, (State.ctrlRelease_keepsCore _).dev,
    State.enter_dev _ _ (by rw [hs]; split <;> decide), hs]

theorem State.servedByRequest_dev (s : State) (hs : s.dev.state ≠ .service) :
    s.servedByRequest.dev = { s.dev with lastRequest := 3, state := .service, prev := s.dev.state, stateTime := s.clk.dev } := by
  rw [State.servedByRequest, (State.actuated_keepsCore ..).dev, (State.ctrlHold_keepsCore _).dev, State.enter_dev (s.noteRequest 3) _ hs]
  rfl

/-! None of the three requests moves the clock or touches the waiting commands. -/

theorem State.heldByRequest_pending (s : State) : s.heldByRequest.pending = s.pending :=
  s.heldByRequest_keepsCore.pending.trans (State.holdOnset_pending ..)

theorem State.heldByRequest_clk (s : State) : s.heldByRequest.clk = s.clk :=
  s.heldByRequest_keepsCore.clk.trans (State.holdOnset_clk ..)

theorem State.leftByRequest_pending (s : State) : s.leftByRequest.pending = s.pending :=
  (State.actuated_keepsCore ..).pending.trans ((State.ctrlRelease_keepsCore _).pending.trans (State.enter_pending ..))

theorem State.leftByRequest_clk (s : State) : s.leftByRequest.clk = s.clk :=
  (State.actuated_keepsCore ..).clk.trans ((State.ctrlRelease_keepsCore _).clk.trans (State.enter_clk ..))

theorem State.servedByRequest_pending (s : State) : s.servedByRequest.pending = s.pending :=
  (State.actuated_keepsCore ..).pending.trans ((State.ctrlHold_keepsCore _).pending.trans (State.enter_pending ..))

theorem State.servedByRequest_clk (s : State) : s.servedByRequest.clk = s.clk :=
  (State.actuated_keepsCore ..).clk.trans ((State.ctrlHold_keepsCore _).clk.trans (State.enter_clk ..))

/-! ## Store, restore, restart, standby (R56, R57, R545, R546) -/

theorem State.ownerWrite_store (s : State) (n : Nat) (h : s.dict.storing = none) :
    s.ownerWrite n 0x1010 1 (leBytes 4 0x5AFE) = .done { s with dict := { s.dict with storing := some s.saveable } } := by
  have hw : s.ownerWrite n 0x1010 1 (leBytes 4 0x5AFE) = s.storeCmd 0x5AFE := rfl
  simp [hw, State.storeCmd, h]

theorem State.ownerWrite_restore (s : State) (n : Nat) (h : s.dict.storing = none) :
    s.ownerWrite n 0x1011 1 (leBytes 4 0xD3FA) =
      .done { s with keep := { s.keep with saved := {} }, dict := { s.dict with restorePending := true } } := by
  have hw : s.ownerWrite n 0x1011 1 (leBytes 4 0xD3FA) = s.restoreCmd 0xD3FA := rfl
  simp [hw, State.restoreCmd, h]

/-- A restart request, taken: the save before it starts (R545). -/
def State.restartBegun (s : State) (r : Nat) : State := (s.modPower (fun p => { p with restartReq := r })).saveStart 2 1

theorem State.ownerWrite_restart (s : State) (n : Nat) (b : Octets) (hb : leNat b = 1 ∨ leNat b = 2) (hv : s.power.saving = false)
    (hs : s.dev.state = .service) : s.ownerWrite n 0x5001 1 b = .done (s.restartBegun (leNat b)) := by
  have hw : s.ownerWrite n 0x5001 1 b = s.restartRequest (leNat b) := rfl
  rw [hw, State.restartRequest, if_neg (by omega), if_neg (by simp [hs]), if_neg (by simp [hv]), State.restartBegun]

theorem State.restartBegun_pending (s : State) (r : Nat) : (s.restartBegun r).pending = s.pending := State.saveStart_pending ..

theorem State.restartBegun_clk (s : State) (r : Nat) : (s.restartBegun r).clk = s.clk := State.saveStart_clk ..

theorem State.restartBegun_power (s : State) (r : Nat) :
    ∃ h, (s.restartBegun r).power = Power.saveBegun { s.power with restartReq := r } 2 1 s.clk.dev s.clk.raw h :=
  ⟨_, State.saveStart_power (s.modPower (fun p => { p with restartReq := r })) 2 1⟩

theorem State.ownerWrite_standby (s : State) (n : Nat) (hh : s.holding = true) (hv : s.power.saving = false) :
    s.ownerWrite n 0x5001 0x0A (leBytes 4 0x57B0) = .done (s.saveStart 3 2) := by
  have hw : s.ownerWrite n 0x5001 0x0A (leBytes 4 0x57B0) = s.standbyRequest 0x57B0 := rfl
  simp [hw, State.standbyRequest, hh, hv]

/-- A restart request completes with the save that comes before the restart (R545). -/
theorem does_restartRequest {c : Instr} {t : Nat} {a : Acc} {b : Octets} {s : State} (he : exec c s = writeCmd true t a 0x5001 1 b s)
    (h : s.mayWrite t a 0x5001 1 b) (hb : leNat b = 1 ∨ leNat b = 2) (hv : s.power.saving = false) (hs : s.dev.state = .service) :
    Does c s (fun u =>
      u.power.restartReq = leNat b ∧ u.power.saving = true ∧ u.power.saveTrigger = 2 ∧ u.power.saveThen = 1 ∧
      u.power.saveT0 = (s.advance t).clk.dev ∧ u.dev = s.dev) := by
  refine does_ownerWrite (f := fun v => v.restartBegun (leNat b)) he h (fun n _ => State.ownerWrite_restart _ _ _ hb hv hs)
    (fun v => v.restartBegun_pending _) (fun v => v.restartBegun_clk _) (fun n m => ?_)
  obtain ⟨x, hx⟩ := State.restartBegun_power { s.advance t with net := n } (leNat b)
  simp only [hx]
  exact ⟨rfl, rfl, rfl, rfl, rfl, State.saveStart_dev ..⟩

/-- Settles O43, request by request. -/
theorem deviceRequests : Obligations.DeviceRequests := by
  unfold Obligations.DeviceRequests
  refine ⟨fun t a s h hu hb => ?_, fun t a s h hs hh ha => ?_, fun t a s h hs hr => ?_, fun t a s h hs => ?_, fun t a s h hs => ?_,
    fun t a s h hv hs => ?_, fun t a s h hv hs => ?_, fun t a s h hh hv => ?_⟩
  · refine does_ownerWrite (f := State.heldByRequest) rfl h (fun n _ => State.ownerWrite_hold _ _ hu) State.heldByRequest_pending
      State.heldByRequest_clk (fun n m => ?_)
    cases ho : s.operating with
    | true =>
      simp only [State.heldByRequest_operating { s.advance t with net := n } hb ho]
      simp
    | false =>
      simp only [State.heldByRequest_idle { s.advance t with net := n } hb ho]
      simp
  · refine does_ownerWrite (f := State.leftByRequest) rfl h (fun n _ => State.ownerWrite_leave _ _ hs hh ha) State.leftByRequest_pending
      State.leftByRequest_clk (fun n m => ?_)
    simp only [State.leftByRequest_dev { s.advance t with net := n } hs]
    simp +contextual
  · have hn : s.dev.state ≠ .service := by
      intro e
      simp [State.operating, e] at hs
    refine does_ownerWrite (f := State.servedByRequest) rfl h
      (fun n hw => State.ownerWrite_service _ _ hs (hw ▸ hr)) State.servedByRequest_pending
      State.servedByRequest_clk (fun n m => ?_)
    simp only [State.servedByRequest_dev { s.advance t with net := n } hn]
    simp
  · exact does_ownerWrite (f := fun v => { v with dict := { v.dict with storing := some v.saveable } }) rfl h
      (fun n _ => State.ownerWrite_store _ _ hs) (fun _ => rfl) (fun _ => rfl) (fun _ _ => rfl)
  · exact does_ownerWrite
      (f := fun v => { v with keep := { v.keep with saved := {} }, dict := { v.dict with restorePending := true } }) rfl h
      (fun n _ => State.ownerWrite_restore _ _ hs) (fun _ => rfl) (fun _ => rfl) (fun _ _ => rfl)
  · exact does_restartRequest rfl h (.inl rfl) hv hs
  · exact does_restartRequest rfl h (.inr rfl) hv hs
  · refine does_ownerWrite (f := fun v => v.saveStart 3 2) rfl h (fun n _ => State.ownerWrite_standby _ _ hh hv)
      (fun v => v.saveStart_pending 3 2) (fun v => v.saveStart_clk 3 2) (fun n m => ?_)
    simp only [State.saveStart_power, State.saveStart_dev]
    exact ⟨rfl, rfl, rfl, rfl, rfl⟩

end Machine
end Sys2Proof
end

section
/-! SUPPORT. Completion of commands and the step (R60, R62; log entries 1, 4 and 5): the commands that name what exists complete, an empty
queue lets the dictionary server take its oldest request, and the statements about the step. -/

namespace Sys2Proof
namespace Machine

/-! ## Commands that name what exists complete -/

/-- A command that names a unit and acts whatever runs completes where the unit exists. -/
theorem ifAtMoment_done {p : Prop} [Decidable p] (t : Nat) (s : State) (f : State → State) (h : p) :
    ∃ u, (if p then atMoment t s f else .fault .noSuchUnit) = .next u ∧ u.pending = s.pending ∧ s.clk.raw ≤ u.clk.raw := by
  rw [if_pos h]
  exact atMoment_done t s f

/-- What a command leaves is a state that keeps the queue and the raw clock of the state it found, whatever its meaning made of it. -/
theorem became_done (s u : State) : ∃ v, s.became u = .next v ∧ v.pending = s.pending ∧ s.clk.raw ≤ v.clk.raw :=
  ⟨_, rfl, rfl, Nat.le_refl _⟩

/-- PROGRAM_CYCLE completes whichever words its operand names: its meaning tests no unit. -/
theorem exec_programCycle_done (t dio : Nat) (x : LogicLoss) (s : State) :
    ∃ u, exec (.programCycle t dio x) s = .next u ∧ u.pending = s.pending ∧ s.clk.raw ≤ u.clk.raw :=
  onIsland_done .logic t s _

/-- A command that names units and entries that exist completes, in the way its meaning is written: at its moment whatever runs, at its
moment where the unit exists, as an instruction of the logic engine without a moment, or, all others, on an island. -/
theorem exec_completes (c : Instr) (s : State) (h : c.unitsOk = true) :
    Does c s (fun u => u.pending = s.pending ∧ s.clk.raw ≤ u.clk.raw) := by
  cases c with
  | fabricWordReceive t a b w err => exact ifAtMoment_done t s _ h
  | loopEvaluation t n x => exact ifAtMoment_done t s _ (of_decide_eq_true h)
  | ethFrameReceive t m x => exact ifAtMoment_done t s _ (of_decide_eq_true h)
  | programCycle t dio x => exact exec_programCycle_done t dio x s
  | powerOn t | resetAssert t | supplyLoss t | mainSupplyLost t | backupDomainStart t | vbatLost t | tapReset t | extest t | samplePreload t
  | idcode t | clamp t | highz t | bypass t => exact ⟨_, rfl, rfl, s.advance_raw_le t⟩
  | nop | tstb | tstn | andb | andn | orb | orn | xorb | notb | setb | clrb | stb | ldtb | ldw | ldwb | ldi | stw | swap | movb | add
  | subOp | mul | div | modOp | mulq | absOp | negOp | lim | minOp | maxOp | andw | orw | xorw | notw | shl | shr | sar | cmp | bmov
  | jmp | jmpt | jmpf | callOp | ret | loopOp | endP | tmr | ctu | ctd | crs | edr | edf | evt => exact became_done s _
  | _ => exact onUnit_done _ _ _ _ h

/-- Refutes O54: a PROGRAM_CYCLE whose operand names a word of area 9, which does not exist, names a unit that does not exist and
completes. -/
theorem not_everyCommandCompletes : ¬ Obligations.EveryCommandCompletes := by
  unfold Obligations.EveryCommandCompletes
  intro h
  obtain ⟨u, hu, -⟩ := exec_programCycle_done 0 0 { words := [(9, 0)] } State.reset
  have hf := (h (.programCycle 0 0 { words := [(9, 0)] }) State.reset).2 (by decide)
  exact absurd (hu.symm.trans hf) nofun

/-! ## A read that meets no bad word -/

theorem elemsIn_nil (idx off n : Nat) : elemsIn idx off n [] = [] := rfl

theorem State.readLoss_nil (s : State) (idx sub : Nat) : s.readLoss idx sub [] = s := by
  unfold State.readLoss
  split
  · rfl
  · split <;> rfl

/-- A request that meets no word that stays bad is served as it is. -/
theorem State.lossy_nil (s : State) (r : Req) (f : State → State) : s.lossy r [] f = f s := by
  unfold State.lossy
  simp only [elemsIn_nil, State.readLoss_nil]
  split
  · split
    · rfl
    · split <;> rfl
  · split
    · split <;> rfl
    · rfl
  · split
    · rfl
    · split <;> rfl
  · rfl

/-! ## The step -/

theorem step_of_cons {s : State} {c : Instr} {r : List Instr} (h : s.pending = c :: r) : step s = exec c { s with pending := r } := by
  simp only [step, h]

theorem step_of_nil {s : State} (h : s.pending = []) : step s = s.became (s.serveNext []) := by
  simp only [step, h]

theorem State.serveNext_none {s : State} (h : s.frontQ .request = none) : s.serveNext [] = s := by
  simp only [State.serveNext, h]

theorem State.serveNext_req {s : State} {r : Req} (h : s.frontQ .request = some (.req r, false)) :
    s.serveNext [] = (s.popQ .request).serveReq r := by
  simp only [State.serveNext, h, State.lossy_nil]

/-- Settles O53: a waiting command is taken off the queue and runs; on an empty queue the server's turn. -/
theorem stepRunsTheFrontCommand : Obligations.StepRunsTheFrontCommand := by
  unfold Obligations.StepRunsTheFrontCommand
  refine ⟨fun c r s h => step_of_cons h, fun s h => ⟨_, step_of_nil h, h, rfl, fun hq => ?_, fun r hq => ?_⟩⟩
  · rw [State.serveNext_none hq]
  · rw [State.serveNext_req hq, h]

/-- Settles O55: the front command of a safe queue completes; an empty queue stays empty and the raw clock where it is. -/
theorem stepKeepsSafe : Obligations.StepKeepsSafe := by
  unfold Obligations.StepKeepsSafe
  rintro n s ⟨hn, hq⟩
  cases hs : s.pending with
  | nil =>
    obtain ⟨u, hu, hp, hr⟩ := became_done s (s.serveNext [])
    refine ⟨u, (step_of_nil hs).trans hu, ⟨hn.trans hr, fun c hc => hq c (hp ▸ hc)⟩, hp.trans hs, hr⟩
  | cons c r =>
    obtain ⟨u, hu, hp, hr⟩ := exec_completes c { s with pending := r } (hq c (hs ▸ List.mem_cons_self ..))
    have hp' : u.pending = r := hp
    exact ⟨u, (step_of_cons hs).trans hu, ⟨hn.trans hr, fun d hd => hq d (hs ▸ List.mem_cons_of_mem c (hp' ▸ hd))⟩, hp, hr⟩

end Machine
end Sys2Proof
end

section
/-! SUPPORT. Expedited writes of any entry (R49, R51, R53, R54, R55, R62): a value that reaches its owner, and a value that is stored. -/

namespace Sys2Proof
namespace Machine

/-- WRITE with a value that its path carries in one PDU is a write of the entry. -/
theorem exec_writeEntry {t idx sub : Nat} {a : Acc} {b : Octets} {s : State} (h : b.length ≤ a.room a.crit.isSome) :
    exec (.writeEntry t a idx sub b []) s = writeCmd true t a idx sub b s :=
  congrArg (onIsland .house t s) (funext fun _ => (if_pos h).symm)

/-- Settles O4: the command completes with what the owner made of the value. -/
theorem writeReachesItsOwner : Obligations.WriteReachesItsOwner := by
  unfold Obligations.WriteReachesItsOwner
  intro t idx sub a b s v hl hw hd hp hr
  exact does_write (exec_writeEntry hw.1) rfl ⟨hl, hw⟩ hd hp hr (fun _ => rfl)

/-! ## Stored values -/

theorem Tab.get_eq_find {α : Type} (d : α) (m : Tab α) (k : Nat) : Tab.get d m k = (Tab.find m k).getD d := by
  induction m with
  | nil => rfl
  | cons e r ih =>
    obtain ⟨i, v⟩ := e
    simp only [Tab.get, Tab.find]
    split
    · rfl
    · exact ih

theorem Tab.find_erase_ne {α : Type} (m : Tab α) {j k : Nat} (h : j ≠ k) : Tab.find (Tab.erase m k) j = Tab.find m j := by
  induction m with
  | nil => rfl
  | cons e r ih =>
    obtain ⟨i, v⟩ := e
    by_cases hk : i = k
    · subst hk; simp [Tab.erase, Tab.find, Ne.symm h, ih]
    · simp [Tab.erase, hk, Tab.find, ih]

theorem Tab.find_put_ne {α : Type} [DecidableEq α] (d : α) (m : Tab α) {j k : Nat} (v : α) (h : j ≠ k) :
    Tab.find (Tab.put d m k v) j = Tab.find m j := by
  unfold Tab.put
  split
  · exact Tab.find_erase_ne m h
  · exact Tab.find_insert_ne m k j v h

/-- The value of an entry is the one listed under its key, its default where none is. -/
theorem State.val_eq_find (s : State) (idx sub : Nat) :
    s.val idx sub = (Tab.find s.dict.vals (key idx sub)).getD (dfltOf (key idx sub)) := by
  rw [State.val]
  cases Tab.find s.dict.vals (key idx sub) <;> rfl

theorem key_inj {i j idx sub : Nat} (hs : sub < 256) (hj : j < 256) (h : i ≠ idx ∨ j ≠ sub) : key i j ≠ key idx sub := by
  simp only [key]
  omega

theorem State.setVal_val_self (s : State) (idx sub : Nat) (v : Val) : (s.setVal idx sub v).val idx sub = v := by
  rw [State.val_eq_find, ← Tab.get_eq_find]
  exact Tab.get_put_self ..

theorem State.setVal_val_ne (s : State) {i j idx sub : Nat} (v : Val) (h : key i j ≠ key idx sub) :
    (s.setVal idx sub v).val i j = s.val i j := by
  rw [State.val_eq_find, State.val_eq_find, State.setVal, Tab.find_put_ne _ _ _ h]

theorem State.store_eq (s : State) {idx sub : Nat} {e : Ent} (b : Octets) (h : entOf idx sub = some e) :
    s.store idx sub b = s.setVal idx sub (rescale (s.val idx sub) (decVal e.ty b)) := by
  simp only [State.store, h]

/-- Octets are stored as they are. -/
theorem rescale_oct (v : Val) (b : Octets) : rescale v (.oct b) = .oct b := by
  cases v <;> rfl

/-- The value to be stored is made in the dictionary alone, whatever the network part. -/
theorem State.store_net (s : State) (n : Net) (idx sub : Nat) (b : Octets) :
    State.store { s with net := n } idx sub b = { s.store idx sub b with net := n } := by
  unfold State.store
  split <;> rfl

/-- A write whose owner has no behaviour of its own stores the value. -/
theorem State.applyWrite_plain {s : State} {n idx sub : Nat} {b : Octets} (h : s.ownerWrite n idx sub b = .plain) :
    s.applyWrite n idx sub b = .done (s.store idx sub b) := by
  simp only [State.applyWrite, h]

/-- A write of an entry without behaviour of its own completes with the value stored. -/
theorem does_plainWrite {t idx sub : Nat} {a : Acc} {b : Octets} {s : State} (hl : s.live .house t)
    (hw : (s.advance t).writes a idx sub b) (hp : ((s.advance t).atOwner a idx sub b).ownerWrite a.ctx idx sub b = .plain) :
    Does (.writeEntry t a idx sub b []) s (fun u => s.holdsValue t idx sub b u) := by
  obtain ⟨n, hn⟩ := (s.advance t).atOwner_eq a idx sub b hw
  have hd := State.applyWrite_plain hp
  have hv : State.store ((s.advance t).atOwner a idx sub b) idx sub b =
      { s.advance t with dict := ((s.advance t).store idx sub b).dict, net := n } := by
    rw [hn, State.store_net, State.store_only]
  rw [hv] at hd
  exact does_write (exec_writeEntry hw.1) rfl ⟨hl, hw⟩ hd rfl rfl (fun _ => ⟨rfl, rfl⟩)

/-- Settles O5: the write, and the value read back from the dictionary. -/
theorem plainWriteIsStored : Obligations.PlainWriteIsStored := by
  unfold Obligations.PlainWriteIsStored
  refine ⟨fun t idx sub a b s hl hw hp => does_plainWrite hl hw hp, fun idx sub b e s he => ?_⟩
  rw [State.store_eq s b he]
  refine ⟨s.setVal_val_self .., fun ht => ?_, fun i j hs hj h => s.setVal_val_ne _ (key_inj hs hj h)⟩
  rw [State.oct, s.setVal_val_self, ht]
  exact congrArg Val.octs (rescale_oct ..)

end Machine
end Sys2Proof
end

section
/-! SUPPORT. An access through the dictionary server (R60–R63): what the server's answer leaves of the session contexts, from what it makes
of a request to the completion of the access, and what a read of an entry keeps. -/

namespace Sys2Proof
namespace Machine

/-! ## Sending leaves the session table -/

theorem State.sendNow_sess (s : State) (d : Datagram) : (s.sendNow d).net.sess = s.net.sess := rfl

theorem State.sendUdp_sess (s : State) (d : Datagram) : (s.sendUdp d).net.sess = s.net.sess := by
  unfold State.sendUdp
  split
  · rfl
  · simp only []
    split
    · exact s.sendNow_sess d
    · split <;> rfl

theorem State.sendCan_sess (s : State) (p a b : Nat) (f : CanFrame) (c : Option Nat) : (s.sendCan p a b f c).net.sess = s.net.sess := by
  unfold State.sendCan
  split <;> rfl

theorem State.sendTo_sess (s : State) (d : Peer) (p : Pdu) (b : Octets) : (s.sendTo d p b).net.sess = s.net.sess := by
  unfold State.sendTo
  split
  · exact State.sendCan_sess ..
  · exact State.sendUdp_sess ..
  · rfl

/-- Sending octets to a peer leaves every session context. -/
theorem State.sendTo_session (s : State) (d : Peer) (p : Pdu) (b : Octets) (n : Nat) : (s.sendTo d p b).session n = s.session n :=
  congrArg (fun l => Tab.get ({} : Session) l n) (s.sendTo_sess d p b)

theorem State.reply_session (s : State) (r : Req) (v : Reply) (k n : Nat) : (s.reply r v k).session n = s.session n := by
  unfold State.reply
  split
  · exact State.sendTo_session ..
  · rfl

theorem State.reply_net (s : State) (r : Req) (v : Reply) (k : Nat) : OnlyNet s (s.reply r v k) := by
  unfold State.reply
  split
  · exact State.sendTo_net ..
  · exact OnlyNet.of ..

/-! ## What is remembered of a request (R63) -/

/-- Remembering touches, of the context, the request, its response and the count of accepted requests. -/
theorem State.remember_session (s : State) (r : Req) (v : Reply) (n : Nat) :
    ∃ q b k, (s.remember r v).session n = { s.session n with lastReq := q, lastResp := b, accepted := k } := by
  unfold State.remember
  split
  · rw [State.modSess_session]
    split
    · next h => exact ⟨_, _, _, by rw [h]⟩
    · exact ⟨_, _, _, rfl⟩
  · exact ⟨_, _, _, rfl⟩

/-- The response of a request whose context is still the requester's is kept. -/
theorem State.remember_lastResp (s : State) (r : Req) (v : Reply) (h : s.stillOf r = true) :
    ((s.remember r v).session r.ctx).lastResp = (v.bytes r.pdu).getD [] := by
  rw [State.remember, if_pos h, State.modSess_session, if_pos rfl]

/-- A context as it is after the answer `v` to a request that the server made `w` of: the answer is kept, and the transfer and the read
positions are those of `w`. -/
structure Answered (w : State) (r : Req) (v : Reply) (x : Session) : Prop where
  lastResp : x.lastResp = (v.bytes r.pdu).getD []
  xfer : x.xfer = (w.session r.ctx).xfer
  logCursor : x.logCursor = (w.session r.ctx).logCursor
  almSelect : x.almSelect = (w.session r.ctx).almSelect

theorem State.remember_answered (s : State) (r : Req) (v : Reply) (h : s.stillOf r = true) :
    Answered s r v ((s.remember r v).session r.ctx) := by
  obtain ⟨q, b, k, hx⟩ := s.remember_session r v r.ctx
  exact ⟨s.remember_lastResp r v h, by rw [hx], by rw [hx], by rw [hx]⟩

/-! ## An access that the server takes up -/

theorem Req.ctx_of_net {r : Req} (h : r.net = true) : r.ctx = r.pdu.session := if_neg (of_decide_eq_true h)

/-- The context of a request that is taken up is the requester's. -/
theorem State.turn_stillOf {s : State} {r : Req} (h : s.takes r) : (s.turn r).stillOf r = true := by
  obtain ⟨-, -, -, hnet, -, -⟩ := h
  cases hn : r.net with
  | false => simp [State.stillOf, hn]
  | true =>
    obtain ⟨-, -, ha⟩ := hnet hn
    simp only [State.authentic, Bool.and_eq_true, decide_eq_true_eq] at ha
    simp [State.stillOf, State.turn, State.modSess_session, Req.ctx_of_net hn, ha.1.2]

/-- An access that the server takes up leaves what it made of the request, but for the network part, and of the request's context what was
remembered there. -/
theorem State.access_served {s w : State} {r : Req} {v : Reply} (h : s.takes r) (hs : (s.turn r).serveCs r = ⟨w, v⟩) :
    OnlyNet w (s.access r) ∧ (s.access r).session r.ctx = (w.remember r v).session r.ctx := by
  rw [State.access_takes s r h, hs]
  exact ⟨(State.remember_net ..).trans (State.reply_net ..), State.reply_session ..⟩

/-! ## Taking up a request -/

theorem State.turn_pending (s : State) (r : Req) : (s.turn r).pending = s.pending := by rw [s.turn_net r]
theorem State.turn_clk (s : State) (r : Req) : (s.turn r).clk = s.clk := by rw [s.turn_net r]

/-! ## What a served request keeps -/

/-- The waiting commands, the clock and the state of every session context of `u` are those of `s`. -/
structure KeepsContexts (s u : State) : Prop where
  pending : u.pending = s.pending
  clk : u.clk = s.clk
  state : ∀ n, (u.session n).state = (s.session n).state

namespace KeepsContexts

theorem refl (s : State) : KeepsContexts s s := ⟨rfl, rfl, fun _ => rfl⟩

theorem trans {s u w : State} (h : KeepsContexts s u) (k : KeepsContexts u w) : KeepsContexts s w :=
  ⟨k.pending.trans h.pending, k.clk.trans h.clk, fun n => (k.state n).trans (h.state n)⟩

/-- The context of a request that was the requester's is so still. -/
theorem stillOf {s u : State} (h : KeepsContexts s u) {r : Req} (hs : s.stillOf r = true) : u.stillOf r = true := by
  rw [← hs, State.stillOf, State.stillOf, h.state]

end KeepsContexts

/-- An access completes with what the server made of its request, but for the network part. -/
theorem does_access {c : Instr} {t : Nat} {r : Req} {s w : State} {v : Reply} {P : State → Prop}
    (he : exec c s = accessCmd t r s) (hl : s.live .house t) (ht : (s.advance t).takes r)
    (hs : ((s.advance t).turn r).serveCs r = ⟨w, v⟩) (hp : w.pending = s.pending) (hr : w.clk.raw = (s.advance t).clk.raw)
    (hP : ∀ n, State.session { w with net := n } r.ctx = (w.remember r v).session r.ctx → P { w with net := n }) : Does c s P := by
  obtain ⟨hu, hx⟩ := State.access_served ht hs
  refine does_onIsland (f := fun s => s.access r) he hl ?_ ?_ ?_
  · rw [hu]; exact hp
  · rw [hu]; exact hr
  · rw [hu] at hx ⊢
    exact hP _ hx

/-- As `does_access`, for a request whose serving keeps the contexts: its context holds the answer. -/
theorem does_answer {c : Instr} {t : Nat} {r : Req} {s w : State} {v : Reply} {P : State → Prop}
    (he : exec c s = accessCmd t r s) (hl : s.live .house t) (ht : (s.advance t).takes r)
    (hs : ((s.advance t).turn r).serveCs r = ⟨w, v⟩) (hk : KeepsContexts ((s.advance t).turn r) w)
    (hP : ∀ n, Answered w r v (State.session { w with net := n } r.ctx) → P { w with net := n }) : Does c s P := by
  refine does_access he hl ht hs (hk.pending.trans (State.turn_pending ..)) (congrArg Clk.raw (hk.clk.trans (State.turn_clk ..)))
    (fun n hn => hP n ?_)
  rw [hn]
  exact w.remember_answered r v (hk.stillOf (State.turn_stillOf ht))

/-! ## Sessions, cursors, the trailer -/

theorem State.modSess_keepsContexts (s : State) (n : Nat) {f : Session → Session} (h : ∀ x, (f x).state = x.state) :
    KeepsContexts s (s.modSess n f) := by
  refine ⟨rfl, rfl, fun m => ?_⟩
  rw [State.modSess_session]
  split
  · next hm => rw [h, hm]
  · rfl

theorem State.setXfer_keepsContexts (s : State) (n : Nat) (x : Option Transfer) : KeepsContexts s (s.setXfer n x) :=
  s.modSess_keepsContexts n fun _ => rfl

theorem State.finishXfer_keepsContexts (s : State) (n : Nat) (p : Pdu) (b : Octets) : KeepsContexts s (s.finishXfer n p b) :=
  s.modSess_keepsContexts n fun _ => rfl

theorem State.setXfer_xfer (s : State) (n : Nat) (x : Option Transfer) : ((s.setXfer n x).session n).xfer = x := by
  rw [State.setXfer, State.modSess_session, if_pos rfl]

theorem State.finishXfer_xfer (s : State) (n : Nat) (p : Pdu) (b : Octets) : ((s.finishXfer n p b).session n).xfer = none := by
  rw [State.finishXfer, State.modSess_session, if_pos rfl]

theorem State.ledger_keepsContexts (s : State) (l : Ledger) : KeepsContexts s { s with ledger := l } := ⟨rfl, rfl, fun _ => rfl⟩

theorem State.readLog_keepsContexts (s : State) (n : Nat) : KeepsContexts s (s.readLog n).1 := by
  unfold State.readLog
  extract_lets r u
  have k : KeepsContexts s u := s.modSess_keepsContexts n fun _ => rfl
  clear_value u r
  exact k.trans (u.ledger_keepsContexts _)

theorem State.readRows_keepsContexts (s : State) (n : Nat) : KeepsContexts s (s.readRows n).1 :=
  s.modSess_keepsContexts n
    (f := fun v => { v with almSelect := ((s.session n).almSelect + min 40 (4096 - (s.session n).almSelect)) % 4096 }) fun _ => rfl

theorem State.calRead_keepsContexts (s : State) (p sub : Nat) : KeepsContexts s (s.calRead p sub).1 := by
  unfold State.calRead
  extract_lets latch
  split
  · exact ⟨rfl, rfl, fun _ => rfl⟩
  · split
    · exact ⟨rfl, rfl, fun _ => rfl⟩
    · split <;> exact ⟨rfl, rfl, fun _ => rfl⟩

/-- A read moves cursors and latches the calendar, and touches no more of the contexts (R416, R513, R528). -/
theorem State.readEntry_keepsContexts (s : State) (src : Peer) (n idx sub : Nat) : KeepsContexts s (s.readEntry src n idx sub).1 := by
  unfold State.readEntry
  split
  · exact .refl s
  · split
    · exact s.readLog_keepsContexts n
    · split
      · exact s.readRows_keepsContexts n
      · split
        · exact s.calRead_keepsContexts _ _
        · exact .refl s

/-- A trailer that passes check 6 leaves the state of every context. -/
theorem State.trailerCheck_keepsContexts {s : State} {r : Req} {cs idx sub : Nat} {b : Octets} {x : Bool}
    (h : (s.trailerCheck r cs idx sub b x).2 = 0) : KeepsContexts s (s.trailerCheck r cs idx sub b x).1 := by
  unfold State.trailerCheck State.trailer at h ⊢
  split at h
  · exact .refl s
  · split at h
    · cases h
    · next h1 =>
      rw [if_neg h1]
      split at h
      · cases h
      · next h2 =>
        rw [if_neg h2]
        exact State.modSess_keepsContexts _ _ (f := fun v => { v with fails := 0, counter := _ }) fun _ => rfl

/-- A request without a trailer that needs none passes check 6 as it is. -/
theorem State.trailerCheck_none (s : State) {r : Req} (cs idx sub : Nat) (b : Octets) (h : r.pdu.trailer = none) :
    s.trailerCheck r cs idx sub b false = (s, 0) := by
  simp [State.trailerCheck, State.trailer, h]

/-! ## Reads -/

/-- A read that comes to a value touches no more of the contexts than the read of its entry does. -/
theorem State.readValue_keepsContexts {s : State} {r : Req} {lim f : Nat} {b : Octets} (h : (s.readValue r lim).reply = .good f b) :
    KeepsContexts s (s.readValue r lim).s := by
  simp only [State.readValue] at h ⊢
  split at h
  · split_ifs at h ⊢ with h1 h2 h3 h4
    · cases h
    · cases h
    · cases h
    · cases h
    · exact (State.trailerCheck_keepsContexts (not_not.mp h1)).trans (State.readEntry_keepsContexts ..)
  · cases h

/-- A read without a trailer whose checks pass comes to what its entry's read makes of the state and answers its value. -/
theorem State.readValue_done {s : State} {r : Req} {e : Ent} {lim : Nat} (ht : r.pdu.trailer = none) (hd : r.pdu.data = [])
    (he : s.entryOk r .read r.pdu.index r.pdu.sub e) (hl : (s.readEntry r.src r.ctx r.pdu.index r.pdu.sub).2.length ≤ lim)
    (hs : s.shut r.pdu.index = false) (hr : s.readRefusal r.ctx r.pdu.index r.pdu.sub = 0) :
    s.readValue r lim = (s.readEntry r.src r.ctx r.pdu.index r.pdu.sub).1.yes 0 (s.readEntry r.src r.ctx r.pdu.index r.pdu.sub).2 := by
  rw [State.entryOk] at he
  simp [State.readValue, he, s.trailerCheck_none _ _ _ _ ht, hd, Nat.not_lt.mpr hl, hs, hr]

end Machine
end Sys2Proof
end

section
/-! SUPPORT. Segmented transfers, ABORT and DESCRIBE (R66, R68, R69): what the server makes of each request where its checks pass, and the
statement about their commands. -/

namespace Sys2Proof
namespace Machine

/-! ## Octets and PDUs -/

theorem leBytes_length (n v : Nat) : (leBytes n v).length = n := by
  induction n generalizing v with
  | zero => rfl
  | succ n ih => exact congrArg (· + 1) (ih _)

/-- A number that fits its octets is read back from them. -/
theorem leNat_leBytes (n v : Nat) (h : v < 256 ^ n) : leNat (leBytes n v) = v := by
  induction n generalizing v with
  | zero => exact (Nat.lt_one_iff.mp h).symm
  | succ n ih =>
    have hq : v / 256 < 256 ^ n := Nat.div_lt_of_lt_mul (by rwa [← Nat.pow_succ'])
    have hb : (BitVec.ofNat 8 v).toNat = v % 256 := BitVec.toNat_ofNat ..
    rw [leBytes, leNat, ih _ hq, hb, Nat.mod_add_div]

theorem Acc.segment_last (a : Acc) (offset : Nat) (last : Bool) (b : Octets) : (a.segment offset last b).last = last := by
  have h : ∀ x y : Bool, bitOf (2 * b2n x + b2n y) 1 = x := by decide
  exact h last a.crit.isSome

theorem Acc.segment_crit (a : Acc) (offset : Nat) (last : Bool) (b : Octets) : (a.segment offset last b).crit = a.crit.isSome := by
  have h : ∀ x y : Bool, bitOf (2 * b2n x + b2n y) 0 = y := by decide
  exact h last a.crit.isSome

/-! ## Transfers that open -/

/-- The transfer that a READ_INIT opens on a value at a raw time (R68): a snapshot, or, beyond 64 KiB, a read in place (R69). -/
def Req.reading (r : Req) (now : Nat) (b : Octets) : Transfer :=
  { write := false, index := r.pdu.index, sub := r.pdu.sub, total := b.length, next := 0, prev := none, prevResp := [],
    data := if b.length ≤ 65536 then b else [], inPlace := decide (65536 < b.length), tag := r.pdu.tag, since := now }

/-- The transfer that a WRITE_INIT opens at a raw time (R68). -/
def Req.writing (r : Req) (now : Nat) : Transfer :=
  { write := true, index := r.pdu.index, sub := r.pdu.sub, total := leNat r.pdu.data, next := 0, prev := none, prevResp := [],
    data := [], inPlace := false, tag := r.pdu.tag, since := now }

theorem State.serveReadInit_opens {s : State} {r : Req} {f : Nat} {b : Octets} (h : (s.readValue r 4294967295).reply = .good f b)
    (hx : (s.session r.ctx).xfer = none) :
    s.serveReadInit r =
      ((s.readValue r 4294967295).s.setXfer r.ctx (some (r.reading s.now b))).yes 0 (leBytes 4 b.length) := by
  obtain ⟨v, hv⟩ : ∃ v, s.readValue r 4294967295 = ⟨v, .good f b⟩ := ⟨(s.readValue r 4294967295).s, by rw [← h]⟩
  simp only [State.serveReadInit, hv, hx]
  rfl

theorem State.serveWriteInit_opens {s : State} {r : Req} {e : Ent} (ht : r.pdu.trailer = none)
    (he : s.entryOk r .write r.pdu.index r.pdu.sub e) (hd : r.pdu.data.length = 4) (hb : e.badTotal (leNat r.pdu.data) = false)
    (hs : s.shut r.pdu.index = false) (hf : s.stateForbids r r.pdu.index r.pdu.sub e = false) (hx : (s.session r.ctx).xfer = none)
    (hr : s.readOpen r.pdu.index r.pdu.sub true = false)
    (hm : r.pdu.index = 0x2000 → r.pdu.sub = 1 → s.model.stage.status ≠ 3)
    (hp : r.pdu.index = 0x5000 → r.pdu.sub = 3 → s.logic.stage.status ≠ 3) (hg : s.staged + leNat r.pdu.data ≤ stagingRoom) :
    s.serveWriteInit r = (s.setXfer r.ctx (some (r.writing s.now))).yes 0 [] := by
  rw [State.entryOk] at he
  have hm' : ¬ (r.pdu.index = 0x2000 ∧ r.pdu.sub = 1 ∧ s.model.stage.status = 3) := fun ⟨h1, h2, h3⟩ => hm h1 h2 h3
  have hp' : ¬ (r.pdu.index = 0x5000 ∧ r.pdu.sub = 3 ∧ s.logic.stage.status = 3) := fun ⟨h1, h2, h3⟩ => hp h1 h2 h3
  simp only [State.serveWriteInit, he, s.trailerCheck_none _ _ _ _ ht, hd, hb, hs, hf, hx, hr, hm', hp', Nat.not_lt.mpr hg]
  rfl

/-! ## SEGMENTs of a write -/

/-- The write transfer after a SEGMENT was staged at a raw time. -/
def Transfer.staged (x : Transfer) (r : Req) (now : Nat) : Transfer :=
  { x with data := x.data ++ r.pdu.data, prev := some x.next, prevResp := r.pdu.good 0 [], next := x.next + r.pdu.data.length,
           tag := r.pdu.tag, since := now }

/-- A SEGMENT at the expected offset of an open write, of data that the path carries, is taken. -/
theorem State.serveSegment_write {s : State} {r : Req} {x : Transfer} (hx : (s.session r.ctx).xfer = some x) (hw : x.write = true)
    (hc : r.pdu.crit = true → r.pdu.last = true) (hl : r.pdu.data.length ≤ r.limit) (ho : r.pdu.offset = x.next) :
    s.serveSegment r = s.writeSegment r x := by
  have hc' : ¬ (r.pdu.crit = true ∧ ¬ r.pdu.last = true) := fun ⟨h1, h2⟩ => h2 (hc h1)
  simp only [State.serveSegment, hx, if_neg hc']
  simp [hw, Nat.not_lt.mpr hl, State.segment, ho]

theorem State.writeSegment_staged {s : State} {r : Req} {x : Transfer} (hl : r.pdu.last = false)
    (ht : x.next + r.pdu.data.length ≤ x.total) :
    s.writeSegment r x = (s.setXfer r.ctx (some (x.staged r s.now))).yes 0 [] := by
  simp [State.writeSegment, hl, Nat.not_lt.mpr ht]
  rfl

theorem State.writeSegment_last {s : State} {r : Req} {x : Transfer} (hl : r.pdu.last = true)
    (ht : x.next + r.pdu.data.length = x.total) : s.writeSegment r x = s.completeWrite r x := by
  simp [State.writeSegment, hl, ht]

/-- A value that every check lets through becomes what its owner makes of it. -/
theorem State.writeValue_done {s y : State} {r : Req} {idx sub flags : Nat} {e : Ent} {b : Octets} (h7 : e.badLength idx sub b = false)
    (h8 : e.badValue b = false) (hs : s.shut idx = false) (ho : s.readOpen idx sub true = false)
    (hd : s.applyWrite r.ctx idx sub b = .done y) : s.writeValue r idx sub e b flags = y.yes flags [] := by
  simp [State.writeValue, h7, h8, hs, hd, ho]

/-- The LAST SEGMENT of a write hands the whole value to the entry's owner: what it leaves is what the owner made of the value, but for the
network part. -/
theorem State.completeWrite_done {s w y : State} {r : Req} {x : Transfer} {e : Ent} {b : Octets} (hb : b = x.data ++ r.pdu.data)
    (he : entAt x.index x.sub = some e)
    (ht : (s.setXfer r.ctx none).sealOk r 4 x.index x.sub b ((s.setXfer r.ctx none).needsTrailer r x.index x.sub e))
    (hw : w = (s.setXfer r.ctx none).sealed r 4 x.index x.sub b ((s.setXfer r.ctx none).needsTrailer r x.index x.sub e))
    (h7 : e.badLength x.index x.sub b = false) (h8 : e.badValue b = false) (hs : w.shut x.index = false)
    (ho : w.readOpen x.index x.sub true = false) (hd : w.applyWrite r.ctx x.index x.sub b = .done y) :
    ∃ n v, s.completeWrite r x = ⟨{ y with net := n }, v⟩ := by
  have hv : w.writeValue r x.index x.sub e b 2 = y.yes 2 [] := State.writeValue_done h7 h8 hs ho hd
  subst hb hw
  simp only [State.sealOk, State.sealed] at ht hv
  simp only [State.completeWrite, he, ht, hv]
  exact ⟨_, _, rfl⟩

/-! ## SEGMENTs of a read -/

theorem State.serveSegment_read {s : State} {r : Req} {x : Transfer} (hx : (s.session r.ctx).xfer = some x) (hw : x.write = false)
    (hc : r.pdu.crit = false) (ht : r.pdu.trailer = none) (hd : r.pdu.data = []) (ho : r.pdu.offset = x.next) :
    s.serveSegment r = s.readSegment r x := by
  simp [State.serveSegment, hx, hw, hc, hd, s.trailerCheck_none _ _ _ _ ht, State.segment, ho]

/-- A SEGMENT that returns the rest of a snapshot completes its read. -/
theorem State.readSegment_last {s : State} {r : Req} {x : Transfer} (hp : x.inPlace = false) (hn : x.total - x.next ≤ r.segment)
    (ht : x.next ≤ x.total) :
    s.readSegment r x = (s.finishXfer r.ctx r.pdu (r.pdu.good 2 (slice x.data x.next (x.total - x.next)))).yes 2
      (slice x.data x.next (x.total - x.next)) := by
  simp [State.readSegment, State.xferData, hp, Nat.min_eq_right hn, Nat.add_sub_cancel' ht]

/-! ## DESCRIBE, ABORT, time-out -/

theorem State.serveDescribe_done {s : State} {r : Req} {e : Ent} (ht : r.pdu.trailer = none) (hd : r.pdu.data = [])
    (he : s.entryOk r .describe r.pdu.index r.pdu.sub e) (hs : s.shut r.pdu.index = false) : s.serveDescribe r = s.yes 0 e.describe := by
  rw [State.entryOk] at he
  simp [State.serveDescribe, he, s.trailerCheck_none _ _ _ _ ht, hd, hs]

/-- An ABORT discards the open transfer and is echoed. -/
theorem State.serveAbort_discards {s : State} {r : Req} {x : Transfer} (ht : r.pdu.trailer = none)
    (hx : (s.session r.ctx).xfer = some x) : s.serveAbort r = ⟨s.setXfer r.ctx none, .octets r.pdu.echo⟩ := by
  simp [State.serveAbort, s.trailerCheck_none _ _ _ _ ht, hx]

/-- A transfer without a SEGMENT for 1 s is discarded; the ABORT that is sent changes the network part alone. -/
theorem State.xferTimeout_discards {s : State} {n : Nat} {x : Transfer} (hx : (s.session n).xfer = some x)
    (ht : x.since + 1000000000 ≤ s.now) : OnlyNet s (s.xferTimeout n) ∧ ((s.xferTimeout n).session n).xfer = none := by
  simp only [State.xferTimeout, hx, if_neg (Nat.not_lt.mpr ht)]
  have h0 : OnlyNet s (s.setXfer n none) := State.modSess_net ..
  split
  · exact ⟨h0, State.setXfer_xfer ..⟩
  · exact ⟨h0.trans (State.sendTo_net ..), by rw [State.sendTo_session, State.setXfer_xfer]⟩

/-! ## The commands -/

theorem exec_readInit (t idx sub : Nat) (a : Acc) (s : State) :
    exec (.readInit t a idx sub []) s = accessCmd t (a.req (a.pdu 3 0 idx sub [])) s :=
  congrArg (onIsland .house t s) (funext fun v => v.lossy_nil _ _)

theorem exec_segmentRead (t offset : Nat) (a : Acc) (s : State) :
    exec (.segmentRead t a offset []) s = accessCmd t (a.req (a.segment offset false [])) s :=
  congrArg (onIsland .house t s) (funext fun v => v.lossy_nil _ _)

/-- Settles O6: the transfers that open, the SEGMENTs of a write and of a read, DESCRIBE, ABORT and the time-out. -/
theorem transferCommands : Obligations.TransferCommands := by
  unfold Obligations.TransferCommands
  refine ⟨fun t idx sub a r b s hl hr ht hx hv => ?_, fun t idx sub total a r e s v hl hr ht hv hc hn he hb hs hf hx ho hm hp hg => ?_,
    fun t offset a b r x s hl hr hc ht hx hw ho hb hn => ?_,
    fun t offset a b r x e s v w y hl hr ht hv hx hw ho hb hn he hk hwv h7 h8 hs hro hd hyp hyr => ?_,
    fun t offset a r x s hl hr hc ht hx hw ho hp hn hnt => ?_, fun t idx sub a r e s v hl hr hc ht hv he hs => ?_,
    fun t idx sub code a r x s hl hr ht hc hx => ?_, fun t n x s hn hl hx ht => ?_⟩
  · subst hr
    have hs := State.serveReadInit_opens hv hx
    refine does_answer (exec_readInit t idx sub a s) hl ht hs
      ((State.readValue_keepsContexts hv).trans (State.setXfer_keepsContexts ..)) (fun n h => ?_)
    exact ⟨_, h.xfer.trans (State.setXfer_xfer ..), rfl, rfl, rfl, rfl, rfl, h.lastResp⟩
  · subst hr hv
    have hln : leNat (leBytes 4 total) = total := leNat_leBytes 4 total hn
    have hs' := State.serveWriteInit_opens (s := (s.advance t).turn _) hc he (leBytes_length 4 total) (hln.symm ▸ hb) hs hf hx ho hm hp
      (hln.symm ▸ hg)
    refine does_answer rfl hl ht hs' (State.setXfer_keepsContexts ..) (fun n h => ?_)
    exact ⟨_, h.xfer.trans (State.setXfer_xfer ..), rfl, rfl, rfl, hln, rfl, rfl⟩
  · subst hr
    have hcr : (a.segment offset false b).crit = false := by rw [a.segment_crit, hc]; rfl
    have hs := (State.serveSegment_write hx hw (fun h => absurd (hcr.symm.trans h) nofun) hb ho).trans
      (State.writeSegment_staged (a.segment_last offset false b) hn)
    refine does_answer rfl hl ht hs (State.setXfer_keepsContexts ..) (fun n h => ?_)
    exact ⟨_, h.xfer.trans (State.setXfer_xfer ..), rfl, rfl, rfl⟩
  · subst hr hv
    have hlast := a.segment_last offset true b
    obtain ⟨n, p, hp⟩ := State.completeWrite_done rfl he hk hwv h7 h8 hs hro hd
    have hs' := (State.serveSegment_write hx hw (fun _ => hlast) hb ho).trans ((State.writeSegment_last hlast hn).trans hp)
    exact does_access rfl hl ht hs' hyp hyr (fun _ _ => rfl)
  · subst hr
    have hcr : (a.segment offset false []).crit = false := by rw [a.segment_crit, hc]; rfl
    have hs := (State.serveSegment_read hx hw hcr hc rfl ho).trans (State.readSegment_last hp hn hnt)
    refine does_answer (exec_segmentRead t offset a s) hl ht hs (State.finishXfer_keepsContexts ..) (fun n h => ?_)
    exact ⟨h.xfer.trans (State.finishXfer_xfer ..), h.lastResp⟩
  · subst hr hv
    exact does_answer rfl hl ht (State.serveDescribe_done hc rfl he hs) (.refl _) (fun n h => h.lastResp)
  · subst hr
    refine does_answer rfl hl ht (State.serveAbort_discards hc hx) (State.setXfer_keepsContexts ..) (fun n h => ?_)
    exact ⟨h.xfer.trans (State.setXfer_xfer ..), h.lastResp⟩
  · obtain ⟨hu, hx'⟩ := State.xferTimeout_discards (s := s.advance t) hx ht
    refine does_onUnit (f := fun s => s.xferTimeout n) rfl (decide_eq_true hn) hl ?_ ?_ hx'
    · rw [hu]; rfl
    · rw [hu]

end Machine
end Sys2Proof
end

section
/-! SUPPORT. Host transactions, stores, reads with an effect of their own and the validation of images (R56, R74–R76, R106, R349, R416,
R513, R528), and the statement about their commands. -/

namespace Sys2Proof
namespace Machine

/-- A command of an island that runs completes with the state that its effect is known to make. -/
theorem does_onIsland_eq {c : Instr} {i : Island} {t : Nat} {s u : State} {f : State → State} {P : State → Prop}
    (he : exec c s = onIsland i t s f) (hl : s.live i t) (hu : f (s.advance t) = u) (hp : u.pending = s.pending)
    (hr : u.clk.raw = (s.advance t).clk.raw) (h : P u) : Does c s P := by
  subst hu
  exact does_onIsland he hl hp hr h

/-! ## The host port (R74–R76) -/

/-- An entry pushed where its queue has room moves the queue's write pointer on by one (R402). -/
theorem State.pushQ_wp (s : State) (q : QId) (x : QItem) (h : s.hasRoom q = true) :
    ((s.pushQ q x).queue q).wp = ((s.queue q).wp + 1) % 65536 := by
  have hq : (s.pushQ q x).queue q = (s.queue q).push (s.cap q) s.ps (s.delayTo q) x := Tab.get_put_self ..
  rw [hq, Queue.push_wp _ _ _ _ _ (s.not_full_of_hasRoom _ h)]

/-- A request over the host port that has room and draws on no bucket is queued, and the port is busy (R60, R74). -/
theorem State.transport_host {s : State} {r : Req} (hr : r.src = .host) (hq : s.hasRoom .request = true) (hm : s.metered r = false) :
    s.transport r = (s.pushQ .request (.req r)).modHost (fun h => { h with busy := true }) := by
  have hp : s.pathServed r.src = true := by rw [hr]; rfl
  have hn : r.net = false := by simp [Req.net, hr]
  simp [State.transport, hp, hq, State.takeToken, hm, hn]
  rfl

/-- A WRITE_PDU that the ready, idle port finds well formed goes to the transport (R74). -/
theorem State.hostWrite_taken {s : State} {b : Octets} {p : Pdu} (hh : s.hostReady = true) (hr : s.net.host.resp = none)
    (hb : s.net.host.busy = false) (h1 : 10 ≤ b.length) (h2 : b.length ≤ 1054) (hp : hostPdu b = some p) :
    s.hostWrite b.length b false = s.transport { src := .host, cls := 0, pdu := p } := by
  simp [State.hostWrite, hh, hr, hb, Nat.not_lt.mpr h1, Nat.not_lt.mpr h2, hp]

/-- READ_RESPONSE on a ready port drives the waiting response and frees it (R74). -/
theorem State.readResponse_ready {s : State} {b : Octets} (hh : s.hostReady = true) (hr : s.net.host.resp = some b) :
    (match s.hostReady, s.net.host.resp with
     | true, some b => s.modHost (fun h => { h with driven := b, resp := none })
     | _, _ => s.hostError false) = s.modHost (fun h => { h with driven := b, resp := none }) := by
  rw [hh, hr]

/-! ## Stores (R56) -/

/-- A store that succeeds is the saved content. -/
theorem State.storeEnded_true {s : State} {x : Tab Val} (h : s.dict.storing = some x) :
    s.storeEnded true = { s with
      keep := { s.keep with saved := s.keep.saved.write x },
      dict := { s.dict with storing := none, storeResult := 1, restorePending := false } } := by
  simp [State.storeEnded, h]

/-- A store that fails is logged, and the saved content stays. -/
theorem State.storeEnded_false {s : State} {x : Tab Val} (h : s.dict.storing = some x) :
    s.storeEnded false = State.post { s with dict := { s.dict with storing := none, storeResult := 2 } } .house Code.storeFailed 0
      [.u32 (s.keep.saved.gen + 1)] := by
  simp [State.storeEnded, h]

/-! ## Reads with an effect of their own (R416, R513, R528) -/

theorem Req.limit_le_segment (r : Req) : r.limit ≤ r.segment := by
  unfold Req.limit Req.segment
  split
  · split <;> omega
  · exact Nat.le_refl _

theorem Req.le_segment (r : Req) : 54 ≤ r.segment := by
  unfold Req.segment
  split <;> omega

theorem State.readEntry_log (s : State) (src : Peer) (n : Nat) : s.readEntry src n 0x6C00 3 = s.readLog n := rfl

theorem State.readEntry_rows (s : State) (src : Peer) (n : Nat) : s.readEntry src n 0x6C10 2 = s.readRows n := rfl

/-- A read of SEC latches the calendar's block for its path (R416). -/
theorem State.readEntry_sec (s : State) (src : Peer) (n : Nat) :
    s.readEntry src n 0x6000 1 =
      ({ s with cal := { s.cal with shadow := s.calBlock, latched := insRising src.path s.cal.latched } }, s.calBlock.at_ 1) := rfl

/-- A read of the block latches it for no path. -/
theorem State.readEntry_block (s : State) (src : Peer) (n : Nat) :
    s.readEntry src n 0x6000 0x0A = ({ s with cal := { s.cal with shadow := s.calBlock } }, s.calBlock.block) := rfl

/-- What every path's response carries (R67): the octet of SEC, the ten octets of the block. -/
theorem CalFields.at_one_fits (f : CalFields) (r : Req) : (f.at_ 1).length ≤ r.segment :=
  Nat.le_trans (by decide : 1 ≤ 54) r.le_segment

theorem CalFields.block_fits (f : CalFields) (r : Req) : f.block.length ≤ r.segment :=
  Nat.le_trans (by decide : 10 ≤ 54) r.le_segment

/-- No state of its owner refuses a read of an entry outside the traces, the waveforms and the core samples (R62, check 9). -/
theorem State.readRefusal_above (s : State) (n sub : Nat) {idx : Nat} (h : 0x48F0 < idx) : s.readRefusal n idx sub = 0 := by
  have h1 : ¬ idx = 0x48F0 := by omega
  have h2 : ¬ idx = 0x4880 := by omega
  have h3 : ¬ idx < 0x3C20 := by omega
  simp [State.readRefusal, State.ctrlReadRefused, h1, h2, h3]

theorem State.turn_calBlock (s : State) (r : Req) : (s.turn r).calBlock = s.calBlock := by rw [s.turn_net r]; rfl

theorem State.turn_cal (s : State) (r : Req) : (s.turn r).cal = s.cal := by rw [s.turn_net r]

/-- A read of one entry that completes with its value: what the entry's read leaves, with the value in the context's response. -/
theorem does_read {c : Instr} {t idx sub : Nat} {a : Acc} {r : Req} {e : Ent} {s v : State} {x : State × Octets} {P : State → Prop}
    (he : exec c s = accessCmd t (a.req (a.pdu 1 0 idx sub [])) s) (hl : s.live .house t) (hr : r = a.req (a.pdu 1 0 idx sub []))
    (hc : a.crit = none) (ht : (s.advance t).takes r) (hv : v = (s.advance t).turn r) (hk : v.entryOk r .read idx sub e)
    (hs : v.shut idx = false) (hi : 0x48F0 < idx) (hx : v.readEntry r.src r.ctx idx sub = x) (hn : x.2.length ≤ r.segment)
    (hP : ∀ n, Answered x.1 r (.good 0 x.2) (State.session { x.1 with net := n } r.ctx) → P { x.1 with net := n }) : Does c s P := by
  subst hr hv hx
  exact does_answer he hl ht (State.readValue_done hc rfl hk hn hs (State.readRefusal_above _ _ _ hi))
    (State.readEntry_keepsContexts ..) hP

/-! ## Validation of images (R104, R106, R348, R349) -/

/-- Sending an owed response changes the network part alone. -/
theorem State.answerOwed_net (s : State) (k : Nat) (v : Reply) : OnlyNet s (s.answerOwed k v) := by
  unfold State.answerOwed
  split
  · exact OnlyNet.rfl' s
  · simp only []
    refine OnlyNet.trans ?_ (State.sendTo_net ..)
    split
    · exact OnlyNet.trans (OnlyNet.of s _) (State.modSess_net ..)
    · exact OnlyNet.of s _

theorem State.modelValidated_only (s : State) : s.modelValidated.1 = { s with model := s.modelValidated.1.model } := by
  unfold State.modelValidated
  split
  · rfl
  · split <;> rfl

theorem State.progValidated_only (s : State) : s.progValidated.1 = { s with logic := s.progValidated.1.logic } := by
  unfold State.progValidated
  split
  · rfl
  · split <;> rfl

/-- A submitted model image is held as valid, or refused with the fault and place of its first failing check. -/
theorem State.modelValidated_stage {s : State} {b : Octets} (h : s.model.stage.coming = some b) :
    (modelFault s.power.straps.pos (s.nat 0x2810 3) b = none →
      s.modelValidated.1.model.stage.status = 1 ∧ s.modelValidated.1.model.stage.image = b) ∧
    ∀ c i, modelFault s.power.straps.pos (s.nat 0x2810 3) b = some (c, i) →
      s.modelValidated.1.model.stage.status = 2 ∧ s.modelValidated.1.model.stage.fault = c ∧ s.modelValidated.1.model.stage.index = i := by
  refine ⟨fun hf => ?_, fun c i hf => ?_⟩
  · simp [State.modelValidated, h, hf]
  · simp [State.modelValidated, h, hf]

/-- So is a submitted program image. -/
theorem State.progValidated_stage {s : State} {b : Octets} (h : s.logic.stage.coming = some b) :
    (progFault b = none → s.progValidated.1.logic.stage.status = 1 ∧ s.progValidated.1.logic.stage.image = b) ∧
    ∀ c i, progFault b = some (c, i) →
      s.progValidated.1.logic.stage.status = 2 ∧ s.progValidated.1.logic.stage.fault = c ∧ s.progValidated.1.logic.stage.index = i := by
  refine ⟨fun hf => ?_, fun c i hf => ?_⟩
  · simp [State.progValidated, h, hf]
  · simp [State.progValidated, h, hf]

/-- A validation completes with what it made of the state, but for the network part. -/
theorem does_validated {c : Instr} {t k : Nat} {s : State} {f : State → State} {v : State → Reply} {P : State → Prop}
    (he : exec c s = onIsland .house t s (fun s => (f s).answerOwed k (v s))) (hl : s.live .house t)
    (hp : (f (s.advance t)).pending = s.pending) (hr : (f (s.advance t)).clk = (s.advance t).clk)
    (hP : ∀ n, P { f (s.advance t) with net := n }) : Does c s P := by
  have hn := (f (s.advance t)).answerOwed_net k (v (s.advance t))
  refine does_onIsland he hl ?_ ?_ ?_
  · rw [hn]; exact hp
  · rw [hn]; exact congrArg Clk.raw hr
  · rw [hn]; exact hP _

/-- Settles O7: the three transactions, the end of a store, the four reads, the two validations. -/
theorem hostAndReadCommands : Obligations.HostAndReadCommands := by
  unfold Obligations.HostAndReadCommands
  refine ⟨fun t b p s hl hh hr hb h1 h2 hp hq hm => ?_, fun t s hl hh => ?_, fun t b s hl hh hr => ?_, fun t x s hl hx => ⟨?_, ?_⟩,
    fun t a r e s v hl hr hc ht hv hk hs hn => ?_, fun t a r e s v hl hr hc ht hv hk hs hn => ?_,
    fun t a r e s v hl hr hc ht hv hk hs => ?_, fun t a r e s v hl hr hc ht hv hk hs => ?_, fun t b s hl hb => ?_, fun t b s hl hb => ?_⟩
  · have hw := (State.hostWrite_taken hh hr hb h1 h2 hp).trans (State.transport_host rfl hq hm)
    exact does_onIsland_eq rfl hl (congrArg (State.hostFall · 2000) hw) rfl rfl ⟨rfl, rfl, rfl, (s.advance t).pushQ_wp .request _ hq⟩
  · exact does_onIsland_eq rfl hl (congrArg (State.hostFall · 200) (if_pos hh)) rfl rfl ⟨rfl, rfl, rfl⟩
  · exact does_onIsland_eq rfl hl (congrArg (State.hostFall · 200) (State.readResponse_ready hh hr)) rfl rfl ⟨rfl, rfl, rfl⟩
  · exact does_onIsland_eq rfl hl (State.storeEnded_true (s := s.advance t) hx) rfl rfl ⟨rfl, rfl, rfl, rfl⟩
  · refine does_onIsland_eq rfl hl (State.storeEnded_false (s := s.advance t) hx) (State.post_pending ..)
      (congrArg Clk.raw (State.post_clk ..)) ?_
    rw [State.post_keep, State.post_dict]
    exact ⟨rfl, rfl, rfl⟩
  · exact does_read rfl hl hr hc ht hv hk hs (by decide) (v.readEntry_log ..) (hn.trans r.limit_le_segment)
      (fun n h => ⟨h.lastResp, h.logCursor⟩)
  · refine does_read rfl hl hr hc ht hv hk hs (by decide) (v.readEntry_rows ..) (hn.trans r.limit_le_segment)
      (fun n h => ⟨h.lastResp, h.almSelect.trans ?_⟩)
    rw [State.readRows, State.modSess_session, if_pos rfl]
  · have hb : v.calBlock = (s.advance t).calBlock := hv ▸ State.turn_calBlock ..
    have hp : a.src.path ∈ insRising r.src.path v.cal.latched := hr ▸ mem_insRising ..
    exact does_read rfl hl hr hc ht hv hk hs (by decide) (v.readEntry_sec ..) (v.calBlock.at_one_fits r)
      (fun n h => ⟨hb, hp, h.lastResp⟩)
  · have hb : v.calBlock = (s.advance t).calBlock := hv ▸ State.turn_calBlock ..
    have ha : v.cal.latched = s.cal.latched := congrArg Cal.latched (hv ▸ State.turn_cal ..)
    exact does_read rfl hl hr hc ht hv hk hs (by decide) (v.readEntry_block ..) (v.calBlock.block_fits r)
      (fun n h => ⟨hb, ha, h.lastResp⟩)
  · have ho := (s.advance t).modelValidated_only
    exact does_validated (f := fun s => s.modelValidated.1) (v := fun s => stageReply s.modelValidated.2 0x0A10) rfl hl
      (by rw [ho]; rfl) (by rw [ho]) (fun n => State.modelValidated_stage (s := s.advance t) hb)
  · have ho := (s.advance t).progValidated_only
    exact does_validated (f := fun s => s.progValidated.1) (v := fun s => stageReply s.progValidated.2 0x0A11) rfl hl
      (by rw [ho]; rfl) (by rw [ho]) (fun n => State.progValidated_stage (s := s.advance t) hb)

end Machine
end Sys2Proof
end

section
/-! SUPPORT. The staging of images (R106, R349): a write whose response is owed, from its LAST SEGMENT to the completion of the access, and
the statement about the commands. -/

namespace Sys2Proof
namespace Machine

/-! ## A write whose response is owed (R62, R106) -/

/-- A value that every check lets through and whose owner answers later is submitted, and its response is owed. -/
theorem State.writeValue_later {s y : State} {r : Req} {idx sub flags : Nat} {e : Ent} {b : Octets} (h7 : e.badLength idx sub b = false)
    (h8 : e.badValue b = false) (hs : s.shut idx = false) (ho : s.readOpen idx sub true = false)
    (hd : s.applyWrite r.ctx idx sub b = .later y) : s.writeValue r idx sub e b flags = ⟨y, .owed⟩ := by
  simp [State.writeValue, h7, h8, hs, hd, ho]

/-- The LAST SEGMENT of a write whose owner answers later leaves what the owner made of the value. -/
theorem State.completeWrite_later {s y : State} {r : Req} {x : Transfer} {e : Ent} (he : entAt x.index x.sub = some e)
    (ht : (s.setXfer r.ctx none).sealOk r 4 x.index x.sub (x.data ++ r.pdu.data)
      ((s.setXfer r.ctx none).needsTrailer r x.index x.sub e))
    (hv : State.writeValue ((s.setXfer r.ctx none).sealed r 4 x.index x.sub (x.data ++ r.pdu.data)
      ((s.setXfer r.ctx none).needsTrailer r x.index x.sub e)) r x.index x.sub e (x.data ++ r.pdu.data) 2 = ⟨y, .owed⟩) :
    s.completeWrite r x = ⟨y, .owed⟩ := by
  simp only [State.sealOk, State.sealed] at ht hv
  simp [State.completeWrite, he, ht, hv]

/-- A SEGMENT owes its response under the entry of the transfer that is open. -/
theorem State.owedKey_segment {s : State} {r : Req} {x : Transfer} (hc : r.pdu.cs = 5) (hx : (s.session r.ctx).xfer = some x) :
    s.owedKey r = key x.index x.sub := by
  simp [State.owedKey, hc, hx]

/-- An access whose response is owed leaves what the server made of its request, but for the network part, where the request is kept until
the response. -/
theorem State.access_owed {s w : State} {r : Req} (h : s.takes r) (hs : (s.turn r).serveCs r = ⟨w, .owed⟩) :
    OnlyNet w (s.access r) ∧ Tab.find (s.access r).net.owed ((s.turn r).owedKey r) = some r := by
  rw [State.access_takes s r h, hs]
  exact ⟨(State.remember_net ..).trans (OnlyNet.of ..), Tab.find_insert_self ..⟩

/-! ## The commands -/

/-- An access whose response is owed completes with what the server made of its request, but for the network part, where the request is
kept under its entry. -/
theorem does_owed {c : Instr} {t k : Nat} {r : Req} {s w : State} {P : State → Prop} (he : exec c s = accessCmd t r s)
    (hl : s.live .house t) (ht : (s.advance t).takes r) (hs : ((s.advance t).turn r).serveCs r = ⟨w, .owed⟩)
    (hk : ((s.advance t).turn r).owedKey r = k) (hp : w.pending = s.pending) (hr : w.clk = (s.advance t).clk)
    (hP : ∀ n, Tab.find n.owed k = some r → P { w with net := n }) : Does c s P := by
  subst hk
  obtain ⟨hu, howed⟩ := State.access_owed ht hs
  refine does_onIsland (f := fun s => s.access r) he hl ?_ ?_ ?_
  · rw [hu]; exact hp
  · rw [hu]; exact congrArg Clk.raw hr
  · rw [hu]; exact hP _ howed

/-- The state as an image of the model is submitted (R106). -/
def State.modelSubmitted (s : State) (b : Octets) : State := s.modModel (fun m => { m with stage := { m.stage with coming := some b } })

/-- The state as an image of the program is submitted (R349). -/
def State.progSubmitted (s : State) (b : Octets) : State := s.modLogic (fun l => { l with stage := { l.stage with coming := some b } })

/-- A model image is submitted where none is being validated or activated. -/
theorem State.applyWrite_modelImage {s : State} (n : Nat) (b : Octets) (h3 : s.model.stage.status ≠ 3) (hc : s.model.stage.coming = none) :
    s.applyWrite n 0x2000 1 b = .later (s.modelSubmitted b) := by
  have hw : s.ownerWrite n 0x2000 1 b = s.imageWrite b := rfl
  simp [State.applyWrite, hw, State.imageWrite, h3, hc, State.modelSubmitted]

/-- So is a program image. -/
theorem State.applyWrite_progImage {s : State} (n : Nat) (b : Octets) (h3 : s.logic.stage.status ≠ 3) (hc : s.logic.stage.coming = none) :
    s.applyWrite n 0x5000 3 b = .later (s.progSubmitted b) := by
  have hw : s.ownerWrite n 0x5000 3 b = s.progImageWrite b := rfl
  simp [State.applyWrite, hw, State.progImageWrite, h3, hc, State.progSubmitted]

/-- Settles O8: the LAST SEGMENT of a model image and that of a program image. -/
theorem imageStaging : Obligations.ImageStaging := by
  unfold Obligations.ImageStaging
  intro t offset a b r x e s v w hl hr ht hv hx hw ho hb hn he hk hwv h7 h8 hs hro
  have hserve : ∀ y, w.applyWrite r.ctx x.index x.sub (x.data ++ b) = .later y → v.serveCs r = ⟨y, .owed⟩ := by
    intro y hy
    have hlast := a.segment_last offset true b
    have hval := State.writeValue_later (flags := 2) h7 h8 hs hro hy
    subst hr hwv
    exact (State.serveSegment_write hx hw (fun _ => hlast) hb ho).trans ((State.writeSegment_last hlast hn).trans
      (State.completeWrite_later he hk hval))
  have hkey : v.owedKey r = key x.index x.sub := State.owedKey_segment (hr ▸ rfl) hx
  have hnet : OnlyNet (s.advance t) w := by
    subst hv hwv
    exact ((State.turn_net ..).trans (State.modSess_net ..)).trans (State.sealed_net _ _ _ _ _ _ _ hk)
  clear hwv hk
  obtain ⟨n, rfl⟩ : ∃ n, w = { s.advance t with net := n } := ⟨_, hnet⟩
  subst hv
  refine ⟨fun hi hj h3 hc => ?_, fun hi hj h3 hc => ?_⟩
  · rw [hi, hj] at hserve hkey
    exact does_owed (hr ▸ rfl) hl ht (hserve _ (State.applyWrite_modelImage _ _ h3 hc)) hkey rfl rfl (fun m hm => ⟨rfl, hm⟩)
  · rw [hi, hj] at hserve hkey
    exact does_owed (hr ▸ rfl) hl ht (hserve _ (State.applyWrite_progImage _ _ h3 hc)) hkey rfl rfl (fun m hm => ⟨rfl, hm⟩)

end Machine
end Sys2Proof
end

section
/-! SUPPORT. The model's activation and the hydraulic commands (R133): a state in which the probe clause of their statement fails. -/

namespace Sys2Proof
namespace Machine

/-- A device in RUN under an empty image, whose network 0 is used and has no consumer. Its probe job ended at its deadline without an
iterate, with both problems counted as stopped (`stage = 2`) and the first as published; `State.iterProbe` lets the count reach 1 only. -/
def emptyProbeEnded : State :=
  { State.reset with
    dev := { state := .run }
    model := { active := some [] }
    hyd := { snap := some { start := 0, vals := [], img := [], k := [], x := [], light := [], chans := [], ai := [], held := 0 },
             probe := some { cons := [], f := [] } }
    loam := { State.reset.loam with
      running := some 1, jobs := [(1, { state := 2, reason := some .deadlineEmpty, stage := 2, firstOk := true })] } }

/-- There the end of the probe leaves the record of network 0 as it was: both problems pass as published, and no margin replaces it. -/
theorem emptyProbeEnded_keeps : Does (.delivProbeEnd 0) emptyProbeEnded (fun u => u.hyd.deliv.getD 0 {} = {}) :=
  ⟨_, rfl, by decide⟩

/-- Refutes O10: its probe clause does not bound the number of problems that the job counts as stopped. Where the count is 2 and the first
problem passed, a job without an iterate passes for published, and `PROBE_FAIL` of a network without consumers stays clear. No run
reaches such a job. -/
theorem not_modelAndHydraulicCommands : ¬ Obligations.ModelAndHydraulicCommands := by
  unfold Obligations.ModelAndHydraulicCommands
  rintro ⟨-, -, -, -, -, -, hprobe, -⟩
  obtain ⟨u, hu, -, -, hfail⟩ := hprobe 0 _ _ emptyProbeEnded (by decide) rfl rfl rfl rfl rfl (by decide)
  obtain ⟨v, hv, hkeep⟩ := emptyProbeEnded_keeps
  obtain rfl : u = v := by simpa using hu.symm.trans hv
  have hbad := (hfail (by decide)).symm.trans hkeep
  exact absurd (congrArg Deliv.probeFail hbad) (by decide)

end Machine
end Sys2Proof
end

section
/-! SUPPORT. Writes of the model's operating inputs, of the estimator and of the planner (R95–R100, R106, R140, R150, R163, R481): what the
storing of an operating input leaves, what the owners make of the values, and the statement about the commands. -/

namespace Sys2Proof
namespace Machine

/-! ## Storing an operating input (R100) -/

/-- What a value is stored as depends on the dictionary alone. -/
theorem State.store_dict_congr {u v : State} (h : u.dict = v.dict) (idx sub : Nat) (b : Octets) :
    (u.store idx sub b).dict = (v.store idx sub b).dict := by
  have hval : u.val idx sub = v.val idx sub := by rw [State.val, State.val, h]
  unfold State.store
  split
  · simp only [State.setVal, h, hval]
  · exact h

/-- The mirroring of an operating input leaves the dictionary as the storing made it. -/
theorem State.storeInput_dict (s : State) (idx sub : Nat) (b : Octets) : (s.storeInput idx sub b).dict = (s.store idx sub b).dict := by
  rw [State.storeInput_only]

theorem State.storeAll_dict_congr (l : List Octets) {u v : State} (h : u.dict = v.dict) (idx sub : Nat) :
    (u.storeAll idx sub l).dict = (v.storeAll idx sub l).dict := by
  induction l generalizing u v sub with
  | nil => exact h
  | cons b r ih =>
    refine ih ?_ (sub + 1)
    rw [State.storeInput_dict, State.storeInput_dict, State.store_dict_congr h]

/-- Operating inputs change the dictionary, and the lease where they are mirrored. -/
theorem State.storeAll_only (l : List Octets) (s : State) (idx sub : Nat) :
    s.storeAll idx sub l = { s with dict := (s.storeAll idx sub l).dict, lease := (s.storeAll idx sub l).lease } := by
  induction l generalizing s sub with
  | nil => rfl
  | cons b r ih =>
    rw [State.storeAll, ih, State.storeInput_only]

/-- A write that stores operating inputs completes with the dictionary that the storing makes of the one at its moment; beside it only the
lease and the network part change. -/
theorem does_storeAll {c : Instr} {t idx sub k : Nat} {a : Acc} {b : Octets} {l : List Octets} {s : State}
    (he : exec c s = writeCmd true t a idx sub b s) (h : s.mayWrite t a idx sub b)
    (hd : ∀ n, State.ownerWrite { s.advance t with net := n } a.ctx idx sub b =
      .done (State.storeAll { s.advance t with net := n } idx k l)) :
    Does c s (fun u => u = { s.advance t with dict := u.dict, lease := u.lease, net := u.net } ∧
      u.dict = ((s.advance t).storeAll idx k l).dict) := by
  refine does_ownerWrite (f := fun v => v.storeAll idx k l) he h (fun n _ => hd n) (fun v => by rw [State.storeAll_only])
    (fun v => by rw [State.storeAll_only]) (fun n m => ⟨?_, ?_⟩)
  · rw [State.storeAll_only]
  · exact State.storeAll_dict_congr l (u := { s.advance t with net := n }) (v := s.advance t) rfl idx k

/-- As `does_storeAll`, for the one value written. -/
theorem does_storeInput {c : Instr} {t idx sub : Nat} {a : Acc} {b : Octets} {s : State}
    (he : exec c s = writeCmd true t a idx sub b s) (h : s.mayWrite t a idx sub b)
    (hd : ∀ n, State.ownerWrite { s.advance t with net := n } a.ctx idx sub b =
      .done (State.storeInput { s.advance t with net := n } idx sub b)) :
    Does c s (fun u => u = { s.advance t with dict := u.dict, lease := u.lease, net := u.net } ∧
      u.dict = ((s.advance t).store idx sub b).dict) := by
  rw [← State.storeInput_dict]
  exact does_storeAll (l := [b]) he h hd

/-! ## What the owners of the operating inputs make of a value (R95–R98) -/

/-- An operating input that passes its own check is stored on a lane that may take it (R100). -/
theorem State.inputWrite_done {s : State} (code : Nat) {bad : Bool} (f : State → State) (hb : bad = false) (hh : s.inputsHeld = true) :
    s.inputWrite code bad f = .done (f s) := by
  simp [State.inputWrite, hb, hh]

/-- A write of recipe `r` is chapter 3's. -/
theorem State.ownerWrite_recipe_eq {s : State} (n : Nat) {r : Nat} {b : Octets} (hr : r < 256) :
    s.ownerWrite n (0x7000 + r) 1 b = s.recipeWrite r b := by
  have hm : s.ownerWrite n (0x7000 + r) 1 b = s.modelWrite (0x7000 + r) 1 false b := by
    simp (disch := omega) only [State.ownerWrite, if_neg]
  rw [hm]
  unfold State.modelWrite
  simp (disch := omega) only [if_neg, if_pos, reduceIte, Nat.add_sub_cancel_left]

theorem State.ownerWrite_recipe {s : State} (n : Nat) {r : Nat} {b : Octets} (hr : r < 256) (hl : b.length = 536) (ho : recipeOk b = true)
    (hc : s.recipeClash r b = false) (hh : s.inputsHeld = true) :
    s.ownerWrite n (0x7000 + r) 1 b = .done (s.storeInput (0x7000 + r) 1 b) := by
  rw [State.ownerWrite_recipe_eq n hr, State.recipeWrite, if_neg (not_not.mpr hl), if_neg (not_not.mpr ho)]
  exact State.inputWrite_done _ _ hc hh

theorem State.ownerWrite_assign {s : State} (n : Nat) {b : Octets} (hl : b.length = 64) (ho : s.assignOk b = true)
    (hh : s.inputsHeld = true) : s.ownerWrite n 0x2006 2 b = .done (s.storeInput 0x2006 2 b) := by
  have hw : s.ownerWrite n 0x2006 2 b = s.assignWrite b := rfl
  rw [hw, State.assignWrite, if_neg (not_not.mpr hl)]
  exact State.inputWrite_done _ _ (by rw [ho]; rfl) hh

theorem State.ownerWrite_tariff {s : State} (n : Nat) {j : Nat} {b : Octets} (hj : j < 8) (hl : tarLen b = true) (ho : tarOk j b = true)
    (hh : s.inputsHeld = true) : s.ownerWrite n 0x2007 (j + 1) b = .done (s.storeInput 0x2007 (j + 1) b) := by
  have hw : s.ownerWrite n 0x2007 (j + 1) b = s.tariffWrite (j + 1) b := if_pos (c := j + 1 ≤ 8) (by omega)
  rw [hw, State.tariffWrite, if_neg (not_not.mpr hl)]
  exact State.inputWrite_done _ _ (by rw [Nat.add_sub_cancel, ho]; rfl) hh

theorem State.ownerWrite_tariffAll {s : State} (n : Nat) {b : Octets} {l : List Octets} (hc : cutSeries tarLenOf 8 b = some l)
    (hl : l.all tarLen = true) (ho : ∀ j, j < 8 → tarOk j (nth [] l j) = true) (hh : s.inputsHeld = true) :
    s.ownerWrite n 0x2007 9 b = .done (s.storeAll 0x2007 1 l) := by
  have hw : s.ownerWrite n 0x2007 9 b = s.tariffAll b := rfl
  have hall : (List.range 8).all (fun j => tarOk j (nth [] l j)) = true :=
    List.all_eq_true.mpr fun j hj => ho j (List.mem_range.mp hj)
  rw [hw]
  simp only [State.tariffAll, hc, if_neg (not_not.mpr hl)]
  exact State.inputWrite_done _ _ (by rw [hall]; rfl) hh

theorem State.ownerWrite_forecast {s : State} (n : Nat) {q : Nat} {b : Octets} (hq : q < 3) (hl : fcLen b = true) (ho : fcOk b = true)
    (hh : s.inputsHeld = true) : s.ownerWrite n 0x2008 (q + 1) b = .done (s.storeInput 0x2008 (q + 1) b) := by
  have hw : s.ownerWrite n 0x2008 (q + 1) b = s.fcWrite (q + 1) b := if_pos (c := q + 1 ≤ 3) (by omega)
  rw [hw, State.fcWrite, if_neg (not_not.mpr hl)]
  exact State.inputWrite_done _ _ (by rw [ho]; rfl) hh

theorem State.ownerWrite_forecastAll {s : State} (n : Nat) {b : Octets} {l : List Octets} (hc : cutSeries fcLenOf 3 b = some l)
    (hl : l.all fcLen = true) (ho : l.all fcOk = true) (hh : s.inputsHeld = true) :
    s.ownerWrite n 0x2008 4 b = .done (s.storeAll 0x2008 1 l) := by
  have hw : s.ownerWrite n 0x2008 4 b = s.fcAll b := rfl
  rw [hw]
  simp only [State.fcAll, hc, if_neg (not_not.mpr hl)]
  exact State.inputWrite_done _ _ (by rw [ho]; rfl) hh

/-! ## Activation (R106) -/

/-- The state as the activation of a valid image is taken up, in status 3, or fails, in status 4. -/
def State.stageStatus (s : State) (n : Nat) : State := s.modModel (fun m => { m with stage := { m.stage with status := n } })

/-- The state as `ACTIVATE` leaves it: a staged image whose CRC fails is not activated, and its failure is logged. -/
def State.activated (s : State) : State :=
  if imgCrcOk s.model.stage.image then s.stageStatus 3
  else (s.stageStatus 4).post .house Code.modelActivationFailed 0 [.u8 1]

theorem State.ownerWrite_activate {s : State} (n : Nat) (h1 : s.model.stage.status = 1) (hc : s.model.stage.coming = none)
    (ho : s.stagingOpen 0x2000 1 = false) (ht : s.topoChange = false ∨ s.operating = false) :
    s.ownerWrite n 0x2000 3 (leBytes 4 0x4D0D) = .done s.activated := by
  have hw : s.ownerWrite n 0x2000 3 (leBytes 4 0x4D0D) = s.activate 0x4D0D (s.stagingOpen 0x2000 1) := rfl
  have htopo : ¬ (s.topoChange = true ∧ s.operating = true) := by
    rintro ⟨h, k⟩
    simp [h, k] at ht
  rw [hw, ho, State.activate, if_neg (by decide), if_neg (by simp [h1, hc]), if_neg (not_not.mpr h1), if_neg htopo, State.activated]
  split <;> rfl

theorem State.activated_keepsCore (s : State) : KeepsCore s s.activated :=
  .ite ⟨rfl, rfl, rfl, rfl⟩ (.trans (u := s.stageStatus 4) ⟨rfl, rfl, rfl, rfl⟩ (State.post_keepsCore ..))

theorem State.activated_ok {s : State} (h : imgCrcOk s.model.stage.image = true) : s.activated = s.stageStatus 3 := if_pos h

theorem State.activated_failed {s : State} (h : imgCrcOk s.model.stage.image = false) : s.activated.model = (s.stageStatus 4).model := by
  rw [State.activated, if_neg (by simp [h])]
  exact State.post_model ..

/-! ## Estimator and planner (R140, R150, R163, R481) -/

theorem State.ownerWrite_estimReset (s : State) (n : Nat) :
    s.ownerWrite n 0x2840 0x0D (leBytes 4 0xE57A) = .done (s.modEstim (fun e => { e with reset := true })) := rfl

/-- In a system of one device `REPLAN_NOW` waits for the next run (R150). -/
theorem State.ownerWrite_replanNow {s : State} (n : Nat) (h : s.nat 0x6410 1 = 0) :
    s.ownerWrite n 0x2810 5 (leBytes 4 0x9A1D) = .done (s.modDisp (fun d => { d with nowPending := true })) := by
  have hw : s.ownerWrite n 0x2810 5 (leBytes 4 0x9A1D) = s.planEntry 0x2810 5 (leBytes 4 0x9A1D) := rfl
  rw [hw, State.planEntry, if_neg (by simp [h])]
  rfl

/-- In a cascade its master fixes the common start at the next full second (R481). -/
theorem State.ownerWrite_replanNow_cascade {s : State} (n : Nat) (h : s.nat 0x6410 1 ≠ 0) (hm : s.isMaster = true) :
    s.ownerWrite n 0x2810 5 (leBytes 4 0x9A1D) =
      .done (s.modCasc (fun c => { c with nowAt := some ((s.clk.dev / 1000000000 + 1) * 1000000000) })) := by
  have hw : s.ownerWrite n 0x2810 5 (leBytes 4 0x9A1D) = s.planEntry 0x2810 5 (leBytes 4 0x9A1D) := rfl
  have hn : s.cascWrite 0x2810 5 (leBytes 4 0x9A1D) = s.cascNow (leBytes 4 0x9A1D) := by
    rw [State.cascWrite, if_neg (by decide), if_neg (by decide), if_pos ⟨rfl, rfl, h⟩]
  rw [hw, State.planEntry, if_pos ⟨rfl, rfl, h⟩, hn, State.cascNow, if_neg (by decide), if_pos hm]

theorem State.ownerWrite_forceCold (s : State) (n : Nat) :
    s.ownerWrite n 0x2810 6 (leBytes 4 0xC01D) = .done (s.modDisp (fun d => { d with forceCold := true })) := rfl

/-- The state as a value that the next plan must start cold from is stored (R163). -/
def State.storeCold (s : State) (sub : Nat) (b : Octets) : State := (s.store 0x2810 sub b).modDisp (fun d => { d with coldNext := true })

theorem State.ownerWrite_horizon {s : State} (n : Nat) {v : Nat} (hv : v < 65536) (h : s.horizonFits v = true) :
    s.ownerWrite n 0x2810 3 (leBytes 2 v) = .done (s.storeCold 3 (leBytes 2 v)) := by
  have hw : s.ownerWrite n 0x2810 3 (leBytes 2 v) =
      if s.horizonFits (leNat (leBytes 2 v)) then .done (s.storeCold 3 (leBytes 2 v)) else .refuse 0x0A05 s := rfl
  rw [hw, leNat_leBytes 2 v hv, if_pos h]

theorem State.ownerWrite_stepLen {s : State} (n : Nat) {v : Nat} (hv : v < 256) (h0 : v ≠ 0) (hd : 1440 % v = 0)
    (h : s.horizonFits (s.nat 0x2810 3) = true) : s.ownerWrite n 0x2810 4 (leBytes 1 v) = .done (s.storeCold 4 (leBytes 1 v)) := by
  have hw : s.ownerWrite n 0x2810 4 (leBytes 1 v) =
      if leNat (leBytes 1 v) ≠ 0 ∧ 1440 % leNat (leBytes 1 v) = 0 ∧ s.horizonFits (s.nat 0x2810 3) then
        .done (s.storeCold 4 (leBytes 1 v)) else .refuse 0x0A05 s := rfl
  rw [hw, leNat_leBytes 1 v hv, if_pos ⟨h0, hd, h⟩]

theorem State.storeCold_only (s : State) (sub : Nat) (b : Octets) :
    s.storeCold sub b = { s with dict := (s.store 0x2810 sub b).dict, disp := { s.disp with coldNext := true } } := by
  rw [State.storeCold, State.store_only]
  rfl

/-- A write that makes the next plan cold completes with the value stored. -/
theorem does_storeCold {c : Instr} {t sub : Nat} {a : Acc} {b : Octets} {s : State} (he : exec c s = writeCmd true t a 0x2810 sub b s)
    (h : s.mayWrite t a 0x2810 sub b)
    (hd : ∀ n, State.ownerWrite { s.advance t with net := n } a.ctx 0x2810 sub b =
      .done (State.storeCold { s.advance t with net := n } sub b)) :
    Does c s (fun u => u = { s.advance t with disp := { s.disp with coldNext := true }, dict := u.dict, net := u.net } ∧
      u.dict = ((s.advance t).store 0x2810 sub b).dict) := by
  refine does_ownerWrite (f := fun v => v.storeCold sub b) he h (fun n _ => hd n) (fun v => by rw [State.storeCold_only])
    (fun v => by rw [State.storeCold_only]) (fun n m => ?_)
  simp only [State.storeCold_only]
  exact ⟨rfl, State.store_dict_congr (u := { s.advance t with net := n }) (v := s.advance t) rfl ..⟩

/-! ## The commands -/

/-- A write that names a unit that exists is a write of its entry. -/
theorem writeCmd_of_unit {p : Prop} [Decidable p] (h : p) (t : Nat) (a : Acc) (idx sub : Nat) (b : Octets) (s : State) :
    writeCmd (decide p) t a idx sub b s = writeCmd true t a idx sub b s := by
  rw [decide_eq_true h]

/-- Settles O47, write by write. -/
theorem modelWrites : Obligations.ModelWrites := by
  unfold Obligations.ModelWrites
  refine ⟨fun t a s h h1 hc ho ht => ?_, fun t r v a s hr h hl hv hc hi => ?_, fun t v a s h hl hv hi => ?_,
    fun t j v a s hj h hl hv hi => ?_, fun t v l a s h hc hl hv hi => ?_, fun t q v a s hq h hl hv hi => ?_,
    fun t v l a s h hc hl hv hi => ?_, fun t a s h => ?_, fun t a s h => ⟨fun hp => ?_, fun hp hm => ?_⟩, fun t a s h => ?_,
    fun t n a s hn h hf => ?_, fun t n a s hn h0 hd h hf => ?_⟩
  · refine does_ownerWrite (f := State.activated) rfl h (fun n hn => State.ownerWrite_activate _ h1 hc (hn ▸ ho) ht)
      (fun v => v.activated_keepsCore.pending) (fun v => v.activated_keepsCore.clk) (fun n m => ⟨fun hok => ?_, fun hbad => ?_⟩)
    · rw [State.activated_ok (s := { s.advance t with net := n }) hok]
      rfl
    · exact State.activated_failed (s := { s.advance t with net := n }) hbad
  · exact does_storeInput (writeCmd_of_unit hr ..) h (fun n => State.ownerWrite_recipe _ hr hl hv hc hi)
  · exact does_storeInput rfl h (fun n => State.ownerWrite_assign _ hl hv hi)
  · exact does_storeInput (writeCmd_of_unit hj ..) h (fun n => State.ownerWrite_tariff _ hj hl hv hi)
  · exact does_storeAll rfl h (fun n => State.ownerWrite_tariffAll _ hc hl hv hi)
  · exact does_storeInput (writeCmd_of_unit hq ..) h (fun n => State.ownerWrite_forecast _ hq hl hv hi)
  · exact does_storeAll rfl h (fun n => State.ownerWrite_forecastAll _ hc hl hv hi)
  · exact does_ownerWrite (f := fun v => v.modEstim (fun e => { e with reset := true })) rfl h
      (fun n _ => State.ownerWrite_estimReset _ _) (fun _ => rfl) (fun _ => rfl) (fun _ _ => rfl)
  · exact does_ownerWrite (f := fun v => v.modDisp (fun d => { d with nowPending := true })) rfl h
      (fun n _ => State.ownerWrite_replanNow _ hp) (fun _ => rfl) (fun _ => rfl) (fun _ _ => rfl)
  · exact does_ownerWrite (f := fun v => v.modCasc (fun c => { c with nowAt := some ((v.clk.dev / 1000000000 + 1) * 1000000000) })) rfl h
      (fun n _ => State.ownerWrite_replanNow_cascade _ hp hm) (fun _ => rfl) (fun _ => rfl) (fun _ _ => rfl)
  · exact does_ownerWrite (f := fun v => v.modDisp (fun d => { d with forceCold := true })) rfl h
      (fun n _ => State.ownerWrite_forceCold _ _) (fun _ => rfl) (fun _ => rfl) (fun _ _ => rfl)
  · exact does_storeCold rfl h (fun m => State.ownerWrite_horizon _ hn hf)
  · exact does_storeCold rfl h (fun m => State.ownerWrite_stepLen _ hn h0 hd hf)

end Machine
end Sys2Proof
end

section
/-! SUPPORT. The estimator (R135, R139–R141) and the close of a quarter-hour (R152): what a run, the end of its loss job and the learning
of the profiles each change, and the statement about their commands. -/

namespace Sys2Proof
namespace Machine

/-! ## Jobs of the engine (R198, R205) -/

theorem State.yieldClass_only (s : State) (c : Nat) : s.yieldClass c = { s with loam := (s.yieldClass c).loam } := by
  unfold State.yieldClass
  split <;> rfl

/-- A class that yields leaves every job as it is. -/
@[simp] theorem State.yieldClass_job (s : State) (c k : Nat) : (s.yieldClass c).job k = s.job k := by
  unfold State.yieldClass
  split <;> rfl

theorem State.stopJob_only (s : State) (c : Nat) (r : JobEnd) : s.stopJob c r = { s with loam := (s.stopJob c r).loam } := by
  unfold State.stopJob
  extract_lets u
  split
  · rfl
  · exact u.yieldClass_only c

theorem State.handOver_only (s : State) (c : Nat) : s.handOver c = { s with loam := (s.handOver c).loam } :=
  State.yieldClass_only _ c

/-- A job that was handed over is DONE (R205). -/
theorem State.handOver_done (s : State) (c : Nat) : ((s.handOver c).job c).state = 3 := by
  have h : (s.handOver c).job c = (s.modJob c (fun j => { j with state := 3 })).job c := State.yieldClass_job ..
  rw [h, State.modJob_job, if_pos rfl]

theorem State.submitJob_only (s : State) (c d : Nat) : s.submitJob c d = { s with loam := (s.submitJob c d).loam } := by
  have habort : (if (s.job c).alive then s.stopJob c .aborted else s) =
      { s with loam := (if (s.job c).alive then s.stopJob c .aborted else s).loam } := by
    split
    · exact s.stopJob_only c .aborted
    · rfl
  unfold State.submitJob
  rw [habort]
  extract_lets u v
  split <;> rfl

/-- A job that was submitted runs, to its deadline (R198, R200). -/
theorem State.submitJob_job (s : State) (c d : Nat) :
    ((s.submitJob c d).job c).state = 1 ∧ ((s.submitJob c d).job c).deadline = d := by
  have h (u : State) (j : Job) : (u.setJob c j).job c = j := (u.setJob_job c c j).trans (if_pos rfl)
  unfold State.submitJob
  extract_lets u v
  have hv : v.job c = { no := u.loam.submits, state := 1, deadline := d } := h u _
  split
  · exact ⟨congrArg Job.state hv, congrArg Job.deadline hv⟩
  · exact ⟨congrArg Job.state hv, congrArg Job.deadline hv⟩

/-! ## A run of the estimator (R135–R140) -/

/-- The learned values are written to the keep store and mirrored; they stay themselves (R140, R141). -/
theorem State.learnedSave_only (s : State) :
    s.learnedSave = { s with keep := s.learnedSave.keep, lease := s.learnedSave.lease } := by
  unfold State.learnedSave
  extract_lets r
  rw [State.mirror_only]

theorem State.windowHistory_only (s : State) (stop : Nat) :
    s.windowHistory stop = { s with hyd := (s.windowHistory stop).hyd } := by
  unfold State.windowHistory
  extract_lets w mean ent
  split <;> rfl

/-- `u` is `s` but for the learned biases and drifts. -/
def OnlyBiases (s u : State) : Prop := u = { s with estim := { s.estim with bias := u.estim.bias, drift := u.estim.drift } }

theorem OnlyBiases.estim {s u : State} (h : OnlyBiases s u) :
    u.estim = { s.estim with bias := u.estim.bias, drift := u.estim.drift } :=
  congrArg State.estim h

theorem OnlyBiases.refl (s : State) : OnlyBiases s s := rfl

theorem OnlyBiases.trans {s u w : State} (h : OnlyBiases s u) (k : OnlyBiases u w) : OnlyBiases s w := by
  rw [OnlyBiases] at h k
  rw [h] at k
  exact k

theorem State.biasUpdate_only (s : State) (r : State × EstCount) (c : Nat) : OnlyBiases r.1 (s.biasUpdate r c).1 := by
  unfold State.biasUpdate
  extract_lets e o v p w
  clear_value w -- `rfl` below is not to compute it
  split
  · exact .refl _
  · split
    · exact .refl _
    · rfl

theorem State.driftUpdate_only (s : State) (r : State × EstCount) (p : Nat) : OnlyBiases r.1 (s.driftUpdate r p).1 := by
  unfold State.driftUpdate
  extract_lets e o th st lim v
  clear_value v -- as above
  split
  · exact .refl _
  · rfl

/-- What each update of a run keeps, all of them keep. -/
theorem OnlyBiases.foldl {s : State} {f : State × EstCount → Nat → State × EstCount} (h : ∀ r k, OnlyBiases r.1 (f r k).1)
    (l : List Nat) {r : State × EstCount} (hr : OnlyBiases s r.1) : OnlyBiases s (l.foldl f r).1 :=
  List.foldlRecOn (motive := fun r => OnlyBiases s r.1) l f hr (fun r hr k _ => hr.trans (h r k))

theorem State.estimUpdates_only (s : State) : OnlyBiases s s.estimUpdates.1 := by
  unfold State.estimUpdates
  extract_lets en r
  have hr : OnlyBiases s r.1 := by
    unfold r
    split
    · exact .foldl s.biasUpdate_only _ (.refl s)
    · exact .refl s
  split
  · exact .foldl s.driftUpdate_only _ hr
  · exact hr

/-- A run has begun: the window's flows are recorded, and it has its number and time (R132, R143). -/
def State.runBegun (s : State) (stop : Nat) : State :=
  (s.windowHistory stop).modEstim (fun e => { e with seq := (e.seq + 1) % 4294967296, time := stop })

theorem State.runBegun_only (s : State) (stop : Nat) :
    s.runBegun stop = { s with hyd := (s.windowHistory stop).hyd,
                               estim := { s.estim with seq := (s.estim.seq + 1) % 4294967296, time := stop } } := by
  rw [State.runBegun, State.windowHistory_only]
  rfl

/-- A new window begins at the end of the last. -/
def State.newWindow (s : State) (stop : Nat) : State := s.modEstim (fun e => { e with win := { start := stop } })

/-- The counts of a complete run: a group that is not solved is held (R135, R143). -/
def State.runCounts (s : State) (stop : Nat) : EstCount :=
  let c := (s.runBegun stop).estimUpdates.2
  if bitOf (s.hydCfg 0x2840 2) 0 then
    { c with held := c.held + (((lossGroups s.img).filter (fun e => decide (e.1 = e.2))).length - s.solvedGroups.length) }
  else c

/-- A run complete but for its loss job. -/
def State.runDone (s : State) (stop : Nat) : State :=
  (s.runBegun stop).estimUpdates.1.estimDone (s.runCounts stop) (if (s.runCounts stop).held = 0 then 1 else 2)

theorem State.estimRun_of_reset {s : State} (stop : Nat) (h : s.estim.reset = true) :
    s.estimRun stop = (((s.runBegun stop).modEstim
      (fun e => { e with loss := [], bias := [], drift := [], reset := false })).estimDone {} 1).newWindow stop := by
  rw [State.estimRun, if_pos h]
  rfl

theorem State.estimRun_of_sparse {s : State} (stop : Nat) (h : s.estim.reset = false)
    (hw : s.estim.win.periods = 0 ∨ 2 * s.estim.win.published < s.estim.win.periods) :
    s.estimRun stop = ((s.runBegun stop).modEstim (fun e => { e with status := 4 })).learnedSave.newWindow stop := by
  rw [State.estimRun, if_neg (by simp [h]), if_pos hw]
  rfl

theorem State.estimRun_of_complete {s : State} (stop : Nat) (h : s.estim.reset = false) (h0 : s.estim.win.periods ≠ 0)
    (hp : s.estim.win.periods ≤ 2 * s.estim.win.published) :
    s.estimRun stop =
      if bitOf (s.hydCfg 0x2840 2) 0 = true ∧ s.solvedGroups ≠ [] then
        ((s.runDone stop).submitJob 3 (stop + s.hydCfg 0x2840 12 * 1000000000)).modEstim
          (fun e => { e with lossJob := some (s.takeLoss s.solvedGroups), win := { start := stop } })
      else (s.runDone stop).newWindow stop := by
  have hw : ¬ (s.estim.win.periods = 0 ∨ 2 * s.estim.win.published < s.estim.win.periods) := by omega
  rw [State.estimRun, if_neg (by simp [h]), if_neg hw]
  rfl

@[simp] theorem State.learnedSave_estim (s : State) : s.learnedSave.estim = s.estim := by rw [State.learnedSave_only]
@[simp] theorem State.learnedSave_loam (s : State) : s.learnedSave.loam = s.loam := by rw [State.learnedSave_only]
@[simp] theorem State.handOver_estim (s : State) (c : Nat) : (s.handOver c).estim = s.estim := by rw [State.handOver_only]
@[simp] theorem State.submitJob_estim (s : State) (c d : Nat) : (s.submitJob c d).estim = s.estim := by rw [State.submitJob_only]

theorem State.estimDone_estim (s : State) (c : EstCount) (st : Nat) :
    (s.estimDone c st).estim = { s.estim with status := st, updated := c.updated, heldN := c.held, clamped := c.clamped } :=
  State.learnedSave_estim _

theorem State.runBegun_estim (s : State) (stop : Nat) :
    (s.runBegun stop).estim = { s.estim with seq := (s.estim.seq + 1) % 4294967296, time := stop } := by
  rw [State.runBegun_only]

/-- A run complete but for its loss job has its number, time, status and counts; of the learned values it changes biases and drifts. -/
theorem State.runDone_estim (s : State) (stop : Nat) :
    (s.runDone stop).estim = { s.estim with
      seq := (s.estim.seq + 1) % 4294967296, time := stop, status := if (s.runCounts stop).held = 0 then 1 else 2,
      updated := (s.runCounts stop).updated, heldN := (s.runCounts stop).held, clamped := (s.runCounts stop).clamped,
      bias := (s.runBegun stop).estimUpdates.1.estim.bias, drift := (s.runBegun stop).estimUpdates.1.estim.drift } := by
  rw [State.runDone, State.estimDone_estim, (State.estimUpdates_only _).estim, State.runBegun_estim]

/-- A complete run, with or without a loss job, has its number, time and status and a new window; the multipliers stay. -/
theorem State.estimRun_complete_estim {s : State} (stop : Nat) (h : s.estim.reset = false) (h0 : s.estim.win.periods ≠ 0)
    (hp : s.estim.win.periods ≤ 2 * s.estim.win.published) :
    ((s.estimRun stop).estim.status = 1 ∨ (s.estimRun stop).estim.status = 2) ∧
      (s.estimRun stop).estim.seq = (s.estim.seq + 1) % 4294967296 ∧ (s.estimRun stop).estim.time = stop ∧
      (s.estimRun stop).estim.win = { start := stop } ∧ (s.estimRun stop).estim.loss = s.estim.loss := by
  have hst : ∀ n : Nat, (if n = 0 then 1 else 2) = 1 ∨ (if n = 0 then 1 else 2) = 2 := fun n => by split <;> simp
  rw [State.estimRun_of_complete stop h h0 hp]
  split
  · rw [State.modEstim_eq, State.submitJob_estim, State.runDone_estim]
    exact ⟨hst _, rfl, rfl, rfl, rfl⟩
  · rw [State.newWindow, State.modEstim_eq, State.runDone_estim]
    exact ⟨hst _, rfl, rfl, rfl, rfl⟩

/-- A complete run submits its loss job where losses are learned and groups have samples enough (R135). -/
theorem State.estimRun_complete_job {s : State} (stop : Nat) (h : s.estim.reset = false) (h0 : s.estim.win.periods ≠ 0)
    (hp : s.estim.win.periods ≤ 2 * s.estim.win.published) (hb : bitOf (s.hydCfg 0x2840 2) 0 = true) (hg : s.solvedGroups ≠ []) :
    ((s.estimRun stop).job 3).state = 1 ∧ ((s.estimRun stop).job 3).deadline = stop + s.hydCfg 0x2840 12 * 1000000000 ∧
      (s.estimRun stop).estim.lossJob = some (s.takeLoss s.solvedGroups) := by
  rw [State.estimRun_of_complete stop h h0 hp, if_pos ⟨hb, hg⟩]
  obtain ⟨hs, hd⟩ := (s.runDone stop).submitJob_job 3 (stop + s.hydCfg 0x2840 12 * 1000000000)
  exact ⟨hs, hd, rfl⟩

/-! A run moves neither the clock nor the waiting commands. -/

theorem State.learnedSave_keepsCore (s : State) : KeepsCore s s.learnedSave := by
  rw [State.learnedSave_only]
  exact ⟨rfl, rfl, rfl, rfl⟩

theorem State.windowHistory_keepsCore (s : State) (stop : Nat) : KeepsCore s (s.windowHistory stop) := by
  rw [State.windowHistory_only]
  exact ⟨rfl, rfl, rfl, rfl⟩

theorem State.modEstim_keepsCore (s : State) (f : Estim → Estim) : KeepsCore s (s.modEstim f) := ⟨rfl, rfl, rfl, rfl⟩

theorem State.submitJob_keepsCore (s : State) (c d : Nat) : KeepsCore s (s.submitJob c d) := by
  rw [State.submitJob_only]
  exact ⟨rfl, rfl, rfl, rfl⟩

theorem State.handOver_keepsCore (s : State) (c : Nat) : KeepsCore s (s.handOver c) := by
  rw [State.handOver_only]
  exact ⟨rfl, rfl, rfl, rfl⟩

theorem OnlyBiases.keepsCore {s u : State} (h : OnlyBiases s u) : KeepsCore s u := by
  rw [h]
  exact ⟨rfl, rfl, rfl, rfl⟩

theorem State.runBegun_keepsCore (s : State) (stop : Nat) : KeepsCore s (s.runBegun stop) :=
  (s.windowHistory_keepsCore stop).trans (State.modEstim_keepsCore ..)

theorem State.estimDone_keepsCore (s : State) (c : EstCount) (st : Nat) : KeepsCore s (s.estimDone c st) :=
  (s.modEstim_keepsCore _).trans (State.learnedSave_keepsCore _)

theorem State.windowOnly_keepsCore (s : State) (stop : Nat) : KeepsCore s (s.windowOnly stop) :=
  (s.windowHistory_keepsCore stop).trans (State.modEstim_keepsCore ..)

theorem State.runDone_keepsCore (s : State) (stop : Nat) : KeepsCore s (s.runDone stop) :=
  ((s.runBegun_keepsCore stop).trans (State.estimUpdates_only _).keepsCore).trans (State.estimDone_keepsCore ..)

theorem State.estimRun_keepsCore (s : State) (stop : Nat) : KeepsCore s (s.estimRun stop) :=
  .ite (((s.runBegun_keepsCore stop).trans (State.modEstim_keepsCore ..)).trans
      ((State.estimDone_keepsCore ..).trans (State.modEstim_keepsCore ..)))
    (.ite (((s.runBegun_keepsCore stop).trans (State.modEstim_keepsCore ..)).trans
        ((State.learnedSave_keepsCore _).trans (State.modEstim_keepsCore ..)))
      (.ite (((s.runDone_keepsCore stop).trans (State.submitJob_keepsCore ..)).trans (State.modEstim_keepsCore ..))
        ((s.runDone_keepsCore stop).trans (State.modEstim_keepsCore ..))))

/-! ## The loss job's end (R136, R139) -/

/-- The multipliers and the residual of a loss job's solution are all it changes. -/
theorem State.lossApply_only (s : State) (l : LossJob) (v : Tab Vec) :
    (s.lossApply l v).1 = { s with estim := { s.estim with
      loss := (s.lossApply l v).1.estim.loss, rms := (s.lossApply l v).1.estim.rms } } := rfl

theorem State.lossEnd_keepsCore (s : State) (l : LossJob) (j : Job) : KeepsCore s (s.lossEnd l j) := by
  have h : KeepsCore s (s.lossApply l (j.done.getD [])).1 := by
    rw [State.lossApply_only]
    exact ⟨rfl, rfl, rfl, rfl⟩
  exact ((h.trans (State.handOver_keepsCore ..)).trans (State.modEstim_keepsCore ..)).trans (State.learnedSave_keepsCore _)

/-- A loss job that ended with a solution is handed over and counts its groups. -/
theorem State.lossEnd_done (s : State) (l : LossJob) (j : Job) :
    ((s.lossEnd l j).job 3).state = 3 ∧ (s.lossEnd l j).estim.lossJob = none ∧
      (s.lossEnd l j).estim.updated = s.estim.updated + l.groups.length := by
  rw [State.lossEnd, State.job, State.learnedSave_loam, State.learnedSave_estim]
  refine ⟨State.handOver_done .., rfl, ?_⟩
  rw [State.modEstim_eq, State.handOver_estim, State.lossApply_only]

/-- A loss job without a result is skipped (R139). -/
def State.lossSkip (s : State) : State :=
  ((s.handOver 3).modEstim (fun e => { e with lossJob := none, status := 3 })).learnedSave

theorem State.lossSkip_keepsCore (s : State) : KeepsCore s s.lossSkip :=
  ((s.handOver_keepsCore 3).trans (State.modEstim_keepsCore ..)).trans (State.learnedSave_keepsCore _)

/-- A loss job that was skipped is handed over; the multipliers stay (R139). -/
theorem State.lossSkip_done (s : State) :
    (s.lossSkip.job 3).state = 3 ∧ s.lossSkip.estim = { s.estim with lossJob := none, status := 3 } := by
  rw [State.lossSkip, State.job, State.learnedSave_loam, State.learnedSave_estim, State.modEstim_eq, State.handOver_estim]
  exact ⟨State.handOver_done .., rfl⟩

/-- A loss job has a solution: its one iteration has completed it (R139). -/
abbrev Job.solved (j : Job) : Prop := (j.state = 1 ∧ j.met = true) ∨ (j.state = 2 ∧ j.reason = some .complete)

/-- What its owner makes of the loss job: a solution is applied, a job that ended without one is skipped, another goes on (R139). -/
def State.lossOutcome (s : State) (l : LossJob) : State :=
  if (s.job 3).solved then s.lossEnd l (s.job 3)
  else if (s.job 3).state = 2 ∧ (s.job 3).reason ≠ some .aborted then s.lossSkip
  else s

theorem State.lossOutcome_keepsCore (s : State) (l : LossJob) : KeepsCore s (s.lossOutcome l) :=
  .ite (s.lossEnd_keepsCore l _) (.ite s.lossSkip_keepsCore (.refl s))

theorem State.lossOutcome_of_solved {s : State} {l : LossJob} (h : (s.job 3).solved) : s.lossOutcome l = s.lossEnd l (s.job 3) :=
  if_pos h

theorem State.lossOutcome_of_none {s : State} {l : LossJob} (h2 : (s.job 3).state = 2) (hc : (s.job 3).reason ≠ some .complete)
    (ha : (s.job 3).reason ≠ some .aborted) : s.lossOutcome l = s.lossSkip := by
  have hs : ¬ (s.job 3).solved := by simp [Job.solved, h2, hc]
  exact (if_neg hs).trans (if_pos ⟨h2, ha⟩)

/-! ## The quarter-hour (R151, R152) -/

/-- `u` is `s` but for the demand profiles. -/
def OnlyProfiles (s u : State) : Prop := u = { s with disp := { s.disp with profB := u.disp.profB, profS := u.disp.profS } }

theorem OnlyProfiles.refl (s : State) : OnlyProfiles s s := rfl

theorem OnlyProfiles.trans {s u w : State} (h : OnlyProfiles s u) (k : OnlyProfiles u w) : OnlyProfiles s w := by
  rw [OnlyProfiles] at h k
  rw [h] at k
  exact k

theorem OnlyProfiles.keepsCore {s u : State} (h : OnlyProfiles s u) : KeepsCore s u := by
  rw [h]
  exact ⟨rfl, rfl, rfl, rfl⟩

theorem State.profileSlot_only (s : State) (slot c : Nat) : OnlyProfiles s (s.profileSlot slot c) := by
  unfold State.profileSlot
  extract_lets q e y x m p err b v v'
  clear_value b v' -- `rfl` below is not to compute them
  split
  · exact .refl s
  · rfl

/-- A quarter-hour is learned: every channel's slot takes it (R152). -/
def State.quarterLearned (s : State) : State :=
  (List.range 513).foldl (fun s c => s.profileSlot (s.slotOf s.disp.quarter.start) c) s

theorem State.quarterLearned_only (s : State) : OnlyProfiles s s.quarterLearned :=
  foldl_of_step OnlyProfiles.refl OnlyProfiles.trans (fun s c => s.profileSlot_only _ c) _ s

theorem State.softSubsoil_only (s : State) (n : Nat) : s.softSubsoil n = { s with health := (s.softSubsoil n).health } := by
  unfold State.softSubsoil
  split <;> rfl

@[simp] theorem State.softSubsoil_disp (s : State) (n : Nat) : (s.softSubsoil n).disp = s.disp := by rw [State.softSubsoil_only]
@[simp] theorem State.softSubsoil_estim (s : State) (n : Nat) : (s.softSubsoil n).estim = s.estim := by rw [State.softSubsoil_only]

theorem State.softSubsoil_keepsCore (s : State) (n : Nat) : KeepsCore s (s.softSubsoil n) := by
  rw [State.softSubsoil_only]
  exact ⟨rfl, rfl, rfl, rfl⟩

theorem State.quarterEnd_keepsCore (s : State) : KeepsCore s s.quarterEnd := ⟨rfl, rfl, rfl, rfl⟩

/-- A quarter-hour that was learned from and is over enters the means of the last 24 h; the plan and the estimator stay (R152). -/
theorem OnlyProfiles.quarterEnd {s u : State} (h : OnlyProfiles s u) (hq : s.disp.quarter.periods ≠ 0) :
    u.quarterEnd.disp.quarter = {} ∧
      u.quarterEnd.disp.irr24 =
        (s.disp.irr24 ++ [s.disp.quarter.irr / s.disp.quarter.periods]).drop (s.disp.irr24.length + 1 - 96) ∧
      u.quarterEnd.disp.plan = s.disp.plan ∧ u.quarterEnd.estim = s.estim := by
  rw [h]
  simp [State.quarterEnd, hq]

theorem State.quarterOver_periods {s : State} (h : s.quarterOver = true) : s.disp.quarter.periods ≠ 0 := by
  simp only [State.quarterOver, Bool.and_eq_true, decide_eq_true_eq] at h
  exact Nat.ne_of_gt h.1

/-! ## The commands -/

/-- A run that is due is the estimator's on the lane that runs it, and closes the window alone on another (R135, R141). -/
theorem does_estimRun {t stop : Nat} {s : State} {P : State → Prop} (hl : s.live .solv t) (hm : s.model.active ≠ none) (hu : s.up = true)
    (hj : s.power.jobsHeld = false)
    (hs : stop = (s.advance t).clk.dev / (s.hydCfg 0x2840 1 * 1000000000) * (s.hydCfg 0x2840 1 * 1000000000))
    (hw : s.estim.win.start < stop)
    (h : P (if (s.advance t).estimates then (s.advance t).estimRun stop else (s.advance t).windowOnly stop)) : Does (.estimRun t) s P := by
  have hk : KeepsCore (s.advance t)
      (if (s.advance t).estimates then (s.advance t).estimRun stop else (s.advance t).windowOnly stop) :=
    .ite (State.estimRun_keepsCore ..) (State.windowOnly_keepsCore ..)
  subst hs
  exact does_onIsland_eq rfl hl (if_pos ⟨Option.isSome_iff_ne_none.mpr hm, hu, by simp [hj], hw⟩) hk.pending (congrArg Clk.raw hk.clk) h

/-- A loss job that may end on the lane that runs the estimator completes with what its owner makes of it. -/
theorem does_estimLossEnd {t : Nat} {l : LossJob} {s : State} {P : State → Prop} (hl : s.live .solv t) (hj : s.estim.lossJob = some l)
    (he : (s.advance t).estimates = true) (hm : s.mayEnd 3 = true) (h : P ((s.advance t).lossOutcome l)) :
    Does (.estimLossEnd t) s P := by
  have hk := (s.advance t).lossOutcome_keepsCore l
  refine does_onIsland_eq rfl hl ?_ hk.pending (congrArg Clk.raw hk.clk) h
  have hmay : ¬ ¬ (s.advance t).mayEnd 3 = true := not_not.mpr hm
  have hruns : ¬ (¬ (s.advance t).estimates = true ∧ (s.job 3).alive = true) := fun k => k.1 he
  simp only [State.advance_estim, hj]
  exact (if_neg hmay).trans (if_neg hruns)

/-- A quarter-hour that is over is learned from and closed. -/
theorem does_profileUpdate {t soft : Nat} {s : State} {P : State → Prop} (hl : s.live .solv t) (hq : (s.advance t).quarterOver = true)
    (h : P ((s.advance t).softSubsoil soft).quarterLearned.quarterEnd) : Does (.profileUpdate t [] soft) s P := by
  have hk : KeepsCore (s.advance t) ((s.advance t).softSubsoil soft).quarterLearned.quarterEnd :=
    ((State.softSubsoil_keepsCore ..).trans (State.quarterLearned_only _).keepsCore).trans (State.quarterEnd_keepsCore _)
  refine does_onIsland_eq rfl hl ?_ hk.pending (congrArg Clk.raw hk.clk) h
  exact if_neg (not_not.mpr hq)

/-- Settles O11, command by command. -/
theorem estimatorCommands : Obligations.EstimatorCommands := by
  unfold Obligations.EstimatorCommands
  refine ⟨fun t stop s hl hm hu hj hs hw => ⟨fun he hr hp => ?_, fun he hr => ?_, fun he hr h0 hp => ?_, fun he => ?_⟩,
    fun t l s hl hj he hm => ⟨fun hd => ?_, fun h2 hr => ?_⟩, fun t soft s hl hq => ?_⟩
  · refine does_estimRun hl hm hu hj hs hw ?_
    rw [if_pos he, State.estimRun_of_sparse (s := s.advance t) stop hr hp]
    simp [State.newWindow, State.runBegun_estim]
  · refine does_estimRun hl hm hu hj hs hw ?_
    rw [if_pos he, State.estimRun_of_reset (s := s.advance t) stop hr]
    simp [State.newWindow, State.estimDone_estim]
  · refine does_estimRun hl hm hu hj hs hw ?_
    rw [if_pos he]
    obtain ⟨hst, hseq, htime, hwin, hloss⟩ := State.estimRun_complete_estim (s := s.advance t) stop hr h0 hp
    exact ⟨hst, hseq, htime, hwin, hloss, State.estimRun_complete_job (s := s.advance t) stop hr h0 hp⟩
  · refine does_estimRun hl hm hu hj hs hw ?_
    rw [if_neg (by simp [he]), State.windowOnly, State.windowHistory_only]
    exact ⟨rfl, rfl⟩
  · refine does_estimLossEnd hl hj he hm ?_
    rw [State.lossOutcome_of_solved (s := s.advance t) hd]
    exact State.lossEnd_done ..
  · have hc : (s.job 3).reason ≠ some .complete := by rcases hr with h | h <;> simp [h]
    have ha : (s.job 3).reason ≠ some .aborted := by rcases hr with h | h <;> simp [h]
    refine does_estimLossEnd hl hj he hm ?_
    rw [State.lossOutcome_of_none (s := s.advance t) h2 hc ha]
    obtain ⟨hjob, hest⟩ := (s.advance t).lossSkip_done
    rw [hest]
    exact ⟨hjob, rfl, rfl, rfl⟩
  · refine does_profileUpdate hl hq ?_
    have hp : ((s.advance t).softSubsoil soft).disp.quarter.periods ≠ 0 := by
      rw [State.softSubsoil_disp]
      exact State.quarterOver_periods hq
    simpa using (State.quarterLearned_only _).quarterEnd hp

end Machine
end Sys2Proof
end

section
/-! SUPPORT. The job sequencer (R199–R208): what a stop, a deadline, an abort, an iteration and a replay make of a job, and what the
replacement of a lane or of the divider makes of the engine. -/

namespace Sys2Proof
namespace Machine

/-! ## Commands whose effect keeps the core -/

/-- A command of an island that runs completes where its effect keeps the waiting commands and the clock. -/
theorem does_onIsland_of_keepsCore {c : Instr} {i : Island} {t : Nat} {s u : State} {f : State → State} {P : State → Prop}
    (he : exec c s = onIsland i t s f) (hl : s.live i t) (hu : f (s.advance t) = u) (hk : KeepsCore (s.advance t) u) (h : P u) :
    Does c s P :=
  does_onIsland_eq he hl hu hk.pending (congrArg Clk.raw hk.clk) h

/-- As `does_onIsland_of_keepsCore`, for a command that names a unit. -/
theorem does_onUnit_of_keepsCore {c : Instr} {ok : Bool} {i : Island} {t : Nat} {s u : State} {f : State → State} {P : State → Prop}
    (he : exec c s = onUnit ok i t s f) (ho : ok = true) (hl : s.live i t) (hu : f (s.advance t) = u) (hk : KeepsCore (s.advance t) u)
    (h : P u) : Does c s P := by
  subst ho
  exact does_onIsland_of_keepsCore he hl hu hk h

/-! ## A job that stops (R202–R204) -/

theorem State.job_congr {s u : State} (h : u.loam = s.loam) (k : Nat) : u.job k = s.job k := by
  rw [State.job, State.job, h]

@[simp] theorem State.post_job (s : State) (i : Island) (c u : Nat) (a : List EvArg) (k : Nat) : (s.post i c u a).job k = s.job k :=
  State.job_congr (s.post_loam i c u a) k

/-- A stopped job ends for its reason and keeps all else, its completed iterate included. -/
theorem State.stopJob_job (s : State) (c : Nat) (r : JobEnd) :
    (s.stopJob c r).job c = { s.job c with state := 2, reason := some r } := by
  unfold State.stopJob
  extract_lets u
  have hu : u.job c = { s.job c with state := 2, reason := some r } := (s.modJob_job c c _).trans (if_pos rfl)
  split
  · exact hu
  · exact (u.yieldClass_job c c).trans hu

/-- The end of a job at its deadline whose owner's stopping rule was not met (R202, R211). -/
def Job.deadlineEnd (j : Job) : JobEnd :=
  if j.inputLost then .deadlineEmpty else if j.done.isSome then .deadlineIterate else .deadlineEmpty

theorem Job.deadlineEnd_of_none {j : Job} (h : j.done = none) : j.deadlineEnd = .deadlineEmpty := by
  simp [Job.deadlineEnd, h]

theorem Job.deadlineEnd_of_iterate {j : Job} (h : j.done ≠ none) (hi : j.inputLost = false) : j.deadlineEnd = .deadlineIterate := by
  simp [Job.deadlineEnd, hi, Option.isSome_iff_ne_none.mpr h]

theorem State.jobDeadline_due {s : State} {c : Nat} (h1 : (s.job c).state = 1) (hd : (s.job c).deadline ≤ s.localTime .solv)
    (hm : (s.job c).met = false) : s.jobDeadline c = s.stopJob c (s.job c).deadlineEnd := by
  rw [State.jobDeadline, if_pos ⟨h1, hd⟩, hm]
  rfl

theorem State.dropOwner_loam (s : State) (c : Nat) : (s.dropOwner c).loam = s.loam := by
  unfold State.dropOwner
  split <;> rfl

/-- An abort ends a job that still exists (R204). -/
theorem State.abortJob_job {s : State} {c : Nat} (h : (s.job c).alive = true) :
    (s.abortJob c).job c = { s.job c with state := 2, reason := some .aborted } := by
  rw [State.abortJob, if_pos h, State.job_congr (State.dropOwner_loam ..), State.stopJob_job]

/-! ## An iteration (R201, R203) -/

/-- The owner's note on a job leaves its count of iterations and its iterates as they are. -/
theorem State.iterationOf_note {s : State} {c : Nat} {i : Iteration} (h : s.iterationOf c = some i) (j : Job) :
    (i.note j).iters = j.iters ∧ (i.note j).before = j.before ∧ (i.note j).done = j.done := by
  unfold State.iterationOf at h
  split at h
  · obtain ⟨n, -, rfl⟩ := Option.map_eq_some_iff.mp h
    exact ⟨rfl, rfl, rfl⟩
  · split at h
    · cases h
      simp only [State.iterProbe]
      split
      · exact ⟨rfl, rfl, rfl⟩
      · split <;> exact ⟨rfl, rfl, rfl⟩
    · cases h
  · obtain ⟨r, -, rfl⟩ := Option.map_eq_some_iff.mp h
    exact ⟨rfl, rfl, rfl⟩
  · obtain ⟨l, -, rfl⟩ := Option.map_eq_some_iff.mp h
    exact ⟨rfl, rfl, rfl⟩

theorem State.iterate_computes {s : State} {c : Nat} {i : Iteration} (h : s.iterationOf c = some i) (hc : s.computes c = true) :
    s.iterate c = s.iterated c i.work i.note := by
  simp only [State.iterate, h, if_pos hc]

/-- The scale-floor events of an iteration are posted. -/
def State.floorsPosted (s : State) (c : Nat) (l : List Nat) : State :=
  l.foldl (fun s v => s.post .solv Code.loamScaleFloor c (s.jobArgs c ++ [.u32 v])) s

theorem State.floorsPosted_keepsCore (s : State) (c : Nat) (l : List Nat) : KeepsCore s (s.floorsPosted c l) :=
  .foldl (fun s _ => s.post_keepsCore ..) l s

/-- A job that has completed an iteration, before its owner's note: the completed mark has moved (R201). -/
def Job.completed (j : Job) (w : Work) : Job :=
  { j with vecs := w.vecs, mats := w.mats, facs := w.facs, done := some w.vecs, before := j.done, iters := j.iters + 1,
           stageIters := j.stageIters + 1, repl := j.repl + w.repl }

theorem State.iterated_of_none {s : State} {c : Nat} {w : Work} (note : Job → Job) (h : w.ovf = none) :
    s.iterated c w note = (s.floorsPosted c w.floors).setJob c (note ((s.job c).completed w)) := by
  simp only [State.iterated, h]
  rfl

/-- An overflow discards the iterates of the job and stops it (R203). -/
theorem State.iterated_of_some {s : State} {c p v : Nat} {w : Work} (note : Job → Job) (h : w.ovf = some (p, v)) :
    s.iterated c w note =
      ((((s.floorsPosted c w.floors).setJob c { s.job c with ovf := true, done := none, before := none }).post .solv Code.loamOverflow c
        ((s.floorsPosted c w.floors).jobArgs c ++ [.u8 p, .u16 v, .u32 (s.floorsPosted c w.floors).solvCycle])).stopJob c .overflow) := by
  simp only [State.iterated, h]
  rfl

theorem State.iterated_keepsCore (s : State) (c : Nat) (w : Work) (note : Job → Job) : KeepsCore s (s.iterated c w note) := by
  have hf := s.floorsPosted_keepsCore c w.floors
  cases h : w.ovf with
  | none =>
    rw [State.iterated_of_none note h]
    exact hf.trans (State.modLoam_keepsCore ..)
  | some e =>
    rw [State.iterated_of_some note h]
    exact ((hf.trans (State.modLoam_keepsCore ..)).trans (State.post_keepsCore ..)).trans (State.stopJob_keepsCore ..)

theorem State.iterated_job_of_none {s : State} {c : Nat} {w : Work} (note : Job → Job) (h : w.ovf = none) :
    (s.iterated c w note).job c = note ((s.job c).completed w) := by
  rw [State.iterated_of_none note h, State.setJob_job, if_pos rfl]

theorem State.iterated_job_of_overflow {s : State} {c : Nat} {w : Work} (note : Job → Job) (h : w.ovf ≠ none) :
    (s.iterated c w note).job c =
      { s.job c with ovf := true, done := none, before := none, state := 2, reason := some .overflow } := by
  obtain ⟨e, he⟩ := Option.ne_none_iff_exists'.mp h
  rw [State.iterated_of_some note he, State.stopJob_job, State.post_job, State.setJob_job, if_pos rfl]

/-! ## Replay (R206, R207) -/

/-- A job that starts again from its inputs. -/
def Job.replayed (j : Job) : Job :=
  { j with vecs := [], mats := [], facs := [], done := none, before := none, iters := 0, met := false, conv := false, clamps := 0,
           stage := 0, stageIters := 0, firstOk := false, repl := 0, replays := j.replays + 1 }

/-- A job that runs is replayed: the replay is logged, and the job starts again. -/
theorem State.replayJob_running {s : State} {c : Nat} (addr : Nat) (again : Bool) (h : (s.job c).state = 1) :
    s.replayJob c addr again none =
      (s.post .solv Code.loamReplay c (s.jobArgs c ++ [.u32 addr, .u8 (b2n again)])).setJob c (s.job c).replayed := by
  have h2 : ¬ (s.job c).state = 2 := by simp [h]
  simp only [State.replayJob, if_neg h2, Option.isSome_none, Bool.or_false]
  rfl

theorem State.replayJob_job {s : State} {c : Nat} (addr : Nat) (again : Bool) (h : (s.job c).state = 1) :
    (s.replayJob c addr again none).job c = (s.job c).replayed := by
  rw [State.replayJob_running addr again h, State.setJob_job, if_pos rfl]

/-- A replay changes, of the engine, the jobs alone. -/
theorem State.replayJob_loam {s : State} {c : Nat} (addr : Nat) (again : Bool) (h : (s.job c).state = 1) :
    (s.replayJob c addr again none).loam = { s.loam with jobs := (s.replayJob c addr again none).loam.jobs } := by
  rw [State.replayJob_running addr again h]
  simp [State.setJob]

theorem State.replayJob_keepsCore {s : State} {c : Nat} (addr : Nat) (again : Bool) (h : (s.job c).state = 1) :
    KeepsCore s (s.replayJob c addr again none) := by
  rw [State.replayJob_running addr again h]
  exact (s.post_keepsCore ..).trans (State.modLoam_keepsCore ..)

theorem State.replayJob_health {s : State} {c : Nat} (addr : Nat) (again : Bool) (h : (s.job c).state = 1) :
    (s.replayJob c addr again none).health = s.health := by
  rw [State.replayJob_running addr again h]
  exact State.post_health ..

/-- An SRAM word that failed parity is counted: as a row repaired where it failed again, else as a soft error (R496). -/
def State.sramCounted (s : State) (again : Bool) : State :=
  s.modHealth (fun h => if again then { h with sramRows := h.sramRows + 1 } else { h with softSram := h.softSram + 1 })

theorem State.sramCounted_keepsCore (s : State) (again : Bool) : KeepsCore s (s.sramCounted again) := s.modHealth_keepsCore _

theorem State.sramCounted_rows (s : State) (again : Bool) :
    (s.sramCounted again).health.sramRows = s.health.sramRows + (if again then 1 else 0) := by
  cases again <;> rfl

@[simp] theorem State.sramCounted_job (s : State) (again : Bool) (k : Nat) : (s.sramCounted again).job k = s.job k := rfl

/-! ## Lanes and dividers (R208, R492) -/

theorem State.freeCover_loam (s : State) (p u : Nat) : (s.freeCover p u).loam = s.loam := by
  unfold State.freeCover
  split
  · split <;> rfl
  · rfl

theorem State.refuseQueued_loam (s : State) (p : Nat) : (s.refuseQueued p).loam = s.loam := by
  unfold State.refuseQueued
  extract_lets gone u
  split
  · rfl
  · refine foldl_of_step (R := fun s u => u.loam = s.loam) (fun _ => rfl) (fun h k => k.trans h) (fun s r => ?_) gone u
    exact State.post_loam ..

/-- The retirement of an element leaves the engine's registers as they are. -/
@[simp] theorem State.retireElem_loam (s : State) (p e why : Nat) : (s.retireElem p e why).loam = s.loam := by
  unfold State.retireElem
  extract_lets u l v st w x
  split
  · rfl
  · have hv : v.loam = s.loam := by
      unfold v
      split
      · exact s.freeCover_loam p u
      · rfl
    exact (State.refuseQueued_loam ..).trans ((x.setCause_loam 0 true).trans hv)

theorem State.retireLane_loam (s : State) (l why : Nat) :
    (s.retireLane l why).loam = { s.loam with lanesOut := insRising l s.loam.lanesOut } := by
  simp [State.retireLane]

theorem State.retireLane_job (s : State) (l why k : Nat) : (s.retireLane l why).job k = s.job k := by
  rw [State.job, State.retireLane_loam]
  rfl

theorem State.retireLane_causesRise (s : State) (l why : Nat) : CausesRise s (s.retireLane l why) :=
  (((s.modLoam_keepsCore _).causesRise).trans (State.retireElem_causesRise ..)).trans (State.post_keepsCore ..).causesRise

theorem State.switchDivider_loam {s : State} (why : Nat) (h : s.loam.dividersOut.contains (1 - s.loam.divider) = false) :
    (s.switchDivider why).loam =
      { s.loam with dividersOut := insRising s.loam.divider s.loam.dividersOut, divider := 1 - s.loam.divider } := by
  simp only [State.switchDivider, h]
  simp

theorem State.switchDivider_job {s : State} (why k : Nat) (h : s.loam.dividersOut.contains (1 - s.loam.divider) = false) :
    (s.switchDivider why).job k = s.job k := by
  rw [State.job, State.switchDivider_loam why h]
  rfl

theorem State.switchDivider_causesRise {s : State} (why : Nat) (h : s.loam.dividersOut.contains (1 - s.loam.divider) = false) :
    CausesRise s (s.switchDivider why) := by
  simp only [State.switchDivider, h]
  exact ((State.retireElem_causesRise ..).trans (State.modLoam_keepsCore ..).causesRise).trans (State.post_keepsCore ..).causesRise

end Machine
end Sys2Proof
end

section
/-! SUPPORT. The planner (R145, R146, R169, R173, R175): what a re-plan, its end, a publication and a delivery change, and the statement
about the planner's and the job sequencer's commands. -/

namespace Sys2Proof
namespace Machine

/-! ## Re-plans (R145–R147) -/

/-- The inputs of a re-plan but for its profiles: the soft errors met are counted, the agreed exchanges shifted (R151, R481). -/
def State.replanReady (s : State) (soft : Nat) : State := (s.softSubsoil soft).shiftBounds s.clk.dev

theorem State.replanReady_only (s : State) (soft : Nat) :
    s.replanReady soft = { s with health := (s.softSubsoil soft).health, casc := (s.replanReady soft).casc } := by
  rw [State.replanReady, State.softSubsoil_only]
  rfl

@[simp] theorem State.modDisp_job (s : State) (f : Disp → Disp) (c : Nat) : (s.modDisp f).job c = s.job c := rfl

/-- The dispatch job of a re-plan at its initial point (R161, R163, R165). -/
def ReSnap.startJob (r : ReSnap) (j : Job) : Job :=
  let v := r.startVecs
  let ok := r.converged v && r.accepts v
  { j with vecs := v, met := ok, conv := ok, done := if ok then some v else none }

/-- The planner as a re-plan starts: what asked for the re-plan or for a cold start is met (R145, R146). -/
def ReSnap.startDisp (r : ReSnap) (first : Bool) (d : Disp) : Disp :=
  { d with run := some r, lastStart := r.ts, nowPending := false, forceCold := false, coldNext := false, lightVals := some r.vals,
           colds := d.colds + b2n (first && r.cold), rejections := d.rejections + b2n (first && r.warmRejected) }

theorem State.submitReplan_eq (s : State) (r : ReSnap) (first : Bool) :
    s.submitReplan r first = ((s.submitJob 2 r.deadline).modJob 2 r.startJob).modDisp (r.startDisp first) := rfl

theorem State.replanReady_keepsCore (s : State) (soft : Nat) : KeepsCore s (s.replanReady soft) := by
  rw [State.replanReady_only]
  exact ⟨rfl, rfl, rfl, rfl⟩

theorem State.submitReplan_keepsCore (s : State) (r : ReSnap) (first : Bool) : KeepsCore s (s.submitReplan r first) :=
  s.submitReplan_eq r first ▸ ((s.submitJob_keepsCore ..).trans (State.modJob_keepsCore ..)).trans (State.modDisp_keepsCore ..)

theorem ReSnap.startJob_running (r : ReSnap) (j : Job) :
    (r.startJob j).state = j.state ∧ (r.startJob j).deadline = j.deadline := by
  simp only [ReSnap.startJob, and_self]

/-- A re-plan's job runs to the re-plan's deadline (R146). -/
theorem State.submitReplan_job (s : State) (r : ReSnap) (first : Bool) :
    ((s.submitReplan r first).job 2).state = 1 ∧ ((s.submitReplan r first).job 2).deadline = r.deadline := by
  obtain ⟨hs, hd⟩ := s.submitJob_job 2 r.deadline
  obtain ⟨ks, kd⟩ := r.startJob_running ((s.submitJob 2 r.deadline).job 2)
  rw [State.submitReplan_eq, State.modDisp_job, State.modJob_job, if_pos rfl]
  exact ⟨ks.trans hs, kd.trans hd⟩

theorem State.submitReplan_disp (s : State) (r : ReSnap) (first : Bool) : (s.submitReplan r first).disp = r.startDisp first s.disp := by
  rw [State.submitReplan_eq, State.submitJob_only]
  rfl

theorem State.takeSnap_ts (s : State) (ts : Nat) (round : Option Nat) (bnd : Tab BndPlan) (d : Option Nat) :
    (s.takeSnap ts round bnd d).ts = ts := rfl

theorem State.takeSnap_round (s : State) (ts : Nat) (round : Option Nat) (bnd : Tab BndPlan) (d : Option Nat) :
    (s.takeSnap ts round bnd d).round = round := rfl

/-- A re-plan that starts has its snapshot, of the moment and of no round, and its job runs to the snapshot's deadline (R146, R147). -/
theorem State.replanStart_spec (s : State) (bnd : Tab BndPlan) :
    (∃ r, (s.replanStart bnd).disp.run = some r ∧ r.round = none ∧ ((s.replanStart bnd).job 2).deadline = r.deadline) ∧
      ((s.replanStart bnd).job 2).state = 1 ∧ (s.replanStart bnd).disp.nowPending = false ∧
      (s.replanStart bnd).disp.forceCold = false ∧ (s.replanStart bnd).disp.lastStart = s.clk.dev := by
  have hr := s.takeSnap_round s.clk.dev none bnd none
  have ht := s.takeSnap_ts s.clk.dev none bnd none
  unfold State.replanStart
  generalize s.takeSnap s.clk.dev none bnd none = r at hr ht ⊢
  obtain ⟨hs, hd⟩ := s.submitReplan_job r true
  rw [State.submitReplan_disp]
  exact ⟨⟨r, rfl, hr, hd⟩, hs, rfl, rfl, ht⟩

/-! ## Delivery (R173) -/

/-- `u` is `s` but for the channels. -/
def OnlyHeat (s u : State) : Prop := u = { s with heat := u.heat }

namespace OnlyHeat

theorem refl (s : State) : OnlyHeat s s := rfl

theorem trans {s u w : State} (h : OnlyHeat s u) (k : OnlyHeat u w) : OnlyHeat s w := by
  rw [OnlyHeat] at h k
  rw [h] at k
  exact k

theorem ite {s u v : State} {p : Prop} [Decidable p] (hu : OnlyHeat s u) (hv : OnlyHeat s v) : OnlyHeat s (if p then u else v) := by
  split
  · exact hu
  · exact hv

theorem foldl {α : Type} {f : State → α → State} (h : ∀ s x, OnlyHeat s (f s x)) (l : List α) (s : State) : OnlyHeat s (l.foldl f s) :=
  foldl_of_step refl trans h l s

end OnlyHeat

theorem State.planWord_only (s : State) (c w : Nat) (sc : Int) (q : Rat) : OnlyHeat s (s.planWord c w sc q) := by
  have h : ∀ x y, OnlyHeat s (s.setSpWord c w x y) := fun x y => .ite (.refl s) rfl
  exact (h _ _).trans rfl

/-- The set-points of a channel are all its delivery changes. -/
theorem State.deliverChan_only (s : State) (p : Plan) (k c : Nat) : OnlyHeat s (s.deliverChan p k c) := by
  unfold State.deliverChan
  extract_lets r
  split
  · exact (s.planWord_only ..).trans (State.planWord_only ..)
  · exact .ite (s.planWord_only ..) (s.planWord_only ..)
  · exact .foldl (fun s _ => s.planWord_only ..) _ s
  · exact .ite (s.planWord_only ..) (.refl s)
  · exact .ite (s.planWord_only ..) (.refl s)
  · exact .refl s

theorem State.deliverAll_only (s : State) (p : Plan) (k : Nat) (l : List Nat) :
    OnlyHeat s (l.foldl (fun s c => s.deliverChan p k c) s) :=
  .foldl (fun s c => s.deliverChan_only p k c) l s

/-- A delivery gives the plan its values and leaves the rest of it. -/
theorem State.deliver_plan (s : State) : ∃ v n, s.deliver.disp.plan = { s.disp.plan with values := v, valVersion := n } := by
  unfold State.deliver
  extract_lets p u
  split
  · exact ⟨_, _, rfl⟩
  · rw [State.deliverAll_only]
    exact ⟨_, _, rfl⟩

@[simp] theorem State.deliver_loam (s : State) : s.deliver.loam = s.loam := by
  unfold State.deliver
  extract_lets p u
  split
  · rfl
  · rw [State.deliverAll_only]
    rfl

/-! ## Publication (R169) -/

theorem State.planInForce_keepsCore (s : State) (p : Plan) : KeepsCore s (s.planInForce p) :=
  have h := (s.modDisp_keepsCore (fun d => { d with plan := p })).trans (State.deliver_keepsCore _)
  .ite (h.trans (State.modDisp_keepsCore ..)) h

theorem State.planInForce_loam (s : State) (p : Plan) : (s.planInForce p).loam = s.loam := by
  have h : (s.modDisp (fun d => { d with plan := p })).deliver.loam = s.loam := State.deliver_loam _
  unfold State.planInForce
  split
  · exact h
  · exact h

/-- A plan is in force as it was made, whatever values it is delivered with. -/
theorem State.planInForce_plan (s : State) (p : Plan) :
    ∃ v n, (s.planInForce p).disp.plan = { p with values := v, valVersion := n } := by
  obtain ⟨v, n, h⟩ := (s.modDisp (fun d => { d with plan := p })).deliver_plan
  refine ⟨v, n, ?_⟩
  unfold State.planInForce
  split
  · exact h
  · exact h

/-- A plan with the next version of those published, and the values of the plan it replaces (R169). -/
def State.versioned (s : State) (p : Plan) : Plan :=
  { p with version := (s.disp.plan.version + 1) % 4294967296, values := s.disp.plan.values, valVersion := s.disp.plan.valVersion }

/-- A publication is counted, and its plan put into force. -/
def State.published (s : State) (p : Plan) : State :=
  (s.modDisp (fun d => { d with published := d.published + 1 })).planInForce (s.versioned p)

theorem State.publishPlan_eq (s : State) (p : Plan) :
    s.publishPlan p = { s.published p with lease := ((s.published p).mirror (.plan (s.published p).disp.plan)).lease } :=
  State.mirror_only _ _

theorem State.publishPlan_keepsCore (s : State) (p : Plan) : KeepsCore s (s.publishPlan p) := by
  rw [State.publishPlan_eq]
  have h : KeepsCore s (s.published p) := (s.modDisp_keepsCore _).trans (State.planInForce_keepsCore ..)
  exact h.trans ⟨rfl, rfl, rfl, rfl⟩

theorem State.publishPlan_loam (s : State) (p : Plan) : (s.publishPlan p).loam = s.loam := by
  rw [State.publishPlan_eq]
  exact State.planInForce_loam ..

/-- A publication puts the plan into force as it was made, but for its version and the values it is delivered with. -/
theorem State.publishPlan_plan (s : State) (p : Plan) :
    ∃ w v n, (s.publishPlan p).disp.plan = { p with version := w, values := v, valVersion := n } := by
  obtain ⟨v, n, h⟩ := State.planInForce_plan (s.modDisp (fun d => { d with published := d.published + 1 })) (s.versioned p)
  rw [State.publishPlan_eq]
  exact ⟨_, v, n, h⟩

/-! ## The end of a re-plan (R167–R169) -/

/-- Steps of a re-plan that are over at a device time. -/
def ReSnap.passedBy (r : ReSnap) (dev : Nat) : Nat := (r.ends.filter (fun e => decide (e ≤ dev))).length

/-- A re-plan has ended with a status: its job is handed over and its record made (R167, R179). -/
def State.replanEnded (s : State) (r : ReSnap) (st : Nat) : State :=
  (s.handOver 2).replanRecord r (s.job 2) (r.verdict (s.job 2)) st (if st ≤ 5 then r.passedBy s.clk.dev else 0) false

/-- The plan of a re-plan that has ended, shifted to its publication (R169). -/
def State.planEnded (s : State) (r : ReSnap) (st : Nat) : Plan :=
  ((s.replanEnded r st).planOf r (r.verdict (s.job 2)).steps st).shift (r.passedBy s.clk.dev)

/-- A re-plan outside a round that ends is published where its status is at most 5, and counted where it is not (R167). -/
theorem State.dispatchEnd_of_status {s : State} {r : ReSnap} {st : Nat} (hr : s.disp.run = some r) (hn : r.round = none)
    (hv : (r.verdict (s.job 2)).status = some st) (hm : s.mayEnd 2 = true) (hi : s.inputsHeld = true) :
    s.dispatchEnd =
      if st ≤ 5 then (s.replanEnded r st).publishPlan (s.planEnded r st)
      else (s.replanEnded r st).modDisp (fun d => { d with notPublished := d.notPublished + 1 }) := by
  have hgo : ¬ (r.round.isSome = true ∨ ¬ s.mayEnd 2 = true) := by simp [hn, hm]
  simp only [State.dispatchEnd, hr, hv, if_neg hgo, if_neg (not_not.mpr hi)]
  rfl

theorem State.replanRecord_keepsCore (s : State) (r : ReSnap) (j : Job) (v : Verdict) (st shift : Nat) (missed : Bool) :
    KeepsCore s (s.replanRecord r j v st shift missed) := s.modDisp_keepsCore _

theorem State.replanEnded_keepsCore (s : State) (r : ReSnap) (st : Nat) : KeepsCore s (s.replanEnded r st) :=
  (s.handOver_keepsCore 2).trans (State.replanRecord_keepsCore ..)

theorem State.replanEnded_job (s : State) (r : ReSnap) (st : Nat) : ((s.replanEnded r st).job 2).state = 3 := s.handOver_done 2

theorem State.replanEnded_disp (s : State) (r : ReSnap) (st : Nat) :
    (s.replanEnded r st).disp.plan = s.disp.plan ∧ (s.replanEnded r st).disp.notPublished = s.disp.notPublished := by
  rw [State.replanEnded, State.handOver_only]
  exact ⟨rfl, rfl⟩

/-- The plan of a re-plan that has ended is in force with the re-plan's status. -/
theorem State.planEnded_inForce (s : State) (r : ReSnap) (st : Nat) : (s.planEnded r st).inForce = true ∧ (s.planEnded r st).status = st :=
  ⟨rfl, rfl⟩

/-! ## The plan in force (R175) -/

theorem State.gridBoundary_passed {s : State} (hf : s.disp.plan.inForce = true) (hw : s.disp.plan.withdrawn = false)
    (hp : s.disp.plan.past < s.disp.plan.passed s.clk.dev) :
    s.gridBoundary = (s.modDisp (fun d => { d with plan := d.plan.advanced s.clk.dev })).deliver := by
  have h : ¬ (¬ s.disp.plan.inForce = true ∨ s.disp.plan.withdrawn = true ∨ s.disp.plan.passed s.clk.dev ≤ s.disp.plan.past) := by
    simp [hf, hw, hp]
  exact if_neg h

/-- A grid boundary moves the step and says whether the plan is exhausted; the plan keeps its version. -/
theorem State.gridBoundary_plan {s : State} (hf : s.disp.plan.inForce = true) (hw : s.disp.plan.withdrawn = false)
    (hp : s.disp.plan.past < s.disp.plan.passed s.clk.dev) :
    ∃ v n, s.gridBoundary.disp.plan = { s.disp.plan.advanced s.clk.dev with values := v, valVersion := n } := by
  rw [State.gridBoundary_passed hf hw hp]
  exact State.deliver_plan _

theorem State.gridBoundary_keepsCore (s : State) : KeepsCore s s.gridBoundary :=
  .ite (.refl s) ((s.modDisp_keepsCore _).trans (State.deliver_keepsCore _))

/-- The plan in force is stale, and its staleness is logged (R175). -/
def State.planMarkedStale (s : State) : State :=
  (s.modDisp (fun d => { d with plan := { d.plan with stale := true } })).post .house Code.planStale 0 [.u32 s.disp.plan.version]

/-! ## The commands -/

/-- A commanded re-plan that is due starts from the state that its inputs leave (R145, R146, R177). -/
theorem does_replanStart {t soft : Nat} {s : State} {P : State → Prop} (hl : s.live .solv t) (hc : s.nat 0x6410 1 = 0)
    (hm : s.model.active ≠ none) (hu : s.up = true) (hj : s.power.jobsHeld = false) (hi : (s.advance t).inputsHeld = true)
    (he : s.nat 0x2810 1 = 1) (ha : (s.job 2).alive = false) (hn : s.disp.nowPending = true)
    (h : P (((s.advance t).replanReady soft).replanStart ((s.advance t).replanReady soft).bndPlans)) :
    Does (.replanStart t [] soft) s P := by
  refine does_onIsland_of_keepsCore rfl hl ?_ ((State.replanReady_keepsCore ..).trans (State.submitReplan_keepsCore ..)) h
  exact if_pos ⟨hc, Option.isSome_iff_ne_none.mpr hm, hu, by simp [hj], hi, he, Bool.eq_false_iff.mp ha, .inl hn⟩

/-- A re-plan outside a round that has ended completes as its status says (R167). -/
theorem does_dispatchJobEnd {t st : Nat} {r : ReSnap} {s : State} {P : State → Prop} (hl : s.live .solv t) (hr : s.disp.run = some r)
    (hn : r.round = none) (hv : (r.verdict (s.job 2)).status = some st) (hm : s.mayEnd 2 = true) (hi : (s.advance t).inputsHeld = true)
    (h : P (if st ≤ 5 then ((s.advance t).replanEnded r st).publishPlan ((s.advance t).planEnded r st)
      else ((s.advance t).replanEnded r st).modDisp (fun d => { d with notPublished := d.notPublished + 1 }))) :
    Does (.dispatchJobEnd t) s P := by
  have hk := (s.advance t).replanEnded_keepsCore r st
  exact does_onIsland_of_keepsCore rfl hl (State.dispatchEnd_of_status (s := s.advance t) hr hn hv hm hi)
    (.ite (hk.trans (State.publishPlan_keepsCore ..)) (hk.trans (State.modDisp_keepsCore ..))) h

/-- A residue mismatch whose element was replaced replays the job that runs (R208). -/
theorem does_loamResidueMismatch {t c lane addr : Nat} {divider again : Bool} {s v : State} {P : State → Prop} (hl : s.live .solv t)
    (ho : (divider || decide (lane < 68)) = true) (hr : s.loam.running = some c) (h1 : (v.job c).state = 1)
    (hv : (if divider then (s.advance t).switchDivider 0 else (s.advance t).retireLane lane 0) = v) (hk : CausesRise (s.advance t) v)
    (h : P (v.replayJob c addr again none)) : Does (.loamResidueMismatch t divider lane addr again none) s P := by
  have hu := hk.trans (State.replayJob_keepsCore addr again h1).causesRise
  have hrun : onUnit (divider || decide (lane < 68)) .solv t s = onIsland .solv t s := by
    funext f
    exact if_pos ho
  refine does_onIsland_eq (congrFun hrun _) hl ?_ hu.pending (congrArg Clk.raw hu.clk) h
  simp only [State.advance_loam, hr, hv]

/-- Settles O12, command by command. -/
theorem plannerAndJobCommands : Obligations.PlannerAndJobCommands := by
  unfold Obligations.PlannerAndJobCommands
  refine ⟨fun t soft s hl hc hm hu hj hi he ha hn => ?_, fun t st r s hl hr hn hv hm hi => ?_, fun t s hl hf hw hp => ?_,
    fun t s hl hf hst ht => ?_, fun t r c s hl hr hc hlt => ?_, fun t c i s hc4 hl hc hi => ⟨fun ho => ?_, fun ho => ?_⟩,
    fun t c s hc4 hl h1 hd hm => ?_, fun t c no frm s hc4 hl => ⟨fun hno hjob ha => ?_, fun hno => ?_⟩,
    fun t c addr again s hl hr h1 => ?_, fun t c lane addr again s hl hr h1 => ⟨fun hlane => ?_, fun hspare => ?_⟩⟩
  · refine does_replanStart hl hc hm hu hj hi he ha hn ?_
    have hclk := ((s.advance t).replanReady_keepsCore soft).clk
    rw [← hclk]
    exact State.replanStart_spec ..
  · refine does_dispatchJobEnd hl hr hn hv hm hi ?_
    have hjob := (s.advance t).replanEnded_job r st
    obtain ⟨hplan, hcount⟩ := (s.advance t).replanEnded_disp r st
    split
    · next hst =>
      obtain ⟨w, v, n, h⟩ := ((s.advance t).replanEnded r st).publishPlan_plan ((s.advance t).planEnded r st)
      rw [h, State.job_congr (State.publishPlan_loam ..)]
      exact ⟨hjob, fun _ => (s.advance t).planEnded_inForce r st, fun k => absurd hst (Nat.not_le.mpr k)⟩
    · next hst => exact ⟨hjob, fun k => absurd k hst, fun _ => ⟨hplan, congrArg (· + 1) hcount⟩⟩
  · obtain ⟨v, n, h⟩ := State.gridBoundary_plan (s := s.advance t) hf hw hp
    refine does_onIsland_of_keepsCore rfl hl rfl (s.advance t).gridBoundary_keepsCore ?_
    rw [h]
    exact ⟨rfl, decide_eq_true_iff, rfl⟩
  · refine does_onIsland_of_keepsCore (u := (s.advance t).planMarkedStale) rfl hl ?_
      ((State.modDisp_keepsCore ..).trans (State.post_keepsCore ..)) (State.post_disp ..)
    exact if_pos ⟨hf, by simp [hst], ht⟩
  · have hnext : (s.advance t).nextClass = some c := hc
    refine does_onIsland_of_keepsCore rfl hl (u := (s.advance t).modLoam (fun l =>
      { l with running := some c, preempted := r :: l.preempted })) ?_ (State.modLoam_keepsCore ..) ⟨rfl, rfl, List.mem_cons_self, rfl⟩
    simp only [State.advance_loam, hr, hnext, if_pos hlt]
  · refine does_onUnit_of_keepsCore rfl (decide_eq_true hc4) hl (State.iterate_computes hi hc) (State.iterated_keepsCore ..) ?_
    obtain ⟨hit, hb, hdn⟩ := State.iterationOf_note hi (((s.advance t).job c).completed i.work)
    rw [State.iterated_job_of_none _ ho]
    exact ⟨hit, hb, hdn⟩
  · refine does_onUnit_of_keepsCore rfl (decide_eq_true hc4) hl (State.iterate_computes hi hc) (State.iterated_keepsCore ..) ?_
    rw [State.iterated_job_of_overflow _ ho]
    exact ⟨rfl, rfl, rfl⟩
  · refine does_onUnit_of_keepsCore rfl (decide_eq_true hc4) hl (State.jobDeadline_due (s := s.advance t) h1 hd hm)
      (State.stopJob_keepsCore ..) ?_
    rw [State.stopJob_job]
    exact ⟨rfl, fun h => congrArg some (Job.deadlineEnd_of_none h), fun h k => congrArg some (Job.deadlineEnd_of_iterate h k), rfl⟩
  · have hlate : ¬ (s.advance t).loam.doneNos.contains no = true := Bool.eq_false_iff.mp hno
    refine does_onUnit_of_keepsCore rfl (decide_eq_true hc4) hl ((if_neg hlate).trans (if_pos hjob)) (State.abortJob_keepsCore ..) ?_
    rw [State.abortJob_job (s := s.advance t) ha]
    exact ⟨rfl, rfl⟩
  · exact does_onUnit_of_keepsCore rfl (decide_eq_true hc4) hl (if_pos hno) (State.post_keepsCore ..) (State.post_loam ..)
  · have hrun : ((s.advance t).job c).state = 1 := h1
    have hjob := State.replayJob_job addr again hrun
    refine does_onIsland_of_keepsCore rfl hl (u := ((s.advance t).replayJob c addr again none).sramCounted again) ?_
      ((State.replayJob_keepsCore addr again hrun).trans (State.sramCounted_keepsCore ..)) ?_
    · simp only [State.advance_loam, hr]
      rfl
    · rw [State.sramCounted_job, State.sramCounted_rows, hjob, State.replayJob_health addr again hrun]
      exact ⟨h1, rfl, rfl, rfl, rfl⟩
  · have hjob := (s.advance t).retireLane_job lane 0 c
    have hrun := (congrArg Job.state hjob).trans h1
    refine does_loamResidueMismatch hl (decide_eq_true hlane) hr hrun rfl (State.retireLane_causesRise ..) ?_
    rw [State.replayJob_loam addr again hrun, State.retireLane_loam, State.replayJob_job addr again hrun, hjob]
    exact ⟨mem_insRising .., rfl, rfl⟩
  · have hfree : (s.advance t).loam.dividersOut.contains (1 - (s.advance t).loam.divider) = false := hspare
    have hjob := State.switchDivider_job 0 c hfree
    have hrun := (congrArg Job.state hjob).trans h1
    refine does_loamResidueMismatch hl rfl hr hrun rfl (State.switchDivider_causesRise 0 hfree) ?_
    rw [State.replayJob_loam addr again hrun, State.switchDivider_loam 0 hfree, State.replayJob_job addr again hrun, hjob]
    exact ⟨rfl, rfl, rfl⟩

end Machine
end Sys2Proof
end

section
/-! SUPPORT. Mode requests of the logic engine (R226, R227, R234): what an open loop makes of a committed request CLOSED, and a state in
which the request clause of the control engine's statement fails. -/

namespace Sys2Proof
namespace Machine

/-! ## A request CLOSED to an open loop (R226, R231) -/

/-- The loop's context as the committed request CLOSED leaves it where no forced track applies (R226, R231). -/
def Loop.closing (l : Loop) (w : Nat) : Loop :=
  { l with reqWord := w, state := .closed, holdCause := 0, forced := false, firstClose := true, uHeld := l.uPrev, req := 2 }

/-- The state in which an open loop has accepted the request CLOSED of a committed word, before a forced track. -/
def State.closeAccepted (s : State) (n w : Nat) : State :=
  let t := (s.setLoop n { s.loop n with reqWord := w }).loopClose n
  t.setLoop n { t.loop n with req := 2 }

theorem State.closeAccepted_keepsCore (s : State) (n w : Nat) : KeepsCore s (s.closeAccepted n w) :=
  ((State.setLoop_keepsCore ..).trans (State.loopClose_keepsCore ..)).trans (State.setLoop_keepsCore ..)

theorem State.closeAccepted_loop (s : State) (n w j : Nat) :
    (s.closeAccepted n w).loop j = if j = n then (s.loop n).closing w else s.loop j := by
  simp only [State.closeAccepted, State.loopClose, State.setLoop_loop, if_true]
  split <;> rfl

/-- A committed word that asks an open loop to close is accepted, and the forced track of R234 applies at once (R226, R227). -/
theorem State.logicRequest_close {s : State} {n w : Nat} (hw : w ≠ (s.loop n).reqWord) (hm : w % 8 = 6)
    (hr : (s.coef n).reqLogic = true) (hh : s.holding = false) (ho : (s.loop n).state = .opened) :
    s.logicRequest n w = (s.closeAccepted n w).forceTrack n := by
  have hvalid : bitOf w 2 = true := by
    rw [bitOf, Nat.testBit_eq_decide_div_mod_eq]
    exact decide_eq_true (by omega)
  have hclosed : w % 4 = 2 := by omega
  have hr' : ((s.setLoop n { s.loop n with reqWord := w }).coef n).reqLogic = true := hr
  have hh' : (s.setLoop n { s.loop n with reqWord := w }).holding = false := hh
  have ho' : ((s.setLoop n { s.loop n with reqWord := w }).loop n).state = .opened := by
    rw [State.setLoop_loop, if_pos rfl]
    exact ho
  simp [State.logicRequest, State.request, hw, hvalid, hclosed, hr', hh', ho', State.closeAccepted]

/-! ## The forced track (R234) -/

theorem State.innerOpen_of {s : State} {n i : Nat} (hi : s.innerOf n = some i) (h : (s.loop i).state ≠ .closed) :
    s.innerOpen n = true := by
  simp [State.innerOpen, hi, h]

theorem State.forceTrack_state {s : State} {n : Nat} (h : s.innerOpen n = true) (hc : (s.loop n).state = .closed) :
    ((s.forceTrack n).loop n).state = .track := by
  rw [State.forceTrack, if_pos ⟨h, .inr hc⟩, State.setLoop_loop, if_pos rfl]

/-- An outer loop whose inner loop is not CLOSED goes to TRACK on the request, not to CLOSED (R226, R234). -/
theorem State.logicRequest_close_outer {s : State} {n w i : Nat} (hw : w ≠ (s.loop n).reqWord) (hm : w % 8 = 6)
    (hr : (s.coef n).reqLogic = true) (hh : s.holding = false) (ho : (s.loop n).state = .opened) (hi : s.innerOf n = some i)
    (hne : i ≠ n) (hx : (s.loop i).state ≠ .closed) : ((s.logicRequest n w).loop n).state = .track := by
  have hinner : ((s.closeAccepted n w).loop i).state ≠ .closed := by
    rwa [State.closeAccepted_loop, if_neg hne]
  have hloop : ((s.closeAccepted n w).loop n).state = .closed := by
    rw [State.closeAccepted_loop, if_pos rfl]
    rfl
  rw [State.logicRequest_close hw hm hr hh ho]
  exact State.forceTrack_state (State.innerOpen_of hi hinner) hloop

/-! ## The request clause -/

/-- A device in RUN with a cascade pair that meets R232, both loops OPEN: outer loop 5 with `REQ_SOURCE` 1, inner loop 7 with its sp source
of kind 4 naming loop 5 and `CASCADE` naming loop 5 with the ratio 1. The outer loop has not sampled since its inner loop opened. -/
def openPair : State :=
  { State.reset with
    dev := { state := .run }
    ctrl := { State.reset.ctrl with
      loops := [(5, { state := .opened, req := 1, slot := some 0 }), (7, { state := .opened, req := 1, slot := some 3 })] }
    dict := { State.reset.dict with
      vals := [(0x300506, .oct (zeros 22 ++ [8, 0])), (0x300705, .oct (zeros 12 ++ [4, 0, 5, 0] ++ zeros 56)),
               (0x30070C, .oct [5, 0, 1, 0])] } }

/-- Both loops meet the conditions of R232, so the state is that of a well-formed cascade. -/
theorem openPair_cascadeOk : openPair.cascadeOk 5 = true ∧ openPair.cascadeOk 7 = true := by decide

/-- There the committed word 14, a request CLOSED for loop 5, leaves it in TRACK. -/
theorem openPair_tracks : Does (.logicModeRequest 0 5 14) openPair (fun u => (u.loop 5).state = .track) := by
  have hk := (State.closeAccepted_keepsCore (openPair.advance 0) 5 14).trans (State.forceTrack_keepsCore _ 5)
  have heq := State.logicRequest_close (s := openPair.advance 0) (n := 5) (w := 14) (by decide) rfl (by decide) rfl rfl
  refine does_onUnit_of_keepsCore rfl rfl (by decide) rfl (heq ▸ hk) ?_
  exact State.logicRequest_close_outer (by decide) rfl (by decide) rfl rfl (i := 7) (by decide) (by decide) (by decide)

/-- Refutes O13: its request clause has every open loop CLOSED after an accepted request CLOSED. An outer loop whose inner loop is not
CLOSED goes to a forced TRACK at once (R226, R234), as loop 5 of `openPair` does. -/
theorem not_loopCommands : ¬ Obligations.LoopCommands := by
  unfold Obligations.LoopCommands
  rintro ⟨-, -, -, -, hrequest, -⟩
  obtain ⟨u, hu, -, hloop⟩ := hrequest 0 5 14 openPair (by decide) (by decide) (by decide) (by decide) rfl (by decide) rfl rfl
  obtain ⟨v, hv, htrack⟩ := openPair_tracks
  obtain rfl : u = v := by simpa using hu.symm.trans hv
  have hclosed : (u.loop 5).state = .closed := congrArg Loop.state hloop
  exact absurd (htrack.symm.trans hclosed) (by decide)

end Machine
end Sys2Proof
end

section
/-! SUPPORT. The prefetch of the repetitive table (R251, R253), the end of a capture (R260, R263) and the packing of gathered records
(R523), and the statement about their commands. -/

namespace Sys2Proof
namespace Machine

/-! ## Parts that only CTRL keeps -/

theorem State.setLoop_only (s : State) (n : Nat) (l : Loop) : s.setLoop n l = { s with ctrl := (s.setLoop n l).ctrl } := rfl
theorem State.setProbe_only (s : State) (p : Nat) (v : Probe) : s.setProbe p v = { s with ctrl := (s.setProbe p v).ctrl } := rfl
theorem State.setProbe_keepsCore (s : State) (p : Nat) (v : Probe) : KeepsCore s (s.setProbe p v) := ⟨rfl, rfl, rfl, rfl⟩

theorem State.setLoop_loop_self (s : State) (n : Nat) (l : Loop) : (s.setLoop n l).loop n = l := Tab.get_put_self ..
theorem State.setProbe_probe_self (s : State) (p : Nat) (v : Probe) : (s.setProbe p v).probe p = v := Tab.get_put_self ..

/-! ## The prefetch (R251, R253) -/

/-- The repetitive context of a loop after the prefetch for sample `m + 1` of two words that came unpoisoned: the words of earlier samples
and an earlier prefetch for the same one are dropped. -/
def RepCtx.prefetched (c : RepCfg) (r : RepCtx) (m : Nat) : RepCtx :=
  { r with pre := (r.pre.filter (fun e => decide (e.1 ≠ m + 1) && decide (m ≤ e.1))) ++
      [(m + 1, Tab.get 0 r.table ((c.pos (m + 1) + c.lead) % c.p), Tab.get 0 r.table (c.pos (m + 1)), false, false)] }

theorem RepCtx.mem_prefetched (c : RepCfg) (r : RepCtx) (m : Nat) :
    (m + 1, Tab.get 0 r.table ((c.pos (m + 1) + c.lead) % c.p), Tab.get 0 r.table (c.pos (m + 1)), false, false) ∈
      (r.prefetched c m).pre :=
  List.mem_append_right _ (List.mem_singleton_self _)

/-- At a tick that is sample `m` of a loop with its repetitive controller on, good words of a table without poison are prefetched
unpoisoned (R251). -/
theorem State.repPrefetch_good {s : State} {n m : Nat} (hm : s.sampleNo n s.tick = some m) (he : (s.repCfg n).enable = true)
    (ho : (s.loop n).state ≠ .off) (hp : (s.loop n).rep.poison = []) :
    s.repPrefetch n false false = s.setLoop n { s.loop n with rep := (s.loop n).rep.prefetched (s.repCfg n) m } := by
  have hon : ¬(¬(s.repCfg n).enable = true ∨ (s.loop n).state = .off) := by simp [he, ho]
  simp only [State.repPrefetch, hm, if_neg hon]
  simp [hp, RepCtx.prefetched]

/-! ## The end of a capture (R260, R263) -/

theorem State.captureDone_complete {s : State} {p : Nat} (ht : (s.probe p).state = 2) (hl : (s.probeCfg p).post ≤ (s.probe p).post.length) :
    s.captureDone p = s.setProbe p { s.probe p with state := 3 } :=
  if_pos ⟨ht, hl⟩

theorem State.captureDone_untriggered {s : State} {p : Nat} (ht : (s.probe p).state ≠ 2) : s.captureDone p = s :=
  if_neg fun h => ht h.1

/-! ## Gathered records (R523) -/

@[simp] theorem Tab.find_erase_self {α : Type} (m : Tab α) (k : Nat) : Tab.find (Tab.erase m k) k = none := by
  induction m with
  | nil => rfl
  | cons e r ih =>
    obtain ⟨j, v⟩ := e
    by_cases h : j = k
    · simp [Tab.erase, h, ih]
    · simp [Tab.erase, Tab.find, h, ih]

theorem State.setSub_keepsCore (s : State) (n : Nat) (v : Sub) : KeepsCore s (s.setSub n v) := ⟨rfl, rfl, rfl, rfl⟩
theorem State.pushQ_keepsCore (s : State) (q : QId) (x : QItem) : KeepsCore s (s.pushQ q x) := ⟨rfl, rfl, rfl, rfl⟩

theorem State.pushQ_sub (s : State) (q : QId) (x : QItem) (n : Nat) : (s.pushQ q x).sub n = s.sub n := rfl

/-- A subscription after the records gathered from a probe have left it. -/
def Sub.ungathered (u : Sub) (p : Nat) : Sub := { u with gather := Tab.erase u.gather p }

/-- Records that find room in the trace queue leave the subscription as one item. -/
theorem State.packTrace_room {s : State} {n p t0 : Nat} {recs : List Octets} (hg : Tab.find (s.sub n).gather p = some (t0, recs))
    (hr : s.hasRoom (.traceq n) = true) :
    s.packTrace n p = (s.setSub n ((s.sub n).ungathered p)).pushQ (.traceq n) (.trace p recs) := by
  simp only [State.packTrace, hg, if_pos hr]
  rfl

/-- TRACE_PACK_EXPIRY for a subscription that holds records of the probe: they are packed once 100 ms have passed since the first. -/
theorem does_tracePackExpiry {t n p t0 : Nat} {recs : List Octets} {s u : State} {P : State → Prop} (hn : n < 8) (hl : s.live .ctrl t)
    (hg : Tab.find (s.sub n).gather p = some (t0, recs))
    (hu : (if t0 + 100000000 ≤ (s.advance t).now then (s.advance t).packTrace n p else s.advance t) = u)
    (hk : KeepsCore (s.advance t) u) (h : P u) : Does (.tracePackExpiry t n p) s P := by
  have hg' : Tab.find ((s.advance t).sub n).gather p = some (t0, recs) := hg
  refine does_onUnit_of_keepsCore rfl (decide_eq_true hn) hl ?_ hk h
  simp only [hg', hu]

/-- Settles O14: a prefetch of good words, a capture that ends and one that does not, records that are due and records that are not. -/
theorem probeAndRepCommands : Obligations.ProbeAndRepCommands := by
  unfold Obligations.ProbeAndRepCommands
  refine ⟨fun t n m s hn hl he ho hm hp => ?_, fun t p s hp hl ht hlen => ?_, fun t p s hp hl ht => ?_,
    fun t n p t0 recs s hn hl hg hdue hr => ?_, fun t n p t0 recs s hn hl hg hearly => ?_⟩
  · refine does_onUnit_of_keepsCore rfl (decide_eq_true hn) hl (State.repPrefetch_good (s := s.advance t) hm he ho hp)
      (State.setLoop_keepsCore ..) ⟨State.setLoop_only .., ?_⟩
    rw [State.setLoop_loop_self]
    exact ⟨RepCtx.mem_prefetched (s.repCfg n) (s.loop n).rep m, rfl, hp⟩
  · exact does_onUnit_of_keepsCore rfl (decide_eq_true hp) hl (State.captureDone_complete (s := s.advance t) ht hlen)
      (State.setProbe_keepsCore ..) ⟨State.setProbe_only .., State.setProbe_probe_self ..⟩
  · exact does_onUnit_of_keepsCore rfl (decide_eq_true hp) hl (State.captureDone_untriggered (s := s.advance t) ht) (KeepsCore.refl _) rfl
  · refine does_tracePackExpiry hn hl hg ((if_pos hdue).trans (State.packTrace_room (s := s.advance t) hg hr))
      ((State.setSub_keepsCore ..).trans (State.pushQ_keepsCore ..)) ⟨?_, State.pushQ_wp _ _ _ hr, ?_⟩
    · rw [State.pushQ_sub, State.setSub_sub, if_pos rfl]
      exact Tab.find_erase_self ..
    · rw [State.pushQ_sub, State.setSub_sub, if_pos rfl]
      rfl
  · exact does_tracePackExpiry hn hl hg (if_neg (Nat.not_le.mpr hearly)) (KeepsCore.refl _) rfl

end Machine
end Sys2Proof
end

section
/-! SUPPORT. Samples of metering (R273, R274, R286): what one instant leaves of the registers and of each connection point, and how it counts
into a window that goes on. -/

namespace Sys2Proof
namespace Machine

/-! ## What an operation of metering keeps -/

/-- What `KeepsCore` lists, the dictionary and the energy registers of `u` are those of `s`. -/
structure KeepsRegs (s u : State) : Prop where
  core : KeepsCore s u
  dict : u.dict = s.dict
  regs : u.metr.regs = s.metr.regs

/-- As `KeepsRegs`, and every connection point is as it was. -/
structure KeepsPoints (s u : State) : Prop extends KeepsRegs s u where
  cps : u.metr.cps = s.metr.cps

/-- As `KeepsRegs`, and every connection point but `c` is as it was. -/
structure OnlyPoint (c : Nat) (s u : State) : Prop extends KeepsRegs s u where
  others : ∀ j, j ≠ c → u.cp j = s.cp j

theorem KeepsRegs.refl (s : State) : KeepsRegs s s := ⟨.refl s, rfl, rfl⟩

theorem KeepsRegs.trans {s u w : State} (h : KeepsRegs s u) (k : KeepsRegs u w) : KeepsRegs s w :=
  ⟨h.core.trans k.core, k.dict.trans h.dict, k.regs.trans h.regs⟩

namespace KeepsPoints

theorem refl (s : State) : KeepsPoints s s := ⟨.refl s, rfl⟩

theorem trans {s u w : State} (h : KeepsPoints s u) (k : KeepsPoints u w) : KeepsPoints s w :=
  ⟨h.toKeepsRegs.trans k.toKeepsRegs, k.cps.trans h.cps⟩

theorem ite {s u v : State} {p : Prop} [Decidable p] (hu : KeepsPoints s u) (hv : KeepsPoints s v) :
    KeepsPoints s (if p then u else v) := by
  split
  · exact hu
  · exact hv

theorem foldl {α : Type} {f : State → α → State} (h : ∀ s x, KeepsPoints s (f s x)) (l : List α) (s : State) :
    KeepsPoints s (l.foldl f s) :=
  foldl_of_step refl trans h l s

theorem cp {s u : State} (h : KeepsPoints s u) (c : Nat) : u.cp c = s.cp c := by rw [State.cp, State.cp, h.cps]

theorem onlyPoint {s u : State} (h : KeepsPoints s u) (c : Nat) : OnlyPoint c s u := ⟨h.toKeepsRegs, fun j _ => h.cp j⟩

end KeepsPoints

namespace OnlyPoint

theorem refl (c : Nat) (s : State) : OnlyPoint c s s := (KeepsPoints.refl s).onlyPoint c

theorem trans {c : Nat} {s u w : State} (h : OnlyPoint c s u) (k : OnlyPoint c u w) : OnlyPoint c s w :=
  ⟨h.toKeepsRegs.trans k.toKeepsRegs, fun j hj => (k.others j hj).trans (h.others j hj)⟩

theorem ite {c : Nat} {s u v : State} {p : Prop} [Decidable p] (hu : OnlyPoint c s u) (hv : OnlyPoint c s v) :
    OnlyPoint c s (if p then u else v) := by
  split
  · exact hu
  · exact hv

end OnlyPoint

/-- A part of METR but its registers and connection points is replaced. -/
theorem State.metr_keepsPoints (s : State) (m : Metr) (hr : m.regs = s.metr.regs) (hc : m.cps = s.metr.cps) :
    KeepsPoints s { s with metr := m } :=
  ⟨⟨s.metr_keepsCore m, rfl, hr⟩, hc⟩

theorem State.setCp_onlyPoint (s : State) (c : Nat) (m : CpMeter) : OnlyPoint c s (s.setCp c m) :=
  ⟨⟨⟨rfl, rfl, rfl, rfl⟩, rfl, rfl⟩, fun j hj => by rw [State.setCp_cp, if_neg hj]⟩

theorem State.setCp_cp_self (s : State) (c : Nat) (m : CpMeter) : (s.setCp c m).cp c = m := by rw [State.setCp_cp, if_pos rfl]

theorem State.setPo_keepsPoints (s : State) (j : Nat) (p : PulseOut) : KeepsPoints s (s.setPo j p) :=
  s.metr_keepsPoints _ rfl rfl

/-- Operations at other connection points leave point `c` as it is. -/
theorem foldl_onlyPoint_cp_of_not_mem {f : State → Nat → State} (hf : ∀ s j, OnlyPoint j s (f s j)) {c : Nat} {l : List Nat} (hc : c ∉ l)
    (s : State) : (l.foldl f s).cp c = s.cp c := by
  induction l generalizing s with
  | nil => rfl
  | cons x r ih =>
    obtain ⟨hx, hr⟩ := List.ne_and_not_mem_of_not_mem_cons hc
    exact (ih hr _).trans ((hf s x).others c hx)

/-- Of operations at one connection point each, point `c` sees its own alone, on a state in which it is as it was at first. -/
theorem foldl_onlyPoint_cp {f : State → Nat → State} (hf : ∀ s j, OnlyPoint j s (f s j)) {c : Nat} {l : List Nat} (hn : l.Nodup)
    (hc : c ∈ l) (s : State) : ∃ w : State, w.cp c = s.cp c ∧ (l.foldl f s).cp c = (f w c).cp c := by
  induction l generalizing s with
  | nil => exact absurd hc List.not_mem_nil
  | cons x r ih =>
    obtain ⟨hx, hr⟩ := List.nodup_cons.mp hn
    by_cases h : c = x
    · subst h
      exact ⟨s, rfl, foldl_onlyPoint_cp_of_not_mem hf hx _⟩
    · obtain ⟨w, hw, hfold⟩ := ih hr ((List.mem_cons.mp hc).resolve_left h) (f s x)
      exact ⟨w, hw.trans ((hf s x).others c h), hfold⟩

/-! ## One connection point at one instant (R274) -/

/-- The window in progress, the number of windows, `FREQ_LOST` and the configuration of `n` are those of `m`. -/
structure SameWindow (m n : CpMeter) : Prop where
  win : n.win = m.win
  winNo : n.winNo = m.winNo
  lost : n.lost = m.lost
  cfg : n.cfg = m.cfg

theorem SameWindow.refl (m : CpMeter) : SameWindow m m := ⟨rfl, rfl, rfl, rfl⟩

theorem SameWindow.trans {m n o : CpMeter} (h : SameWindow m n) (k : SameWindow n o) : SameWindow m o :=
  ⟨k.win.trans h.win, k.winNo.trans h.winNo, k.lost.trans h.lost, k.cfg.trans h.cfg⟩

theorem SameWindow.ite {m n o : CpMeter} {p : Prop} [Decidable p] (hn : SameWindow m n) (ho : SameWindow m o) :
    SameWindow m (if p then n else o) := by
  split
  · exact hn
  · exact ho

theorem CpMeter.halfAt_eq (m : CpMeter) (t : Nat) (a : Option (Nat × List Nat)) :
    m.halfAt t a = { m with halves := (m.halfAt t a).halves } := by
  cases a <;> rfl

theorem CpMeter.halfAt_sameWindow (m : CpMeter) (t : Nat) (a : Option (Nat × List Nat)) : SameWindow m (m.halfAt t a) := by
  rw [CpMeter.halfAt_eq]
  exact ⟨rfl, rfl, rfl, rfl⟩

theorem CpMeter.halfAt_crossed (m : CpMeter) (t : Nat) (a : Option (Nat × List Nat)) : (m.halfAt t a).crossed = m.crossed := by
  rw [CpMeter.halfAt_eq]

/-- The boundary at which a crossing ends a cycle, where boundaries follow crossings. -/
def CpMeter.cycleEnd (m : CpMeter) (t : Nat) (a : Option (Nat × List Nat)) : CpMeter := if m.lost then m else m.halfAt t a

theorem CpMeter.cycleEnd_sameWindow (m : CpMeter) (t : Nat) (a : Option (Nat × List Nat)) : SameWindow m (m.cycleEnd t a) :=
  .ite (.refl m) (m.halfAt_sameWindow t a)

theorem CpMeter.cycleEnd_crossed (m : CpMeter) (t : Nat) (a : Option (Nat × List Nat)) : (m.cycleEnd t a).crossed = m.crossed := by
  unfold CpMeter.cycleEnd
  split
  · rfl
  · exact m.halfAt_crossed t a

theorem CpMeter.posCross_sameWindow (m : CpMeter) (t : Nat) (x : Rat) : SameWindow m (m.posCross t x) :=
  (m.cycleEnd_sameWindow t m.accPos).trans ⟨rfl, rfl, rfl, rfl⟩

theorem CpMeter.posCross_crossed (m : CpMeter) (t : Nat) (x : Rat) : (m.posCross t x).crossed = m.crossed + 1 :=
  congrArg (· + 1) (m.cycleEnd_crossed t m.accPos)

theorem CpMeter.negCross_sameWindow (m : CpMeter) (t : Nat) : SameWindow m (m.negCross t) :=
  (m.cycleEnd_sameWindow t m.accNeg).trans ⟨rfl, rfl, rfl, rfl⟩

theorem CpMeter.negCross_crossed (m : CpMeter) (t : Nat) : (m.negCross t).crossed = m.crossed := m.cycleEnd_crossed t m.accNeg

/-- A connection point after the arming and the crossings of sample `v` at time `t`. -/
def CpMeter.seen (m : CpMeter) (t : Nat) (v : Int) : CpMeter :=
  let m := { m with armPos := m.armPos || (decide (v < 0) && beyondArm m.cfg v),
                    armNeg := m.armNeg || (decide (0 < v) && beyondArm m.cfg v) }
  let m := if m.armPos ∧ 0 ≤ v then m.posCross t (crossTime m.prevT t m.prevV v) else m
  if m.armNeg ∧ v ≤ 0 then m.negCross t else m

theorem CpMeter.seen_sameWindow (m : CpMeter) (t : Nat) (v : Int) : SameWindow m (m.seen t v) := by
  unfold CpMeter.seen
  extract_lets armed pos
  have harm : SameWindow m armed := ⟨rfl, rfl, rfl, rfl⟩
  have hpos : SameWindow m pos := .ite (harm.trans (CpMeter.posCross_sameWindow ..)) harm
  exact .ite (hpos.trans (CpMeter.negCross_sameWindow ..)) hpos

/-- One sample counts one positive crossing at most. -/
theorem CpMeter.seen_crossed_le (m : CpMeter) (t : Nat) (v : Int) : (m.seen t v).crossed ≤ m.crossed + 1 := by
  unfold CpMeter.seen
  extract_lets armed pos
  have hpos : pos.crossed ≤ m.crossed + 1 := by
    unfold pos
    split
    · exact (CpMeter.posCross_crossed ..).le
    · exact Nat.le_succ _
  split
  · exact (CpMeter.negCross_crossed ..).trans_le hpos
  · exact hpos

/-- A window whose crossings follow the voltage and are not complete goes on over the sample's crossings (R274). -/
theorem State.crossings_open {s : State} {c : Nat} (v : Int) (hl : (s.cp c).lost = false)
    (hc : (s.cp c).crossed + 1 < winCycles (cfgFn (s.cp c).cfg)) :
    s.crossings c v = s.setCp c { (s.cp c).seen (s.localTime .metr) v with prevV := v, prevT := s.localTime .metr } := by
  have hw := (s.cp c).seen_sameWindow (s.localTime .metr) v
  have hlost : ((s.cp c).seen (s.localTime .metr) v).lost = false := hw.lost.trans hl
  have hopen : ¬winCycles (cfgFn ((s.cp c).seen (s.localTime .metr) v).cfg) ≤ ((s.cp c).seen (s.localTime .metr) v).crossed := by
    have hle := (s.cp c).seen_crossed_le (s.localTime .metr) v
    rw [hw.cfg]
    omega
  simp only [CpMeter.seen] at hlost hopen
  simp only [State.crossings, CpMeter.seen, hlost, Bool.false_eq_true, if_false, decide_eq_true_eq, if_neg hopen]

theorem State.applyCpCfg_onlyPoint (s : State) (c : Nat) : OnlyPoint c s (s.applyCpCfg c) := by
  unfold State.applyCpCfg
  rcases s.cpDue c with ⟨new, restart⟩
  extract_lets m
  refine .ite (.refl c s) ?_
  extract_lets moved m' m'' ins
  exact (s.setCp_onlyPoint c m'').trans
    (((s.setCp c m'').metr_keepsPoints { (s.setCp c m'').metr with inputs := ins } rfl rfl).onlyPoint c)

theorem State.closeWindow_onlyPoint (s : State) (c : Nat) : OnlyPoint c s (s.closeWindow c) := by
  unfold State.closeWindow
  extract_lets m f ok fm win w lost r u v
  have hu : OnlyPoint c s u := s.setCp_onlyPoint ..
  have hv : OnlyPoint c s v := .ite (hu.trans (State.setCp_onlyPoint ..)) hu
  exact (hv.trans (State.applyCpCfg_onlyPoint ..)).trans (State.setCp_onlyPoint ..)

theorem State.crossings_onlyPoint (s : State) (c : Nat) (v : Int) : OnlyPoint c s (s.crossings c v) := by
  unfold State.crossings
  extract_lets m t m1 m2 m3 m4 full u
  have hu : OnlyPoint c s u := s.setCp_onlyPoint ..
  exact .ite (hu.trans (State.closeWindow_onlyPoint ..)) hu

theorem State.poBegin_keepsPoints (s : State) (c n : Nat) : KeepsPoints s (s.poBegin c n) :=
  .foldl (fun s _ => .ite (s.setPo_keepsPoints ..) (.refl s)) _ s

theorem State.cpInputs_keepsPoints (s : State) (c : Nat) (d : Nat → Int) : KeepsPoints s (s.cpInputs c d).1 :=
  s.metr_keepsPoints _ rfl rfl

/-- A corrected sample `x`, with `v` the reference voltage, at a connection point: crossings, pulses, sums. -/
def State.counted (s : State) (c : Nat) (v : Int) (x : CpSample) : State :=
  let w := s.crossings c v
  let w := w.poBegin c (w.cp c).win.n
  w.setCp c ((w.cp c).accumulate x)

theorem State.cpSample_on {s : State} {c : Nat} (d : Nat → Int) (hp : cfgPhases (s.cp c).cfg ≠ 0) :
    ∃ v x, s.cpSample d c = (s.cpInputs c d).1.counted c v x := by
  rw [State.cpSample, if_neg hp]
  rcases s.cpInputs c d with ⟨u, x⟩
  unfold State.counted
  exact ⟨nth 0 x.v (cfgNum (u.cp c).cfg 4 - 1), x, rfl⟩

theorem State.counted_onlyPoint (s : State) (c : Nat) (v : Int) (x : CpSample) : OnlyPoint c s (s.counted c v x) :=
  ((s.crossings_onlyPoint c v).trans ((State.poBegin_keepsPoints ..).onlyPoint c)).trans (State.setCp_onlyPoint ..)

/-- A sample of one connection point leaves the registers and the other points alone. -/
theorem State.cpSample_onlyPoint (s : State) (d : Nat → Int) (c : Nat) : OnlyPoint c s (s.cpSample d c) := by
  by_cases hp : cfgPhases (s.cp c).cfg = 0
  · rw [State.cpSample, if_pos hp]
    exact .refl c s
  · obtain ⟨v, x, h⟩ := s.cpSample_on d hp
    rw [h]
    exact ((s.cpInputs_keepsPoints c d).onlyPoint c).trans (State.counted_onlyPoint ..)

theorem State.counted_cp {s : State} {c : Nat} (v : Int) (x : CpSample) (hl : (s.cp c).lost = false)
    (hc : (s.cp c).crossed + 1 < winCycles (cfgFn (s.cp c).cfg)) :
    ((s.counted c v x).cp c).win.n = (s.cp c).win.n + 1 ∧ ((s.counted c v x).cp c).winNo = (s.cp c).winNo := by
  have hw := (s.cp c).seen_sameWindow (s.localTime .metr) v
  unfold State.counted
  extract_lets w p
  have hp : p.cp c = { (s.cp c).seen (s.localTime .metr) v with prevV := v, prevT := s.localTime .metr } := by
    have hw' : w = _ := s.crossings_open v hl hc
    rw [(w.poBegin_keepsPoints ..).cp, hw', State.setCp_cp_self]
  rw [State.setCp_cp_self, hp]
  exact ⟨congrArg (fun w => w.n + 1) hw.win, hw.winNo⟩

/-- A sample counts into a window that goes on (R274, R276). -/
theorem State.cpSample_cp {s : State} {c : Nat} (d : Nat → Int) (hp : cfgPhases (s.cp c).cfg ≠ 0) (hl : (s.cp c).lost = false)
    (hc : (s.cp c).crossed + 1 < winCycles (cfgFn (s.cp c).cfg)) :
    ((s.cpSample d c).cp c).win.n = (s.cp c).win.n + 1 ∧ ((s.cpSample d c).cp c).winNo = (s.cp c).winNo := by
  obtain ⟨v, x, h⟩ := s.cpSample_on d hp
  rw [h]
  exact State.counted_cp (s := (s.cpInputs c d).1) v x hl hc

/-! ## METERING_SAMPLE -/

theorem State.poHold_keepsPoints (s : State) : KeepsPoints s s.poHold := s.metr_keepsPoints _ rfl rfl

theorem State.readLocal_keepsPoints (s : State) (i : Island) : KeepsPoints s (s.readLocal i) := ⟨⟨⟨rfl, rfl, rfl, rfl⟩, rfl, rfl⟩, rfl⟩

theorem State.afterBatch_keepsPoints (s : State) : KeepsPoints s s.afterBatch := by
  unfold State.afterBatch
  refine .foldl (fun s i => ?_) _ s
  exact .ite (.refl s) ⟨⟨⟨rfl, rfl, rfl, rfl⟩, rfl, rfl⟩, rfl⟩

/-- The four connection points take a batch of decimator outputs, one after the other. -/
def State.allPoints (s : State) (d : List Int) : State :=
  (List.range 4).foldl (fun s c => s.cpSample (fun i => nth 0 d i) c) s

theorem State.allPoints_keepsRegs (s : State) (d : List Int) : KeepsRegs s (s.allPoints d) :=
  foldl_of_step KeepsRegs.refl KeepsRegs.trans (fun s c => (s.cpSample_onlyPoint _ c).toKeepsRegs) _ s

/-- The batch is one sample of each of them. -/
theorem State.allPoints_cp (s : State) (d : List Int) {c : Nat} (hc : c < 4) :
    ∃ w : State, w.cp c = s.cp c ∧ (s.allPoints d).cp c = (w.cpSample (fun i => nth 0 d i) c).cp c :=
  foldl_onlyPoint_cp (fun s j => s.cpSample_onlyPoint _ j) List.nodup_range (List.mem_range.mpr hc) s

/-- The state after a batch of a device whose metering runs (R278). -/
def State.batched (s : State) (d : List Int) : State := ((s.readLocal .metr).poHold.allPoints d).afterBatch

theorem State.batched_keepsRegs (s : State) (d : List Int) : KeepsRegs s (s.batched d) :=
  (((s.readLocal_keepsPoints .metr).trans (State.poHold_keepsPoints _)).toKeepsRegs.trans (State.allPoints_keepsRegs ..)).trans
    (State.afterBatch_keepsPoints _).toKeepsRegs

theorem State.batched_cp {s : State} (d : List Int) {c : Nat} (hc : c < 4) (hp : cfgPhases (s.cp c).cfg ≠ 0) (hl : (s.cp c).lost = false)
    (hx : (s.cp c).crossed + 1 < winCycles (cfgFn (s.cp c).cfg)) :
    ((s.batched d).cp c).win.n = (s.cp c).win.n + 1 ∧ ((s.batched d).cp c).winNo = (s.cp c).winNo := by
  obtain ⟨w, hw, hfold⟩ := State.allPoints_cp (s.readLocal .metr).poHold d hc
  have hcp : w.cp c = s.cp c := hw
  rw [State.batched, (State.afterBatch_keepsPoints _).cp, hfold, ← hcp]
  rw [← hcp] at hp hl hx
  exact State.cpSample_cp _ hp hl hx

end Machine
end Sys2Proof
end

section
/-! SUPPORT. Windows, lost frequency, half-cycles and captures of metering (R274, R277, R278, R281, R284), and the statement about the
sampling commands. -/

namespace Sys2Proof
namespace Machine

/-! ## The end of a window (R277, R278) -/

theorem State.poOwe_keepsPoints (s : State) (c : Nat) (w : Win) : KeepsPoints s (s.poOwe c w) := by
  unfold State.poOwe
  exact .foldl (fun s _ => .ite (.refl s) (s.setPo_keepsPoints ..)) _ s

/-- A connection point whose oldest ended window was routed, `rest` still to come. -/
def CpMeter.routed (m : CpMeter) (w : Win) (rest : List Win) : CpMeter :=
  { m with
    ended := rest, meas := w.meas (m.winNo - rest.length), harm := w.harmonics (m.winNo - rest.length), vClip := w.vClip, iClip := w.iClip,
    seqRev := leads w.fMeas (nth [] w.samples 0).reverse (nth [] w.samples 1).reverse }

theorem State.modIv_keepsPoints (s : State) (f : Interval → Interval) : KeepsPoints s (s.modIv f) :=
  ⟨⟨⟨rfl, rfl, rfl, rfl⟩, rfl, rfl⟩, rfl⟩

theorem State.windowFlags_keepsPoints (s : State) (c : Nat) : KeepsPoints s (s.windowFlags c) := by
  unfold State.windowFlags
  exact s.modIv_keepsPoints _

/-- A window's increments are added to the registers of its connection point (R277). -/
def State.added (s : State) (c : Nat) (w : Win) : State :=
  { s with metr := { s.metr with regs := addRegs s.metr.regs c w.increments } }

/-- The device after that window: its increments added, its pulses owed, its flags noted. -/
def State.routed (s : State) (c : Nat) (w : Win) (rest : List Win) : State := (s.routeWindow c w rest).windowFlags c

theorem State.routeWindow_eq (s : State) (c : Nat) (w : Win) (rest : List Win) :
    s.routeWindow c w rest = ((s.added c w).poOwe c w).setCp c ((s.cp c).routed w rest) := rfl

theorem State.routed_cp (s : State) (c : Nat) (w : Win) (rest : List Win) : (s.routed c w rest).cp c = (s.cp c).routed w rest := by
  rw [State.routed, (State.windowFlags_keepsPoints ..).cp, State.routeWindow_eq, State.setCp_cp_self]

theorem State.routed_regs (s : State) (c : Nat) (w : Win) (rest : List Win) :
    (s.routed c w rest).metr.regs = addRegs s.metr.regs c w.increments := by
  rw [State.routed, (State.windowFlags_keepsPoints ..).regs, State.routeWindow_eq, (State.setCp_onlyPoint ..).regs,
    (State.poOwe_keepsPoints ..).regs, State.added]

theorem State.routed_keepsCore (s : State) (c : Nat) (w : Win) (rest : List Win) : KeepsCore s (s.routed c w rest) := by
  rw [State.routed, State.routeWindow_eq, State.added]
  exact (((s.metr_keepsCore _).trans (State.poOwe_keepsPoints ..).core).trans (State.setCp_onlyPoint ..).core).trans
    (State.windowFlags_keepsPoints ..).core

/-- Without a clear the oldest window is routed and that is all. -/
theorem State.windowEnd_routed {s : State} {c : Nat} {w : Win} {rest : List Win} (he : (s.cp c).ended = w :: rest)
    (hp : (s.cp c).clearPending = false) : s.windowEnd c = s.routed c w rest := by
  have hn : ¬((s.routed c w rest).cp c).clearPending = true := by rw [State.routed_cp]; exact Bool.eq_false_iff.mp hp
  simp only [State.windowEnd, he]
  exact if_pos hn

/-- A clear accepted after every other window that ended follows the window's increment. -/
theorem State.windowEnd_cleared {s : State} {c : Nat} {w : Win} {rest : List Win} (he : (s.cp c).ended = w :: rest)
    (hp : (s.cp c).clearPending = true) (h0 : (s.cp c).clearSkip = 0) : s.windowEnd c = (s.routed c w rest).cpClear c w.endAt := by
  have hy : ¬¬((s.routed c w rest).cp c).clearPending = true := by rw [State.routed_cp]; exact not_not.mpr hp
  have hz : ((s.routed c w rest).cp c).clearSkip = 0 := by rw [State.routed_cp]; exact h0
  simp only [State.windowEnd, he]
  exact (if_neg hy).trans (if_pos hz)

/-! ## A clear -/

/-- A number that a list of writes of 0 reaches, or that was 0, is 0. -/
theorem Tab.get_foldl_put_zero (g : Nat → Nat) (l : List Nat) (m : Tab Nat) {j : Nat} (h : j ∈ l.map g ∨ Tab.get 0 m j = 0) :
    Tab.get 0 (l.foldl (fun m k => Tab.put 0 m (g k) 0) m) j = 0 := by
  induction l generalizing m with
  | nil => exact h.resolve_left List.not_mem_nil
  | cons x r ih =>
    refine ih _ ?_
    rw [Tab.get_put]
    by_cases hj : j = g x
    · exact .inr (if_pos hj)
    · rw [if_neg hj]
      exact h.imp_left fun hm => (List.mem_cons.mp hm).resolve_left hj

/-- The registers after a clear of connection point `c`. -/
def clearedRegs (regs : Tab Nat) (c : Nat) : Tab Nat := (List.range 28).foldl (fun m k => Tab.put 0 m (28 * c + k) 0) regs

theorem clearedRegs_get (regs : Tab Nat) (c : Nat) {k : Nat} (hk : k < 28) : Tab.get 0 (clearedRegs regs c) (28 * c + k) = 0 :=
  Tab.get_foldl_put_zero (fun k => 28 * c + k) _ _ (.inl (List.mem_map.mpr ⟨k, List.mem_range.mpr hk, rfl⟩))

theorem State.clearRecord_metr (s : State) : s.clearRecord.metr = s.metr := by
  unfold State.clearRecord
  split <;> rfl

/-- No save running, the record of a clear is written at once and leaves the core alone (R316). -/
theorem State.clearRecord_keepsCore {s : State} (h : s.power.saving = false) : KeepsCore s s.clearRecord := by
  simp only [State.clearRecord, h, Bool.false_eq_true, if_false]
  exact ⟨rfl, rfl, rfl, rfl⟩

/-- A connection point whose registers were cleared at a device time. -/
def CpMeter.cleared (m : CpMeter) (at_ : Nat) : CpMeter :=
  { m with clearPending := false, clearCount := (m.clearCount + 1) % 4294967296, clearTime := at_ }

/-- The registers, of which `regs` stood before, and the counts after a clear, its interval's quantities noted already. -/
def State.pointCleared (s : State) (regs : Tab Nat) (c at_ : Nat) : State :=
  { s.setCp c ((s.cp c).cleared at_) with
    metr := { (s.setCp c ((s.cp c).cleared at_)).metr with regs := clearedRegs regs c },
    keep := { (s.setCp c ((s.cp c).cleared at_)).keep with
      clearCounts := Tab.put 0 (s.setCp c ((s.cp c).cleared at_)).keep.clearCounts c (((s.cp c).clearCount + 1) % 4294967296) } }

/-- A clear notes the interval's quantities, clears, and writes its record (R278, R309, R316). -/
theorem State.cpClear_eq (s : State) (c at_ : Nat) :
    ∃ v, KeepsPoints s v ∧ s.cpClear c at_ = (v.pointCleared s.metr.regs c at_).clearRecord := by
  unfold State.cpClear
  extract_lets regs u noted m
  have hk : KeepsPoints s noted := s.modIv_keepsPoints _
  clear_value noted
  exact ⟨noted, hk, rfl⟩

theorem State.cpClear_regs (s : State) (c at_ : Nat) : (s.cpClear c at_).metr.regs = clearedRegs s.metr.regs c := by
  obtain ⟨v, -, he⟩ := s.cpClear_eq c at_
  rw [he, State.clearRecord_metr, State.pointCleared]

theorem State.cpClear_cp (s : State) (c at_ : Nat) : (s.cpClear c at_).cp c = (s.cp c).cleared at_ := by
  obtain ⟨v, hk, he⟩ := s.cpClear_eq c at_
  rw [he, State.cp, State.clearRecord_metr, ← hk.cp]
  exact Tab.get_put_self ..

theorem State.cpClear_keepsCore {s : State} (c at_ : Nat) (h : s.power.saving = false) : KeepsCore s (s.cpClear c at_) := by
  obtain ⟨v, hk, he⟩ := s.cpClear_eq c at_
  have hp : KeepsCore v (v.pointCleared s.metr.regs c at_) := ⟨rfl, rfl, rfl, rfl⟩
  rw [he]
  exact (hk.core.trans hp).trans (State.clearRecord_keepsCore (by rw [hp.power, hk.core.power]; exact h))

/-! ## Half-cycles (R281, R282) -/

/-- As `KeepsRegs`, and the half-cycles of connection point `c` not yet evaluated are as they were. -/
structure KeepsHalves (c : Nat) (s u : State) : Prop extends KeepsRegs s u where
  halves : (u.cp c).halves = (s.cp c).halves

namespace KeepsHalves

theorem refl {c : Nat} (s : State) : KeepsHalves c s s := ⟨.refl s, rfl⟩

theorem trans {c : Nat} {s u w : State} (h : KeepsHalves c s u) (k : KeepsHalves c u w) : KeepsHalves c s w :=
  ⟨h.toKeepsRegs.trans k.toKeepsRegs, k.halves.trans h.halves⟩

theorem ite {c : Nat} {s u v : State} {p : Prop} [Decidable p] (hu : KeepsHalves c s u) (hv : KeepsHalves c s v) :
    KeepsHalves c s (if p then u else v) := by
  split
  · exact hu
  · exact hv

end KeepsHalves

theorem KeepsPoints.keepsHalves {s u : State} (h : KeepsPoints s u) (c : Nat) : KeepsHalves c s u :=
  ⟨h.toKeepsRegs, congrArg CpMeter.halves (h.cp c)⟩

theorem State.postE_keepsPoints (s : State) (i : Island) (c u : Nat) (a : List EvArg) (e : EvEdge) : KeepsPoints s (s.postE i c u a e) :=
  ⟨⟨s.postE_keepsCore i c u a e, s.postE_dict i c u a e, by rw [State.postE_metr]⟩, by rw [State.postE_metr]⟩

theorem State.pqRecord_keepsPoints (s : State) (r : Octets) : KeepsPoints s (s.pqRecord r) := s.metr_keepsPoints _ rfl rfl

theorem State.waveStart_keepsPoints (s : State) (c k : Nat) : KeepsPoints s (s.waveStart c k) :=
  .ite (s.metr_keepsPoints _ rfl rfl) (.refl s)

theorem State.setDetect_keepsHalves (s : State) (c k : Nat) (d : Detect) : KeepsHalves c s (s.setDetect c k d) :=
  ⟨(s.setCp_onlyPoint c _).toKeepsRegs, by rw [State.setDetect, State.setCp_cp_self]⟩

/-- The end of an event writes its record and its log entry, and frees its detector (R282, R283). -/
theorem State.pqEnd_keepsHalves (s : State) (c k now : Nat) (b : Bool) : KeepsHalves c s (s.pqEnd c k now b) := by
  unfold State.pqEnd
  extract_lets d metr u
  have hu : KeepsPoints s u := s.metr_keepsPoints _ rfl rfl
  exact (((hu.trans (u.pqRecord_keepsPoints _)).keepsHalves c).trans (State.setDetect_keepsHalves ..)).trans
    ((State.postE_keepsPoints ..).keepsHalves c)

theorem State.detectStep_keepsHalves (s : State) (c : Nat) (h : Half) (k : Nat) : KeepsHalves c s (s.detectStep c h k) := by
  unfold State.detectStep
  extract_lets m us d crossed mask e d' fin u go e' v
  have hu : KeepsHalves c s u := s.setDetect_keepsHalves ..
  have hv : KeepsHalves c s v := s.setDetect_keepsHalves ..
  exact .ite (.ite (hu.trans (State.pqEnd_keepsHalves ..)) hu)
    (.ite (hv.trans (((State.postE_keepsPoints ..).trans (State.waveStart_keepsPoints ..)).keepsHalves c)) (.refl s))

/-- The three detectors evaluate a half-cycle boundary taken from those that wait. -/
def State.halfTaken (s : State) (c : Nat) (h : Half) (r : List Half) : State :=
  (List.range 3).foldl (fun s k => s.detectStep c h k) (s.setCp c { s.cp c with halves := r })

theorem State.halfTaken_keepsRegs (s : State) (c : Nat) (h : Half) (r : List Half) : KeepsRegs s (s.halfTaken c h r) :=
  (s.setCp_onlyPoint c _).toKeepsRegs.trans
    (foldl_of_step KeepsHalves.refl KeepsHalves.trans (fun s k => s.detectStep_keepsHalves c h k) _ _).toKeepsRegs

theorem State.halfTaken_halves (s : State) (c : Nat) (h : Half) (r : List Half) : ((s.halfTaken c h r).cp c).halves = r :=
  (foldl_of_step KeepsHalves.refl KeepsHalves.trans (fun s k => s.detectStep_keepsHalves c h k) _ _).halves.trans
    (congrArg CpMeter.halves (s.setCp_cp_self c _))

/-! ## The commands -/

theorem exec_meteringSample (t : Nat) (d : List Int) (s : State) :
    exec (.meteringSample t d) s = onIsland .metr t s (fun s => if ¬s.up then s else s.batched d) := rfl

/-- METERING_SAMPLE of a device that is up. -/
theorem does_meteringSample {t : Nat} {d : List Int} {s : State} {P : State → Prop} (hl : s.live .metr t) (hu : s.up = true)
    (h : P ((s.advance t).batched d)) : Does (.meteringSample t d) s P :=
  does_onIsland_of_keepsCore (exec_meteringSample t d s) hl (if_neg (not_not.mpr hu)) ((s.advance t).batched_keepsRegs d).core h

/-- WINDOW_END of a connection point whose registers are read without a fault. -/
theorem does_windowEnd {t c : Nat} {s u : State} {P : State → Prop} (hc : c < 4) (hl : s.live .metr t) (hu : (s.advance t).windowEnd c = u)
    (hk : KeepsCore (s.advance t) u) (h : P u) : Does (.windowEnd t c []) s P :=
  does_onUnit_of_keepsCore rfl (decide_eq_true hc) hl hu hk h

/-- FREQ_LOST of a connection point that meters and has seen no positive crossing for 40 ms (R274). -/
theorem does_freqLost {t c : Nat} {x : Rat} {s : State} {P : State → Prop} (hc : c < 4) (hl : s.live .metr t)
    (hp : cfgPhases (s.cp c).cfg ≠ 0) (hn : (s.cp c).lost = false) (hx : (s.cp c).lastX = some x)
    (ht : x + 40000000 ≤ ((s.advance t).clk.dev : Rat)) (h : P ((s.advance t).setCp c (s.cp c).lose)) : Does (.freqLost t c) s P := by
  have hdue : ¬(decide (cfgPhases (s.cp c).cfg = 0) || (s.cp c).lost ||
      !decide ((s.cp c).lastX.getD (s.cp c).watch + 40000000 ≤ ((s.advance t).clk.dev : Rat))) = true := by
    simp [hx, hn, hp, ht]
  exact does_onUnit_of_keepsCore rfl (decide_eq_true hc) hl (if_neg hdue) (State.setCp_onlyPoint ..).core h

/-- HALF_CYCLE of a connection point with a boundary that waits. -/
theorem does_halfCycle {t c : Nat} {b : Half} {r : List Half} {s : State} {P : State → Prop} (hc : c < 4) (hl : s.live .metr t)
    (hb : (s.cp c).halves = b :: r) (h : P ((s.advance t).halfTaken c b r)) : Does (.halfCycle t c) s P := by
  have hb' : ((s.advance t).cp c).halves = b :: r := hb
  refine does_onUnit_of_keepsCore rfl (decide_eq_true hc) hl ?_ ((s.advance t).halfTaken_keepsRegs c b r).core h
  simp only [hb']
  rfl

/-- Settles O15: a sample of a window that goes on; the end of a window, without and with a clear that waits for it; a reference voltage
silent for 40 ms; a half-cycle boundary; the end of a capture. -/
theorem meteringCommands : Obligations.MeteringCommands := by
  unfold Obligations.MeteringCommands
  refine ⟨fun t c d s hc hl hu hp hn hx => ?_, fun t c w rest s hc hl he => ⟨fun hp => ?_, fun hp h0 hs => ?_⟩,
    fun t c x s hc hl hp hn hx ht => ?_, fun t c h r s hc hl hh => ?_, fun t x s hl hw ht => ?_⟩
  · obtain ⟨hwin, hno⟩ := State.batched_cp (s := s.advance t) d hc hp hn hx
    exact does_meteringSample hl hu ⟨hwin, hno, ((s.advance t).batched_keepsRegs d).regs⟩
  · refine does_windowEnd hc hl (State.windowEnd_routed (s := s.advance t) he hp) (State.routed_keepsCore ..)
      ⟨State.routed_regs .., ?_⟩
    rw [State.routed_cp]
    exact ⟨rfl, rfl, rfl⟩
  · have hr := (s.advance t).routed_keepsCore c w rest
    refine does_windowEnd hc hl (State.windowEnd_cleared (s := s.advance t) he hp h0)
      (hr.trans (State.cpClear_keepsCore c w.endAt (by rw [hr.power]; exact hs))) ⟨fun k hk => ?_, ?_⟩
    · rw [State.cpClear_regs]
      exact clearedRegs_get _ c hk
    · rw [State.cpClear_cp, State.routed_cp]
      exact ⟨rfl, rfl, rfl, rfl⟩
  · refine does_freqLost hc hl hp hn hx ht ⟨rfl, ?_⟩
    rw [State.setCp_cp_self]
    exact ⟨rfl, rfl, rfl⟩
  · have hk := (s.advance t).halfTaken_keepsRegs c h r
    exact does_halfCycle hc hl hh ⟨State.halfTaken_halves .., hk.regs, hk.dict⟩
  · exact does_onIsland_of_keepsCore rfl hl (if_pos ⟨hw, ht⟩) (State.metr_keepsCore ..) rfl

end Machine
end Sys2Proof
end

section
/-! SUPPORT. Writes of metering (R289, R294): what a write of `F_NOMINAL` to a connection point that meters leaves of it, and a state in
which the configuration clause of the statement about the writes fails. -/

namespace Sys2Proof
namespace Machine

/-- The configuration of a connection point is metering's. -/
theorem State.ownerWrite_cp (s : State) (n : Nat) {c : Nat} (sub : Nat) (b : Octets) (hc : c < 4) :
    s.ownerWrite n (0x4800 + c) sub b = s.cpEntry c sub b := by
  have hm : s.ownerWrite n (0x4800 + c) sub b = s.metrWrite (0x4800 + c) sub b := by
    simp (disch := omega) only [State.ownerWrite, if_neg, if_pos]
  rw [hm]
  unfold State.metrWrite
  simp (disch := omega) only [if_pos, Nat.add_sub_cancel_left]

/-- A write to a configuration entry is marked before its value is stored (R289, R294). -/
def State.cpWritten (s : State) (c sub : Nat) (b : Octets) : State := (s.cpMark c sub).store (0x4800 + c) sub b

theorem State.cpWritten_metr (s : State) (c sub : Nat) (b : Octets) : (s.cpWritten c sub b).metr = (s.cpMark c sub).metr := by
  rw [State.cpWritten, State.store_only]

theorem State.cpMark_cp (s : State) (c sub : Nat) :
    ∃ x, (s.cpMark c sub).cp c = { s.cp c with before := x, redo := (s.cp c).redo || decide (sub ≤ 2) } :=
  ⟨_, s.setCp_cp_self ..⟩

theorem State.cpWritten_cp (s : State) (c sub : Nat) (b : Octets) :
    ∃ x, (s.cpWritten c sub b).cp c = { s.cp c with before := x, redo := (s.cp c).redo || decide (sub ≤ 2) } := by
  rw [State.cp, State.cpWritten_metr]
  exact s.cpMark_cp c sub

/-- A nominal frequency of 50 or 60 Hz is taken; where the point meters, it waits for the window's end (R289, R290). -/
theorem State.ownerWrite_fNominal (s : State) (n : Nat) {c : Nat} {b : Octets} (hc : c < 4) (hb : leNat b = 50 ∨ leNat b = 60)
    (hp : cfgPhases (s.cp c).cfg ≠ 0) : s.ownerWrite n (0x4800 + c) 2 b = .done (s.cpWritten c 2 b) := by
  obtain ⟨x, hx⟩ := s.cpWritten_cp c 2 b
  have hon : ¬cfgPhases ((s.cpWritten c 2 b).cp c).cfg = 0 := by rw [hx]; exact hp
  have hok : ¬(leNat b ≠ 50 ∧ leNat b ≠ 60) := by omega
  rw [s.ownerWrite_cp n 2 b hc]
  exact (if_neg hok).trans (congrArg WRes.done (if_neg hon))

/-- A write of `F_NOMINAL` to a connection point that meters leaves the mark by which the end of the window restarts its detection (R289). -/
theorem does_fNominal_redo {t c : Nat} {a : Acc} {b : Octets} {s : State} (hc : c < 4) (h : s.mayWrite t a (0x4800 + c) 2 b)
    (hb : leNat b = 50 ∨ leNat b = 60) (hp : cfgPhases (s.cp c).cfg ≠ 0) :
    Does (.cpConfigWrite t a c 2 b) s (fun u => (u.cp c).redo = true) := by
  refine does_ownerWrite (f := fun v => v.cpWritten c 2 b) (writeCmd_of_unit (by omega) ..) h
    (fun n _ => State.ownerWrite_fNominal _ _ hc hb hp) (fun v => ?_) (fun v => ?_) (fun n m => ?_)
  · rw [State.cpWritten, State.store_only]; rfl
  · rw [State.cpWritten, State.store_only]; rfl
  · obtain ⟨x, hx⟩ := State.cpWritten_cp { s.advance t with net := n } c 2 b
    exact (congrArg CpMeter.redo hx).trans (Bool.or_true _)

/-- A device in RUN with a trusted host port in the service role, whose connection point 2 meters three phases at 50 Hz. -/
def meteringPoint : State :=
  { State.reset with
    dev := { state := .run }
    power := { State.reset.power with straps := { hostRole := true, hTrust := true }, started := true, trained := true, bisted := true }
    dict := { State.reset.dict with vals := [(0x480201, .num 7)] }
    metr := { State.reset.metr with cps := [(2, { cfg := [(1, .num 7)] })] } }

/-- An access from the host port. -/
def hostAccess : Acc := { src := .host, session := 0, tag := 7, crit := none }

/-- There the host may set the nominal frequency of connection point 2 to 60 Hz. -/
theorem meteringPoint_mayWrite : meteringPoint.mayWrite 0 hostAccess (0x4800 + 2) 2 [60] :=
  ⟨by decide, by decide, by decide, _, rfl, by decide, by decide, by decide, by decide, by decide⟩

/-- Refutes O51: its configuration clause has the metering island unchanged by every write to a connection point that meters. The write
also sets the marks that the end of the window needs (R289, R294), as the write of `F_NOMINAL` to point 2 of `meteringPoint` does. -/
theorem not_meterWrites : ¬ Obligations.MeterWrites := by
  unfold Obligations.MeterWrites
  rintro ⟨-, -, hconfig, -⟩
  obtain ⟨u, hu, -, -, -, -, hkeep, -⟩ := hconfig 0 2 2 [60] hostAccess meteringPoint (by decide) (by decide) (by decide)
    meteringPoint_mayWrite (by decide) (by decide) (by decide) (by decide) (by decide)
  obtain ⟨v, hv, hredo⟩ := does_fNominal_redo (by decide) meteringPoint_mayWrite (by decide) (by decide)
  obtain rfl : u = v := by simpa using hu.symm.trans hv
  have hcp : u.cp 2 = meteringPoint.cp 2 := by
    rw [State.cp, hkeep (by decide)]
    rfl
  exact absurd ((congrArg CpMeter.redo hcp).symm.trans hredo) (by decide)

end Machine
end Sys2Proof
end

section
/-! SUPPORT. Channel reports (R295–R303), their freshness (R296) and the edges of counting inputs (R305): what each changes of its channel or
input, and the statement about their commands. -/

namespace Sys2Proof
namespace Machine

/-! ## Channels and pulse inputs as they are written -/

theorem State.setChan_keepsCore (s : State) (c : Nat) (v : Chan) : KeepsCore s (s.setChan c v) := ⟨rfl, rfl, rfl, rfl⟩
theorem State.setPulse_keepsCore (s : State) (i : Nat) (v : PulseIn) : KeepsCore s (s.setPulse i v) := ⟨rfl, rfl, rfl, rfl⟩

@[simp] theorem State.setChan_chan_self (s : State) (c : Nat) (v : Chan) : (s.setChan c v).chan c = v := Tab.get_put_self ..
@[simp] theorem State.setPulse_pulse_self (s : State) (i : Nat) (v : PulseIn) : (s.setPulse i v).pulse i = v := Tab.get_put_self ..
@[simp] theorem State.setPulse_piOpt (s : State) (i : Nat) (v : PulseIn) (j k : Nat) : (s.setPulse i v).piOpt j k = s.piOpt j k := rfl

/-! ## The differences of a report (R300, R302) -/

/-- The volumes take their differences whatever becomes of the energies. -/
theorem addHeat_volumes (g : ChanRegs) (side cold : Bool) (rep : Report) (dF dR : Nat) :
    (addHeat g side cold rep dF dR).1.vFwd = g.vFwd + dF ∧ (addHeat g side cold rep dF dR).1.vRev = g.vRev + dR := by
  unfold addHeat
  extract_lets f r g' d k uF uR
  split
  · exact ⟨rfl, rfl⟩
  · split
    · exact ⟨rfl, rfl⟩
    · exact ⟨rfl, rfl⟩

/-- What the registers of channel `c` become when a report's differences to the baseline `x` are taken. -/
def State.heatAdded (s : State) (c : Nat) (m : ChanRec) (rep : Report) (x : Baseline) : ChanRegs :=
  (addHeat (s.chan c).regs (bitOf (s.nat (0x4000 + c) 2) 0) (s.coldSide m) rep (diff32 rep.vFwd x.vFwd) (diff32 rep.vRev x.vRev)).1

/-- With a baseline, no restart flag and no volume that ran back, a report's differences go to the registers (R300, R301). -/
theorem State.reportRegs_added {s : State} {c : Nat} {m : ChanRec} {rep : Report} {x : Baseline} (hx : (s.chan c).base = some x)
    (h0 : bitOf rep.flags 0 = false) (hf : diff32 rep.vFwd x.vFwd < 2147483648) (hr : diff32 rep.vRev x.vRev < 2147483648) :
    ∃ v, s.reportRegs c m rep = s.setChan c v ∧ v.regs = s.heatAdded c m rep x := by
  have hn : ¬(2147483648 ≤ diff32 rep.vFwd x.vFwd ∨ 2147483648 ≤ diff32 rep.vRev x.vRev) := by omega
  simp only [State.reportRegs, hx, h0, Bool.false_eq_true, if_false, if_neg hn]
  exact ⟨_, rfl, rfl⟩

/-- An accepted report of a metered channel: its held values are renewed, its registers those that the differences left (R296, R297). -/
theorem State.acceptReport_metered {s : State} {c : Nat} {m : ChanRec} (rep : Report) (hm : m.type = 1 ∨ m.type = 2 ∨ m.type = 4) :
    ∃ v, s.acceptReport c m rep = (s.reportRegs c m rep).setChan c v ∧ v.fresh = true ∧ v.seq = rep.seq ∧
      v.arrival = (s.reportRegs c m rep).clk.dev ∧ v.regs = ((s.reportRegs c m rep).chan c).regs := by
  have hmet : (decide (m.type = 1) || decide (m.type = 2) || decide (m.type = 4)) = true := by simpa [or_assoc] using hm
  unfold State.acceptReport
  extract_lets held v fl metered u
  have hu : u = s.reportRegs c m rep := if_pos hmet
  rw [hu]
  exact ⟨_, rfl, rfl, rfl, rfl, rfl⟩

/-- A report of 48 octets whose type is its channel's and whose number is new is accepted (R296). -/
theorem State.channelReport_accepted {s : State} {src : RepSrc} {b : Octets} {c : Nat} (hb : b.length = 48)
    (hc : s.reportChan src = some c) (ht : (reportOf b).type = (s.chanOf c).type) (hq : (s.chan c).lastSeq ≠ some (reportOf b).seq) :
    s.channelReport src b = s.acceptReport c (s.chanOf c) (reportOf b) := by
  have hgood : ¬((reportOf b).type ≠ (s.chanOf c).type ∨ (s.chan c).lastSeq = some (reportOf b).seq) := by
    rintro (h | h)
    · exact h ht
    · exact hq h
  rw [State.channelReport, if_neg (not_not.mpr hb), hc]
  exact if_neg hgood

/-! ## Freshness (R296) -/

theorem State.reportTimeout_stale {s : State} {c : Nat} (hf : (s.chan c).fresh = true) (hs : s.chanFresh c = false) :
    s.reportTimeout c = s.setChan c { s.chan c with fresh := false, stale := true } :=
  if_pos ⟨hf, Bool.eq_false_iff.mp hs⟩

/-! ## Edges (R305) -/

/-- A pulse input that accepted a level, not the first since its configuration changed. -/
def PulseIn.took (v : PulseIn) (level : Bool) (now : Nat) : PulseIn := { v with level := level, first := false, since := now }

/-- An edge of the counting polarity at an unpaired input that counts adds one there, the filter time over. -/
theorem State.pulseEdge_counts {s : State} {i : Nat} {level : Bool} (hm : s.piMode i = 1) (hf : (s.pulse i).first = false)
    (hl : (s.pulse i).level ≠ level) (hp : s.piOpt i 1 = false) (he : level ≠ s.piOpt i 0)
    (ht : (s.pulse i).since + s.piFilter i ≤ s.now) :
    s.pulseEdge i level = (s.setPulse i ((s.pulse i).took level s.now)).setPulse i
      { (s.pulse i).took level s.now with count := (s.pulse i).count + 1 } := by
  have htaken : ¬(s.piMode i = 0 ∨ ((s.pulse i).level = level ∧ ¬(s.pulse i).first = true) ∨ s.now < (s.pulse i).since + s.piFilter i) := by
    simp [hm, hl, ht]
  have hcounts : ¬((s.pulse i).first = true ∨ s.piMode i = 3 ∨ level = s.piOpt i 0) := by simp [hf, hm, he]
  simp only [State.pulseEdge, if_neg htaken, State.setPulse_piOpt, if_neg hcounts, hp, Bool.false_and, Bool.false_eq_true, false_and,
    if_false, State.setPulse_pulse_self]
  rfl

/-! ## The commands -/

/-- Settles O17: a good report of a metered channel with a baseline; a report gone stale; a counting edge of an unpaired input. -/
theorem reportCommands : Obligations.ReportCommands := by
  unfold Obligations.ReportCommands
  refine ⟨fun t c src b x s hl hb hc ht hq hm hx h0 hf hr => ?_, fun t c s hc hl hf hs => ?_,
    fun t i level s hi hl hm hf hlev hp he ht => ?_⟩
  · obtain ⟨v, hv, hvr⟩ := State.reportRegs_added (s := s.advance t) (c := c) (m := s.chanOf c) hx h0 hf hr
    obtain ⟨w, hw, hfresh, hseq, harr, hwr⟩ := State.acceptReport_metered (s := s.advance t) (c := c) (reportOf b) hm
    have hregs : w.regs = (s.advance t).heatAdded c (s.chanOf c) (reportOf b) x := by
      rw [hwr, hv, State.setChan_chan_self, hvr]
    have hvol := addHeat_volumes (s.chan c).regs (bitOf (s.nat (0x4000 + c) 2) 0) (s.coldSide (s.chanOf c)) (reportOf b)
      (diff32 (reportOf b).vFwd x.vFwd) (diff32 (reportOf b).vRev x.vRev)
    rw [hv] at hw harr
    refine does_onIsland_of_keepsCore rfl hl ((State.channelReport_accepted (s := s.advance t) hb hc ht hq).trans hw)
      ((State.setChan_keepsCore ..).trans (State.setChan_keepsCore ..)) ⟨rfl, ?_⟩
    rw [State.setChan_chan_self, hregs]
    exact ⟨hfresh, hseq, harr, rfl, hvol⟩
  · exact does_onUnit_of_keepsCore rfl (decide_eq_true hc) hl (State.reportTimeout_stale (s := s.advance t) hf hs)
      (State.setChan_keepsCore ..) ⟨rfl, State.setChan_chan_self ..⟩
  · refine does_onUnit_of_keepsCore rfl (decide_eq_true hi) hl (State.pulseEdge_counts (s := s.advance t) hm hf hlev hp he ht)
      ((State.setPulse_keepsCore ..).trans (State.setPulse_keepsCore ..)) ⟨rfl, ?_⟩
    have hfirst : ({ s.pulse i with first := false } : PulseIn) = s.pulse i := by rw [← hf]
    rw [State.setPulse_pulse_self, ← hfirst]
    rfl

end Machine
end Sys2Proof
end

section
/-! SUPPORT. Core samples (R311–R313), intervals (R307–R310), energy records (R315, R316) and retention copies (R317): what a latch, a copy,
an interval's end and a retention write change, and the statement about their commands. -/

namespace Sys2Proof
namespace Machine

/-! ## Latch and copy (R312, R313) -/

theorem State.modCs_keepsCore (s : State) (f : CoreSample → CoreSample) : KeepsCore s (s.modCs f) := ⟨rfl, rfl, rfl, rfl⟩

/-- The core samples after the requests at `time` have latched `h`; the others go on waiting. -/
def CoreSample.latchedAt (c : CoreSample) (time : Nat) (h : Shadow) : CoreSample :=
  { c with reqs := c.reqs.filter (fun r => decide (r.time ≠ time)), epoch := h.epoch, latched := some h, lastLatch := some time, status := 2 }

/-- A latch takes the accumulators as they stand, under the next epoch. -/
theorem State.coreLatch_single {s : State} {r : CsReq} (hr : s.heat.cs.reqs = [r]) (ht : r.time ≤ s.clk.dev) :
    ∃ cascade cause, s.coreLatch =
      s.modCs (·.latchedAt r.time (s.latchShadow ((s.heat.cs.epoch + 1) % 4294967296) cascade r.time cause)) := by
  have hdue : (s.heat.cs.reqs.filter (fun r => decide (r.time ≤ s.clk.dev))).map (·.time) = [r.time] := by simp [hr, ht]
  simp only [State.coreLatch, hdue, List.foldl_nil]
  exact ⟨_, _, rfl⟩

theorem CoreSample.latchedAt_single {c : CoreSample} {r : CsReq} (hr : c.reqs = [r]) (h : Shadow) : (c.latchedAt r.time h).reqs = [] := by
  simp [CoreSample.latchedAt, hr]

/-- The core samples after the latched blocks were copied. -/
def CoreSample.copied (c : CoreSample) (h : Shadow) : CoreSample :=
  { c with shadow := h, latched := none, status := if c.reqs.isEmpty then 3 else 1 }

theorem State.shadowCopy_latched {s : State} {h : Shadow} (hl : s.heat.cs.latched = some h) : s.shadowCopy = s.modCs (·.copied h) := by
  rw [State.shadowCopy, hl]
  rfl

/-! ## What an interval's end leaves to its record (R307–R310) -/

/-- The core, the interval in progress, the keep store and metering of `u` are those of `s`. -/
structure KeepsBooks (s u : State) : Prop where
  core : KeepsCore s u
  iv : u.heat.iv = s.heat.iv
  keep : u.keep = s.keep
  metr : u.metr = s.metr

namespace KeepsBooks

theorem refl (s : State) : KeepsBooks s s := ⟨.refl s, rfl, rfl, rfl⟩

theorem trans {s u w : State} (h : KeepsBooks s u) (k : KeepsBooks u w) : KeepsBooks s w :=
  ⟨h.core.trans k.core, k.iv.trans h.iv, k.keep.trans h.keep, k.metr.trans h.metr⟩

theorem ite {s u v : State} {p : Prop} [Decidable p] (hu : KeepsBooks s u) (hv : KeepsBooks s v) :
    KeepsBooks s (if p then u else v) := by
  split
  · exact hu
  · exact hv

theorem foldl {α : Type} {f : State → α → State} (h : ∀ s x, KeepsBooks s (f s x)) (l : List α) (s : State) :
    KeepsBooks s (l.foldl f s) :=
  foldl_of_step refl trans h l s

end KeepsBooks

theorem State.modCs_keepsBooks (s : State) (f : CoreSample → CoreSample) : KeepsBooks s (s.modCs f) :=
  ⟨s.modCs_keepsCore f, rfl, rfl, rfl⟩

theorem State.setChan_keepsBooks (s : State) (c : Nat) (v : Chan) : KeepsBooks s (s.setChan c v) :=
  ⟨s.setChan_keepsCore c v, rfl, rfl, rfl⟩

theorem State.modChan_keepsBooks (s : State) (c : Nat) (f : Chan → Chan) : KeepsBooks s (s.modChan c f) := s.setChan_keepsBooks ..

theorem State.post_keepsBooks (s : State) (i : Island) (c u : Nat) (a : List EvArg) : KeepsBooks s (s.post i c u a) :=
  ⟨s.post_keepsCore i c u a, by rw [State.post_heat], s.post_keep i c u a, s.post_metr i c u a⟩

theorem State.remapSector_keepsBooks (s : State) (sector : Nat) : KeepsBooks s (s.remapSector sector) :=
  .ite (s.post_keepsBooks ..) ⟨s.modHealth_keepsCore _, rfl, rfl, rfl⟩

theorem State.coreLatch_keepsBooks (s : State) : KeepsBooks s s.coreLatch := by
  unfold State.coreLatch
  split
  · exact .refl s
  · exact s.modCs_keepsBooks _

theorem State.shadowCopy_keepsBooks (s : State) : KeepsBooks s s.shadowCopy := by
  unfold State.shadowCopy
  split
  · exact s.modCs_keepsBooks _
  · exact .refl s

/-- The reconciliation of a channel (R303, R309) is its own and an event's. -/
theorem State.ivClose_keepsBooks (s : State) (q : Nat × Nat × Nat × Nat) (c : Nat) : KeepsBooks s (s.ivClose q c) := by
  unfold State.ivClose
  extract_lets v n hit u w
  have hw : KeepsBooks s w := by
    unfold w
    split
    · exact .refl s
    · exact s.setChan_keepsBooks ..
    · exact .ite ((s.setChan_keepsBooks ..).trans (State.post_keepsBooks ..)) (s.setChan_keepsBooks ..)
  exact hw.trans (w.modChan_keepsBooks ..)

/-! ## The end of an interval (R307, R310, R316) -/

/-- The interval that begins as one ends with the shadow `h`, whose record `rec` went into the ring. -/
def Interval.closed (v : Interval) (h : Shadow) (rec : Octets) (len next : Nat) : Interval :=
  { v with
    no := (v.no + 1) % 4294967296, ring := Tab.insert v.ring v.nextSlot ((v.no + 1) % 4294967296, rec),
    nextSlot := (v.nextSlot + 1) % 4085, newest := some ((v.no + 1) % 4294967296), elec0 := h.elec, chans0 := h.chans,
    pulses0 := h.pulses, elecCl := [], chansCl := [], pulsesCl := [], cleared := [], powerCut := false, restored := 0, clockSet := false,
    rebuilt := false, cpFlags := [], len := len, next := next }

theorem Interval.closed_ring (v : Interval) (h : Shadow) (rec : Octets) (len next : Nat) :
    Tab.find (v.closed h rec len next).ring v.nextSlot = some ((v.no + 1) % 4294967296, rec) := Tab.find_insert_self ..

/-- The ring head that names the newest record of an interval just closed. -/
def Interval.closedHead (v : Interval) : RingHead :=
  { nextSlot := (v.nextSlot + 1) % 4085, newest := (v.no + 1) % 4294967296 }

/-- The end of an interval closes it, and writes the ring head and then the energy record. -/
theorem State.ivEnd_eq (s : State) (h : Shadow) :
    ∃ u rec len next, KeepsBooks s u ∧ s.ivEnd h = ((u.modIv (·.closed h rec len next)).keepHead).writeEnergy h 1 := by
  unfold State.ivEnd
  extract_lets v u rec w len x
  have hu : KeepsBooks s u := .foldl (fun s c => .ite (.refl s) (by
    dsimp only
    split
    · exact s.modChan_keepsBooks ..
    · exact .refl s)) _ s
  have hw : KeepsBooks u w := .foldl (fun s c => .ite (.refl s) (s.ivClose_keepsBooks ..)) _ u
  exact ⟨w, rec, len, _, hu.trans hw, rfl⟩

/-- A write of a record's slot raises its generation by one, the last of the 32 bits apart (R40). -/
theorem KRec.gen_write {α : Type} (r : KRec α) (x : α) (h : r.gen < 4294967295) : (r.write x).gen = r.gen + 1 := by
  obtain ⟨_ | ⟨g, y⟩, _ | ⟨k, z⟩⟩ := r
  · rfl
  · have hk : k < 4294967295 := h
    have hmod : (k + 1) % 4294967296 = k + 1 := by omega
    simp [KRec.write, KRec.newest, KRec.gen, hmod]
  · have hg : g < 4294967295 := h
    have hmod : (g + 1) % 4294967296 = g + 1 := by omega
    simp [KRec.write, KRec.newest, KRec.gen, hmod]
  · by_cases hlt : g < k
    · have hk : k < 4294967295 := by simpa [KRec.gen, KRec.newest, hlt] using h
      have hmod : (k + 1) % 4294967296 = k + 1 := by omega
      simp [KRec.write, KRec.newest, KRec.gen, hlt, hmod]
    · have hg : g < 4294967295 := by simpa [KRec.gen, KRec.newest, hlt] using h
      have hmod : (g + 1) % 4294967296 = g + 1 := by omega
      simp [KRec.write, KRec.newest, KRec.gen, hlt, hmod]

/-- What the end of an interval with the shadow `h` leaves (R308, R310, R316). -/
theorem State.ivEnd_spec (s : State) (h : Shadow) :
    KeepsCore s (s.ivEnd h) ∧ (s.ivEnd h).metr = s.metr ∧
    (∃ rec len next, (s.ivEnd h).heat.iv = s.heat.iv.closed h rec len next) ∧
    (s.ivEnd h).keep.head = s.keep.head.write s.heat.iv.closedHead ∧
    ∃ r, (s.ivEnd h).keep.energy = s.keep.energy.write r := by
  obtain ⟨u, rec, len, next, hu, he⟩ := s.ivEnd_eq h
  rw [he, ← hu.iv, ← hu.keep, ← hu.metr]
  exact ⟨hu.core.trans ⟨rfl, rfl, rfl, rfl⟩, rfl, ⟨rec, len, next, rfl⟩, rfl, _, rfl⟩

/-- The boundary of an interval of a device that is up, no save running and no boundary put off: a core sample of the boundary's time is
there or is taken, it is copied, and the interval ends with it (R307). -/
theorem State.intervalBoundary_due {s : State} (remaps : List Nat) (hu : s.up = true) (ht : s.heat.iv.next ≤ s.clk.dev)
    (hd : s.power.deferIv = []) (hs : s.power.saving = false) :
    ∃ u h, KeepsBooks s u ∧ s.intervalBoundary remaps = u.ivEnd h := by
  have hdue : ¬(¬s.up = true ∨ s.clk.dev < s.heat.iv.next ∨ s.power.deferIv ≠ []) := by simp [hu, hd, ht]
  unfold State.intervalBoundary
  extract_lets at_ u mark w
  have hsampled : KeepsBooks s u := .ite (.refl s) ((s.modCs_keepsBooks _).trans (State.coreLatch_keepsBooks _))
  have hcopied : KeepsBooks s w := (hsampled.trans (u.modCs_keepsBooks _)).trans (State.shadowCopy_keepsBooks _)
  have hsave : ¬w.power.saving = true := by rw [hcopied.core.power, hs]; exact Bool.false_ne_true
  rw [if_neg hdue, if_neg hsave]
  exact ⟨_, _, hcopied.trans (.foldl State.remapSector_keepsBooks remaps w), rfl⟩

/-! ## Retention copies (R317) -/

/-- A retention copy of the present registers, under the generation after the newest one's. -/
def State.nextRetCopy (s : State) : RetCopy := s.retCopy (((s.retNewest.map (·.gen)).getD 0 + 1) % 4294967296)

theorem State.retentionWrite_overB {s : State} (h : s.retBest.map (·.1) = some 0) :
    s.retentionWrite = { s with heat := { s.heat with retB := s.nextRetCopy.words } } := if_pos h

theorem State.retentionWrite_overA {s : State} (h : s.retBest.map (·.1) ≠ some 0) :
    s.retentionWrite = { s with heat := { s.heat with retA := s.nextRetCopy.words } } := if_neg h

theorem State.retentionWrite_only (s : State) : OnlyHeat s s.retentionWrite := .ite rfl rfl

theorem State.retentionWrite_keepsCore (s : State) : KeepsCore s s.retentionWrite := .ite ⟨rfl, rfl, rfl, rfl⟩ ⟨rfl, rfl, rfl, rfl⟩

/-! ## The commands -/

/-- RETENTION_WRITE of a device that is up, its jobs not held, as a multiple of 500 ms has come. -/
theorem does_retentionWrite {t : Nat} {s : State} {P : State → Prop} (hl : s.live .house t) (hu : s.up = true)
    (hj : s.power.jobsHeld = false) (hd : (s.advance t).retentionDue = true) (h : P (s.advance t).retentionWrite) :
    Does (.retentionWrite t) s P :=
  does_onIsland_of_keepsCore rfl hl (if_pos ⟨hu, Bool.eq_false_iff.mp hj, hd⟩) (State.retentionWrite_keepsCore _) h

/-- Settles O19: the latch of one request that is due; the copy of what latched; the boundary of an interval; a retention write. -/
theorem coreSampleCommands : Obligations.CoreSampleCommands := by
  unfold Obligations.CoreSampleCommands
  refine ⟨fun t r s hl hr ht => ?_, fun t h s hl hh => ?_, fun t remaps s hl hu ht hd hs => ?_, fun t c s hl hu hj hd hc => ?_⟩
  · obtain ⟨cascade, cause, he⟩ := State.coreLatch_single (s := s.advance t) hr ht
    exact does_onIsland_of_keepsCore rfl hl he (State.modCs_keepsCore ..)
      ⟨rfl, rfl, CoreSample.latchedAt_single hr _, rfl, rfl, _, rfl, rfl, rfl, rfl, rfl, rfl⟩
  · exact does_onIsland_of_keepsCore rfl hl (State.shadowCopy_latched (s := s.advance t) hh) (State.modCs_keepsCore ..) ⟨rfl, rfl, rfl⟩
  · obtain ⟨u, h, hk, he⟩ := State.intervalBoundary_due (s := s.advance t) remaps hu ht hd hs
    obtain ⟨hcore, hmetr, ⟨rec, len, next, hiv⟩, hhead, r, henergy⟩ := u.ivEnd_spec h
    rw [hk.iv] at hiv hhead
    rw [hk.keep] at hhead henergy
    refine does_onIsland_of_keepsCore rfl hl he (hk.core.trans hcore) ?_
    rw [hiv, hhead, henergy, hmetr, hk.metr]
    exact ⟨rfl, rfl, congrArg (Option.map Prod.fst) (Interval.closed_ring ..), rfl, rfl, KRec.gen_write _ r, rfl⟩
  · subst hc
    refine does_retentionWrite hl hu hj hd ⟨State.retentionWrite_only _, fun hb => ?_, fun hb => ?_⟩
    · rw [State.retentionWrite_overB (s := s.advance t) hb]
      exact ⟨rfl, rfl⟩
    · rw [State.retentionWrite_overA (s := s.advance t) hb]
      exact ⟨rfl, rfl⟩

end Machine
end Sys2Proof
end

section
/-! SUPPORT. The instructions of the logic engine as commands (R336–R339): what an instruction that completes, one that stores and one that
faults leave of the engine, and the statements about bits, words, arithmetic, flow and faults. -/

namespace Sys2Proof
namespace Machine

/-! ## An instruction that completes (R337) -/

theorem Logic.evts_cleared {l : Logic} (h : l.regs.evts = []) : { l with regs := { l.regs with evts := [] } } = l := by
  rw [← h]

/-- An engine that owes no event posts none. -/
theorem State.postLogicEvents_none {s : State} (h : s.logic.regs.evts = []) : s.postLogicEvents = s := by
  simp only [State.postLogicEvents, State.modLogic_eq, Logic.evts_cleared h, h, List.foldl_nil]

/-- An instruction that neither faults nor owes an event does to the engine what its meaning says, and nothing else. -/
theorem State.onLogic_quiet {s : State} {f : Logic → Logic} (he : (f s.logic.begin).regs.evts = [])
    (hf : (f s.logic.begin).regs.fault = 0) : s.onLogic f = { s with logic := f s.logic.begin } := by
  have hp : (s.modLogic (fun l => f l.begin)).postLogicEvents = { s with logic := f s.logic.begin } :=
    State.postLogicEvents_none he
  simp only [State.onLogic, hp, if_pos hf]

/-- An instruction that neither faults nor owes an event completes with the engine as it left it. -/
theorem does_logic {c : Instr} {f : Logic → Logic} {l : Logic} {s : State} {P : State → Prop}
    (hc : exec c s = s.became (s.onLogic f)) (hl : f s.logic.begin = l) (h : P { s with logic := l })
    (he : l.regs.evts = [] := by rfl) (hf : l.regs.fault = 0 := by rfl) : Does c s P := by
  subst hl
  have hu := State.onLogic_quiet he hf
  exact does_became hc (by rw [hu]) (by rw [hu]) (by rw [hu]; exact h)

/-- An instruction without operand that acts on the registers alone. -/
theorem does_ran {c : Instr} {f : Logic → Logic} {len cyc : Nat} {g : LogicRegs → LogicRegs} {s : State}
    (hc : exec c s = s.became (s.onLogic f)) (hl : f s.logic.begin = (s.ran len cyc g).logic)
    (he : (s.ran len cyc g).logic.regs.evts = [] := by rfl) (hf : (s.ran len cyc g).logic.regs.fault = 0 := by rfl) :
    Does c s (fun u => u = s.ran len cyc g) :=
  does_logic hc hl rfl he hf

/-- An instruction whose operand lies within its area (R330). -/
theorem Logic.with1_inside {l : Logic} {d : Opd} {cyc : Nat} {f : Logic → Logic} (h : d.inside l.regs.wb = true) :
    l.with1 d cyc f = (f l).done 2 (cyc + d.extra) := if_pos h

/-- An instruction with an operand that acts on the registers alone. -/
theorem does_operand {c : Instr} {d : Opd} {cyc : Nat} {f : Logic → Logic} {g : LogicRegs → LogicRegs} {s : State}
    (hd : d.inside s.logic.regs.wb = true) (hc : exec c s = s.became (s.onLogic (fun l => l.with1 d cyc f)))
    (hl : (f s.logic.begin).done 2 (cyc + d.extra) = (s.ran 2 (cyc + d.extra) g).logic)
    (he : (s.ran 2 (cyc + d.extra) g).logic.regs.evts = [] := by rfl)
    (hf : (s.ran 2 (cyc + d.extra) g).logic.regs.fault = 0 := by rfl) :
    Does c s (fun u => u = s.ran 2 (cyc + d.extra) g) :=
  does_ran hc ((Logic.with1_inside (l := s.logic.begin) hd).trans hl) he hf

/-! ## An instruction that stores (R331, R338) -/

/-- The engine with its registers after an instruction of `len` words and `cyc` LOGIC cycles, its areas as they were. -/
def Logic.moved (l : Logic) (len cyc : Nat) : Logic :=
  l.setRegs { l.regs with pc := l.regs.pc + len, cycles := l.regs.cycles + cyc, fault := 0, evts := [] }

theorem Logic.begin_eq_moved (l : Logic) : l.begin = l.moved 0 0 := rfl

theorem State.ranTo_eq_moved (s : State) (len cyc : Nat) (g : Logic → Logic) :
    s.ranTo len cyc g = { s with logic := g (s.logic.moved len cyc) } := rfl

/-- A written word lies in an area, never in the registers. -/
theorem Logic.putWord_setRegs (l : Logic) (r : LogicRegs) (a w : Nat) (v : Word32) :
    (l.setRegs r).putWord a w v = (l.putWord a w v).setRegs r := by
  unfold Logic.putWord
  split <;> rfl

theorem Logic.putWord_moved (l : Logic) (len cyc a w : Nat) (v : Word32) :
    (l.moved len cyc).putWord a w v = (l.putWord a w v).setRegs (l.moved len cyc).regs := l.putWord_setRegs ..

/-- A bit is stored in an area alone. -/
theorem Logic.storeBit_moved (l : Logic) (len cyc : Nat) (d : Opd) (b : Bool) :
    (l.moved len cyc).storeBit d b = (l.storeBit d b).setRegs (l.moved len cyc).regs := by
  by_cases hc : d.area = 6
  · simp only [Logic.storeBit, if_pos hc]
    rfl
  · simp only [Logic.storeBit, if_neg hc]
    exact l.putWord_moved ..

/-- WA is stored in an area alone. -/
theorem Logic.store_moved (l : Logic) (len cyc : Nat) (d : Opd) (v : Word32) :
    (l.moved len cyc).store d v = (l.store d v).setRegs (l.moved len cyc).regs := by
  unfold Logic.store
  split
  · exact l.storeBit_moved ..
  · exact l.putWord_moved ..
  · exact l.putWord_moved ..
  · exact l.putWord_moved ..

/-- An instruction with an operand that stores `g` in an area. -/
theorem does_store {c : Instr} {d : Opd} {cyc : Nat} {f g : Logic → Logic} {s : State} (hd : d.inside s.logic.regs.wb = true)
    (hc : exec c s = s.became (s.onLogic (fun l => l.with1 d cyc f))) (hf : f s.logic.begin = g s.logic.begin)
    (hg : ∀ len n, g (s.logic.moved len n) = (g s.logic).setRegs (s.logic.moved len n).regs) :
    Does c s (fun u => u = s.ranTo 2 (cyc + d.extra) g) := by
  have hdone : (f s.logic.begin).done 2 (cyc + d.extra) = g (s.logic.moved 2 (cyc + d.extra)) := by
    rw [hf, Logic.begin_eq_moved, hg, hg]
    rfl
  have hregs : (g (s.logic.moved 2 (cyc + d.extra))).regs = (s.logic.moved 2 (cyc + d.extra)).regs := by
    rw [hg]
    rfl
  exact does_logic hc ((Logic.with1_inside (l := s.logic.begin) hd).trans hdone) rfl (congrArg LogicRegs.evts hregs)
    (congrArg LogicRegs.fault hregs)

/-! ## Bits -/

/-- A bit that an operand reads does not depend on what the instruction clears at its start. -/
theorem Logic.loadBit_begin (l : Logic) (d : Opd) : l.begin.loadBit d = l.loadBit d := rfl

/-- TSTB, TSTN and the bit instructions that combine: TB := f TB bit. -/
theorem does_tbOp {c : Instr} {d : Opd} {f : Bool → Bool → Bool} {s : State} (hd : d.inside s.logic.regs.wb = true)
    (hc : exec c s = s.became (s.onLogic (fun l => l.tbOp d f))) :
    Does c s (fun u => u = s.ran 2 (1 + d.extra) (fun r => { r with tb := f r.tb (s.logic.loadBit d) })) :=
  does_operand hd hc (by rw [Logic.loadBit_begin]; rfl)

/-- SETB and CLRB where TB is set. -/
theorem does_storeBit_tb {c : Instr} {d : Opd} {b : Bool} {s : State} (hd : d.inside s.logic.regs.wb = true)
    (hc : exec c s = s.became (s.onLogic (fun l => l.with1 d 1 (fun l => if l.regs.tb then l.storeBit d b else l))))
    (ht : s.logic.regs.tb = true) : Does c s (fun u => u = s.ranTo 2 (1 + d.extra) (fun l => l.storeBit d b)) :=
  does_store hd hc (if_pos ht) (fun _ _ => s.logic.storeBit_moved ..)

/-- SETB and CLRB where TB is clear. -/
theorem does_nothing_tb {c : Instr} {d : Opd} {b : Bool} {s : State} (hd : d.inside s.logic.regs.wb = true)
    (hc : exec c s = s.became (s.onLogic (fun l => l.with1 d 1 (fun l => if l.regs.tb then l.storeBit d b else l))))
    (ht : s.logic.regs.tb = false) : Does c s (fun u => u = s.ran 2 (1 + d.extra) id) :=
  does_operand hd hc (by rw [if_neg (ne_true_of_eq_false (show s.logic.begin.regs.tb = false from ht))]; rfl)

/-- STB, whatever TB. -/
theorem does_stb {d : Opd} {s : State} (hd : d.inside s.logic.regs.wb = true) :
    Does (.stb d) s (fun u => u = s.ranTo 2 (1 + d.extra) (fun l => l.storeBit d s.logic.regs.tb)) :=
  does_store hd rfl rfl (fun _ _ => s.logic.storeBit_moved ..)

/-- Settles O20: the instructions with a bit operand within its area, and those without an operand. -/
theorem logicBitInstructions : Obligations.LogicBitInstructions := by
  unfold Obligations.LogicBitInstructions
  refine ⟨fun d s hd => ⟨(does_tbOp (c := .tstb d) hd rfl :), (does_tbOp (c := .tstn d) hd rfl :),
      (does_tbOp (c := .andb d) hd rfl :), (does_tbOp (c := .andn d) hd rfl :), (does_tbOp (c := .orb d) hd rfl :),
      (does_tbOp (c := .orn d) hd rfl :), (does_tbOp (c := .xorb d) hd rfl :), does_stb hd,
      fun ht => ⟨does_storeBit_tb hd rfl ht, does_storeBit_tb hd rfl ht⟩, fun ht => ⟨does_nothing_tb hd rfl ht, does_nothing_tb hd rfl ht⟩⟩,
    fun n s => ⟨does_ran rfl rfl, does_ran rfl rfl, does_ran rfl rfl⟩⟩

/-- With the bit `i` of `w` clear, adding it leaves the bits above as they are. -/
theorem testBit_two_pow_add_of_lt {w i j : Nat} (hw : w.testBit i = false) (hij : i < j) : (2 ^ i + w).testBit j = w.testBit j := by
  obtain ⟨k, rfl⟩ : ∃ k, j = k + 1 + i := ⟨j - i - 1, by omega⟩
  have hsum : (2 ^ i + w) / 2 ^ i = w / 2 ^ i + 1 := Nat.add_div_left _ (Nat.two_pow_pos i)
  have heven : w / 2 ^ i % 2 ≠ 1 := by simpa [Nat.testBit_eq_decide_div_mod_eq] using hw
  have hhalf : (w / 2 ^ i + 1) / 2 = w / 2 ^ i / 2 := by omega
  calc (2 ^ i + w).testBit (k + 1 + i)
      _ = ((2 ^ i + w) / 2 ^ i).testBit (k + 1) := (Nat.testBit_div_two_pow ..).symm
      _ = (w / 2 ^ i).testBit (k + 1) := by rw [hsum, Nat.testBit_succ, Nat.testBit_succ, hhalf]
      _ = w.testBit (k + 1 + i) := Nat.testBit_div_two_pow ..

/-- A bit set or cleared leaves every other bit. -/
theorem bitOf_putBit_ne (v : Nat) {i j : Nat} (b : Bool) (h : j ≠ i) : bitOf (putBit v i b) j = bitOf v j := by
  cases b with
  | true => simp [bitOf, putBit, Nat.testBit_or, Nat.testBit_two_pow_of_ne h.symm]
  | false =>
    cases hv : v.testBit i with
    | false => simp [bitOf, putBit, Nat.and_two_pow, hv]
    | true =>
      have hclear : (v - 2 ^ i).testBit i = false := by
        simpa [bitOf, putBit, Nat.and_two_pow, hv] using bitOf_putBit_false_self v i
      have hsum : 2 ^ i + (v - 2 ^ i) = v := Nat.add_sub_cancel' (Nat.ge_two_pow_of_testBit hv)
      have hrest : (2 ^ i + (v - 2 ^ i)).testBit j = (v - 2 ^ i).testBit j := by
        rcases Nat.lt_or_gt_of_ne h with hlt | hgt
        · exact Nat.testBit_two_pow_add_gt hlt _
        · exact testBit_two_pow_add_of_lt hclear hgt
      rw [hsum] at hrest
      simp [bitOf, putBit, Nat.and_two_pow, hv, hrest]

/-- What a bit stored in the M area leaves: every other word, and every other bit of its own. -/
def Logic.OtherBitsStay (d : Opd) (l l' : Logic) : Prop :=
  (∀ w, w ≠ d.elem l.regs.wb / 32 → Tab.get 0 l'.m w = Tab.get 0 l.m w) ∧
  (∀ b, b < 32 → b ≠ d.elem l.regs.wb % 32 →
    (Tab.get 0 l'.m (d.elem l.regs.wb / 32)).getLsbD b = (Tab.get 0 l.m (d.elem l.regs.wb / 32)).getLsbD b)

theorem Logic.storeBit_m {l : Logic} {d : Opd} (b : Bool) (h : d.area = 3) :
    l.storeBit d b = { l with
      m := Tab.put 0 l.m (d.elem l.regs.wb / 32)
        (BitVec.ofNat 32 (putBit (Tab.get 0 l.m (d.elem l.regs.wb / 32)).toNat (d.elem l.regs.wb % 32) b)) } := by
  simp [Logic.storeBit, h, Logic.putWord, Logic.under]

theorem Logic.storeBit_otherBitsStay {l : Logic} {d : Opd} (b : Bool) (h : d.area = 3) : Logic.OtherBitsStay d l (l.storeBit d b) := by
  rw [Logic.storeBit_m b h]
  refine ⟨fun w hw => Tab.get_put_ne _ _ _ _ _ hw, fun i hi hne => ?_⟩
  have hbit := bitOf_putBit_ne (Tab.get 0 l.m (d.elem l.regs.wb / 32)).toNat b hne
  simp only [bitOf] at hbit
  rw [Tab.get_put_self, BitVec.getLsbD_ofNat, hbit, BitVec.testBit_toNat, decide_eq_true hi, Bool.true_and]

/-- Settles O21: STB stores in any case, SETB and CLRB where TB is set. -/
theorem storedBitAlone : Obligations.StoredBitAlone := by
  unfold Obligations.StoredBitAlone
  intro d s u ha _ hd hu
  have hcases : (∃ b, u = s.ranTo 2 (1 + d.extra) (fun l => l.storeBit d b)) ∨ u = s.ran 2 (1 + d.extra) id := by
    have hsame : ∀ {c : Instr} {v : State}, exec c s = .next u → Does c s (fun u => u = v) → u = v := by
      rintro c v h ⟨w, hw, rfl⟩
      simpa using h.symm.trans hw
    rcases hu with hu | hu | hu
    · exact .inl ⟨_, hsame hu (does_stb hd)⟩
    all_goals
      cases ht : s.logic.regs.tb with
      | true => exact .inl ⟨_, hsame hu (does_storeBit_tb hd rfl ht)⟩
      | false => exact .inr (hsame hu (does_nothing_tb hd rfl ht))
  rcases hcases with ⟨b, rfl⟩ | rfl
  · obtain ⟨hwords, hbits⟩ := (s.logic.moved 2 (1 + d.extra)).storeBit_otherBitsStay (d := d) b ha
    rw [State.ranTo_eq_moved]
    refine ⟨?_, ?_, ?_, ?_, hwords, hbits⟩
    all_goals
      rw [Logic.storeBit_m b ha]
      rfl
  · exact ⟨rfl, rfl, rfl, rfl, fun _ _ => rfl, fun _ _ _ => rfl⟩

end Machine
end Sys2Proof
end

section
/-! SUPPORT. Words, arithmetic and flow of the logic engine (R337, R338), its run-time faults (R328, R339), and the statements about them. -/

namespace Sys2Proof
namespace Machine

/-! ## Words (R337) -/

theorem ofInt_min_toInt (a b : Word32) : BitVec.ofInt 32 (Min.min a.toInt b.toInt) = if a.toInt ≤ b.toInt then a else b := by
  rw [min_def]
  split <;> exact BitVec.ofInt_toInt

theorem ofInt_max_toInt (a b : Word32) : BitVec.ofInt 32 (Max.max a.toInt b.toInt) = if a.toInt ≤ b.toInt then b else a := by
  rw [max_def]
  split <;> exact BitVec.ofInt_toInt

theorem shiftLeft_eq_ofNat (a : Word32) (k : Nat) : a <<< k = BitVec.ofNat 32 (a.toNat * 2 ^ k) :=
  BitVec.eq_of_toNat_eq (by simp [Nat.shiftLeft_eq])

theorem ushiftRight_eq_ofNat (a : Word32) (k : Nat) : a >>> k = BitVec.ofNat 32 (a.toNat / 2 ^ k) := by
  refine BitVec.eq_of_toNat_eq ?_
  have hlt : a.toNat / 2 ^ k < 2 ^ 32 := Nat.lt_of_le_of_lt (Nat.div_le_self ..) a.isLt
  rw [BitVec.toNat_ushiftRight, Nat.shiftRight_eq_div_pow, BitVec.toNat_ofNat, Nat.mod_eq_of_lt hlt]

theorem sshiftRight_eq_ofInt (a : Word32) (k : Nat) : a.sshiftRight k = BitVec.ofInt 32 (a.toInt.fdiv (2 ^ k)) := by
  have hpow : (0 : Int) ≤ 2 ^ k := Int.le_of_lt (Int.pow_pos (by decide))
  rw [BitVec.sshiftRight, Int.shiftRight_eq_div_pow, Int.fdiv_eq_ediv_of_nonneg _ hpow, Int.natCast_pow]
  rfl

/-- What an operand reads does not depend on what the instruction clears at its start. -/
theorem Logic.load_begin (l : Logic) (d : Opd) : l.begin.load d = l.load d := rfl

/-- ANDW, ORW, XORW, MIN and MAX: WA := f WA op. -/
theorem does_waOp {c : Instr} {d : Opd} {f : Word32 → Word32 → Word32} {s : State} (hd : d.inside s.logic.regs.wb = true)
    (hc : exec c s = s.became (s.onLogic (fun l => l.waOp d f))) :
    Does c s (fun u => u = s.ran 2 (1 + d.extra) (fun r => { r with wa := f r.wa (s.logic.load d) })) :=
  does_operand hd hc (by rw [Logic.load_begin]; rfl)

/-- LDI, NOTW and the shifts: WA := f WA. -/
theorem does_putWa {c : Instr} {len : Nat} (f : Word32 → Word32) {s : State}
    (hc : exec c s = s.became (s.onLogic (fun l => (l.putWa (f l.regs.wa)).done len 1))) :
    Does c s (fun u => u = s.ran len 1 (fun r => { r with wa := f r.wa })) :=
  does_ran hc rfl

theorem Logic.opLim_inside {l : Logic} {d e : Opd} (hd : d.inside l.regs.wb = true) (he : e.inside l.regs.wb = true) :
    l.opLim d e = (l.putWa (BitVec.ofInt 32 (min (max l.regs.wa.toInt (l.load d).toInt) (l.load e).toInt))).done 3 (2 + d.extra + e.extra) :=
  if_pos (Bool.and_eq_true_iff.mpr ⟨hd, he⟩)

/-- LIM, both operands within their areas. -/
theorem does_lim {d e : Opd} {s : State} (hd : d.inside s.logic.regs.wb = true) (he : e.inside s.logic.regs.wb = true) :
    Does (.lim d e) s (fun u => u = s.ran 3 (2 + d.extra + e.extra) (fun r =>
      { r with wa := BitVec.ofInt 32 (Min.min (Max.max r.wa.toInt (s.logic.load d).toInt) (s.logic.load e).toInt) })) := by
  have hl := Logic.opLim_inside (l := s.logic.begin) hd he
  rw [Logic.load_begin, Logic.load_begin] at hl
  exact does_ran rfl (hl.trans rfl)

/-- Settles O22: the instructions with operands within their areas, and those without an operand. -/
theorem logicWordInstructions : Obligations.LogicWordInstructions := by
  unfold Obligations.LogicWordInstructions
  refine ⟨fun d s hd => ⟨?ldw, ?ldwb, ?stw, ?andw, ?orw, ?xorw, ?min, ?max, fun e he => ?lim⟩,
    fun i n s => ⟨?ldi1, ?ldi2, ?swap, ?movb, ?notw, ?shl, ?shr, ?sar⟩⟩
  case ldw | ldwb => exact does_operand hd rfl (by rw [Logic.load_begin]; rfl)
  case andw => exact (does_waOp (c := .andw d) hd rfl :)
  case orw => exact (does_waOp (c := .orw d) hd rfl :)
  case xorw => exact (does_waOp (c := .xorw d) hd rfl :)
  case stw => exact does_store hd rfl rfl (fun _ _ => s.logic.store_moved ..)
  case min =>
    simp only [ofInt_min_toInt]
    exact (does_waOp (c := .minOp d) hd rfl :)
  case max =>
    simp only [ofInt_max_toInt]
    exact (does_waOp (c := .maxOp d) hd rfl :)
  case lim => exact does_lim hd he
  case ldi1 | ldi2 => exact does_putWa (fun _ => i) rfl
  case swap | movb => exact does_ran rfl rfl
  case notw => exact does_putWa (~~~ ·) rfl
  case shl =>
    simp only [← shiftLeft_eq_ofNat]
    exact does_putWa (· <<< (n % 32)) rfl
  case shr =>
    simp only [← ushiftRight_eq_ofNat]
    exact does_putWa (· >>> (n % 32)) rfl
  case sar =>
    simp only [← sshiftRight_eq_ofInt]
    exact does_putWa (·.sshiftRight (n % 32)) rfl

/-! ## Arithmetic on I32 (R338) -/

/-- Saturation acts on the values outside I32, and on no other (R338). -/
theorem sat32_ne_iff (v : Int) : sat32 v ≠ v ↔ v < -2147483648 ∨ 2147483647 < v := by
  have h : sat32 v = if v < -2147483648 then -2147483648 else if 2147483647 < v then 2147483647 else v := rfl
  rw [h]
  split
  · omega
  · split <;> omega

theorem LogicRegs.putSat_eq (r : LogicRegs) (v : Int) : r.putSat v =
    { r with wa := BitVec.ofInt 32 (sat32 v), sat := r.sat || decide (v < -2147483648 ∨ 2147483647 < v) } := by
  rw [← decide_eq_decide.mpr (sat32_ne_iff v)]
  rfl

theorem LogicRegs.divide_ne_zero (r : LogicRegs) {b : Int} (h : b ≠ 0) : r.divide b = r.putSat (r.wa.toInt.tdiv b) := if_neg h

theorem LogicRegs.modulo_ne_zero (r : LogicRegs) {b : Int} (h : b ≠ 0) :
    r.modulo b = { r with wa := BitVec.ofInt 32 (r.wa.toInt.tmod b) } := if_neg h

/-- A quotient of two I32 leaves their range in one case alone: −2³¹ / −1. -/
theorem tdiv_outside_iff {a b : Int} (hlo : -2147483648 ≤ a) (hhi : a ≤ 2147483647) (hb : b ≠ 0) :
    (a.tdiv b < -2147483648 ∨ 2147483647 < a.tdiv b) ↔ (a = -2147483648 ∧ b = -1) := by
  by_cases h1 : b = 1
  · rw [h1, Int.tdiv_one]
    omega
  by_cases h2 : b = -1
  · rw [h2, Int.tdiv_neg, Int.tdiv_one]
    omega
  have hq : (a.tdiv b).natAbs = a.natAbs / b.natAbs := Int.natAbs_tdiv ..
  have hhalf : a.natAbs / b.natAbs ≤ a.natAbs / 2 := Nat.div_le_div_left (by omega) (by decide)
  omega

/-- A word read as I32 lies between −2³¹ and 2³¹ − 1. -/
theorem toInt_range (a : Word32) : -2147483648 ≤ a.toInt ∧ a.toInt ≤ 2147483647 := by
  have hlo := BitVec.le_toInt a
  have hhi := BitVec.toInt_lt (x := a)
  omega

theorem rndUp_fifteen (v : Int) : rndUp v 15 = (v + 16384).fdiv 32768 := rfl

/-- WA and SAT after a result `v`. -/
def LogicRegs.saturated (v : Int) (r : LogicRegs) : LogicRegs :=
  { r with wa := BitVec.ofInt 32 (sat32 v), sat := r.sat || decide (v < -2147483648 ∨ 2147483647 < v) }

/-- ADD, SUB, MUL and MULQ. -/
theorem does_satOp {c : Instr} {d : Opd} {cyc : Nat} {f : Int → Int → Int} {v : Int} {s : State} (hd : d.inside s.logic.regs.wb = true)
    (hc : exec c s = s.became (s.onLogic (fun l => l.satOp d cyc f)))
    (hv : f s.logic.regs.wa.toInt (s.logic.load d).toInt = v) :
    Does c s (fun u => u = s.ran 2 (cyc + d.extra) (LogicRegs.saturated v)) := by
  subst hv
  exact does_operand hd hc (by rw [LogicRegs.putSat_eq]; rfl)

/-- DIV and MOD. -/
theorem does_division {c : Instr} {d : Opd} {op : LogicRegs → Int → LogicRegs} {g : LogicRegs → LogicRegs} {s : State}
    (hd : d.inside s.logic.regs.wb = true)
    (hc : exec c s = s.became (s.onLogic (fun l => l.with1 d 12 (fun l => l.setRegs (op l.regs (l.load d).toInt)))))
    (hg : op s.logic.begin.regs (s.logic.load d).toInt = g s.logic.begin.regs)
    (hm : (Logic.setRegs s.logic (g s.logic.begin.regs)).done 2 (12 + d.extra) = (s.ran 2 (12 + d.extra) g).logic)
    (he : (s.ran 2 (12 + d.extra) g).logic.regs.evts = [] := by rfl)
    (hf : (s.ran 2 (12 + d.extra) g).logic.regs.fault = 0 := by rfl) :
    Does c s (fun u => u = s.ran 2 (12 + d.extra) g) :=
  does_operand hd hc ((congrArg (fun r => (Logic.setRegs s.logic r).done 2 (12 + d.extra)) hg).trans hm) he hf

/-- Settles O23: each result as the exact one saturated. -/
theorem logicArithmetic : Obligations.LogicArithmetic := by
  unfold Obligations.LogicArithmetic
  rintro d s _ _ rfl rfl
  obtain ⟨hlo, hhi⟩ := toInt_range s.logic.regs.wa
  refine ⟨fun hd => ⟨does_satOp hd rfl rfl, does_satOp hd rfl rfl, does_satOp hd rfl rfl, does_satOp hd rfl (rndUp_fifteen _),
    fun hb => ⟨?div, ?mod⟩, fun hb => ⟨?div0, ?mod0⟩⟩, ?abs, ?neg⟩
  case div =>
    rw [← decide_eq_decide.mpr (tdiv_outside_iff hlo hhi hb)]
    exact does_division hd rfl ((LogicRegs.divide_ne_zero _ hb).trans (LogicRegs.putSat_eq ..)) rfl
  case mod =>
    rw [← Int.tmod_def]
    exact does_division hd rfl (LogicRegs.modulo_ne_zero _ hb) rfl
  case div0 => exact does_division hd rfl (if_pos hb) rfl
  case mod0 => exact does_division hd rfl (if_pos hb) rfl
  case abs =>
    have habs : (if 0 ≤ s.logic.regs.wa.toInt then s.logic.regs.wa.toInt else -s.logic.regs.wa.toInt) = (s.logic.regs.wa.toInt.natAbs : Int) := by
      split <;> omega
    have hsat : (s.logic.regs.wa.toInt = -2147483648) ↔
        ((s.logic.regs.wa.toInt.natAbs : Int) < -2147483648 ∨ 2147483647 < (s.logic.regs.wa.toInt.natAbs : Int)) := by omega
    rw [habs, decide_eq_decide.mpr hsat]
    exact does_ran rfl (by rw [Logic.opAbs, LogicRegs.putSat_eq]; rfl)
  case neg =>
    have hsat : (s.logic.regs.wa.toInt = -2147483648) ↔
        (-s.logic.regs.wa.toInt < -2147483648 ∨ 2147483647 < -s.logic.regs.wa.toInt) := by omega
    rw [decide_eq_decide.mpr hsat]
    exact does_ran rfl (by rw [Logic.opNeg, LogicRegs.putSat_eq]; rfl)

/-! ## Compares, jumps, calls, loops (R337) -/

/-- The relation of a CMP condition of R337 on two numbers, `FIELD[2:0]` from 0 to 5. -/
def cmpRel (cond : Nat) (x y : Int) : Bool :=
  match cond with
  | 0 => decide (x = y)
  | 1 => decide (x ≠ y)
  | 2 => decide (x < y)
  | 3 => decide (x ≤ y)
  | 4 => decide (y < x)
  | _ => decide (y ≤ x)

theorem compareWords_eq {n k : Nat} {x y : Int} {a b : Word32} (hk : n % 8 = k) (h5 : k ≤ 5)
    (hx : (if bitOf n 3 then (a.toNat : Int) else a.toInt) = x) (hy : (if bitOf n 3 then (b.toNat : Int) else b.toInt) = y) :
    compareWords n a b = cmpRel k x y := by
  simp only [compareWords, hx, hy, hk]
  match k, h5 with
  | 0, _ | 1, _ | 2, _ | 3, _ | 4, _ | 5, _ => rfl

theorem compareWords_signed {n k : Nat} (a b : Word32) (h : bitOf n 3 = false) (hk : n % 8 = k) (h5 : k ≤ 5) :
    compareWords n a b = cmpRel k a.toInt b.toInt :=
  compareWords_eq hk h5 (by simp [h]) (by simp [h])

theorem compareWords_unsigned {n k : Nat} (a b : Word32) (h : bitOf n 3 = true) (hk : n % 8 = k) (h5 : k ≤ 5) :
    compareWords n a b = cmpRel k a.toNat b.toNat :=
  compareWords_eq hk h5 (by simp [h]) (by simp [h])

theorem Logic.opRet_cons {l : Logic} {a : Nat} {r : List Nat} (h : l.regs.stack = a :: r) :
    l.opRet = Logic.goto { l with regs := { l.regs with stack := r } } a 2 := by
  simp only [Logic.opRet, h]

theorem Logic.opRet_nil {l : Logic} (h : l.regs.stack = []) : l.opRet = l.fail 3 := by
  simp only [Logic.opRet, h]

theorem sub_one_ne_zero_iff (v : Word32) : v - 1 ≠ 0 ↔ v ≠ 1 := by
  rw [ne_eq, ne_eq, sub_eq_zero]

/-- LOOP that goes on: WB counts down to another value than 0. -/
theorem Logic.opLoop_taken {l : Logic} {n : Nat} (h : l.regs.wb ≠ 1) :
    l.opLoop n = Logic.goto { l with regs := { l.regs with wb := l.regs.wb - 1 } } n 2 :=
  if_pos ((sub_one_ne_zero_iff _).mpr h)

/-- LOOP that ends: WB counts down to 0. -/
theorem Logic.opLoop_ended {l : Logic} {n : Nat} (h : l.regs.wb = 1) :
    l.opLoop n = Logic.done { l with regs := { l.regs with wb := 0 } } 1 1 := by
  have hz : l.regs.wb - 1 = 0 := by rw [h]; rfl
  simp only [Logic.opLoop, hz]
  exact if_neg (fun hne => hne rfl)

/-- Settles O24: CMP by its relation; jumps taken and not; CALL, RET, LOOP and END. -/
theorem logicFlow : Obligations.LogicFlow := by
  unfold Obligations.LogicFlow
  refine ⟨fun n d s hd => ?cmp, fun n s => ⟨does_ran rfl rfl, fun ht => ⟨?jmpt, ?jmpfNot⟩, fun ht => ⟨?jmpf, ?jmptNot⟩, fun hs => ?call,
    fun a rest hs => ?ret, fun hb => ?loop, fun hb => ?loopEnd, does_ran rfl rfl⟩⟩
  case cmp =>
    obtain ⟨u, hu, rfl⟩ := does_operand (c := .cmp n d) (g := fun r => { r with tb := compareWords n s.logic.regs.wa (s.logic.load d) })
      hd rfl rfl
    refine ⟨_, hu, _, rfl, ?_, ?_, fun h hk => compareWords_signed _ _ h hk (by decide), fun h hk => compareWords_signed _ _ h hk (by decide),
      fun h hk => compareWords_signed _ _ h hk (by decide), fun h hk => compareWords_signed _ _ h hk (by decide), ?_, ?_, ?_, ?_⟩
    · intro h hk
      rw [compareWords_signed _ _ h hk (by decide)]
      simp only [cmpRel, BitVec.toInt_inj]
    · intro h hk
      rw [compareWords_signed _ _ h hk (by decide)]
      simp only [cmpRel, ne_eq, BitVec.toInt_inj]
    all_goals
      intro h hk
      rw [compareWords_unsigned _ _ h hk (by decide)]
      simp only [cmpRel, Int.ofNat_lt, Int.ofNat_le]
  case jmpt => exact does_ran rfl (if_pos (c := s.logic.begin.regs.tb = true) ht)
  case jmpfNot => exact does_ran rfl ((if_pos (c := s.logic.begin.regs.tb = true) ht).trans rfl)
  case jmpf => exact does_ran rfl (if_neg (c := s.logic.begin.regs.tb = true) (ne_true_of_eq_false ht))
  case jmptNot => exact does_ran rfl ((if_neg (c := s.logic.begin.regs.tb = true) (ne_true_of_eq_false ht)).trans rfl)
  case call => exact does_ran rfl (if_neg (c := 16 ≤ s.logic.begin.regs.stack.length) (Nat.not_le.mpr hs))
  case ret => exact does_ran rfl (Logic.opRet_cons (l := s.logic.begin) hs)
  case loop => exact does_ran rfl (Logic.opLoop_taken (l := s.logic.begin) hb)
  case loopEnd => exact does_ran rfl ((Logic.opLoop_ended (l := s.logic.begin) hb).trans rfl)

/-! ## Run-time faults (R328, R339) -/

/-- The engine as it enters HALT with a fault, before what the entry commits. -/
def Logic.halted (l : Logic) (code : Nat) : Logic :=
  { l with prog := .halt, faultCode := code, faultAddr := l.regs.pc, faultCycle := l.cycleNo, stopReq := false }

/-- A program without `STOP_CLEAR` commits nothing as it stops or halts (R328). -/
theorem State.stopCommit_held {s : State} (h : (s.logic.loaded.map (·.stopClear)).getD false = false) : s.stopCommit = s := by
  unfold State.stopCommit
  split
  · next p hp =>
    rw [hp] at h
    exact if_neg (ne_true_of_eq_false h)
  · rfl

/-- So its entry to HALT leaves the fault recorded, and the areas and the committed Q image as they were. -/
theorem State.halt_held {s : State} (code : Nat) (h : (s.logic.loaded.map (·.stopClear)).getD false = false) :
    s.halt code = { s with logic := s.logic.halted code } :=
  State.stopCommit_held (s := { s with logic := s.logic.halted code }) h

theorem State.runFault_logic {s : State} (h : (s.logic.loaded.map (·.stopClear)).getD false = false) :
    s.runFault.logic = (s.logic.setRegs { s.logic.regs with fault := 0 }).halted s.logic.regs.fault := by
  simp only [State.runFault, State.halt_held _ h, State.modLogic_eq, State.post_logic]
  rfl

/-- An instruction that faults while the program runs halts it, and the rest of the engine stays (R339). -/
theorem State.onLogic_fault {s : State} {f : Logic → Logic} {code : Nat} (hf : f s.logic.begin = s.logic.begin.fail code) (h0 : code ≠ 0)
    (hr : s.logic.prog = .run) (h : (s.logic.loaded.map (·.stopClear)).getD false = false) :
    (s.onLogic f).logic = s.logic.begin.halted code := by
  have hp : (s.modLogic (fun l => f l.begin)).postLogicEvents = { s with logic := s.logic.begin.fail code } := by
    simp only [State.modLogic_eq, hf]
    exact State.postLogicEvents_none rfl
  have hrun : s.onLogic f = State.runFault { s with logic := s.logic.begin.fail code } := by
    unfold State.onLogic
    rw [hp]
    exact (if_neg h0).trans (if_pos hr)
  rw [hrun]
  exact State.runFault_logic (s := { s with logic := s.logic.begin.fail code }) h

/-- An instruction whose operand lies outside its area, alone or as one of the two of LIM, faults with code 1 (R339). -/
theorem outside_faults {c : Instr} {d e : Opd} {n : Nat} {s : State} (hd : d.inside s.logic.regs.wb = false)
    (hc : c ∈ [.tstb d, .tstn d, .andb d, .andn d, .orb d, .orn d, .xorb d, .setb d, .clrb d, .stb d] ∨
      c ∈ [.ldw d, .ldwb d, .stw d, .minOp d, .maxOp d, .andw d, .orw d, .xorw d, .lim d e, .lim e d] ∨
      c ∈ [.add d, .subOp d, .mul d, .div d, .modOp d, .mulq d, .cmp n d]) :
    ∃ f, exec c s = s.became (s.onLogic f) ∧ f s.logic.begin = s.logic.begin.fail 1 := by
  have hout : ¬ d.inside s.logic.begin.regs.wb = true := ne_true_of_eq_false hd
  simp only [List.mem_cons, List.not_mem_nil, or_false] at hc
  rcases hc with hc | hc | hc
  · obtain rfl | rfl | rfl | rfl | rfl | rfl | rfl | rfl | rfl | rfl := hc
    all_goals exact ⟨_, rfl, if_neg hout⟩
  · obtain rfl | rfl | rfl | rfl | rfl | rfl | rfl | rfl | rfl | rfl := hc
    iterate 8 exact ⟨_, rfl, if_neg hout⟩
    · exact ⟨_, rfl, if_neg (fun h => hout (Bool.and_eq_true_iff.mp h).1)⟩
    · exact ⟨_, rfl, if_neg (fun h => hout (Bool.and_eq_true_iff.mp h).2)⟩
  · obtain rfl | rfl | rfl | rfl | rfl | rfl | rfl := hc
    all_goals exact ⟨_, rfl, if_neg hout⟩

/-- Settles O25: each fault at its instruction, and what the halt leaves of the engine. -/
theorem logicFaults : Obligations.LogicFaults := by
  unfold Obligations.LogicFaults
  intro c code d e n p s hr hp hs h
  have hheld : (s.logic.loaded.map (·.stopClear)).getD false = false := by rw [hp]; exact hs
  have hfault : code ≠ 0 ∧ ∃ f, exec c s = s.became (s.onLogic f) ∧ f s.logic.begin = s.logic.begin.fail code := by
    rcases h with ⟨rfl, hd, hc⟩ | ⟨rfl, hl, rfl⟩ | ⟨rfl, hl, rfl⟩ | ⟨rfl, hb, rfl⟩
    · exact ⟨by decide, outside_faults hd hc⟩
    · exact ⟨by decide, _, rfl, if_pos (c := 16 ≤ s.logic.begin.regs.stack.length) hl⟩
    · exact ⟨by decide, _, rfl, Logic.opRet_nil (l := s.logic.begin) hl⟩
    · exact ⟨by decide, _, rfl, if_pos (c := 256 < s.logic.begin.regs.wb.toNat) hb⟩
  obtain ⟨h0, f, hc, hf⟩ := hfault
  have hu := State.onLogic_fault hf h0 hr hheld
  refine ⟨_, hc, ?_⟩
  simp only [hu]
  exact ⟨rfl, rfl, rfl, rfl, rfl, rfl, rfl, rfl, rfl, rfl, rfl⟩

end Machine
end Sys2Proof
end

section
/-! SUPPORT. Timers, counters, detectors, block moves and events of the logic engine (R337, R340–R343), and the statement about them. -/

namespace Sys2Proof
namespace Machine

/-! ## Timers (R340, R341) -/

/-- A timer after an execution with the input `inp` (R340). -/
def Timer.after (tm : Timer) (x : TimerDecl) (inp : Bool) (snap preset : Nat) : Timer :=
  let u := timerStep x.type tm inp snap (timerElapsed tm.phase tm.start snap (timerRes x.res)) preset
  { u with prev := inp, elapsed := timerElapsed u.phase u.start snap (timerRes x.res) }

/-- Timer `n` after the execution that the engine is about to make. -/
def Logic.timerAfter (l : Logic) (n : Nat) (x : TimerDecl) : Timer :=
  (Tab.get {} l.t n).after x l.regs.tb l.snap ((l.word 4 x.preset).toInt).toNat

theorem Logic.timer_undeclared {l : Logic} {n : Nat} {p : Program} (hp : l.loaded = some p) (hx : Tab.find p.timers n = none) :
    l.timer n = (l.putTb false).done 1 2 := by
  simp only [Logic.timer, hp, Option.bind_some, hx]

theorem Logic.timer_declared {l : Logic} {n : Nat} {p : Program} {x : TimerDecl} (hp : l.loaded = some p)
    (hx : Tab.find p.timers n = some x) (ht : x.type ≠ 0) :
    l.timer n = (Logic.putTb { l with t := Tab.put {} l.t n (l.timerAfter n x) } (l.timerAfter n x).out).done 1 2 := by
  simp only [Logic.timer, hp, Option.bind_some, hx, if_neg ht]
  rfl

section
variable {tm : Timer} {inp : Bool} {snap elapsed k : Nat}

/-! Type 1, on-delay. -/

theorem timerStep_onDelay_start (hp : tm.phase = 0) (hk : 0 < k) :
    timerStep 1 tm true snap elapsed k = { tm with phase := 1, start := snap, out := false } := by
  simp [timerStep, hp, hk.ne']

theorem timerStep_onDelay_done (hp : tm.phase = 1) (hd : k ≤ elapsed) :
    timerStep 1 tm true snap elapsed k = { tm with phase := 2, out := true } := by
  simp [timerStep, hp, hd]

theorem timerStep_onDelay_reset (hp : tm.phase ≠ 0) : timerStep 1 tm false snap elapsed k = { tm with phase := 0, out := false } := by
  unfold timerStep
  split <;> simp_all

/-! Type 2, off-delay. -/

theorem timerStep_offDelay_set : timerStep 2 tm true snap elapsed k = { tm with phase := 0, out := true } := by
  unfold timerStep
  split <;> simp_all

theorem timerStep_offDelay_start (hp : tm.phase = 0) (hf : tm.prev = true) (hk : 0 < k) :
    timerStep 2 tm false snap elapsed k = { tm with phase := 1, start := snap, out := true } := by
  simp [timerStep, hp, hf, hk.ne']

theorem timerStep_offDelay_done (hp : tm.phase = 1) (hd : k ≤ elapsed) :
    timerStep 2 tm false snap elapsed k = { tm with phase := 2, out := false } := by
  simp [timerStep, hp, hd]

/-! Type 3, pulse. -/

theorem timerStep_pulse_start (hp : tm.phase = 0) (hf : tm.prev = false) (hk : 0 < k) :
    timerStep 3 tm true snap elapsed k = { tm with phase := 1, start := snap, out := true } := by
  simp [timerStep, hp, hf, hk.ne']

theorem timerStep_pulse_done (hp : tm.phase = 1) (hd : k ≤ elapsed) :
    timerStep 3 tm inp snap elapsed k = { tm with phase := 2, out := false } := by
  simp [timerStep, hp, hd]

/-- A running timer of type 1 or 3 whose preset has not elapsed runs on under its input. -/
theorem timerStep_running {type : Nat} (ht : type = 1 ∨ type = 3) (hp : tm.phase = 1) (hd : elapsed < k) :
    timerStep type tm true snap elapsed k = tm := by
  rcases ht with rfl | rfl <;> simp [timerStep, hp, hd]

end

theorem timerElapsed_running (start snap res : Nat) : timerElapsed 1 start snap res = min ((snap - start) / res) 4294967295 := rfl

/-- TMR of a declared timer: its new state, and TB as its output. -/
theorem does_tmr {n : Nat} {p : Program} {x : TimerDecl} {s : State} (hp : s.logic.loaded = some p) (hx : Tab.find p.timers n = some x)
    (ht : x.type ≠ 0) : Does (.tmr n) s (fun u => u = s.ranTo 1 2 (fun l =>
      Logic.putTb { l with t := Tab.put {} l.t n (s.logic.timerAfter n x) } (s.logic.timerAfter n x).out)) :=
  does_logic rfl (Logic.timer_declared (l := s.logic.begin) hp hx ht) rfl

/-! ## Counters and detectors (R342, R343) -/

/-- A counter after a `CTU` or `CTD` with the input `tb` (R342). -/
def Counter.counted (c : Counter) (tb : Bool) (step : Int) : Counter :=
  { count := sat32 (if tb && !c.input && !c.fresh then c.count + step else c.count), input := tb, fresh := false }

theorem Counter.counted_rising {c : Counter} (step : Int) (hi : c.input = false) (hf : c.fresh = false) :
    (c.counted true step).count = sat32 (c.count + step) := by
  simp [Counter.counted, hi, hf]

theorem Counter.counted_fresh {c : Counter} (tb : Bool) (step : Int) (hf : c.fresh = true) :
    (c.counted tb step).count = sat32 c.count := by
  simp [Counter.counted, hf]

/-- CTU and CTD: the input is stored in any case, the count moves at a rising TB after the first execution, and nothing else changes. -/
theorem does_count {c : Instr} {n : Nat} {step : Int} {s : State} (hc : exec c s = s.became (s.onLogic (fun l => l.count n step))) :
    Does c s (fun u => (Tab.get {} u.logic.c n).input = s.logic.regs.tb ∧ (Tab.get {} u.logic.c n).fresh = false ∧
      (s.logic.regs.tb = true → (Tab.get {} s.logic.c n).input = false → (Tab.get {} s.logic.c n).fresh = false →
        (Tab.get {} u.logic.c n).count = sat32 ((Tab.get {} s.logic.c n).count + step)) ∧
      ((Tab.get {} s.logic.c n).fresh = true → (Tab.get {} u.logic.c n).count = sat32 (Tab.get {} s.logic.c n).count) ∧
      u.logic.regs.tb = s.logic.regs.tb ∧ u = { s with logic := { s.logic with c := u.logic.c, regs := u.logic.regs } }) := by
  refine does_logic hc rfl ?_
  have hcount : Tab.get {} (s.logic.begin.count n step).c n = (Tab.get {} s.logic.c n).counted s.logic.regs.tb step :=
    Tab.get_put_self ..
  rw [hcount]
  refine ⟨rfl, rfl, fun ht hi hf => ?_, Counter.counted_fresh _ _, rfl, rfl⟩
  rw [ht, Counter.counted_rising step hi hf]

/-- EDR and EDF: TB becomes the edge after the first execution, the memory takes the input, and nothing else changes. -/
theorem does_edge {c : Instr} {n : Nat} {rising : Bool} {s : State} (hc : exec c s = s.became (s.onLogic (fun l => l.edge n rising))) :
    Does c s (fun u => Tab.get {} u.logic.e n = { mem := s.logic.regs.tb, fresh := false } ∧
      u.logic.regs.tb = (if (Tab.get {} s.logic.e n).fresh then false
        else if rising then s.logic.regs.tb && !(Tab.get {} s.logic.e n).mem else (Tab.get {} s.logic.e n).mem && !s.logic.regs.tb) ∧
      u = { s with logic := { s.logic with e := u.logic.e, regs := u.logic.regs } }) :=
  does_logic hc rfl ⟨Tab.get_put_self .., rfl, rfl⟩

/-! ## Block moves (R337) -/

/-- What a program reads outside the M area does not depend on M. -/
theorem Logic.word_m (l : Logic) (m : Tab Word32) {a : Nat} (w : Nat) (h : a ≠ 3) : Logic.word { l with m := m } a w = l.word a w := by
  have hu : Logic.under { l with m := m } a w = l.under a w := by
    unfold Logic.under
    split
    case h_3 => exact absurd rfl h
    all_goals rfl
  simp only [Logic.word, hu]

/-- A block move into M from another area: the words copied, and the words left. -/
theorem Logic.copyWords_spec (n : Nat) (l : Logic) {a i j : Nat} (ha : a ≠ 3) (hi : i + n ≤ areaSize a) (hj : j + n ≤ areaSize 3) :
    ∃ m, l.copyWords a 3 i j n = { l with m := m } ∧ (∀ k, k < n → Tab.get 0 m (j + k) = l.word a (i + k)) ∧
      ∀ w, (w < j ∨ j + n ≤ w) → Tab.get 0 m w = Tab.get 0 l.m w := by
  induction n generalizing l i j with
  | zero => exact ⟨l.m, rfl, fun k hk => absurd hk (Nat.not_lt_zero k), fun _ _ => rfl⟩
  | succ n ih =>
    obtain ⟨m, hm, hcopied, hrest⟩ := ih { l with m := Tab.put 0 l.m j (l.word a i) } (i := i + 1) (j := j + 1) (by omega) (by omega)
    have hin : ¬ (areaSize a ≤ i ∨ areaSize 3 ≤ j) := by omega
    refine ⟨m, (if_neg hin).trans hm, fun k hk => ?_, fun w hw => ?_⟩
    · cases k with
      | zero => rw [Nat.add_zero, Nat.add_zero, hrest j (.inl (Nat.lt_succ_self j)), Tab.get_put_self]
      | succ k =>
        have hk' := hcopied k (by omega)
        rwa [Logic.word_m _ _ _ ha, Nat.add_right_comm, Nat.add_assoc, Nat.add_right_comm, Nat.add_assoc] at hk'
    · rw [hrest w (by omega), Tab.get_put_ne _ _ _ _ _ (by omega)]

/-! ## Events (R338) -/

/-- The registers after an EVT that posts (R338). -/
def LogicRegs.evtPosted (r : LogicRegs) : LogicRegs := { r with evtCount := r.evtCount + 1 }

theorem State.postLogicEvents_one {s : State} {e : Nat × Word32} (h : s.logic.regs.evts = [e]) :
    s.postLogicEvents = State.post { s with logic := { s.logic with regs := { s.logic.regs with evts := [] } } } .logic (0x8000 + e.1) 0
      [.u32 e.2.toNat] := by
  simp only [State.postLogicEvents, State.modLogic_eq, h, List.foldl_cons, List.foldl_nil]

/-- An EVT with TB set, the sixteenth or an earlier one of its cycle, posts its event (R338). -/
theorem State.onLogic_event {s : State} {n : Nat} (ht : s.logic.regs.tb = true) (hn : s.logic.regs.evtCount < 16) :
    s.onLogic (fun l => l.event n) = (s.ran 1 4 LogicRegs.evtPosted).post .logic (0x8000 + n) 0 [.u32 s.logic.regs.wa.toNat] := by
  have hl : s.logic.begin.event n = (s.ran 1 4 (fun r => { r.evtPosted with evts := [(n, r.wa)] })).logic :=
    (if_pos (c := s.logic.begin.regs.tb = true) ht).trans (if_pos (c := s.logic.begin.regs.evtCount < 16) hn)
  have hp : (s.modLogic (fun l => Logic.event l.begin n)).postLogicEvents =
      (s.ran 1 4 LogicRegs.evtPosted).post .logic (0x8000 + n) 0 [.u32 s.logic.regs.wa.toNat] := by
    rw [State.modLogic_eq, hl]
    exact State.postLogicEvents_one (e := (n, s.logic.regs.wa)) rfl
  unfold State.onLogic
  rw [hp]
  exact if_pos (congrArg (fun l : Logic => l.regs.fault) (State.post_logic ..))

/-- An EVT that posts where LOGIC owes no gap event and its queue has room: one event more in the queue (R338). -/
theorem does_evt {n k : Nat} {s : State} (hk : k < 9) (hi : islandOf k = .logic) (ht : s.logic.regs.tb = true)
    (hn : s.logic.regs.evtCount < 16) (hl : s.lostOf .logic = 0) (hr : s.hasRoom (.island k) = true) :
    Does (.evt n) s (fun u => (u.queue (.island k)).wp = ((s.queue (.island k)).wp + 1) % 65536 ∧
      u.logic.regs.evtCount = s.logic.regs.evtCount + 1 ∧ u.logic.regs.tb = true ∧ u.logic.regs.wa = s.logic.regs.wa) := by
  obtain rfl : Island.logic.num = k := hi ▸ islandOf_num k hk
  have hu := State.onLogic_event (n := n) ht hn
  have hpush := State.postE_room (s.ran 1 4 LogicRegs.evtPosted) .logic (0x8000 + n) 0 [.u32 s.logic.regs.wa.toNat] .plain hl hr
  refine does_became rfl ((congrArg State.pending hu).trans (State.post_pending ..))
    ((congrArg (fun u => u.clk.raw) hu).trans (congrArg Clk.raw (State.post_clk ..))) ?_
  change (State.queue (s.onLogic (fun l => l.event n)) _).wp = _ ∧ (s.onLogic (fun l => l.event n)).logic.regs.evtCount = _ ∧
    (s.onLogic (fun l => l.event n)).logic.regs.tb = _ ∧ (s.onLogic (fun l => l.event n)).logic.regs.wa = _
  rw [hu, State.post_logic]
  refine ⟨?_, rfl, ht, rfl⟩
  rw [State.post, hpush]
  exact State.pushEv_wp _ _ _ _ _ _ hr

/-- Settles O26: timers by type and phase, counters, detectors, block moves, events posted, dropped and not due. -/
theorem logicUnits : Obligations.LogicUnits := by
  unfold Obligations.LogicUnits
  refine ⟨fun n p s hp hx => does_ran rfl ((Logic.timer_undeclared (l := s.logic.begin) hp hx).trans rfl),
    ?timers, ?counters, ?detectors, ?blocks, ?events⟩
  case timers =>
    rintro n p x _ _ _ s hp hx rfl rfl rfl htype hphase
    have ht0 : x.type ≠ 0 := by omega
    obtain ⟨u, hu, rfl⟩ := does_tmr hp hx ht0
    refine ⟨_, hu, rfl, rfl, rfl, ?_⟩
    have hself : Tab.get {} (s.ranTo 1 2 (fun l =>
      Logic.putTb { l with t := Tab.put {} l.t n (s.logic.timerAfter n x) } (s.logic.timerAfter n x).out)).logic.t n =
      s.logic.timerAfter n x := Tab.get_put_self ..
    rw [hself]
    refine ⟨rfl, rfl, fun j hj => Tab.get_put_ne _ _ _ _ _ hj, ?_⟩
    have hrun : (Tab.get {} s.logic.t n).phase = 1 →
        min ((s.logic.snap - (Tab.get {} s.logic.t n).start) / timerRes x.res) 4294967295 =
          timerElapsed (Tab.get {} s.logic.t n).phase (Tab.get {} s.logic.t n).start s.logic.snap (timerRes x.res) :=
      fun hp => by rw [hp, timerElapsed_running]
    rw [Logic.timerAfter, Timer.after]
    refine ⟨fun hx h0 ht hk => ?_, fun hx h1 ht hd => ?_, fun hx hn ht => ?_, fun hx ht => ?_, fun hx h0 ht hf hk => ?_,
      fun hx h1 ht hd => ?_, fun hx h0 ht hf hk => ?_, fun hx h1 hd => ?_, fun h1 ht hx hd => ?_⟩
    · rw [hx, ht, timerStep_onDelay_start h0 hk]
      exact ⟨rfl, rfl, rfl⟩
    · rw [hx, ht, timerStep_onDelay_done h1 (hrun h1 ▸ hd)]
      exact ⟨rfl, rfl⟩
    · rw [hx, ht, timerStep_onDelay_reset hn]
      exact ⟨rfl, rfl⟩
    · rw [hx, ht, timerStep_offDelay_set]
      exact ⟨rfl, rfl⟩
    · rw [hx, ht, timerStep_offDelay_start h0 hf hk]
      exact ⟨rfl, rfl, rfl⟩
    · rw [hx, ht, timerStep_offDelay_done h1 (hrun h1 ▸ hd)]
      exact ⟨rfl, rfl⟩
    · rw [hx, ht, timerStep_pulse_start h0 hf hk]
      exact ⟨rfl, rfl, rfl⟩
    · rw [hx, timerStep_pulse_done h1 (hrun h1 ▸ hd)]
      exact ⟨rfl, rfl⟩
    · have h13 : x.type = 1 ∨ x.type = 3 := by omega
      rw [ht, timerStep_running h13 h1 (hrun h1 ▸ hd)]
      exact ⟨h1, rfl⟩
  case counters =>
    rintro n _ s rfl
    refine ⟨does_count rfl, does_count rfl, fun ht => ?_, fun ht => ?_⟩
    · exact does_logic rfl (if_pos (c := s.logic.begin.regs.tb = true) ht) rfl
    · exact does_ran rfl ((if_neg (c := s.logic.begin.regs.tb = true) (ne_true_of_eq_false ht)).trans rfl)
  case detectors =>
    rintro n _ s rfl
    refine ⟨?_, ?_⟩
    · obtain ⟨u, hu, he, ht, hframe⟩ := does_edge (c := .edr n) (s := s) rfl
      refine ⟨u, hu, by rw [he], ?_, hframe⟩
      rw [ht]
      cases (Tab.get {} s.logic.e n).fresh <;> rfl
    · obtain ⟨u, hu, he, ht, hframe⟩ := does_edge (c := .edf n) (s := s) rfl
      refine ⟨u, hu, by rw [he], ?_, hframe⟩
      rw [ht]
      cases (Tab.get {} s.logic.e n).fresh <;> rfl
  case blocks =>
    rintro d e _ _ _ s rfl hn he hd rfl rfl hi hj
    obtain ⟨m, hm, hcopied, hrest⟩ := s.logic.begin.copyWords_spec s.logic.regs.wb.toNat hd hi hj
    have hl : s.logic.begin.opBmov d e = Logic.done { s.logic.begin with m := m } 3 (2 + s.logic.regs.wb.toNat + d.extra + e.extra) := by
      refine (if_neg (Nat.not_lt.mpr hn)).trans ?_
      rw [he]
      exact congrArg (fun l => Logic.done l 3 _) hm
    exact does_logic rfl hl ⟨hcopied, hrest, rfl, rfl⟩
  case events =>
    intro n k s hk hi
    refine ⟨fun ht hn hl hr => does_evt hk hi ht hn hl hr, fun ht hn => ?_, fun ht => ?_⟩
    · exact does_ran rfl ((if_pos (c := s.logic.begin.regs.tb = true) ht).trans
        ((if_neg (c := s.logic.begin.regs.evtCount < 16) (Nat.not_lt.mpr hn)).trans rfl))
    · exact does_ran rfl ((if_neg (c := s.logic.begin.regs.tb = true) (ne_true_of_eq_false ht)).trans rfl)

end Machine
end Sys2Proof
end

section
/-! SUPPORT. The retained record while a program cycle executes (R351, R355), and a state in which the record clause of the statement about
the program's commands fails. -/

namespace Sys2Proof
namespace Machine

/-- RETAINED_RECORD_WRITE of a running program whose record is due writes what the record is to hold (R351). -/
theorem does_retainedRecordWrite {t : Nat} {s : State} (hl : s.live .logic t) (hr : s.logic.prog = .run)
    (hd : (s.advance t).retainNeeded = true) : Does (.retainedRecordWrite t) s (fun u =>
      u.keep.retained = s.keep.retained.write (s.advance t).retainedGap) :=
  does_onIsland_eq rfl hl (if_pos ⟨hr, hd⟩) rfl rfl rfl

/-- While a program cycle executes, the record holds the state of its gap (R355). -/
theorem State.retainedGap_busy {s : State} {r : Retained} (hg : s.logic.gap = some r) (hr : s.logic.prog = .run)
    (hb : s.now < s.logic.busyUntil) : s.retainedGap = r := by
  simp only [State.retainedGap, hg, hr, hb, and_self, if_true]

/-- A device in RUN in the execution of its program cycle 8, which ends at 1000 ns; the gap before it left the cycle number 7, and the
retained record is due. -/
def midCycle : State :=
  { State.reset with
    dev := { state := .run }
    logic := { prog := .run, cycleNo := 8, gap := some { prog := 2, cycle := 7 }, busyUntil := 1000, retainDue := true } }

/-- There the record that is written holds the gap's cycle number. -/
theorem midCycle_writes : Does (.retainedRecordWrite 0) midCycle (fun u =>
    u.keep.retained = midCycle.keep.retained.write { prog := 2, cycle := 7 }) :=
  State.retainedGap_busy (s := midCycle.advance 0) rfl rfl (by decide) ▸ does_retainedRecordWrite (by decide) rfl (by decide)

/-- Refutes O27: its record clause has every retained record hold the registers of its own moment. While a program cycle executes the record
holds those of the gap before (R351, R355), as the one that `midCycle` writes. -/
theorem not_programCommands : ¬ Obligations.ProgramCommands := by
  unfold Obligations.ProgramCommands
  rintro ⟨-, -, hrecord, -⟩
  obtain ⟨u, hu, -, hnow, -⟩ := hrecord 0 midCycle (by decide) rfl (by decide)
  obtain ⟨v, hv, hgap⟩ := midCycle_writes
  obtain rfl : u = v := by simpa using hu.symm.trans hv
  have hread := congrArg (fun k => k.read.map Retained.cycle) (hnow.symm.trans hgap)
  exact absurd hread (by decide)

end Machine
end Sys2Proof
end

section
/-! SUPPORT. A stop of a program on a lane that does not drive (R328), and a state in which the stop clause of the statement about the
writes of the logic engine fails; the state after reset (R328, R384, R389, R536). -/

namespace Sys2Proof
namespace Machine

/-! ## STOP (R328, R453) -/

theorem State.ownerWrite_stop {s : State} (n : Nat) (hr : s.logic.prog = .run) :
    s.ownerWrite n 0x5000 2 [1] = .done (s.stopCmd.modLogic (fun l => { l with lastCmd := 1 })) :=
  if_pos hr

/-- Where the lane does not drive, a stop ends the program at once. -/
theorem State.stopCmd_idle {s : State} (ha : s.acts = false) (h : (s.logic.loaded.map (·.stopClear)).getD false = false) :
    s.stopCmd = { s with logic := { s.logic with prog := .stop, stopReq := false } } :=
  (if_pos (.inr (ne_true_of_eq_false ha))).trans
    (State.stopCommit_held (s := { s with logic := { s.logic with prog := .stop, stopReq := false } }) h)

theorem State.ownerWrite_stop_idle {s : State} (n : Nat) (hr : s.logic.prog = .run) (ha : s.acts = false)
    (h : (s.logic.loaded.map (·.stopClear)).getD false = false) :
    s.ownerWrite n 0x5000 2 [1] = .done { s with logic := { s.logic with prog := .stop, stopReq := false, lastCmd := 1 } } := by
  rw [State.ownerWrite_stop n hr, State.stopCmd_idle ha h]
  rfl

/-- STOP on a lane that does not drive at that moment, of a program without `STOP_CLEAR`. -/
theorem does_stop_idle {t : Nat} {a : Acc} {s : State} (hw : s.mayWrite t a 0x5000 2 [1]) (hr : s.logic.prog = .run)
    (ha : (s.advance t).acts = false) (h : (s.logic.loaded.map (·.stopClear)).getD false = false) :
    Does (.stopProgram t a) s (fun u => u.logic.prog = .stop) :=
  does_ownerWrite (f := fun v => { v with logic := { v.logic with prog := .stop, stopReq := false, lastCmd := 1 } }) rfl hw
    (fun _ _ => State.ownerWrite_stop_idle _ hr ha h) (fun _ => rfl) (fun _ => rfl) (fun _ _ => rfl)

/-- The holder of a duplex lane in RUN, its program running, its lease valid up to 10 ns of raw time. -/
def lapsingLease : State :=
  { State.reset with
    dev := { state := .run }
    power := { State.reset.power with straps := { hostRole := true, hTrust := true }, started := true, trained := true, bisted := true }
    lease := { State.reset.lease with cfg := 1, state := 2, own := true, timer := 10 }
    logic := { prog := .run } }

/-- There the host may stop the program at 20 ns. -/
theorem lapsingLease_mayWrite : lapsingLease.mayWrite 20 hostAccess 0x5000 2 [1] :=
  ⟨by decide, by decide, by decide, _, rfl, by decide, by decide, by decide, by decide, by decide⟩

/-- Refutes O50: its first clause asks whether the lane drives before the command's own time passes. A lane whose lease runs out on the way
to that moment does not drive then, and the program stops at once (R328, R453), as that of `lapsingLease` does. -/
theorem not_logicWrites : ¬ Obligations.LogicWrites := by
  unfold Obligations.LogicWrites
  rintro ⟨hstop, -⟩
  obtain ⟨u, hu, hrun⟩ := hstop 20 hostAccess lapsingLease lapsingLease_mayWrite rfl (by decide) (by decide)
  obtain ⟨v, hv, hprog⟩ := does_stop_idle lapsingLease_mayWrite rfl (by decide) rfl
  obtain rfl : u = v := by simpa using hu.symm.trans hv
  have hstill : u.logic.prog = .run := by rw [hrun]; rfl
  exact absurd (hstill.symm.trans hprog) (by decide)

/-! ## The state after reset -/

/-- Settles O56: nothing waits, and all else has its reset value. -/
theorem resetIsSafe : Obligations.ResetIsSafe := by
  unfold Obligations.ResetIsSafe
  have hqueue : State.reset.safe 0 := ⟨Nat.zero_le _, fun c hc => absurd hc List.not_mem_nil⟩
  exact ⟨hqueue, rfl, rfl, rfl, rfl, rfl, fun _ => rfl, fun _ => rfl, fun _ => rfl, fun _ => rfl⟩

end Machine
end Sys2Proof
end

section
/-! SUPPORT. The buses beside the events (R27, R402): what an event that is posted, a cause that is set and an element that is retired leave
of the CAN ports, of the messages sent and of the queues that hold no events. -/

namespace Sys2Proof
namespace Machine

/-- The waiting commands, the clock, the dictionary, the power registers, the CAN ports, the port of the spare controller, the messages sent
and every queue but those of the islands' events are in `u` as in `s`. -/
structure KeepsBuses (s u : State) : Prop where
  pending : u.pending = s.pending
  clk : u.clk = s.clk
  dict : u.dict = s.dict
  power : u.power = s.power
  port : ∀ p, u.port p = s.port p
  sparePort : u.net.sparePort = s.net.sparePort
  sent : u.net.sent = s.net.sent
  queue : ∀ q : QId, 9 ≤ q.num → u.queue q = s.queue q

namespace KeepsBuses

theorem refl (s : State) : KeepsBuses s s := ⟨rfl, rfl, rfl, rfl, fun _ => rfl, rfl, rfl, fun _ _ => rfl⟩

theorem trans {s u w : State} (h : KeepsBuses s u) (k : KeepsBuses u w) : KeepsBuses s w where
  pending := k.pending.trans h.pending
  clk := k.clk.trans h.clk
  dict := k.dict.trans h.dict
  power := k.power.trans h.power
  port p := (k.port p).trans (h.port p)
  sparePort := k.sparePort.trans h.sparePort
  sent := k.sent.trans h.sent
  queue q hq := (k.queue q hq).trans (h.queue q hq)

theorem ite {s u v : State} {p : Prop} [Decidable p] (hu : KeepsBuses s u) (hv : KeepsBuses s v) :
    KeepsBuses s (if p then u else v) := by
  split
  · exact hu
  · exact hv

theorem foldl {α : Type} {f : State → α → State} (h : ∀ s x, KeepsBuses s (f s x)) (l : List α) (s : State) :
    KeepsBuses s (l.foldl f s) :=
  foldl_of_step refl trans h l s

/-- What leaves the network part and the other parts named leaves the buses. -/
theorem of_net {s u : State} (hp : u.pending = s.pending) (hc : u.clk = s.clk) (hd : u.dict = s.dict) (hw : u.power = s.power)
    (hn : u.net = s.net) : KeepsBuses s u :=
  ⟨hp, hc, hd, hw, fun p => congrArg (fun n : Net => Tab.get ({} : CanPort) n.ports p) hn, congrArg Net.sparePort hn, congrArg Net.sent hn,
    fun q _ => congrArg (fun n : Net => Tab.get ({} : Queue) n.qs q.num) hn⟩

/-- A queue that holds no events has room as before. -/
theorem hasRoom {s u : State} (h : KeepsBuses s u) {q : QId} (hq : 9 ≤ q.num) : u.hasRoom q = s.hasRoom q := by
  simp only [State.hasRoom, h.queue q hq, State.ps, h.clk, State.cap, h.power]

/-- The filters of a port pass what they passed before. -/
theorem filterPair {s u : State} (h : KeepsBuses s u) (p k : Nat) : u.filterPair p k = s.filterPair p k := by
  simp only [State.filterPair, State.oct, State.val, h.dict]

theorem filterOf {s u : State} (h : KeepsBuses s u) (p : Nat) (f : CanFrame) : u.filterOf p f = s.filterOf p f := by
  simp only [State.filterOf, h.filterPair]

end KeepsBuses

/-! ## Events -/

theorem island_num_lt (i : Island) : i.num < 9 := by
  cases i <;> decide

theorem State.setLost_keepsBuses (s : State) (i : Island) (n : Nat) : KeepsBuses s (s.setLost i n) := .of_net rfl rfl rfl rfl rfl

theorem State.readLocal_keepsBuses (s : State) (i : Island) : KeepsBuses s (s.readLocal i) :=
  ⟨rfl, rfl, rfl, rfl, fun _ => rfl, rfl, rfl, fun _ _ => rfl⟩

/-- A push to a queue of events leaves the other queues as they are. -/
theorem State.pushQ_keepsBuses (s : State) {q : QId} (x : QItem) (h : q.num < 9) : KeepsBuses s (s.pushQ q x) :=
  ⟨rfl, rfl, rfl, rfl, fun _ => rfl, rfl, rfl, fun _ hr => Tab.get_put_ne _ _ _ _ _ fun he => Nat.not_le.mpr h (hr.trans_eq he)⟩

theorem State.pushEv_keepsBuses (s : State) (i : Island) (c u : Nat) (a : List EvArg) (e : EvEdge) : KeepsBuses s (s.pushEv i c u a e) :=
  (s.readLocal_keepsBuses i).trans (State.pushQ_keepsBuses _ (q := .island i.num) _ (island_num_lt i))

theorem State.gapEv_keepsBuses (s : State) (i : Island) : KeepsBuses s (s.gapEv i) :=
  .ite ((s.pushEv_keepsBuses ..).trans (State.setLost_keepsBuses ..)) (.refl s)

theorem State.postE_keepsBuses (s : State) (i : Island) (c u : Nat) (a : List EvArg) (e : EvEdge) : KeepsBuses s (s.postE i c u a e) :=
  (s.gapEv_keepsBuses i).trans (.ite (State.pushEv_keepsBuses ..) (.of_net rfl rfl rfl rfl rfl))

theorem State.post_keepsBuses (s : State) (i : Island) (c u : Nat) (a : List EvArg) : KeepsBuses s (s.post i c u a) :=
  s.postE_keepsBuses i c u a .plain

/-! ## Causes and elements -/

theorem State.dev_keepsBuses (s : State) (d : Dev) : KeepsBuses s { s with dev := d } := .of_net rfl rfl rfl rfl rfl

theorem State.modHealth_keepsBuses (s : State) (f : Health → Health) : KeepsBuses s (s.modHealth f) := .of_net rfl rfl rfl rfl rfl

theorem State.enter_keepsBuses (s : State) (d : DevState) : KeepsBuses s (s.enter d) :=
  .ite (.refl s) ((s.dev_keepsBuses _).trans (State.post_keepsBuses ..))

theorem State.setCause_keepsBuses (s : State) (b : Nat) (o : Bool) : KeepsBuses s (s.setCause b o) :=
  .ite (.refl s) ((s.dev_keepsBuses _).trans
    (.ite (State.enter_keepsBuses ..) (.ite (State.enter_keepsBuses ..) (State.post_keepsBuses ..))))

theorem State.freeCover_keepsBuses (s : State) (p u : Nat) : KeepsBuses s (s.freeCover p u) := by
  unfold State.freeCover
  split
  · exact .ite (s.modHealth_keepsBuses _) (.refl s)
  · exact .refl s

theorem State.refuseQueued_keepsBuses (s : State) (p : Nat) : KeepsBuses s (s.refuseQueued p) :=
  .ite (.refl s) ((s.modHealth_keepsBuses _).trans
    (.foldl (fun s _ => (s.modHealth_keepsBuses _).trans (State.post_keepsBuses ..)) _ _))

/-- The retirement of an element leaves the buses as they are (R494). -/
theorem State.retireElem_keepsBuses (s : State) (p e why : Nat) : KeepsBuses s (s.retireElem p e why) := by
  unfold State.retireElem
  extract_lets u l v st w x
  split
  · exact .refl s
  · have hv : KeepsBuses s v := .ite (s.freeCover_keepsBuses p u) (.refl s)
    have hx : KeepsBuses s x := (hv.trans (v.modHealth_keepsBuses _)).trans (w.modHealth_keepsBuses _)
    exact (hx.trans (x.setCause_keepsBuses 0 true)).trans (State.refuseQueued_keepsBuses ..)

end Machine
end Sys2Proof
end

section
/-! SUPPORT. The CAN ports (R360–R365, R372–R375): what each operation makes of a port and its buffers, and the statement about their
commands. -/

namespace Sys2Proof
namespace Machine

theorem State.setPort_port_self (s : State) (p : Nat) (v : CanPort) : (s.setPort p v).port p = v := by
  rw [State.setPort_port, if_pos rfl]

/-- Of two values written to a port the second stays. -/
theorem State.setPort_setPort_keepsBuses (s : State) (p : Nat) (v w : CanPort) :
    KeepsBuses (s.setPort p w) ((s.setPort p v).setPort p w) := by
  refine ⟨rfl, rfl, rfl, rfl, fun q => ?_, rfl, rfl, fun _ _ => rfl⟩
  simp only [State.setPort_port]
  split <;> rfl

/-! ## Commands of a port -/

theorem OnlyNet.pending {s u : State} (h : OnlyNet s u) : u.pending = s.pending := by rw [h]
theorem OnlyNet.clk {s u : State} (h : OnlyNet s u) : u.clk = s.clk := by rw [h]

/-- A command of a port that completes with the state its effect is known to make. -/
theorem does_port_eq {c : Instr} {t p : Nat} {s u : State} {f : State → State} {P : State → Prop} (he : exec c s = onPort t p s f)
    (hp : p < 8) (hl : s.live .comm t) (hu : f (s.advance t) = u) (hq : u.pending = s.pending)
    (hr : u.clk.raw = (s.advance t).clk.raw) (h : P u) : Does c s P := by
  subst hu
  exact does_onUnit he (decide_eq_true hp) hl hq hr h

/-- A command of a port whose effect lies in the network part alone. -/
theorem does_port_net {c : Instr} {t p : Nat} {s : State} {f : State → State} {P : State → Prop} (he : exec c s = onPort t p s f)
    (hp : p < 8) (hl : s.live .comm t) (hn : OnlyNet (s.advance t) (f (s.advance t))) (h : P (f (s.advance t))) : Does c s P :=
  does_port_eq he hp hl rfl hn.pending (congrArg Clk.raw hn.clk) h

/-- A command whose effect is to replace a port. -/
theorem does_setPort {c : Instr} {t p : Nat} {s : State} {f : State → State} {v : CanPort} {P : State → Prop}
    (he : exec c s = onPort t p s f) (hp : p < 8) (hl : s.live .comm t) (hf : f (s.advance t) = (s.advance t).setPort p v)
    (h : ∀ u, u = { s.advance t with net := u.net } → u.port p = v → P u) : Does c s P := by
  have hn : OnlyNet (s.advance t) ((s.advance t).setPort p v) := OnlyNet.of ..
  refine does_port_net he hp hl (hf.symm ▸ hn) ?_
  rw [hf]
  exact h _ hn (by rw [State.setPort_port, if_pos rfl])

/-- A command that replaces a port in a state `w`, which differs in the network part alone, and then leaves the buses as they are. -/
theorem does_port_written {c : Instr} {t p : Nat} {s w : State} {f : State → State} {v : CanPort} {P : State → Prop}
    (he : exec c s = onPort t p s f) (hp : p < 8) (hl : s.live .comm t) (hw : OnlyNet (s.advance t) w)
    (hk : KeepsBuses (w.setPort p v) (f (s.advance t))) (h : ∀ u, KeepsBuses (w.setPort p v) u → u.port p = v → P u) : Does c s P :=
  have hv : OnlyNet (s.advance t) (w.setPort p v) := hw.trans (OnlyNet.of ..)
  does_port_eq he hp hl rfl (hk.pending.trans hv.pending) (congrArg Clk.raw (hk.clk.trans hv.clk))
    (h _ hk ((hk.port p).trans (w.setPort_port_self p v)))

/-! ## States of a port (R360, R361, R373) -/

section
variable {s : State} {p : Nat}

theorem State.portIntegrated_quiet (hs : (s.port p).state = .integrating) (ht : (s.port p).takeover = none) :
    s.portIntegrated p = s.setPort p { s.port p with state := s.roleState p, restrictSince := s.now } := by
  have hn : ¬((s.port p).state ≠ .integrating ∨ (s.port p).takeover.isSome ∧ (s.port p).controller ≠ 8) := by simp [hs, ht]
  refine (if_neg hn).trans ?_
  simp only [ht]

theorem State.restrictTimeout_over (hs : (s.port p).state = .restricted) (hl : s.leaseHolder = true)
    (ht : (s.port p).restrictSince + s.nat (0x1200 + p) 6 * 1000000 ≤ s.now) :
    s.restrictTimeout p = s.setPort p { s.port p with state := .normal, rejoined := true } :=
  if_pos ⟨hs, hl, ht⟩

theorem State.portMode_released (hs : (s.port p).state = .normal) (hd : s.drives = false) :
    s.portMode p = s.setPort p { s.port p with state := s.listenState p } := by
  simp [State.portMode, hs, hd]

/-- The port as it is once its recovery from BUS_OFF has ended. -/
def CanPort.recovered (v : CanPort) : CanPort :=
  { v with state := .integrating, tecErr := 0, recErr := 0, err := 0, recovering := false, busoffWait := false }

theorem State.canRecovered_ended (hs : (s.port p).state = .busOff) (hr : (s.port p).recovering = true) :
    KeepsBuses (s.setPort p (s.port p).recovered) (s.canRecovered p) := by
  rw [State.canRecovered, if_pos ⟨hs, hr⟩]
  exact State.post_keepsBuses ..

/-! ## The spare controller (R375) -/

/-- The port as the spare controller takes it over, none of its frames on the bus. -/
def CanPort.spared (v : CanPort) : CanPort :=
  { v with controller := 8, busoffWait := false, recovering := false, state := .integrating }

theorem State.takeoverDone_quiet (ht : (s.port p).takeover.isSome = true) (hc : (s.port p).controller ≠ 8) (hs : (s.port p).state ≠ .off)
    (hl : (s.port p).latched = none) (he : (s.port p).err = 0) :
    s.takeoverDone p = (s.setPort p (s.port p).spared).setPort p { (s.port p).spared with tecErr := 0, recErr := 0, err := 0 } := by
  have hn : ¬((s.port p).takeover.isNone ∨ (s.port p).controller = 8) := by
    cases h : (s.port p).takeover <;> simp_all
  have hz : (s.port p).spared.err = 0 := he
  simp only [State.takeoverDone, if_neg hn, hl, if_neg hs, State.zeroErr, State.setPort_port_self]
  exact if_pos hz

theorem State.controllerFault_spared {c : Nat} (h8 : c ≠ 8) (hc : (s.port c).controller ≠ 8) (hf : s.spareFree = true) :
    s.controllerFault c = (s.startTakeover c).retireElem 3 c 0 := by
  rw [State.controllerFault, if_neg h8, if_neg hc, if_pos hf]

theorem State.startTakeover_port (s : State) (c : Nat) :
    (s.startTakeover c).port c = { s.port c with takeover := some s.clk.dev, takeoverGap := true } :=
  s.setPort_port_self ..

end

/-! ## Transmit buffers (R362–R365) -/

theorem CanPort.setBuf_buf (v : CanPort) (b j : Nat) (x : TxBuf) : (v.setBuf b x).buf j = if j = b then x else v.buf j :=
  Tab.get_put ..

theorem CanPort.setBuf_buf_self (v : CanPort) (b : Nat) (x : TxBuf) : (v.setBuf b x).buf b = x := by
  rw [CanPort.setBuf_buf, if_pos rfl]

section
variable {v : CanPort} {b : Nat}

/-- A producer that holds nothing back leaves a free buffer free. -/
theorem CanPort.refill_nothing (h : v.held = []) : v.refill b = v := by
  rw [CanPort.refill, h]
  rfl

/-- A buffer after a transmission that ended as `outcome`. -/
def TxBuf.freed (x : TxBuf) (outcome : Nat) : TxBuf :=
  { x with state := 0, frame := none, chan := none, cancel := false, outcome := outcome }

theorem CanPort.finish_done (h : v.held = []) : v.finish b 1 = v.setBuf b ((v.buf b).freed 1) :=
  CanPort.refill_nothing (v := v.setBuf b ((v.buf b).freed 1)) h

/-- The port with the frame of buffer `b` pending again. -/
def CanPort.repend (v : CanPort) (b : Nat) : CanPort := v.setBuf b { v.buf b with state := 1 }

theorem CanPort.repend_buf (v : CanPort) (b : Nat) : (v.repend b).buf b = { v.buf b with state := 1 } := v.setBuf_buf_self ..

/-- A frame that leaves the bus uncompleted, with no cancel waiting, is pending again. -/
theorem CanPort.unlatch_live (h : (v.buf b).cancel = false) : v.unlatch b = v.repend b := by
  simp [CanPort.unlatch, CanPort.repend, h]

theorem CanPort.errorEnd_live (hl : v.latched = some b) (hs : v.state ≠ .heartbeatOnly) (hc : (v.buf b).cancel = false) :
    v.errorEnd = v.repend b := by
  rw [CanPort.errorEnd, hl]
  exact (if_neg hs).trans (CanPort.unlatch_live hc)

end

/-! ### Arbitration (R363) -/

/-- Of two buffers the one whose key is not above the other's is the other, or has the lower key: a key ends in its buffer's number. -/
theorem arbKey_lt_of_le {f g : CanFrame} {b j : Nat} (hb : b < 32) (hj : j < 32) (hne : j ≠ b) (h : arbKey f b ≤ arbKey g j) :
    arbKey f b < arbKey g j := by
  simp only [arbKey] at h ⊢
  omega

/-- The fold that looks for the least key finds the entry that lies below all others. -/
theorem foldl_least {l : List (Nat × Nat)} {e m : Nat × Nat} (hm : m ∈ e :: l) (hl : ∀ x ∈ e :: l, x = m ∨ m.1 < x.1) :
    l.foldl (fun a x => if x.1 < a.1 then x else a) e = m := by
  induction l generalizing e with
  | nil => exact (List.mem_singleton.mp hm).symm
  | cons y r ih =>
    have he := hl e List.mem_cons_self
    have hy := hl y (List.mem_cons_of_mem _ List.mem_cons_self)
    refine ih ?_ fun x hx => ?_
    · rcases List.mem_cons.mp hm with rfl | hm
      · rcases hy with rfl | hy
        · simp
        · simp [Nat.not_lt.mpr hy.le]
      · rcases List.mem_cons.mp hm with rfl | hm
        · rcases he with rfl | he
          · simp
          · simp [he]
        · exact List.mem_cons_of_mem _ hm
    · rcases List.mem_cons.mp hx with rfl | hx
      · dsimp only
        split
        · exact hy
        · exact he
      · exact hl x (List.mem_cons_of_mem _ (List.mem_cons_of_mem _ hx))

/-- A buffer takes part in the arbitration of a latch point: pending, with a frame that the port may send. -/
def CanPort.Contends (v : CanPort) (fdOn : Bool) (b : Nat) (f : CanFrame) : Prop :=
  (v.buf b).state = 1 ∧ (v.buf b).frame = some f ∧ v.maySend fdOn f = true

/-- A latch point latches the buffer whose frame would win arbitration. -/
theorem CanPort.latch_winner {v : CanPort} {fdOn : Bool} {b : Nat} {f : CanFrame} (hl : v.latched = none) (hb : b < 32)
    (hc : v.Contends fdOn b f) (hw : ∀ j g, j < 32 → v.Contends fdOn j g → arbKey f b ≤ arbKey g j) :
    v.latch fdOn = v.setBuf b { v.buf b with state := 2 } := by
  obtain ⟨hs, hf, hm⟩ := hc
  simp only [CanPort.latch, hl, Option.isSome_none, Bool.false_eq_true, if_false]
  generalize hcand : (List.range 32).filterMap _ = cand
  have hin : (arbKey f b, b) ∈ cand := by
    rw [← hcand, List.mem_filterMap]
    exact ⟨b, List.mem_range.mpr hb, by simp [hs, hf, hm]⟩
  have hleast : ∀ x ∈ cand, x = (arbKey f b, b) ∨ arbKey f b < x.1 := by
    intro x hx
    rw [← hcand, List.mem_filterMap] at hx
    obtain ⟨j, hj, hx⟩ := hx
    rw [List.mem_range] at hj
    split at hx
    · next g hsj hfj =>
      split at hx
      · next hmj =>
        obtain rfl := Option.some.inj hx
        by_cases hjb : j = b
        · subst hjb
          obtain rfl := Option.some.inj (hf.symm.trans hfj)
          exact .inl rfl
        · exact .inr (arbKey_lt_of_le hb hj hjb (hw j g hj ⟨hsj, hfj, hmj⟩))
      · cases hx
    · cases hx
  match cand, hin, hleast with
  | e :: r, hin, hleast => simp only [foldl_least hin hleast]

/-! ### The end of a frame on the bus (R363–R365, R372) -/

/-- The error state of a port follows its counters; nothing else of the port changes (R372). -/
theorem State.errState_spec (s : State) (p : Nat) (v : CanPort) :
    ∃ e, KeepsBuses (s.setPort p { v with err := e }) ((s.setPort p v).errState p) := by
  simp only [State.errState, State.setPort_port_self]
  split
  · exact ⟨v.err, .refl _⟩
  · exact ⟨v.confine, (s.setPort_setPort_keepsBuses p v _).trans (State.post_keepsBuses ..)⟩

/-- The port once the frame of buffer `b` is complete. -/
def CanPort.sentFrom (v : CanPort) (b : Nat) : CanPort :=
  { v.setBuf b ((v.buf b).freed 1) with txCount := v.txCount + 1, tecErr := v.tecErr - 1 }

/-- A complete frame leaves, and its buffer is free, where no cancel waits and its producer holds nothing back. -/
theorem State.txDone_sent {s : State} {p b : Nat} {f : CanFrame} (hl : (s.port p).latched = some b)
    (hc : ((s.port p).buf b).cancel = false) (hf : ((s.port p).buf b).frame = some f) (hh : (s.port p).held = []) :
    ∃ e, KeepsBuses ((s.emit (.can p f (f.fd && decide ((s.port p).err = 1)))).setPort p { (s.port p).sentFrom b with err := e })
      ((s.txDone p).errState p) := by
  have hx : s.txDone p = (s.emit (.can p f (f.fd && decide ((s.port p).err = 1)))).setPort p ((s.port p).sentFrom b) := by
    simp only [State.txDone, hl, hc, hf, CanPort.finish_done hh]
    rfl
  rw [hx]
  exact State.errState_spec ..

/-- The port after an error of a frame it sent, the error state apart (R361, R372). -/
def CanPort.erred (v : CanPort) (b now : Nat) : CanPort :=
  { v.repend b with errFrames := v.errFrames + 1, tecErr := v.tecErr + 8, restrictSince := now }

theorem State.busOffCheck_below {s : State} {p : Nat} (h : (s.port p).tecErr ≤ 255) : s.busOffCheck p = s :=
  if_neg fun hb => absurd hb.2 (Nat.not_lt.mpr h)

/-- An error of a frame that the port sends, its counter below the limit of BUS_OFF: the frame is pending again. -/
theorem State.frameError_sent {s : State} {p b : Nat} (hs : (s.port p).state = .normal) (hl : (s.port p).latched = some b)
    (hc : ((s.port p).buf b).cancel = false) (ht : (s.port p).tecErr ≤ 247) :
    ∃ e, KeepsBuses (s.setPort p { (s.port p).erred b s.now with err := e }) (s.frameError p (.asTx none)) := by
  have hn : ¬((s.port p).state = .off ∨ (s.port p).state = .busOff) := by simp [hs]
  have hx : s.frameError p (.asTx none) = ((s.setPort p ((s.port p).erred b s.now)).errState p).busOffCheck p :=
    (if_neg hn).trans (congrArg (fun v => ((s.setPort p v).errState p).busOffCheck p)
      (CanPort.errorEnd_live (v := { s.port p with errFrames := (s.port p).errFrames + 1, tecErr := (s.port p).tecErr + 8,
                                                   restrictSince := s.now }) hl (by simp [hs]) hc))
  obtain ⟨e, hk⟩ := s.errState_spec p ((s.port p).erred b s.now)
  have ht' : (((s.setPort p ((s.port p).erred b s.now)).errState p).port p).tecErr ≤ 255 := by
    rw [hk.port, State.setPort_port_self]
    exact Nat.add_le_add_right ht 8
  exact ⟨e, by rwa [hx, State.busOffCheck_below ht']⟩

/-- Settles O28: the states of a port, the latch point, the ends of a frame, the failing controller, the takeover. -/
theorem canPortCommands : Obligations.CanPortCommands := by
  unfold Obligations.CanPortCommands
  refine ⟨fun t p s hp hl => ⟨fun hs ht => ?_, fun hs ho ht => ?_, fun hs hd => ?_, fun hs hr => ?_, ?_⟩,
    fun t p b f s hp hb hl hn hs hf hm hw => ?_, fun t p b f s hp hl hb hc hf hh => ⟨?_, ?_, fun hs he => ?_⟩,
    fun t c s hc hl h8 hf => ?_, fun t p s hp hl ht h8 hs hn he => ?_⟩
  · exact does_setPort rfl hp hl (State.portIntegrated_quiet hs ht) fun u hu hv => ⟨hu, hv⟩
  · exact does_setPort rfl hp hl (State.restrictTimeout_over hs ho ht) fun u hu hv => ⟨hu, hv⟩
  · exact does_setPort rfl hp hl (State.portMode_released hs hd) fun u hu hv => ⟨hu, hv⟩
  · exact does_port_written (f := fun s => s.canRecovered p) rfl hp hl (OnlyNet.rfl' _) (State.canRecovered_ended hs hr)
      fun u _ hv => by rw [hv]; exact ⟨rfl, rfl, rfl, rfl, rfl⟩
  · exact does_setPort rfl hp hl rfl fun u hu hv => ⟨hu, by rw [hv]; rfl, by rw [hv]; rfl⟩
  · have hx := CanPort.latch_winner hn hb ⟨hs, hf, hm⟩ fun j g hj ⟨hgs, hgf, hgm⟩ => hw j g hj hgs hgf hgm
    refine does_setPort rfl hp hl (congrArg ((s.advance t).setPort p) hx) fun u hu hv => ⟨hu, ?_, fun j hj => ?_⟩
    · rw [hv, CanPort.setBuf_buf_self]
    · rw [hv, CanPort.setBuf_buf, if_neg hj]
  · have hadv : (s.advance t).port p = s.port p := rfl
    refine does_setPort (v := { (s.port p).repend b with arbLost := (s.port p).arbLost + 1 }) rfl hp hl
      (by simp only [State.modPort, hadv, hb, CanPort.unlatch_live hc]) fun u hu hv => ⟨hu, ?_⟩
    have hbuf : (u.port p).buf b = { (s.port p).buf b with state := 1 } := by
      rw [hv]
      exact (s.port p).repend_buf b
    exact ⟨by rw [hbuf], by rw [hbuf, ← hf], by rw [hv]⟩
  · obtain ⟨e, hk⟩ := State.txDone_sent (s := s.advance t) hb hc hf hh
    refine does_port_written (f := fun s => (s.txDone p).errState p) rfl hp hl (State.emit_net ..) hk fun u hk hv => ?_
    have hbuf : (u.port p).buf b = ((s.port p).buf b).freed 1 := by
      rw [hv]
      exact (s.port p).setBuf_buf_self b (((s.port p).buf b).freed 1)
    exact ⟨by rw [hbuf]; rfl, by rw [hbuf]; rfl, by rw [hv]; rfl, hk.sent⟩
  · obtain ⟨e, hk⟩ := State.frameError_sent (s := s.advance t) hs hb hc he
    refine does_port_written (f := fun s => s.frameError p (.asTx none)) rfl hp hl (OnlyNet.rfl' _) hk fun u _ hv => ?_
    have hbuf : (u.port p).buf b = { (s.port p).buf b with state := 1 } := by
      rw [hv]
      exact (s.port p).repend_buf b
    exact ⟨by rw [hbuf], by rw [hbuf, ← hf], by rw [hv]; rfl, by rw [hv]; rfl, by rw [hv]; exact hs, by rw [hv]; rfl⟩
  · have hx := State.controllerFault_spared (s := s.advance t) hc.ne h8 hf
    have hk := ((s.advance t).startTakeover c).retireElem_keepsBuses 3 c 0
    rw [← hx] at hk
    have hv := (hk.port c).trans ((s.advance t).startTakeover_port c)
    refine does_onUnit (f := fun s => s.controllerFault c) rfl (decide_eq_true (Nat.lt_succ_of_lt hc)) hl hk.pending
      (congrArg Clk.raw hk.clk) ⟨hk.sparePort, ?_⟩
    rw [hv]
    exact ⟨rfl, rfl, rfl⟩
  · have hx := State.takeoverDone_quiet (s := s.advance t) ht h8 hs hn he
    refine does_port_net (f := fun s => s.takeoverDone p) rfl hp hl (by rw [hx]; exact OnlyNet.of ..) ?_
    rw [hx]
    exact ⟨rfl, State.setPort_port_self ..⟩

end Machine
end Sys2Proof
end

section
/-! SUPPORT. Reception (R369–R371, R376, R377): what a good frame leaves of its port and queue, what COMM makes of the head of a queue, what
a MAC makes of a frame, and the statement about these commands. -/

namespace Sys2Proof
namespace Machine

/-! ## A valid frame at a port (R360, R369, R370) -/

section
variable {s : State} {p : Nat} {f : CanFrame} {esi : Bool}

/-- A good frame is counted at its port; buffers and the other receive counts stay, and the buses beside the port (R360, R369). -/
theorem State.goodFrame_spec (s : State) (p : Nat) :
    ∃ v : CanPort, KeepsBuses (s.setPort p v) (s.goodFrame p) ∧ v.rxCount = (s.port p).rxCount + 1 ∧ v.bufs = (s.port p).bufs ∧
      v.rxFiltered = (s.port p).rxFiltered ∧ v.remotes = (s.port p).remotes := by
  unfold State.goodFrame
  extract_lets v counted rejoined ended
  obtain ⟨e, hk⟩ := s.errState_spec p ended
  refine ⟨_, hk, ?_⟩
  have hr : rejoined = counted ∨ rejoined = { counted with rejoined := true } := (ite_eq_or_eq ..).symm
  have he : ended = rejoined ∨ ended = { rejoined with state := .normal } := (ite_eq_or_eq ..).symm
  rcases he with he | he <;> rcases hr with hr | hr <;> rw [he, hr] <;> exact ⟨rfl, rfl, rfl, rfl⟩

/-- A port in NORMAL whose controller is not being replaced takes a frame of a format that it is enabled for (R356, R360, R375). -/
def State.Receives (s : State) (p : Nat) (f : CanFrame) : Prop :=
  (s.port p).state = .normal ∧ (s.port p).takeover = none ∧ (f.fd = true → bitOf (s.nat (0x1200 + p) 5) 0 = true)

theorem State.goodFrame_filterOf (s : State) (p : Nat) (f : CanFrame) : (s.goodFrame p).filterOf p f = s.filterOf p f := by
  obtain ⟨v, hk, -⟩ := s.goodFrame_spec p
  exact hk.filterOf p f

/-- Such a frame is good; a remote one is discarded, any other filtered (R369). -/
theorem State.frameReceive_eq {remote : Bool} (h : s.Receives p f) :
    s.frameReceive p f esi remote =
      if remote then (s.goodFrame p).modPort p (fun v => { v with remotes := v.remotes + 1 })
      else (s.filterOf p f).elim ((s.goodFrame p).modPort p (fun v => { v with rxFiltered := v.rxFiltered + 1 }))
        (fun k => (s.goodFrame p).rxStore p k f esi) := by
  obtain ⟨hs, ht, hfd⟩ := h
  have hn : ¬(f.fd ∧ ¬bitOf (s.nat (0x1200 + p) 5) 0) := fun ⟨hf, hb⟩ => hb (hfd hf)
  simp only [State.frameReceive, hs, ht, Option.isSome_none, Bool.false_eq_true, if_false, if_neg hn, State.goodFrame_filterOf]
  cases s.filterOf p f <;> rfl

theorem State.frameReceive_remote (h : s.Receives p f) :
    s.frameReceive p f esi true = (s.goodFrame p).modPort p (fun v => { v with remotes := v.remotes + 1 }) :=
  (State.frameReceive_eq h).trans (if_pos rfl)

theorem State.frameReceive_unfiltered (h : s.Receives p f) (hf : s.filterOf p f = none) :
    s.frameReceive p f esi false = (s.goodFrame p).modPort p (fun v => { v with rxFiltered := v.rxFiltered + 1 }) := by
  rw [State.frameReceive_eq h, hf]
  rfl

theorem State.frameReceive_passed {k : Nat} (h : s.Receives p f) (hf : s.filterOf p f = some k) :
    s.frameReceive p f esi false = (s.goodFrame p).rxStore p k f esi := by
  rw [State.frameReceive_eq h, hf]
  rfl

/-- A frame whose filter pair names queue A enters it where it has room (R370). -/
theorem State.rxStore_inA {k : Nat} (hb : bitOf (u8At (s.filterPair p k) 8) 2 = false) (hr : s.hasRoom (.canA p) = true) :
    ∃ x, s.rxStore p k f esi = (s.modPort p (fun v => { v with lostA := false })).pushQ (.canA p) x := by
  simp only [State.rxStore, hb, Bool.false_eq_true, if_false, hr, if_true]
  exact ⟨_, rfl⟩

theorem State.setPort_hasRoom (s : State) (p : Nat) (v : CanPort) (q : QId) : (s.setPort p v).hasRoom q = s.hasRoom q := rfl

theorem State.setPort_filterPair (s : State) (p k : Nat) (v : CanPort) : (s.setPort p v).filterPair p k = s.filterPair p k := rfl

end

/-- A port changed after the buses were kept is the port changed before. -/
theorem KeepsBuses.modPort {s g : State} {p : Nat} {v : CanPort} (h : KeepsBuses (s.setPort p v) g) (f : CanPort → CanPort) :
    KeepsBuses (s.setPort p (f v)) (g.modPort p f) := by
  refine ⟨h.pending, h.clk, h.dict, h.power, fun q => ?_, h.sparePort, h.sent, h.queue⟩
  rw [State.modPort_port, h.port, h.port, State.setPort_port, State.setPort_port, State.setPort_port, if_pos rfl]
  split <;> rfl

theorem canA_num (p : Nat) : 9 ≤ (QId.canA p).num := Nat.le_add_right_of_le (by decide)
theorem canB_num (p : Nat) : 9 ≤ (QId.canB p).num := Nat.le_add_right_of_le (by decide)

/-- A good frame for queue A is pushed there, with its port counted and the buses beside it kept (R369, R370). -/
theorem State.frameReceive_stored {s : State} {p k : Nat} {f : CanFrame} (esi : Bool) (h : s.Receives p f) (hf : s.filterOf p f = some k)
    (hb : bitOf (u8At (s.filterPair p k) 8) 2 = false) (hr : s.hasRoom (.canA p) = true) :
    ∃ v g x, KeepsBuses (s.setPort p v) g ∧ g.hasRoom (.canA p) = true ∧ s.frameReceive p f esi false = g.pushQ (.canA p) x ∧
      v.rxCount = (s.port p).rxCount + 1 ∧ v.bufs = (s.port p).bufs := by
  obtain ⟨v, hk, hrx, hbufs, -, -⟩ := s.goodFrame_spec p
  have hroom : (s.goodFrame p).hasRoom (.canA p) = true := by rw [hk.hasRoom (canA_num p), State.setPort_hasRoom, hr]
  have hpair : bitOf (u8At ((s.goodFrame p).filterPair p k) 8) 2 = false := by rw [hk.filterPair, State.setPort_filterPair, hb]
  obtain ⟨x, hx⟩ := State.rxStore_inA (f := f) (esi := esi) hpair hroom
  have hk' := hk.modPort (fun v => { v with lostA := false })
  exact ⟨_, _, x, hk', by rw [hk'.hasRoom (canA_num p), State.setPort_hasRoom, hr], (State.frameReceive_passed h hf).trans hx, hrx, hbufs⟩

/-! ## The queues (R402) -/

@[simp] theorem Queue.settle_rp (q : Queue) : q.settle.rp = q.rp := by
  unfold Queue.settle
  split <;> rfl

theorem Queue.pop_rp {q : Queue} {ps : Nat} (delay : Nat) (h : (q.see ps).empty = false) : (q.pop ps delay).rp = (q.rp + 1) % 65536 := by
  simp only [Queue.pop, h, Bool.false_eq_true, if_false, Queue.settle_rp]
  rfl

theorem Queue.not_empty_of_front {q : Queue} {ps : Nat} {e : QItem × Bool} (h : q.front ps = some e) : (q.see ps).empty = false := by
  cases he : (q.see ps).empty with
  | false => rfl
  | true => simp [Queue.front, he] at h

theorem State.popQ_rp {s : State} {q : QId} {e : QItem × Bool} (h : s.frontQ q = some e) :
    ((s.popQ q).queue q).rp = ((s.queue q).rp + 1) % 65536 := by
  have hq : (s.popQ q).queue q = (s.queue q).pop s.ps (s.delayBack q) := Tab.get_put_self ..
  rw [hq, Queue.pop_rp _ (Queue.not_empty_of_front h)]

theorem State.modPort_queue (s : State) (p : Nat) (f : CanPort → CanPort) (q : QId) : (s.modPort p f).queue q = s.queue q := rfl

/-! ## Dispatch (R371) -/

@[simp] theorem CanPort.watch_unclaimed (v : CanPort) (e : CanRx) : (v.watch e).unclaimed = v.unclaimed := by
  unfold CanPort.watch
  split <;> rfl

/-- A base frame has no consumer. -/
theorem State.canConsume_base {s : State} {p : Nat} {e : CanRx} (h : e.frame.ext = false) :
    s.canConsume p e = s.modPort p (fun v => { v with unclaimed := v.unclaimed + 1 }) := by
  simp [State.canConsume, h]

theorem State.canDispatch_base {s : State} {p : Nat} {e : CanRx} (hf : s.frontQ (.canA p) = some (.rx e, false)) (h : e.frame.ext = false) :
    s.canDispatch p =
      ((s.popQ (.canA p)).modPort p (fun v => v.watch e)).modPort p (fun v => { v with unclaimed := v.unclaimed + 1 }) := by
  simp only [State.canDispatch, State.canTake, hf, Option.isSome_some, if_true, Bool.false_eq_true, if_false, State.canConsume_base h]

theorem State.canDispatch_idle {s : State} {p : Nat} (ha : s.frontQ (.canA p) = none) (hb : s.frontQ (.canB p) = none) :
    s.canDispatch p = s := by
  simp [State.canDispatch, State.canTake, ha, hb]

/-! ## Frames at a MAC (R376, R377) -/

/-- A frame at a MAC in service completes with the state it is known to make, which differs in the network part alone. -/
theorem does_ethFrame_eq {t m : Nat} {x : EthBody} {s u : State} {P : State → Prop} (hm : m < 2) (hr : (s.advance t).macServed = true)
    (hu : (s.advance t).ethFrame m x = u) (hn : OnlyNet (s.advance t) u) (h : P u) : Does (.ethFrameReceive t m x) s P := by
  obtain rfl : (if (s.advance t).macServed then (s.advance t).ethFrame m x else s.advance t) = u := (if_pos hr).trans hu
  exact does_atMoment (f := fun s => if s.macServed then s.ethFrame m x else s) (if_pos hm) hn.pending (congrArg Clk.raw hn.clk) h

theorem State.modMac_mac_self (s : State) (m : Nat) (f : Mac → Mac) : (s.modMac m f).mac m = f (s.mac m) := by
  rw [State.modMac_mac, if_pos rfl]

theorem State.emit_mac (s : State) (x : Sent) (m : Nat) : (s.emit x).mac m = s.mac m := rfl

/-- A learnt address is in the cache. -/
theorem mem_arpLearn (l : List ArpEnt) (e : ArpEnt) : e ∈ arpLearn l e :=
  List.mem_append_right _ List.mem_cons_self

/-- A MAC after an ARP reply for which no datagram waits. -/
def Mac.learnt (v : Mac) (e : ArpEnt) : Mac := { v with arp := arpLearn v.arp e, waiting := v.waiting.filter (fun x => decide (x.1 ≠ e.ip)) }

theorem State.arpReply_alone {s : State} {m : Nat} (ip mac : Nat) (h : (s.mac m).waiting = []) :
    s.arpReply m ip mac = s.modMac m (·.learnt { ip := ip, mac := mac, until_ := s.now + 300000000000 }) := by
  simp only [State.arpReply, h, List.filter_nil, List.foldl_nil]
  rfl

/-- A MAC that has counted a frame it received. -/
def State.ethCounted (s : State) (m : Nat) : State := s.modMac m (fun v => { v with rx := v.rx + 1 })

theorem State.ethFrame_arpReply {s : State} {m : Nat} (ip mac : Nat) (hu : s.macUp m = true) (hw : (s.mac m).waiting = []) :
    s.ethFrame m (.arp true ip mac (s.ipAddr m)) =
      (s.ethCounted m).modMac m (·.learnt { ip := ip, mac := mac, until_ := s.now + 300000000000 }) := by
  have hw' : ((s.ethCounted m).mac m).waiting = [] := by rw [State.ethCounted, State.modMac_mac_self, hw]
  have hother : (s.ethCounted m).ethOther m (.arp true ip mac (s.ipAddr m)) = (s.ethCounted m).arpReply m ip mac :=
    (if_neg (not_not.mpr rfl)).trans (if_pos rfl)
  exact (if_neg (not_not.mpr hu)).trans (hother.trans (State.arpReply_alone ip mac hw'))

theorem State.ethFrame_echo {s : State} {m : Nat} (ip : Nat) {b : Octets} (hu : s.macUp m = true) (hb : b.length ≤ 1472) :
    s.ethFrame m (.echo ip b) =
      ((s.ethCounted m).modMac m (fun v => { v with echoes := v.echoes + 1, tx := v.tx + 1 })).emit (.echoReply m ip b) :=
  (if_neg (not_not.mpr hu)).trans (if_pos hb)

theorem State.ethFrame_other {s : State} {m : Nat} (hu : s.macUp m = true) :
    s.ethFrame m .other = (s.ethCounted m).modMac m (fun v => { v with discarded := v.discarded + 1 }) :=
  if_neg (not_not.mpr hu)

/-- Of a list of waiting datagrams those that are discarded and those that stay are all. -/
theorem length_overdue_add_length_rest (l : List (Nat × Nat × Datagram)) (now : Nat) :
    (l.filter (fun e => decide (e.2.1 + 1000000000 ≤ now))).length + (l.filter (fun e => decide (now < e.2.1 + 1000000000))).length =
      l.length := by
  have h : (fun e : Nat × Nat × Datagram => decide (now < e.2.1 + 1000000000)) =
      fun e => !decide (e.2.1 + 1000000000 ≤ now) := by
    funext e
    rw [← decide_not]
    simp only [Nat.not_le]
  rw [h]
  exact (l.length_eq_length_filter_add _).symm

/-- A command that changes a MAC. -/
theorem does_modMac {c : Instr} {t m : Nat} {s : State} {f : State → Mac → Mac} {P : State → Prop}
    (he : exec c s = onMac t m s (fun s => s.modMac m (f s))) (hm : m < 2) (hl : s.live .comm t)
    (h : ∀ u, u = { s.advance t with net := u.net } → u.mac m = f (s.advance t) (s.mac m) → P u) : Does c s P :=
  does_onUnit he (decide_eq_true hm) hl rfl rfl (h _ (State.modMac_net ..) (State.modMac_mac_self ..))

/-- Settles O29: frames received, filtered and not; dispatch; frames at a MAC; ARP's time limits and the link. -/
theorem receptionCommands : Obligations.ReceptionCommands := by
  unfold Obligations.ReceptionCommands
  refine ⟨fun t p f esi s hp hl hs ht hfd => ?_, fun t p e s hp hl hf hb => ?_, fun t p s hp hl ha hb => ?_,
    fun t m sip mac b s hm hr hu => ⟨fun hw => ?_, fun hb => ?_, ?_⟩, fun t m s hm hl => ⟨?_, ?_, fun speed duplex hsp => ?_⟩⟩
  · have hR : (s.advance t).Receives p f := ⟨hs, ht, hfd⟩
    obtain ⟨v, hk, hrx, -, hfil, hrem⟩ := (s.advance t).goodFrame_spec p
    refine ⟨fun k hf hB hroom => ?_, fun hf => ?_, ?_⟩
    · obtain ⟨w, g, x, hkw, hg, hx, hwx, hwb⟩ := State.frameReceive_stored esi hR hf hB hroom
      refine does_port_eq (f := fun s => s.frameReceive p f esi false) rfl hp hl hx hkw.pending (congrArg Clk.raw hkw.clk) ⟨?_, ?_⟩
      · rw [State.pushQ_wp _ _ _ hg, hkw.queue _ (canA_num p)]
        rfl
      · have hv : (g.pushQ (.canA p) x).port p = w := (hkw.port p).trans (State.setPort_port_self ..)
        rw [hv]
        exact ⟨hwx, hwb⟩
    · have hk' := hk.modPort (fun v => { v with rxFiltered := v.rxFiltered + 1 })
      rw [← State.frameReceive_unfiltered (esi := esi) hR hf] at hk'
      refine does_port_written (f := fun s => s.frameReceive p f esi false) rfl hp hl (OnlyNet.rfl' _) hk' fun u hu hv => ?_
      rw [hv, hu.queue _ (canA_num p), hu.queue _ (canB_num p)]
      exact ⟨rfl, rfl, congrArg (· + 1) hfil, hrx⟩
    · have hk' := hk.modPort (fun v => { v with remotes := v.remotes + 1 })
      rw [← State.frameReceive_remote (esi := esi) hR] at hk'
      refine does_port_written (f := fun s => s.frameReceive p f esi true) rfl hp hl (OnlyNet.rfl' _) hk' fun u hu hv => ?_
      rw [hv, hu.queue _ (canA_num p), hu.queue _ (canB_num p)]
      exact ⟨rfl, rfl, congrArg (· + 1) hrem⟩
  · have hx := State.canDispatch_base (s := s.advance t) hf hb
    have hrp : (((s.advance t).popQ (.canA p)).queue (.canA p)).rp = ((s.queue (.canA p)).rp + 1) % 65536 := State.popQ_rp hf
    refine does_port_eq (f := fun s => s.canDispatch p) rfl hp hl hx rfl rfl ⟨rfl, ?_, ?_⟩
    · rw [State.modPort_queue, State.modPort_queue, hrp]
    · simp only [State.modPort_port, if_true, CanPort.watch_unclaimed]
      rfl
  · exact does_port_eq (f := fun s => s.canDispatch p) rfl hp hl (State.canDispatch_idle ha hb) rfl rfl rfl
  · refine does_ethFrame_eq hm hr (State.ethFrame_arpReply sip mac hu hw) (OnlyNet.of ..) ⟨OnlyNet.of .., ?_⟩
    rw [State.modMac_mac_self, State.ethCounted, State.modMac_mac_self]
    exact ⟨rfl, mem_arpLearn ..⟩
  · refine does_ethFrame_eq hm hr (State.ethFrame_echo sip hu hb) (OnlyNet.of ..) ⟨OnlyNet.of .., rfl, ?_⟩
    rw [State.emit_mac, State.modMac_mac_self, State.ethCounted, State.modMac_mac_self]
    exact ⟨rfl, rfl⟩
  · refine does_ethFrame_eq hm hr (State.ethFrame_other hu) (OnlyNet.of ..) ⟨OnlyNet.of .., rfl, ?_⟩
    rw [State.modMac_mac_self, State.ethCounted, State.modMac_mac_self]
    rfl
  · refine does_modMac rfl hm hl fun u hu hv => ⟨hu, ?_, ?_⟩
    · rw [hv]
    · rw [hv, Nat.add_assoc]
      exact congrArg _ (length_overdue_add_length_rest ..)
  · exact does_modMac rfl hm hl fun u hu hv => ⟨hu, by rw [hv], by rw [hv]⟩
  · refine does_modMac rfl hm hl fun u hu hv => ⟨hu, ?_, ?_⟩
    · rw [hv]; exact Nat.mod_eq_of_lt hsp
    · rw [hv, Nat.mod_eq_of_lt hsp]

end Machine
end Sys2Proof
end

section
/-! SUPPORT. Writes of the CAN ports (R366, R374): what a port makes of an application frame whose identifier it has suspended, and a state in
which the clause about these frames fails. -/

namespace Sys2Proof
namespace Machine

/-- A device in RUN with a trusted host port in the service role, whose CAN port 0 is NORMAL and has suspended the extended identifier 7. -/
def suspendedPort : State :=
  { State.reset with
    dev := { state := .run }
    power := { State.reset.power with straps := { hostRole := true, hTrust := true }, started := true, trained := true, bisted := true }
    net := { State.reset.net with ports := [(0, { state := .normal, suspended := [keyOfWord (2147483648 + 7)] })] } }

/-- The value of `APP_TX_0` for the empty extended frame of identifier 7. -/
def extendedSeven : Octets := leBytes 4 (2147483648 + 7) ++ leBytes 4 0 ++ []

/-- There the host may write that frame to buffer 0. -/
theorem suspendedPort_mayWrite : suspendedPort.mayWrite 0 hostAccess (0x5800 + 0) (0x0B + 0) extendedSeven :=
  ⟨by decide, by decide, by decide, _, rfl, by decide, by decide, by decide, by decide, by decide⟩

/-- The frame is ABORTED at once, and its buffer stays free (R374). -/
theorem suspendedPort_aborts : Does (.appTx 0 hostAccess 0 0 extendedSeven) suspendedPort (fun u =>
    ((u.port 0).buf 0).state = 0 ∧ ((u.port 0).buf 0).outcome = 2) :=
  ⟨_, rfl, by decide⟩

/-- Refutes O52: its clause on application frames looks for the bare identifier among the suspended ones, which are kept with their format
(R374). A port that has suspended an extended identifier does not list its bare number, so that the clause has the frame loaded; it is
ABORTED at once, as that of `suspendedPort` is. -/
theorem not_portAndKeyWrites : ¬ Obligations.PortAndKeyWrites := by
  unfold Obligations.PortAndKeyWrites
  rintro ⟨-, -, -, hload, -⟩
  obtain ⟨u, hu, -, -, hpending, -⟩ := hload 0 0 0 (2147483648 + 7) 7 [] extendedSeven hostAccess suspendedPort (by decide) (by decide)
    (by decide) rfl (by decide) (by decide) (by decide) (by decide) (by decide) (by decide) suspendedPort_mayWrite rfl rfl
  obtain ⟨v, hv, hfree, -⟩ := suspendedPort_aborts
  obtain rfl : u = v := by simpa using hu.symm.trans hv
  obtain ⟨hone, -⟩ := hpending (by decide)
  exact absurd (hone.symm.trans hfree) (by decide)

end Machine
end Sys2Proof
end

section
/-! SUPPORT. The test access port (R568, R569, R571): what loading an instruction leaves, the identification register, and the statements
about its instructions. -/

namespace Sys2Proof
namespace Machine

/-- An instruction loaded on a supplied device makes of the port what it says, and changes nothing else (R568). -/
theorem does_onTap {c : Instr} {t : Nat} {s : State} {f : Tap → Tap} {P : State → Prop} (he : exec c s = onTap t s f)
    (hs : s.power.supplies = true) (h : P { s.advance t with tap := f { s.tap with irOut := bitsOf 6 1 } }) : Does c s P :=
  does_atMoment (he.trans rfl) (by simp [hs]) (by simp [hs]) (by simpa [hs] using h)

theorem exec_idcode (t : Nat) (s : State) :
    exec (.idcode t) s = onTap t s (fun v => { v with ir := .idcode, tdo := bitsOf 32 idRegister, drive := 0, held := [] }) := rfl

theorem exec_samplePreload (t : Nat) (pins load : List Bool) (s : State) :
    exec (.samplePreload t pins load) s = onTap t s (·.sample .samplePreload ((s.advance t).cellsNow pins) load) := rfl

theorem exec_bypass (t : Nat) (bit : Bool) (s : State) : exec (.bypass t bit) s = onTap t s (·.through .bypass 0 [] bit) := rfl

theorem exec_extest (t : Nat) (pins load : List Bool) (s : State) :
    exec (.extest t pins load) s =
      onTap t s (fun v => { v.sample .extest ((s.advance t).cellsNow pins) load with drive := if s.power.resetN then 0 else 1 }) := rfl

theorem exec_clamp (t : Nat) (pins load : List Bool) (bit : Bool) (s : State) :
    exec (.clamp t pins load bit) s = onTap t s (fun v =>
      if s.power.resetN then v.sample .clamp ((s.advance t).cellsNow pins) load else v.through .clamp 2 v.bsr bit) := rfl

theorem exec_highz (t : Nat) (pins load : List Bool) (bit : Bool) (s : State) :
    exec (.highz t pins load bit) s = onTap t s (fun v =>
      if s.power.resetN then v.sample .highz ((s.advance t).cellsNow pins) load else v.through .highz 3 [] bit) := rfl

/-- TAP_RESET selects the identification register and drives nothing (R568, R571). -/
theorem does_tapReset {t : Nat} {s : State} {P : State → Prop} (hs : s.power.supplies = true)
    (h : P { s.advance t with tap := { s.tap with ir := .idcode, drive := 0, held := [] } }) : Does (.tapReset t) s P :=
  does_atMoment rfl (by simp [hs]) (by simp [hs]) (by simpa [hs] using h)

/-- Settles O42, instruction by instruction. -/
theorem tapCommands : Obligations.TapCommands := by
  unfold Obligations.TapCommands
  intro t pins load bit s hs
  refine ⟨does_tapReset hs ⟨rfl, rfl, rfl⟩, ?idcode, ?sample, ?bypass, ?extest, ?clamp, ?highz⟩
  case idcode => exact does_onTap (exec_idcode t s) hs ⟨rfl, rfl, rfl, rfl⟩
  case sample => exact does_onTap (exec_samplePreload t pins load s) hs ⟨rfl, rfl, rfl, (by decide : bitsOf 6 1 = _), rfl⟩
  case bypass => exact does_onTap (exec_bypass t bit s) hs ⟨rfl, rfl, rfl, rfl, rfl⟩
  case extest => exact does_onTap (exec_extest t pins load s) hs ⟨rfl, rfl, rfl, rfl⟩
  case clamp =>
    refine does_onTap (exec_clamp t pins load bit s) hs ?_
    cases s.power.resetN
    · exact ⟨rfl, rfl, rfl, fun _ => ⟨rfl, rfl⟩⟩
    · exact ⟨rfl, rfl, rfl, fun h => by cases h⟩
  case highz =>
    refine does_onTap (exec_highz t pins load bit s) hs ?_
    cases s.power.resetN
    · exact ⟨rfl, rfl, rfl, fun _ => rfl⟩
    · exact ⟨rfl, rfl, rfl, fun h => by cases h⟩

/-- The entry `STEPPING` reads the stepping given at manufacture (R569). -/
theorem State.readEntry_stepping (s : State) (src : Peer) (n : Nat) :
    u16At (s.readEntry src n 0x1000 3).2 0 = Config.stepping % 65536 := by
  have hr : (s.readEntry src n 0x1000 3).2 = leBytes 2 Config.stepping := by
    simp [State.readEntry, State.ownedRead, State.identityRead]
  simp [hr, u16At, slice, leBytes, leNat]
  omega

/-- The identification register of a device of stepping `v`.x (R569). -/
def idRegisterOf (v : Nat) : Nat := v * 268435456 + 0x5120 * 4096 + 0x2D5 * 2 + 1

/-- The two agree. The proof `h` stands in the term as a variable: between closed numbers the kernel would compare by computing, and the
stepping, which is not known, keeps it from ending. -/
theorem idRegister_eq_of_bound (h : 256 < 257) : idRegister = idRegisterOf (Config.stepping / (Fin.mk 256 h).val % 16) := rfl

theorem idRegister_eq : idRegister = idRegisterOf (Config.stepping / 256 % 16) := idRegister_eq_of_bound (by decide)

/-- Its four fields, and its value for stepping 1.x. -/
theorem idRegisterOf_fields {v : Nat} (h : v < 16) : idRegisterOf v < 4294967296 ∧ idRegisterOf v % 2 = 1 ∧
    idRegisterOf v / 2 % 2048 = 0x2D5 ∧ idRegisterOf v / 4096 % 65536 = 0x5120 ∧ idRegisterOf v / 268435456 = v ∧
    (v = 1 → idRegisterOf v = 0x151205AB) := by
  unfold idRegisterOf
  omega

/-- Settles O57: the fields of the register that IDCODE shifts out. -/
theorem identificationRegister : Obligations.IdentificationRegister := by
  unfold Obligations.IdentificationRegister
  intro t w s hs hw
  have hv : w / 256 % 16 = Config.stepping / 256 % 16 := by
    rw [hw, State.readEntry_stepping]
    omega
  rw [hv]
  refine does_onTap (exec_idcode t s) hs ⟨idRegisterOf (Config.stepping / 256 % 16), ?_, idRegisterOf_fields (Nat.mod_lt _ (by decide))⟩
  rw [← idRegister_eq]

end Machine
end Sys2Proof
end

section
/-! SUPPORT. From a meaning to a statement that its command completes: units whose effect is known, and writes whose owner keeps the core. -/

namespace Sys2Proof
namespace Machine

/-- As `does_onIsland_eq`, for a command that names a unit. -/
theorem does_onUnit_eq {c : Instr} {ok : Bool} {i : Island} {t : Nat} {s u : State} {f : State → State} {P : State → Prop}
    (he : exec c s = onUnit ok i t s f) (ho : ok = true) (hl : s.live i t) (hu : f (s.advance t) = u) (hp : u.pending = s.pending)
    (hr : u.clk.raw = (s.advance t).clk.raw) (h : P u) : Does c s P := by
  subst hu
  exact does_onUnit he ho hl hp hr h

/-- As `does_ownerWrite`, where the owner is known to keep the core. -/
theorem does_ownerWrite_of_keepsCore {c : Instr} {t idx sub : Nat} {a : Acc} {b : Octets} {s : State} {f : State → State}
    {P : State → Prop} (he : exec c s = writeCmd true t a idx sub b s) (h : s.mayWrite t a idx sub b)
    (hd : ∀ n, State.ownerWrite { s.advance t with net := n } a.ctx idx sub b = .done (f { s.advance t with net := n }))
    (hk : ∀ n, KeepsCore { s.advance t with net := n } (f { s.advance t with net := n }))
    (hP : ∀ n m, P { f { s.advance t with net := n } with net := m }) : Does c s P := by
  obtain ⟨n, hn⟩ := (s.advance t).atOwner_eq a idx sub b h.2
  have hv := hd n
  rw [← hn] at hv
  refine does_write he rfl h (State.applyWrite_done hv) ?_ ?_ (hn ▸ hP n)
  · rw [hn]; exact (hk n).pending
  · rw [hn]; exact congrArg Clk.raw (hk n).clk

end Machine
end Sys2Proof
end

section
/-! SUPPORT. The calendar (R414–R426, R433) and its writes: what an alarm and a deviation leave of the count, what the owner makes of each
write, and the statements about its commands. -/

namespace Sys2Proof
namespace Machine

/-! ## What leaves the calendar's count alone -/

/-- The core and, of the calendar, the fields, the second's moment, the halt, the offset and what waits for the next second are those of
`s`. -/
structure KeepsCount (s u : State) : Prop where
  core : KeepsCore s u
  f : u.cal.f = s.cal.f
  since : u.cal.since = s.cal.since
  valid : u.cal.valid = s.cal.valid
  halt : u.cal.halt = s.cal.halt
  haltAt : u.cal.haltAt = s.cal.haltAt
  offset : u.cal.offset = s.cal.offset
  step : u.cal.step = s.cal.step
  alarmNew : u.cal.alarmNew = s.cal.alarmNew

namespace KeepsCount

theorem refl (s : State) : KeepsCount s s := ⟨.refl s, rfl, rfl, rfl, rfl, rfl, rfl, rfl, rfl⟩

theorem trans {s u w : State} (h : KeepsCount s u) (k : KeepsCount u w) : KeepsCount s w :=
  ⟨h.core.trans k.core, k.f.trans h.f, k.since.trans h.since, k.valid.trans h.valid, k.halt.trans h.halt, k.haltAt.trans h.haltAt,
    k.offset.trans h.offset, k.step.trans h.step, k.alarmNew.trans h.alarmNew⟩

theorem ite {s u v : State} {p : Prop} [Decidable p] (hu : KeepsCount s u) (hv : KeepsCount s v) :
    KeepsCount s (if p then u else v) := by
  split
  · exact hu
  · exact hv

/-- What leaves the core and the calendar leaves its count. -/
theorem of_cal {s u : State} (h : KeepsCore s u) (hc : u.cal = s.cal) : KeepsCount s u := by
  refine ⟨h, ?_, ?_, ?_, ?_, ?_, ?_, ?_, ?_⟩ <;> rw [hc]

end KeepsCount

theorem State.modCal_keepsCore (s : State) (f : Cal → Cal) : KeepsCore s (s.modCal f) := ⟨rfl, rfl, rfl, rfl⟩

theorem State.post_keepsCount (s : State) (i : Island) (c u : Nat) (a : List EvArg) : KeepsCount s (s.post i c u a) :=
  .of_cal (s.post_keepsCore i c u a) (s.post_cal i c u a)

theorem State.ivClockSet_keepsCount (s : State) : KeepsCount s s.ivClockSet := ⟨⟨rfl, rfl, rfl, rfl⟩, rfl, rfl, rfl, rfl, rfl, rfl, rfl, rfl⟩

theorem State.almFlagged_keepsCount (s : State) : KeepsCount s (s.modCal (fun c => { c with almf := true })) :=
  ⟨s.modCal_keepsCore _, rfl, rfl, rfl, rfl, rfl, rfl, rfl, rfl⟩

theorem State.almSkipFlagged_keepsCount (s : State) : KeepsCount s (s.modCal (fun c => { c with almskip := true })) :=
  ⟨s.modCal_keepsCore _, rfl, rfl, rfl, rfl, rfl, rfl, rfl, rfl⟩

theorem State.wakeDriven_keepsCount (s : State) : KeepsCount s (s.modCal (fun c => { c with wakeOut := true })) :=
  ⟨s.modCal_keepsCore _, rfl, rfl, rfl, rfl, rfl, rfl, rfl, rfl⟩

/-- An alarm that fires sets its flag and leaves the count (R422). -/
theorem State.almFire_keepsCount (s : State) : KeepsCount s s.almFire :=
  s.almFlagged_keepsCount.trans (.ite (.ite (State.wakeDriven_keepsCount _) (.refl _)) (State.post_keepsCount ..))

/-- So does the alarm after a set, a step or a jump (R424). -/
theorem State.almMoved_keepsCount (s : State) (old new : Nat) : KeepsCount s (s.almMoved old new) := by
  unfold State.almMoved
  extract_lets a here
  refine .ite (.ite ?_ (.ite s.almFire_keepsCount (.refl s))) (.refl s)
  have hskip : KeepsCount (s.modCal (fun c => { c with almskip := true })) (if (s.modCal (fun c => { c with almskip := true })).standby
      then s.modCal (fun c => { c with almskip := true })
      else (s.modCal (fun c => { c with almskip := true })).post .backup Code.calAlarmSkipped 0 []) :=
    .ite (.refl _) (State.post_keepsCount ..)
  have h := s.almSkipFlagged_keepsCount.trans hskip
  exact .ite (h.trans (State.almFire_keepsCount _)) h

/-- The deviation found at a rollover steers the prescaler, and may ask for a jump at the next second (R421). -/
theorem State.deviation_keepsCount (s : State) : KeepsCount s s.deviation := by
  unfold State.deviation
  extract_lets
  split
  · exact ⟨⟨rfl, rfl, rfl, rfl⟩, rfl, rfl, rfl, rfl, rfl, rfl, rfl, rfl⟩
  · split <;> exact ⟨⟨rfl, rfl, rfl, rfl⟩, rfl, rfl, rfl, rfl, rfl, rfl, rfl, rfl⟩

/-! ## The second, the wake timer, the temperature (R414, R425, R426) -/

/-- The calendar's fields a second later, where that second is counted (R414). -/
def CalFields.nextSecond (f : CalFields) : CalFields :=
  fieldsOf ((f.seconds + 1) % calSpan) (if (f.seconds + 1) % 86400 = 0 then (f.weekday + 1) % 7 else f.weekday)

/-- A second entered without a step or a jump is counted, and a new alarm is taken over (R414, R418). -/
theorem State.enterSecond_counted {s : State} (hj : s.cal.jump = false) (hs : s.cal.step = none) :
    KeepsCore s s.enterSecond ∧ s.enterSecond.cal.f = s.cal.f.nextSecond ∧ s.enterSecond.cal.since = s.now ∧
    s.enterSecond.cal.offset = s.cal.offset ∧ s.enterSecond.cal.alarmNew = none := by
  unfold State.enterSecond
  extract_lets c would wd base step new moved v w
  have hmoved : moved = false := by simp [moved, c, hj, hs]
  have hstep : step = 0 := by simp [step, c, hs]
  have hnew : new = (s.cal.f.seconds + 1) % calSpan := by
    have hbase : base = ((would : Nat) : Int) := if_neg (by simp [c, hj])
    rw [show new = ((base + step) % (calSpan : Int)).toNat from rfl, hbase, hstep, Int.add_zero, ← Int.natCast_emod, Int.toNat_natCast]
  have hv : KeepsCore s v := s.modCal_keepsCore _
  have k : KeepsCount v (if almMatch w.cal.alarm w.cal.f then w.almFire else w) :=
    KeepsCount.trans (.ite (State.post_keepsCount ..) (.refl v)) (.ite w.almFire_keepsCount (.refl w))
  rw [if_neg (by simp [hmoved])]
  refine ⟨hv.trans k.core, k.f.trans ?_, k.since, k.offset.trans ?_, k.alarmNew⟩
  · rw [CalFields.nextSecond, ← hnew]
    rfl
  · exact (congrArg (s.cal.offset - · * 1000000000) hstep).trans (by omega)

/-- The state after a wake interval that has run out: the next one runs, and what it wakes is driven or logged (R425). -/
def State.woken (s : State) : State :=
  if s.standby then (s.modCal (fun c => { c with wakeStart := s.now })).modCal (fun c => { c with wakeOut := true })
  else (s.modCal (fun c => { c with wakeStart := s.now })).post .backup Code.calWake 0 []

theorem State.woken_keepsCore (s : State) : KeepsCore s s.woken :=
  .ite ⟨rfl, rfl, rfl, rfl⟩ ((s.modCal_keepsCore _).trans (State.post_keepsCore ..))

theorem State.woken_cal (s : State) :
    s.woken.cal = { s.cal with wakeStart := s.now, wakeOut := if s.standby then true else s.cal.wakeOut } := by
  unfold State.woken
  split
  · rfl
  · exact State.post_cal ..

theorem sat16_of_range {x : Int} (h1 : -32768 ≤ x) (h2 : x ≤ 32767) : sat16 x = x := by
  have hsat : sat16 x = if x < -32768 then -32768 else if 32767 < x then 32767 else x := rfl
  rw [hsat, if_neg (by omega), if_neg (by omega)]

/-- Settles O32: a second counted, a second under HALT, the wake timer, the temperature. -/
theorem calendarCommands : Obligations.CalendarCommands := by
  unfold Obligations.CalendarCommands
  refine ⟨fun t s hl hh ho hj hs hp => ?_, fun t s hl hh => ?_, fun t s hl hh hb hp => ?_, fun t x s hl h1 h2 hp => ?_⟩
  · obtain ⟨hc, hf, hi, hx, ha⟩ := State.enterSecond_counted (s := s.advance t) hj hs
    have k := (s.advance t).enterSecond.deviation_keepsCount
    have hcore := hc.trans k.core
    refine does_onIsland_eq (i := .backup) (u := (s.advance t).enterSecond.deviation) rfl hl ?_ hcore.pending (congrArg Clk.raw hcore.clk)
      ⟨k.f.trans hf, k.since.trans hi, k.offset.trans hx, k.alarmNew.trans ha, congrArg Clk.dev hcore.clk⟩
    simp [hh, ho, hp]
  · refine does_onIsland_eq (i := .backup) (u := s.advance t) rfl hl ?_ rfl rfl rfl
    simp [hh]
  · have k := (s.advance t).woken_keepsCore
    refine does_onIsland_eq (i := .backup) (u := (s.advance t).woken) rfl hl ?_ k.pending (congrArg Clk.raw k.clk) ?_
    · exact if_neg (by simpa [hh] using ⟨hb, hp⟩)
    · rw [State.woken_cal]
      exact ⟨rfl, fun h => if_pos h, fun h => if_neg (by simp [show (s.advance t).standby = s.standby from rfl, h]), rfl⟩
  · refine does_onIsland_eq (i := .backup) (u := (s.advance t).modCal (fun c => { c with temp := x, tempAt := some (s.advance t).now })) rfl hl
      ?_ rfl rfl rfl
    rw [sat16_of_range h1 h2]
    cases ha : s.cal.tempAt with
    | none => simp [ha]
    | some a => simp [ha, hp a ha]

/-! ## Setting (R417, R418, R419) -/

/-- The calendar as `HALT` is set (R417). -/
def State.halted (s : State) : State :=
  s.modCal (fun c => { c with
    f := { c.f with subsec := s.subsec }, halt := true, haltAt := c.f.seconds, haltRaw := s.now, step := none, jump := false,
    steering := false })

/-- `HALT` set holds the count; a pending step is discarded and logged (R417). -/
theorem State.haltSet_keepsCount {s : State} (h : s.cal.halt = false) : KeepsCount s.halted s.haltSet := by
  unfold State.haltSet
  rw [if_neg (by simp [h])]
  extract_lets st v
  change KeepsCount v _
  clear_value st
  cases st with
  | some n => exact State.post_keepsCount ..
  | none => exact .refl v

theorem State.haltSet_again {s : State} (h : s.cal.halt = true) : s.haltSet = s := if_pos h

/-- The calendar as `HALT` is cleared over a date and time (R417). -/
def State.restarted (s : State) : State :=
  s.modCal (fun c => { c with
    f := { c.f with subsec := 0 }, halt := false, since := s.now, valid := true,
    offset := (s.clk.dev : Int) - (s.cal.f.seconds : Nat) * 1000000000, wakeStart := c.wakeStart + (s.now - max c.haltRaw c.wakeStart) })

/-- `HALT` cleared restarts the count; the alarm is compared and the set logged (R417, R424). -/
theorem State.haltClear_keepsCount {s : State} (h : s.cal.halt = true) (ho : s.cal.f.ok = true) : KeepsCount s.restarted s.haltClear := by
  unfold State.haltClear
  rw [if_neg (by simp [h]), if_neg (by simp [ho])]
  extract_lets old new v w x
  have hw : KeepsCount v w := State.post_keepsCount ..
  exact (hw.trans (.ite (w.almMoved_keepsCount ..) (.ite w.almFire_keepsCount (.refl w)))).trans (State.ivClockSet_keepsCount _)

theorem State.haltClear_again {s : State} (h : s.cal.halt = false) : s.haltClear = s := if_pos (by simp [h])

/-- The fields of a calendar after field `sub` was written under `HALT` (R419). -/
def CalFields.written (f : CalFields) (sub v : Nat) : CalFields :=
  match sub with
  | 1 => { f with sec := v }
  | 2 => { f with min := v }
  | 3 => { f with hour := v }
  | 4 => { f with day := v }
  | 5 => { f with month := v }
  | 6 => { f with year := v }
  | 7 => { f with century := v }
  | _ => { f with weekday := v }

theorem State.calField_halted {s : State} (sub v : Nat) (h : s.cal.halt = true) :
    s.calField sub v = s.modCal (fun c => { c with f := c.f.written sub v }) := if_neg (by simp [h])

theorem State.calField_counting {s : State} (sub v : Nat) (h : s.cal.halt = false) : s.calField sub v = s.calHostError := if_pos (by simp [h])

theorem i32At_leInt {v : Int} (h1 : -2147483648 ≤ v) (h2 : v < 2147483648) : i32At (leInt 4 v) 0 = v := by
  have hl : (leInt 4 v).length = 4 := leBytes_length ..
  have hu : u32At (leInt 4 v) 0 = (v % 4294967296).toNat := by
    rw [u32At, slice, List.drop_zero, List.take_of_length_le (Nat.le_of_eq hl)]
    exact leNat_leBytes 4 _ (by omega)
  rw [i32At, hu, signed]
  omega

/-! ## What the owner makes of a write (R433) -/

theorem State.ownerWrite_calStatus (s : State) (n sub : Nat) (b : Octets) : s.ownerWrite n 0x6001 sub b = s.calWrite 0x6001 sub b := rfl

theorem State.ownerWrite_haltSet (s : State) (n : Nat) : s.ownerWrite n 0x6001 1 [1] = .done s.haltSet := rfl

theorem State.ownerWrite_haltClear (s : State) (n : Nat) : s.ownerWrite n 0x6001 1 [0] = .done s.haltClear := rfl

theorem State.ownerWrite_calField (s : State) (n sub : Nat) {v : Nat} (hv : v < 256) :
    s.ownerWrite n 0x6000 sub (leBytes 1 v) = .done (s.calField sub v) := by
  have hw : s.ownerWrite n 0x6000 sub (leBytes 1 v) = .done (s.calField sub (leNat (leBytes 1 v))) := rfl
  rw [hw, leNat_leBytes 1 v hv]

theorem State.ownerWrite_offsetStep {s : State} (n : Nat) {v : Int} (h0 : v ≠ 0) (h1 : -2147483648 ≤ v) (h2 : v < 2147483648)
    (hh : s.cal.halt = false) (hs : s.cal.step = none) :
    s.ownerWrite n 0x6001 9 (leInt 4 v) = .done (s.modCal (fun c => { c with step := some v })) := by
  rw [State.ownerWrite_calStatus]
  simp [State.calWrite, i32At_leInt h1 h2, h0, hh, hs]

theorem State.ownerWrite_wake {s : State} (n : Nat) {b : Octets} (h : wakeOk b = true) :
    s.ownerWrite n 0x6001 5 b = .done ((s.store 0x6001 5 b).modCal (fun c => { c with wakeStart := s.now })) := by
  rw [State.ownerWrite_calStatus]
  simp [State.calWrite, h]

/-- A calendar write that stores its value completes with the dictionary that the storing makes of the one at its moment; beside it only
the calendar, as the owner says, and the network part change. -/
theorem does_storeCal {c : Instr} {t sub : Nat} {a : Acc} {b : Octets} {s : State} {g : Cal → Cal}
    (he : exec c s = writeCmd true t a 0x6001 sub b s) (h : s.mayWrite t a 0x6001 sub b)
    (hd : ∀ n, State.ownerWrite { s.advance t with net := n } a.ctx 0x6001 sub b =
      .done ((State.store { s.advance t with net := n } 0x6001 sub b).modCal g)) :
    Does c s (fun u => u = { s.advance t with cal := g s.cal, dict := u.dict, net := u.net } ∧
      u.dict = ((s.advance t).store 0x6001 sub b).dict) := by
  refine does_ownerWrite_of_keepsCore (f := fun x => (x.store 0x6001 sub b).modCal g) he h hd (fun n => ?_) (fun n m => ⟨?_, ?_⟩)
  · rw [State.store_only]
    exact ⟨rfl, rfl, rfl, rfl⟩
  · rw [State.store_only]
    rfl
  · exact State.store_dict_congr (u := { s.advance t with net := n }) (v := s.advance t) rfl ..

/-- The servo as a new time source leaves it (R428). -/
def Sync.reset (y : Sync) : Sync :=
  { y with state := 0, f := 0, rate := 0, theta := 0, good := 0, slewing := false, pend := none, req := none, jdelays := [] }

/-- A new time source is stored, and the servo and the rate of device time start anew (R428). -/
theorem State.ownerWrite_timeSource (s : State) (n : Nat) (b : Octets) :
    s.ownerWrite n 0x6010 2 b = .done
      { s with dict := (s.store 0x6010 2 b).dict, sync := s.sync.reset, clk := { s.clk with rate := 0 } } := by
  have hw : s.ownerWrite n 0x6010 2 b = s.timeSource b := rfl
  rw [hw, State.timeSource, State.store_only s 0x6010 2 b, State.syncTo]
  split
  · next h => simp_all [Sync.reset]
  · rfl

/-- Settles O44, write by write. -/
theorem calendarWrites : Obligations.CalendarWrites := by
  unfold Obligations.CalendarWrites
  refine ⟨fun t a s h => ⟨fun hh => ?_, fun hh => ?_⟩, fun t a s h => ⟨fun hh ho => ?_, fun hh => ?_⟩,
    fun t sub v a s h1 h8 hv h => ⟨fun hh => ?_, fun hh => ?_⟩, fun t v a s h h0 h1 h2 hh hs => ?_, fun t v a s h => ?_,
    fun t v a s h hw => ?_, fun t a s h => ?_, fun t v a s h => ?_⟩
  · have k := fun n => State.haltSet_keepsCount (s := { s.advance t with net := n }) hh
    exact does_ownerWrite_of_keepsCore (f := State.haltSet) rfl h (fun n => State.ownerWrite_haltSet _ _)
      (fun n => (State.modCal_keepsCore _ _).trans (k n).core)
      (fun n m => ⟨(k n).halt, (k n).step, (k n).f, (k n).haltAt, (k n).offset⟩)
  · have e := fun n => State.haltSet_again (s := { s.advance t with net := n }) hh
    exact does_ownerWrite_of_keepsCore (f := id) rfl h (fun n => (State.ownerWrite_haltSet _ _).trans (by rw [e]; rfl)) (fun n => .refl _)
      (fun n m => rfl)
  · have k := fun n => State.haltClear_keepsCount (s := { s.advance t with net := n }) hh ho
    exact does_ownerWrite_of_keepsCore (f := State.haltClear) rfl h (fun n => State.ownerWrite_haltClear _ _)
      (fun n => (State.modCal_keepsCore _ _).trans (k n).core)
      (fun n m => ⟨(k n).halt, (k n).valid, (k n).f, (k n).since, (k n).offset⟩)
  · have e := fun n => State.haltClear_again (s := { s.advance t with net := n }) hh
    exact does_ownerWrite_of_keepsCore (f := id) rfl h (fun n => (State.ownerWrite_haltClear _ _).trans (by rw [e]; rfl)) (fun n => .refl _)
      (fun n m => rfl)
  · have e := fun n => State.calField_halted (s := { s.advance t with net := n }) sub v hh
    refine does_ownerWrite_of_keepsCore (f := fun x => x.modCal (fun c => { c with f := c.f.written sub v })) (writeCmd_of_unit ⟨h1, h8⟩ ..) h
      (fun n => (State.ownerWrite_calField _ _ _ hv).trans (by rw [e])) (fun n => State.modCal_keepsCore _ _) (fun n m => ⟨rfl, ?_⟩)
    refine ⟨?_, ?_, ?_, ?_, ?_, ?_, ?_, ?_⟩ <;> (intro he; subst he; rfl)
  · have e := fun n => State.calField_counting (s := { s.advance t with net := n }) sub v hh
    exact does_ownerWrite_of_keepsCore (f := State.calHostError) (writeCmd_of_unit ⟨h1, h8⟩ ..) h
      (fun n => (State.ownerWrite_calField _ _ _ hv).trans (by rw [e])) (fun n => ⟨rfl, rfl, rfl, rfl⟩) (fun n m => ⟨rfl, hh, rfl⟩)
  · exact does_ownerWrite_of_keepsCore (f := fun x => x.modCal (fun c => { c with step := some v })) rfl h
      (fun n => State.ownerWrite_offsetStep _ h0 h1 h2 hh hs) (fun n => State.modCal_keepsCore _ _) (fun n m => rfl)
  · exact does_storeCal (g := fun c => { c with alarmNew := some v }) rfl h (fun n => rfl)
  · exact does_storeCal (g := fun c => { c with wakeStart := (s.advance t).now }) rfl h (fun n => State.ownerWrite_wake _ hw)
  · exact does_ownerWrite_of_keepsCore
      (f := fun x => x.modCal (fun c => { c with almf := false, almskip := false, jumped := false })) rfl h
      (fun n => rfl) (fun n => State.modCal_keepsCore _ _) (fun n m => rfl)
  · obtain ⟨n, hn⟩ := (s.advance t).atOwner_eq a 0x6010 2 (leBytes 1 v) h.2
    refine does_write rfl rfl h (State.applyWrite_done (State.ownerWrite_timeSource _ _ _)) ?_ ?_ (fun m => ?_)
    · rw [hn]; rfl
    · rw [hn]
    · rw [hn]
      exact ⟨State.store_dict_congr (u := { s.advance t with net := n }) (v := s.advance t) rfl .., rfl, rfl, rfl, rfl, rfl, rfl⟩

end Machine
end Sys2Proof
end

section
/-! SUPPORT. Time synchronisation (R428–R431): what follows a measurement leaves of it, the PTP messages one by one, and the statement about
their commands. -/

namespace Sys2Proof
namespace Machine

/-! ## A measurement (R428–R430) -/

/-- The waiting commands, raw time and what a measurement is, with its message, are those of `s`. -/
structure KeepsMeasurement (s u : State) : Prop where
  pending : u.pending = s.pending
  raw : u.clk.raw = s.clk.raw
  syncs : u.sync.syncs = s.sync.syncs
  follows : u.sync.follows = s.sync.follows
  pend : u.sync.pend = s.sync.pend
  theta : u.sync.theta = s.sync.theta
  measured : u.sync.measured = s.sync.measured
  measurements : u.sync.measurements = s.sync.measurements
  lastMeas : u.sync.lastMeas = s.sync.lastMeas

namespace KeepsMeasurement

theorem refl (s : State) : KeepsMeasurement s s := ⟨rfl, rfl, rfl, rfl, rfl, rfl, rfl, rfl, rfl⟩

theorem trans {s u w : State} (h : KeepsMeasurement s u) (k : KeepsMeasurement u w) : KeepsMeasurement s w :=
  ⟨k.pending.trans h.pending, k.raw.trans h.raw, k.syncs.trans h.syncs, k.follows.trans h.follows, k.pend.trans h.pend,
    k.theta.trans h.theta, k.measured.trans h.measured, k.measurements.trans h.measurements, k.lastMeas.trans h.lastMeas⟩

theorem ite {s u v : State} {p : Prop} [Decidable p] (hu : KeepsMeasurement s u) (hv : KeepsMeasurement s v) :
    KeepsMeasurement s (if p then u else v) := by
  split
  · exact hu
  · exact hv

end KeepsMeasurement

theorem State.postTbase_keepsMeasurement (s : State) (c u : Nat) (a : List EvArg) : KeepsMeasurement s (s.post .tbase c u a) := by
  have hs := s.post_sync .tbase c u a
  exact ⟨s.post_pending .tbase c u a, congrArg Clk.raw (s.post_clk .tbase c u a), by rw [hs], by rw [hs], by rw [hs], by rw [hs], by rw [hs],
    by rw [hs], by rw [hs]⟩

theorem State.syncTo_keepsMeasurement (s : State) (n : Nat) (logged : Bool) : KeepsMeasurement s (s.syncTo n logged) := by
  have h : KeepsMeasurement s { s with sync := { s.sync with state := n, good := 0 } } := ⟨rfl, rfl, rfl, rfl, rfl, rfl, rfl, rfl, rfl⟩
  exact .ite (.refl s) (.ite (h.trans (State.postTbase_keepsMeasurement ..)) h)

/-- The state that a measurement enters leaves the measurement (R428). -/
theorem State.syncMeasured_keepsMeasurement (s : State) (θ : Int) : KeepsMeasurement s (s.syncMeasured θ) := by
  have hgood : ∀ k : Sync → Nat, KeepsMeasurement s (s.modSync (fun y => { y with good := k y })) :=
    fun _ => ⟨rfl, rfl, rfl, rfl, rfl, rfl, rfl, rfl, rfl⟩
  have hloss : KeepsMeasurement s (s.modSync (fun y => { y with losses := y.losses + 1 })) := ⟨rfl, rfl, rfl, rfl, rfl, rfl, rfl, rfl, rfl⟩
  unfold State.syncMeasured
  split
  · exact s.syncTo_keepsMeasurement ..
  · exact .ite (.ite (s.syncTo_keepsMeasurement ..) (hgood (·.good + 1))) (hgood fun _ => 0)
  · exact .ite (hloss.trans (State.syncTo_keepsMeasurement ..)) (.refl s)
  · exact s.syncTo_keepsMeasurement ..
  · exact .refl s

/-- A measurement as it is recorded (R429). -/
def State.recorded (s : State) (θ : Int) : State :=
  s.modSync (fun y => { y with theta := θ, measured := true, measurements := y.measurements + 1, lastMeas := s.now })

/-- A measurement is recorded; the step or the servo's update that follows, and the state entered, leave it (R428–R430). -/
theorem State.measure_keepsMeasurement {s : State} (θ : Int) (hn : s.nat 0x6010 2 ≠ 0) (h4 : s.sync.state ≠ 4) :
    KeepsMeasurement (s.recorded θ) (s.measure θ) := by
  unfold State.measure
  rw [if_neg (by simp [hn, h4])]
  extract_lets v
  have hv : ∀ x, KeepsMeasurement v x → KeepsMeasurement (s.recorded θ) (x.syncMeasured θ) := fun x h =>
    h.trans (x.syncMeasured_keepsMeasurement θ)
  refine hv _ (.ite (KeepsMeasurement.trans ?_ (State.postTbase_keepsMeasurement ..)) ?_)
  · exact ⟨rfl, rfl, rfl, rfl, rfl, rfl, rfl, rfl, rfl⟩
  · exact ⟨rfl, rfl, rfl, rfl, rfl, rfl, rfl, rfl, rfl⟩

/-! ## The messages (R431) -/

theorem State.source_of_ptpTaken {s : State} {m kind : Nat} {b : Octets} (h : s.ptpTaken m kind b = true) : s.nat 0x6010 2 = 1 := by
  simp only [State.ptpTaken, Bool.and_eq_true, decide_eq_true_eq] at h
  exact h.1.1.1.1.1

/-- A Sync of the selected master, counted. -/
def State.syncCounted (s : State) (b : Octets) : State :=
  s.modSync (fun y => { y with syncs := y.syncs + 1, interval := logNs (signed 8 (u8At b 33)) })

theorem State.ptpSync_taken {s : State} {m : Nat} {b : Octets} (ht : s.ptpTaken m 0 b = true) (hm : s.fromMaster b = true) :
    s.ptpSync m b = if bitOf (u8At b 6) 1 then
        (s.syncCounted b).modSync (fun y => { y with pend := some (be b 30 2, (s.clk.dev - ptpCorr b).toNat) })
      else (s.syncCounted b).ptpMeasure (ptpTime b 34 + ptpCorr b) s.clk.dev :=
  if_neg (by simp [ht, hm])

/-- The measurement of a message leaves what it records, from the state that the message leaves (R428, R431). -/
theorem State.ptpMeasure_keepsMeasurement {s : State} (t1 t2 : Int) (hn : s.nat 0x6010 2 ≠ 0) (h4 : s.sync.state ≠ 4) :
    KeepsMeasurement ((s.modSync (fun y => { y with t1 := t1.toNat, t2 := t2.toNat })).recorded (t1 + s.sync.pathDelay - t2))
      (s.ptpMeasure t1 t2) :=
  State.measure_keepsMeasurement (s := s.modSync (fun y => { y with t1 := t1.toNat, t2 := t2.toNat })) _ hn h4

/-- A Follow_Up to the Sync that waits for it is its measurement. -/
theorem State.ptpFollow_taken {s : State} {m t2 : Nat} {b : Octets} (ht : s.ptpTaken m 8 b = true) (hm : s.fromMaster b = true)
    (hp : s.sync.pend = some (be b 30 2, t2)) :
    s.ptpFollow m b = (s.modSync (fun y => { y with follows := y.follows + 1, pend := none })).ptpMeasure (ptpTime b 34 + ptpCorr b) t2 := by
  rw [State.ptpFollow, if_neg (by simp [ht, hm])]
  simp [hp]

/-- A Delay_Resp to the last Delay_Req gives the mean path delay. -/
theorem State.ptpResp_taken {s : State} {m t3 : Nat} {b : Octets} (ht : s.ptpTaken m 9 b = true) (hm : s.fromMaster b = true)
    (ho : slice b 44 10 = ownPort m) (hr : s.sync.req = some (be b 30 2, t3)) :
    s.ptpResp m b = s.modSync (fun y =>
      { y with resps := y.resps + 1, req := none, reqLog := signed 8 (u8At b 33),
               pathDelay := max 0 (rounding 29 (ratI (((y.t2 : Int) - y.t1) + (ptpTime b 34 - ptpCorr b - t3)) 2)) }) := by
  rw [State.ptpResp, if_neg (by simp [ht, hm, ho])]
  simp [hr]

/-- A change of the foreign masters keeps the list, and changes the synchronisation alone. -/
theorem State.selectMaster_spec (s : State) (l : List Foreign) :
    s.selectMaster l = { s with sync := (s.selectMaster l).sync } ∧ (s.selectMaster l).sync.foreign = l ∧
    (s.selectMaster l).sync.announces = s.sync.announces := by
  unfold State.selectMaster
  extract_lets m v
  split <;> exact ⟨rfl, rfl, rfl⟩

theorem State.selectMaster_keepsCore (s : State) (l : List Foreign) : KeepsCore s (s.selectMaster l) :=
  .ite (s.sync_keepsCore _) (s.sync_keepsCore _)

/-- A foreign master that an Announce has just entered. -/
def Foreign.entered (b : Octets) (now : Nat) : Foreign :=
  { id := ptpSource b, rank := announceRank b, last := now, interval := logNs (signed 8 (u8At b 33)), ready := false }

/-- The first Announce of a first master enters it. -/
theorem State.ptpAnnounce_first {s : State} {m : Nat} {b : Octets} (ht : s.ptpTaken m 11 b = true) (hf : s.sync.foreign = []) :
    s.ptpAnnounce m b = (s.modSync (fun y => { y with announces := y.announces + 1 })).selectMaster [.entered b s.now] := by
  rw [State.ptpAnnounce, if_neg (by simp [ht])]
  simp [hf, Foreign.entered]
  rfl

/-- The state after a Delay_Req has left over MAC `m` (R431). -/
def State.delayRequested (s : State) (m : Nat) : State :=
  (s.modSync (fun y => { y with req := some (s.sync.reqNo, s.clk.dev), reqNo := (s.sync.reqNo + 1) % 65536, reqAt := some s.now })).emit
    (.ptp m 1 (delayReq (s.nat 0x6020 1) m s.sync.reqNo))

/-- What PTP_DELAY_REQ does on TBASE: a request that is due leaves. -/
def State.delayRequest (s : State) : State :=
  if s.nat 0x6010 2 = 1 ∧ s.nat 0x1102 1 < 2 ∧ s.sync.syncs ≠ 0 ∧ (s.sync.foreign.any (·.ready)) ∧ s.delayReqDue then
    s.delayRequested (s.nat 0x1102 1)
  else s

theorem exec_ptpDelayReq (t : Nat) (s : State) : exec (.ptpDelayReq t) s = onIsland .tbase t s State.delayRequest := rfl

theorem State.syncTo_entered {s : State} {n : Nat} (logged : Bool) (h : s.sync.state ≠ n) :
    (s.syncTo n logged).sync = { s.sync with state := n, good := 0 } := by
  unfold State.syncTo
  extract_lets old v
  rw [if_neg h]
  split
  · exact State.post_sync ..
  · rfl

/-- Settles O33, message by message, and the three time limits. -/
theorem synchronisationCommands : Obligations.SynchronisationCommands := by
  unfold Obligations.SynchronisationCommands
  refine ⟨fun t m b s hm hl ht hf h4 => ⟨fun hb => ?_, fun hb => ?_⟩, fun t m t2 b s hm hl ht hf h4 hp => ?_,
    fun t m s hl hn h1 hm hs hr hd => ?_, fun t m t3 b s hm hl ht hf ho hr => ?_, fun t m b s hm hl ht hf => ?_, fun t s hl => ?_,
    fun t s hl hs hd => ?_, fun t e s hl he hd => ?_⟩
  · have hn := State.source_of_ptpTaken ht
    have k := State.ptpMeasure_keepsMeasurement (s := (s.advance t).syncCounted b) (ptpTime b 34 + ptpCorr b) (s.advance t).clk.dev
      (show s.nat 0x6010 2 ≠ 0 by omega) h4
    refine does_onUnit_eq rfl (decide_eq_true hm) hl ((State.ptpSync_taken (s := s.advance t) ht hf).trans (if_neg (by simp [hb])))
      k.pending k.raw ⟨k.syncs, k.measurements, k.measured, k.theta, k.lastMeas⟩
  · exact does_onUnit_eq rfl (decide_eq_true hm) hl ((State.ptpSync_taken (s := s.advance t) ht hf).trans (if_pos hb))
      rfl rfl ⟨rfl, rfl, rfl, rfl⟩
  · have hn := State.source_of_ptpTaken ht
    have k := State.ptpMeasure_keepsMeasurement
      (s := (s.advance t).modSync (fun y => { y with follows := y.follows + 1, pend := none })) (ptpTime b 34 + ptpCorr b) t2
      (show s.nat 0x6010 2 ≠ 0 by omega) h4
    exact does_onUnit_eq rfl (decide_eq_true hm) hl (State.ptpFollow_taken (s := s.advance t) ht hf hp) k.pending k.raw
      ⟨k.follows, k.pend, k.measurements, k.theta⟩
  · subst h1
    exact does_onIsland_eq (exec_ptpDelayReq t s) hl (if_pos ⟨hn, hm, hs, hr, hd⟩) rfl rfl ⟨rfl, rfl, rfl⟩
  · exact does_onUnit_eq rfl (decide_eq_true hm) hl (State.ptpResp_taken (s := s.advance t) ht hf ho hr) rfl rfl ⟨rfl, rfl, rfl, rfl⟩
  · let v := (s.advance t).modSync (fun y => { y with announces := y.announces + 1 })
    obtain ⟨he, hl', ha⟩ := v.selectMaster_spec [.entered b v.now]
    have k := v.selectMaster_keepsCore [.entered b v.now]
    exact does_onUnit_eq rfl (decide_eq_true hm) hl (State.ptpAnnounce_first (s := s.advance t) ht hf) k.pending (congrArg Clk.raw k.clk)
      ⟨he, ha, hl'⟩
  · let v := s.advance t
    have k := v.selectMaster_keepsCore (v.sync.foreign.filter (fun f => decide (v.now < f.last + 3 * f.interval)))
    obtain ⟨he, hl', _⟩ := v.selectMaster_spec (v.sync.foreign.filter (fun f => decide (v.now < f.last + 3 * f.interval)))
    exact does_onIsland_eq rfl hl rfl k.pending (congrArg Clk.raw k.clk) ⟨he, hl'⟩
  · let v := (s.advance t).modSync (fun y => { y with losses := y.losses + b2n (decide (y.state = 2)) })
    have k := v.syncTo_keepsCore 3 true
    have e := v.syncTo_entered (n := 3) true (show s.sync.state ≠ 3 by omega)
    refine does_onIsland_eq rfl hl (if_pos (c := (_ ∨ _) ∧ _) ⟨.inr hs, hd⟩) k.pending (congrArg Clk.raw k.clk) ⟨?_, ?_, k.clk⟩
    · exact congrArg Sync.state e
    · exact (congrArg Sync.losses e).trans (by simp [v, hs, b2n])
  · refine does_onIsland_eq (i := .tbase) (u := { s.advance t with sync := { s.sync with lockWaitEnd := none } }) rfl hl ?_ rfl rfl rfl
    have hd' : e ≤ (s.advance t).now := hd
    simp only [State.advance_sync, he, if_pos hd', State.modSync_eq]

end Machine
end Sys2Proof
end

section
/-! SUPPORT. Redundancy messages (R439–R444, R447, R457, R458): what sending a message and losing the lease leave alone, which messages are
accepted, and the statement about them. -/

namespace Sys2Proof
namespace Machine

/-! ## What leaves the lease alone -/

/-- The core and the lease of `u` are those of `s`. -/
structure KeepsLease (s u : State) : Prop where
  core : KeepsCore s u
  lease : u.lease = s.lease

namespace KeepsLease

theorem refl (s : State) : KeepsLease s s := ⟨.refl s, rfl⟩

theorem trans {s u w : State} (h : KeepsLease s u) (k : KeepsLease u w) : KeepsLease s w := ⟨h.core.trans k.core, k.lease.trans h.lease⟩

theorem ite {s u v : State} {p : Prop} [Decidable p] (hu : KeepsLease s u) (hv : KeepsLease s v) : KeepsLease s (if p then u else v) := by
  split
  · exact hu
  · exact hv

theorem foldl {α : Type} {f : State → α → State} (h : ∀ s x, KeepsLease s (f s x)) (l : List α) (s : State) : KeepsLease s (l.foldl f s) :=
  foldl_of_step refl trans h l s

/-- What changes the network part alone leaves the lease. -/
theorem of_net {s u : State} (h : OnlyNet s u) : KeepsLease s u := by
  rw [h]
  exact ⟨⟨rfl, rfl, rfl, rfl⟩, rfl⟩

end KeepsLease

theorem State.setJport_keepsLease (s : State) (p : Nat) (v : JPort) : KeepsLease s (s.setJport p v) := ⟨⟨rfl, rfl, rfl, rfl⟩, rfl⟩

theorem State.jPut_keepsLease (s : State) (p : Nat) (f : JFrame) : KeepsLease s (s.jPut p f) :=
  (s.setJport_keepsLease p _).trans (.of_net (State.emit_net ..))

theorem State.jPump_keepsLease (p n : Nat) (s : State) : KeepsLease s (s.jPump p n) := by
  induction n generalizing s with
  | zero => exact .refl s
  | succ n ih =>
    unfold State.jPump
    extract_lets v
    split
    · exact .refl s
    · split
      · exact .refl s
      · exact ((s.setJport_keepsLease p _).trans (State.jPut_keepsLease ..)).trans (ih _)

theorem State.jSend_keepsLease (s : State) (p ftype : Nat) (b : Octets) : KeepsLease s (s.jSend p ftype b) :=
  .ite (.refl s) ((s.setJport_keepsLease p _).trans (State.jPump_keepsLease ..))

/-- A message that leaves on every path leaves the lease as it is (R439). -/
theorem State.redSend_keepsLease (s : State) (m : RedMsg) : KeepsLease s (s.redSend m) := by
  unfold State.redSend
  extract_lets b v
  have hv : KeepsLease s v := .ite ((s.jSend_keepsLease 3 3 b).trans (State.jSend_keepsLease ..)) (s.jSend_keepsLease 3 3 b)
  split
  · exact hv.trans (.of_net (State.sendCan_net ..))
  · exact hv

theorem State.post_keepsLease (s : State) (i : Island) (c u : Nat) (a : List EvArg) : KeepsLease s (s.post i c u a) :=
  ⟨s.post_keepsCore i c u a, s.post_lease i c u a⟩

theorem State.modCasc_keepsLease (s : State) (f : Cascade → Cascade) : KeepsLease s (s.modCasc f) := ⟨⟨rfl, rfl, rfl, rfl⟩, rfl⟩

theorem State.canLeaseLost_keepsLease (s : State) : KeepsLease s s.canLeaseLost :=
  .foldl (fun s _ => .of_net (s.modPort_net ..)) _ s

theorem State.abortJob_keepsLease (s : State) (c : Nat) : KeepsLease s (s.abortJob c) := by
  have hdrop : ∀ v : State, (v.dropOwner c).lease = v.lease := by
    intro v
    unfold State.dropOwner
    split <;> rfl
  have hstop : (s.stopJob c .aborted).lease = s.lease := by rw [State.stopJob_only]
  refine ⟨s.abortJob_keepsCore c, ?_⟩
  unfold State.abortJob
  split
  · exact (hdrop _).trans hstop
  · rfl

/-! ## A lease that is lost (R447) -/

/-- The lease as it is lost. -/
def Lease.lost (l : Lease) (next : Nat) : Lease :=
  { l with state := next, timer := 0, own := false, ownAt := none, solo := false, claim := none, handover := none, released := none,
           outbox := [], granted := false }

/-- A lost lease cancels what the holder sends and plans, and nothing of that touches the lease (R177, R367). -/
theorem State.leaseLost_keepsLease (s : State) (next : Nat) : KeepsLease (s.modLease (·.lost next)) (s.leaseLost next) := by
  unfold State.leaseLost
  extract_lets had v
  change KeepsLease v _
  exact .ite ((v.canLeaseLost_keepsLease.trans (State.abortJob_keepsLease _ 2)).trans (State.modCasc_keepsLease ..)) (.refl v)

/-! ## What lanes last said (R441) -/

/-- The waiting commands, the clock and what every lane last said, with its role, are those of `s`. -/
structure KeepsWords (s u : State) : Prop where
  pending : u.pending = s.pending
  clk : u.clk = s.clk
  last : ∀ x, (u.peer x).last = (s.peer x).last
  role : ∀ x, (u.peer x).role = (s.peer x).role
  msg : ∀ x, (u.peer x).msg = (s.peer x).msg

namespace KeepsWords

theorem refl (s : State) : KeepsWords s s := ⟨rfl, rfl, fun _ => rfl, fun _ => rfl, fun _ => rfl⟩

theorem trans {s u w : State} (h : KeepsWords s u) (k : KeepsWords u w) : KeepsWords s w :=
  ⟨k.pending.trans h.pending, k.clk.trans h.clk, fun x => (k.last x).trans (h.last x), fun x => (k.role x).trans (h.role x),
    fun x => (k.msg x).trans (h.msg x)⟩

theorem ite {s u v : State} {p : Prop} [Decidable p] (hu : KeepsWords s u) (hv : KeepsWords s v) : KeepsWords s (if p then u else v) := by
  split
  · exact hu
  · exact hv

theorem foldl {α : Type} {f : State → α → State} (h : ∀ s x, KeepsWords s (f s x)) (l : List α) (s : State) : KeepsWords s (l.foldl f s) :=
  foldl_of_step refl trans h l s

theorem of_lease {s u : State} (hp : u.pending = s.pending) (hc : u.clk = s.clk) (hl : u.lease.peers = s.lease.peers) : KeepsWords s u := by
  have hx : ∀ x, u.peer x = s.peer x := fun x => by rw [State.peer, State.peer, hl]
  exact ⟨hp, hc, fun x => by rw [hx], fun x => by rw [hx], fun x => by rw [hx]⟩

/-- A change of the lease that leaves the lanes' records leaves their words. -/
theorem of_modLease (s : State) {f : Lease → Lease} (h : ∀ l, (f l).peers = l.peers) : KeepsWords s (s.modLease f) :=
  .of_lease rfl rfl (h s.lease)

/-- So does a change of a lane's record that leaves what it said. -/
theorem of_modPeer (s : State) (x : Nat) {f : Peer16 → Peer16} (h : ∀ v, (f v).last = v.last ∧ (f v).role = v.role ∧ (f v).msg = v.msg) :
    KeepsWords s (s.modPeer x f) := by
  have hx : ∀ j, ((s.modPeer x f).peer j).last = (s.peer j).last ∧ ((s.modPeer x f).peer j).role = (s.peer j).role ∧
      ((s.modPeer x f).peer j).msg = (s.peer j).msg := by
    intro j
    rw [State.modPeer_peer]
    split
    · next e => exact e ▸ h _
    · exact ⟨rfl, rfl, rfl⟩
  exact ⟨rfl, rfl, fun j => (hx j).1, fun j => (hx j).2.1, fun j => (hx j).2.2⟩

end KeepsWords

theorem KeepsLease.keepsWords {s u : State} (h : KeepsLease s u) : KeepsWords s u :=
  .of_lease h.core.pending h.core.clk (congrArg Lease.peers h.lease)

theorem State.leaseLost_keepsWords (s : State) (next : Nat) : KeepsWords s (s.leaseLost next) := by
  have h : KeepsWords s (s.modLease (·.lost next)) := .of_modLease s fun _ => rfl
  exact h.trans (s.leaseLost_keepsLease next).keepsWords

theorem State.setCause_keepsWords (s : State) (b : Nat) (o : Bool) : KeepsWords s (s.setCause b o) :=
  .of_lease (s.setCause_pending b o) (s.setCause_clk b o) (congrArg Lease.peers (s.setCause_lease b o))

theorem State.post_keepsWords (s : State) (i : Island) (c u : Nat) (a : List EvArg) : KeepsWords s (s.post i c u a) :=
  (s.post_keepsLease i c u a).keepsWords

theorem State.refrainFor_keepsWords (s : State) (x l tR : Nat) : KeepsWords s (s.refrainFor x l tR) := .of_modLease s fun _ => rfl

theorem State.holderHeard_keepsWords (s : State) (m : RedMsg) : KeepsWords s (s.holderHeard m) := by
  unfold State.holderHeard
  split
  · exact .refl s
  · split
    · refine .trans ?_ (State.post_keepsWords ..)
      exact .trans (s.leaseLost_keepsWords 0) (State.refrainFor_keepsWords ..)
    · split
      · exact .of_modLease s fun _ => rfl
      · exact .refl s

theorem State.excludeLane_keepsWords (s : State) (x : Nat) : KeepsWords s (s.excludeLane x) := by
  unfold State.excludeLane
  split
  · exact .refl s
  · refine .trans ?_ (State.post_keepsWords ..)
    refine .trans ?_ (State.setCause_keepsWords ..)
    exact .of_modLease s fun _ => rfl

theorem State.countVotes_keepsWords (s : State) : KeepsWords s s.countVotes := by
  unfold State.countVotes
  split
  · exact .refl s
  · split
    · extract_lets both
      split
      · refine .trans (s.leaseLost_keepsWords 3) ?_
        exact .of_modLease _ fun _ => rfl
      · split
        · split
          · exact .refl s
          · exact .of_modLease s fun _ => rfl
        · next v _ _ =>
          have hv : KeepsWords s v := .ite (s.excludeLane_keepsWords _) (.refl s)
          exact .ite (hv.trans (v.excludeLane_keepsWords _)) hv
    · exact .refl s

theorem State.readmitLane_keepsWords (s : State) (x : Nat) : KeepsWords s (s.readmitLane x) := by
  unfold State.readmitLane
  extract_lets v
  have hv : KeepsWords s v := by
    refine .trans ?_ (.of_modPeer _ x fun _ => ⟨rfl, rfl, rfl⟩)
    exact .of_modLease s fun _ => rfl
  exact .ite (hv.trans (v.setCause_keepsWords ..)) hv

theorem State.followReadmit_keepsWords (s : State) (m : RedMsg) : KeepsWords s (s.followReadmit m) := by
  unfold State.followReadmit
  split
  · exact .refl s
  · exact .foldl State.readmitLane_keepsWords _ s

theorem State.sendGrant_keepsWords (s : State) (m : RedMsg) : KeepsWords s (s.sendGrant m) := by
  unfold State.sendGrant
  extract_lets v
  have hv : KeepsWords s v := by
    refine .trans (s.refrainFor_keepsWords m.lane m.l m.tR) ?_
    exact .of_modLease _ fun _ => rfl
  exact hv.trans (v.redSend_keepsLease _).keepsWords

/-- Whatever an accepted heartbeat brings about, what the lanes last said stays. -/
theorem State.heartbeat_keepsWords (s : State) (m : RedMsg) : KeepsWords s (s.heartbeat m) := by
  unfold State.heartbeat
  extract_lets v
  have hv : KeepsWords s v := ((s.holderHeard_keepsWords m).trans (State.followReadmit_keepsWords _ m)).trans (State.countVotes_keepsWords _)
  exact .ite (hv.trans (v.sendGrant_keepsWords m)) hv

/-! ## Which messages are accepted (R441) -/

/-- What a message of either kind, the one accepted and its second copy, leaves of its arrival over Jiest at its lane's record. -/
def Peer16.arrived (v : Peer16) (c : Nat) : Peer16 := { v with jiestAt := c, jiestLost := false, jiestHeard := true }

/-- The state after a message was accepted over Jiest, before its type acts. -/
def State.accepts (s : State) (m : RedMsg) : State :=
  (s.modPeer m.lane (·.arrived s.lease.cycle)).modPeer m.lane (·.take m s.lease.cycle)

theorem State.advance_redTagOk (s : State) (t : Nat) (m : RedMsg) : (s.advance t).redTagOk m = s.redTagOk m := rfl

theorem State.redAccept_stranger {s : State} {m : RedMsg} (h : s.mates.contains m.lane = false) : s.redAccept 0 m = (s, false) := by
  simp only [State.redAccept, h, Bool.false_eq_true, not_false_eq_true, true_or, if_true]

theorem State.redAccept_badTag {s : State} {m : RedMsg} (h : s.mates.contains m.lane = true) (ht : s.redTagOk m = false) :
    s.redAccept 0 m = ((s.modLease (fun l => { l with tagFails := l.tagFails + 1 })).post .house Code.redTagFail m.lane [], false) := by
  simp only [State.redAccept, h, ht, Bool.false_eq_true, not_true_eq_false, not_false_eq_true, Nat.zero_ne_one, false_and, or_self,
    if_true, if_false]

theorem State.redAccept_stale {s : State} {m : RedMsg} (h : s.mates.contains m.lane = true) (ht : s.redTagOk m = true)
    (hf : (s.peer m.lane).fresh m = false) :
    s.redAccept 0 m = (if (s.peer m.lane).last.contains m then s.modPeer m.lane (·.arrived s.lease.cycle) else s, false) := by
  simp only [State.redAccept, h, ht, hf, Bool.false_eq_true, not_true_eq_false, Nat.zero_ne_one, false_and, or_self, if_true, if_false, false_or]
  rfl

theorem State.redAccept_fresh {s : State} {m : RedMsg} (h : s.mates.contains m.lane = true) (ht : s.redTagOk m = true)
    (hf : (s.peer m.lane).fresh m = true) : s.redAccept 0 m = (s.accepts m, true) := by
  simp only [State.redAccept, h, ht, hf, not_true_eq_false, Nat.zero_ne_one, false_and, or_self, if_true, if_false, true_or]
  rfl

/-- What was accepted from a lane stands newest first; its words are those of the newest. -/
theorem State.accepts_peer (s : State) (m : RedMsg) :
    (s.accepts m).peer m.lane = ((s.peer m.lane).arrived s.lease.cycle).take m s.lease.cycle := by
  rw [State.accepts, State.modPeer_peer, if_pos rfl, State.modPeer_peer, if_pos rfl]

theorem Peer16.take_last_head (v : Peer16) (m : RedMsg) (c : Nat) : (v.take m c).last.head? = some m := by
  unfold Peer16.take
  extract_lets same
  change (if same then m :: v.last else [m]).head? = some m
  split <;> rfl

/-- A message below the last accepted one, or already accepted, is not new. -/
theorem Peer16.fresh_false {v : Peer16} {m n : RedMsg} {r : List RedMsg} (h : v.last = n :: r)
    (hm : m.boot < n.boot ∨ m.boot = n.boot ∧ m.cycle < n.cycle ∨ m ∈ n :: r) : v.fresh m = false := by
  rw [Peer16.fresh, h]
  rcases hm with hb | ⟨hb, hc⟩ | hin
  · have : ¬ n.boot < m.boot := by omega
    have : ¬ n.boot = m.boot := by omega
    simp [*]
  · have : ¬ n.boot < m.boot := by omega
    have : ¬ n.cycle ≤ m.cycle := by omega
    simp [*]
  · have : (n :: r).contains m = true := List.contains_iff_mem.mpr hin
    rw [this]
    exact Bool.and_false _

theorem Peer16.fresh_true {v : Peer16} {m : RedMsg}
    (h : ∀ n r, v.last = n :: r → (n.boot < m.boot ∨ n.boot = m.boot ∧ n.cycle ≤ m.cycle) ∧ m ∉ n :: r) : v.fresh m = true := by
  unfold Peer16.fresh
  split
  · rfl
  · next n r e =>
    obtain ⟨hb, hin⟩ := h n r e
    simp [hb, e, hin]

theorem State.redMessage_refused {s u : State} {p : Nat} {m : RedMsg} (hu : s.up = true) (h : s.redAccept p m = (u, false)) :
    s.redMessage p m = u := by
  simp only [State.redMessage, hu, h, not_true_eq_false, if_false, Bool.false_eq_true, not_false_eq_true, if_true]

theorem State.redMessage_heartbeat {s u : State} {p : Nat} {m : RedMsg} (hu : s.up = true) (h : s.redAccept p m = (u, true))
    (ht : m.type = 1) : s.redMessage p m = u.heartbeat m := by
  simp only [State.redMessage, hu, h, ht, not_true_eq_false, if_false]

/-- A redundancy message of the type its command names. -/
theorem onRed_does {c : Instr} {t k : Nat} {m : RedMsg} {s u : State} {P : State → Prop} (he : exec c s = onRed t 0 m k s)
    (hl : s.live .house t) (ht : m.type = k) (hu : (s.advance t).redMessage 0 m = u) (hp : u.pending = s.pending)
    (hr : u.clk.raw = (s.advance t).clk.raw) (h : P u) : Does c s P :=
  does_onIsland_eq he hl (by rw [if_pos ht, hu]) hp hr h

theorem State.post_wp (s : State) (i : Island) (c u : Nat) (a : List EvArg) (h : s.lostOf i = 0)
    (hr : s.hasRoom (.island i.num) = true) :
    ((s.post i c u a).queue (.island i.num)).wp = ((s.queue (.island i.num)).wp + 1) % 65536 := by
  rw [State.post, State.postE_room _ _ _ _ _ _ h hr, State.pushEv_wp _ _ _ _ _ _ hr]

/-- Settles O59: `State.redAccept` case by case (a stranger, a bad tag, a stale message, a new one); what an accepted heartbeat brings
about leaves what was accepted (`State.heartbeat_keepsWords`). -/
theorem messagesAccepted : Obligations.MessagesAccepted := by
  intro t m s hl hup ht
  refine ⟨fun hm => ?_, fun hm htag hlost hroom => ?_, fun n r hm htag hlast hold => ?_, fun hm htag hnew => ?_⟩
  · exact onRed_does rfl hl ht ((s.advance t).redMessage_refused hup (State.redAccept_stranger hm)) rfl rfl rfl
  · have ha := State.redAccept_badTag (s := s.advance t) hm ((s.advance_redTagOk t m).trans htag)
    refine onRed_does rfl hl ht (State.redMessage_refused hup ha) (State.post_keepsCore ..).pending
      (congrArg Clk.raw (State.post_keepsCore ..).clk) ⟨State.post_lease .., ?_⟩
    exact State.post_wp _ .house _ _ _ hlost hroom
  · have ha := State.redAccept_stale (s := s.advance t) hm ((s.advance_redTagOk t m).trans htag) (Peer16.fresh_false hlast hold)
    refine onRed_does rfl hl ht (State.redMessage_refused hup ha) ?_ ?_ ?_ <;> split
    · rfl
    · rfl
    · rfl
    · rfl
    · refine ⟨rfl, ?_, ?_⟩ <;> rw [State.modPeer_peer, if_pos rfl]
      · exact hlast
      · rfl
    · exact ⟨rfl, hlast, rfl⟩
  · have ha := State.redAccept_fresh (s := s.advance t) hm ((s.advance_redTagOk t m).trans htag) (Peer16.fresh_true hnew)
    have hk := ((s.advance t).accepts m).heartbeat_keepsWords m
    have hp := (s.advance t).accepts_peer m
    refine onRed_does rfl hl ht (State.redMessage_heartbeat hup ha ht) hk.pending (congrArg Clk.raw hk.clk) ⟨?_, ?_, ?_⟩
    · rw [hk.last, hp, Peer16.take_last_head]
    · rw [hk.role, hp]
      rfl
    · rw [hk.msg, hp]
      rfl

end Machine
end Sys2Proof
end

section
/-! SUPPORT. The lease (R440, R443, R444, R447): what its boundaries, grants, refrains, claims, its loss and its ends do, and the statement
about them. -/

namespace Sys2Proof
namespace Machine

/-! ## What touches the lease alone -/

/-- `u` differs from `s` in the lease alone. -/
def OnlyLease (s u : State) : Prop := u = { s with lease := u.lease }

namespace OnlyLease

theorem of_modLease (s : State) (f : Lease → Lease) : OnlyLease s (s.modLease f) := rfl

theorem of_modPeer (s : State) (x : Nat) (f : Peer16 → Peer16) : OnlyLease s (s.modPeer x f) := rfl

theorem trans {s u w : State} (h : OnlyLease s u) (k : OnlyLease u w) : OnlyLease s w := by
  obtain ⟨l, hl⟩ : ∃ l, u = { s with lease := l } := ⟨_, h⟩
  subst hl
  exact k

theorem pending {s u : State} (h : OnlyLease s u) : u.pending = s.pending := by rw [h]

theorem clk {s u : State} (h : OnlyLease s u) : u.clk = s.clk := by rw [h]

end OnlyLease

/-- As `does_onIsland_eq`, for what touches the lease alone. -/
theorem does_onIsland_of_onlyLease {c : Instr} {i : Island} {t : Nat} {s u : State} {f : State → State} {P : State → Prop}
    (he : exec c s = onIsland i t s f) (hl : s.live i t) (hu : f (s.advance t) = u) (ho : OnlyLease (s.advance t) u) (h : P u) :
    Does c s P :=
  does_onIsland_eq he hl hu ho.pending (congrArg Clk.raw ho.clk) h

/-- The state with other records of the lanes. -/
def State.withPeers (s : State) (p : Tab Peer16) : State := { s with lease := { s.lease with peers := p } }

/-- Accepting a message changes the lanes' records alone. -/
theorem State.accepts_eq (s : State) (m : RedMsg) : ∃ p, s.accepts m = s.withPeers p := ⟨_, rfl⟩

theorem State.accepts_msg (s : State) (m : RedMsg) : ((s.accepts m).peer m.lane).msg = some m := by
  rw [State.accepts_peer]
  rfl

theorem State.accepts_at (s : State) (m : RedMsg) : ((s.accepts m).peer m.lane).at_ = s.lease.cycle := by
  rw [State.accepts_peer]
  rfl

/-! ## Boundaries (R440) -/

/-- The lease after one redundancy cycle. -/
def Lease.nextCycle (l : Lease) : Lease := { l with cycle := (l.cycle + 1) % 4294967296, boundary := l.boundary + 1 }

/-- One boundary later the lease stands in its next cycle. -/
theorem State.modLease_nextCycle {s : State} {n : Nat} (hn : s.boundaryNo = s.lease.boundary + 1) (h1 : n = 1) :
    s.modLease (fun l => { l with cycle := (l.cycle + n) % 4294967296, boundary := s.boundaryNo }) = s.modLease Lease.nextCycle := by
  rw [State.modLease, hn, h1]
  rfl

theorem State.redBoundary_down {s : State} (hn : s.boundaryNo = s.lease.boundary + 1) (hu : s.up = false) :
    s.redBoundary = s.modLease Lease.nextCycle := by
  unfold State.redBoundary
  extract_lets n v
  have hv : v = s.modLease Lease.nextCycle := State.modLease_nextCycle hn (by omega)
  have hup : v.up = false := hv ▸ hu
  simp only [hup, Bool.false_eq_true, not_false_eq_true, or_true, if_true]
  exact hv

theorem State.redBoundary_single {s : State} (hn : s.boundaryNo = s.lease.boundary + 1) (hu : s.up = true) (h1 : s.single = true)
    (h2 : s.lease.state = 2) : s.redBoundary = (s.modLease Lease.nextCycle).loadTimer (s.now + s.leaseLoad) := by
  unfold State.redBoundary
  extract_lets n v
  have hn1 : n = 1 := by omega
  have hv : v = s.modLease Lease.nextCycle := State.modLease_nextCycle hn hn1
  have hup : v.up = true := hv ▸ hu
  have hone : v.single = true := hv ▸ h1
  have htwo : v.lease.state = 2 := hv ▸ h2
  simp only [hn1, hup, hone, htwo, Nat.one_ne_zero, not_true_eq_false, or_self, if_false, if_true]
  rw [hv]
  rfl

/-! ## Messages that are accepted -/

theorem State.redAccept_hears {s : State} {m : RedMsg} (h : s.hears m) : s.redAccept 0 m = (s.accepts m, true) := by
  obtain ⟨-, hm, ht, hf⟩ := h
  exact State.redAccept_fresh hm ht hf

theorem State.redMessage_request {s : State} {m : RedMsg} (h : s.hears m) (ht : m.type = 1) :
    s.redMessage 0 m = (s.accepts m).heartbeat m := State.redMessage_heartbeat h.1 (State.redAccept_hears h) ht

theorem State.redMessage_grant {s : State} {m : RedMsg} (h : s.hears m) (ht : m.type = 2) :
    s.redMessage 0 m = (s.accepts m).granted m := by
  simp only [State.redMessage, State.redAccept_hears h, h.1, ht, not_true_eq_false, if_false]

theorem State.redMessage_claim {s : State} {m : RedMsg} (h : s.hears m) (ht : m.type = 3) :
    s.redMessage 0 m = ((s.accepts m).holderHeard m).claimed m := by
  simp only [State.redMessage, State.redAccept_hears h, h.1, ht, not_true_eq_false, if_false]

theorem State.redMessage_release {s : State} {m : RedMsg} (h : s.hears m) (ht : m.type = 4) :
    s.redMessage 0 m = (s.accepts m).releaseHeard m := by
  simp only [State.redMessage, State.redAccept_hears h, h.1, ht, not_true_eq_false, if_false]

theorem State.hears_advance {s : State} {m : RedMsg} (h : s.hears m) (t : Nat) : (s.advance t).hears m := h

theorem bitOf_zero (n : Nat) : bitOf 0 n = false := by simp [bitOf]

/-! ## Grants heard (R443, R447) -/

theorem State.granted_claim {s : State} {m : RedMsg} {tq c : Nat} (hg : m.grantTo = s.lane) (hx : s.lease.excluded = 0)
    (hc : s.lease.claim = some (m.grant, tq, c)) (h1 : s.lease.state = 1) :
    s.granted m = (s.loadTimer (tq + s.leaseLoad)).becomeHolder 0 (s.lease.cycle + 1) := by
  simp only [State.granted, hg, hx, bitOf_zero, hc, h1, Bool.false_eq_true, ne_eq, not_true_eq_false, or_self, if_false, true_and, if_true]

theorem State.granted_renew {s : State} {m : RedMsg} (hg : m.grantTo = s.lane) (hx : s.lease.excluded = 0) (hc : s.lease.claim = none)
    (h2 : s.lease.state = 2) (hq : s.lease.req = m.grant) (hn : s.lease.granted = false) (ht : s.now < s.lease.timer) :
    s.granted m = (s.loadTimer (s.lease.reqAt + s.leaseLoad)).modLease (fun l => { l with granted := true }) := by
  simp only [State.granted, hg, hx, bitOf_zero, hc, h2, hq, hn, ht, Bool.false_eq_true, ne_eq, not_true_eq_false, not_false_eq_true, or_self,
    if_false, true_and, if_true]

/-! ## Requests and claims heard (R444) -/

theorem State.holderHeard_standby {s : State} (h : s.lease.state = 0) (m : RedMsg) : s.holderHeard m = s := by
  simp only [State.holderHeard, h, Nat.zero_ne_one, OfNat.zero_ne_ofNat, if_false, ite_self]

/-- With no lane excluded there is none to readmit. -/
theorem State.followReadmit_none {s : State} (h : s.lease.excluded = 0) (m : RedMsg) : s.followReadmit m = s := by
  have he : s.mates.filter (fun x => decide (x ≠ m.lane) && bitOf s.lease.excluded x && !bitOf m.exclude x) = [] := by
    simp [h, bitOf_zero]
  simp only [State.followReadmit, he, List.foldl_nil, ite_self]

/-- Votes change nothing where this lane names none and one of the two others names none (R457). -/
theorem State.countVotes_none {s : State} (h0 : s.lease.state = 0) (hv : s.lease.excludeVotes = 0) {x : Nat}
    (hx : s.mates.contains x = true) (he : (s.peer x).exclude = 0) : s.countVotes = s := by
  unfold State.countVotes
  split
  · rfl
  · split
    · next a b hm =>
      have hboth : (bitOf (s.peer a).exclude s.lane && bitOf (s.peer b).exclude s.lane) = false := by
        rw [hm] at hx
        have hab : x = a ∨ x = b := by simpa using hx
        rcases hab with rfl | rfl <;> simp [he, bitOf_zero]
      simp only [hboth, h0, hv, bitOf_zero, Bool.false_eq_true, and_false, false_and, if_false, OfNat.zero_ne_ofNat]
    · rfl

/-- An accepted heartbeat that changes nobody's lease and no votes. -/
theorem State.heartbeat_quiet {s : State} {m : RedMsg} (h0 : s.lease.state = 0) (hx : s.lease.excluded = 0) (hv : s.lease.excludeVotes = 0)
    (hm : s.mates.contains m.lane = true) (he : (s.peer m.lane).exclude = 0) :
    s.heartbeat m = if m.role = 2 ∧ m.req ≠ 0 ∧ s.mayGrant m.lane then s.sendGrant m else s := by
  simp only [State.heartbeat, State.holderHeard_standby h0, State.followReadmit_none hx, State.countVotes_none h0 hv hm he]

/-- The heartbeat of a lane that names nobody for exclusion, accepted on standby. -/
theorem State.heartbeat_accepted {s : State} {m : RedMsg} (h0 : s.lease.state = 0) (hx : s.lease.excluded = 0)
    (hv : s.lease.excludeVotes = 0) (hm : s.mates.contains m.lane = true) (he : m.exclude = 0) :
    (s.accepts m).heartbeat m =
      if m.role = 2 ∧ m.req ≠ 0 ∧ (s.accepts m).mayGrant m.lane then (s.accepts m).sendGrant m else s.accepts m := by
  have hex : ((s.accepts m).peer m.lane).exclude = 0 := by
    rw [State.accepts_peer]
    exact he
  obtain ⟨p, hp⟩ := s.accepts_eq m
  rw [hp] at hex ⊢
  exact State.heartbeat_quiet (s := s.withPeers p) h0 hx hv hm hex

theorem State.mayGrant_standby {s : State} {x : Nat} (h0 : s.lease.state = 0) (hx : s.lease.excluded = 0)
    (hr : s.refrainsOther x = false) : s.mayGrant x = true := by
  simp [State.mayGrant, h0, hx, hr, bitOf_zero]

/-- The lease after a grant to the sender of `m` left at `now` (R443). -/
def Lease.grants (l : Lease) (m : RedMsg) (now : Nat) : Lease :=
  { l with refrain := Tab.insert l.refrain m.lane (now + refrainNs m.l m.tR + l.g * l.tR * 1000), grantAt := now, sentGrant := true }

/-- What a grant leaves in the lease (R443): the refrain and its moment; the core and the lanes' records stay. -/
theorem State.sendGrant_keepsLease (s : State) (m : RedMsg) : KeepsLease (s.modLease (·.grants m s.now)) (s.sendGrant m) := by
  unfold State.sendGrant
  extract_lets v
  exact v.redSend_keepsLease _

theorem State.claimed_standby {s : State} {m : RedMsg} (h0 : s.lease.state = 0) (hg : s.mayGrant m.lane = true) :
    s.claimed m = s.sendGrant m := by
  simp only [State.claimed, h0, hg, Nat.zero_ne_one, ne_eq, not_false_eq_true, true_or, and_self, if_true, if_false]

/-- A claim accepted on standby, which may be granted, is granted. -/
theorem State.claim_accepted {s : State} {m : RedMsg} (h0 : s.lease.state = 0) (hg : (s.accepts m).mayGrant m.lane = true) :
    ((s.accepts m).holderHeard m).claimed m = (s.accepts m).sendGrant m := by
  obtain ⟨p, hp⟩ := s.accepts_eq m
  have h0' : (s.withPeers p).lease.state = 0 := h0
  rw [hp] at hg ⊢
  rw [State.holderHeard_standby h0', State.claimed_standby h0' hg]

/-! ## Releases (R443, R449) -/

/-- The state after a release was heard, before this lane may take the lease. -/
def State.releases (s : State) (x : Nat) : State :=
  (s.modLease (fun l => { l with refrain := Tab.erase l.refrain x })).modPeer x (fun v => { v with holderAt := none })

theorem State.releases_onlyLease (s : State) (x : Nat) : OnlyLease s (s.releases x) :=
  .trans (.of_modLease s _) (.of_modPeer ..)

theorem State.releases_refrain (s : State) (x : Nat) : Tab.find (s.releases x).lease.refrain x = none := Tab.find_erase_self ..

theorem State.releases_holderAt (s : State) (x : Nat) : ((s.releases x).peer x).holderAt = none := by
  rw [State.releases, State.modPeer_peer, if_pos rfl]

/-- What a release heard leaves: no refrain towards the releaser, its record without a lease, and, where it names another lane, nothing
to take. -/
theorem State.releaseHeard_spec (s : State) (m : RedMsg) : OnlyLease s (s.releaseHeard m) ∧
    Tab.find (s.releaseHeard m).lease.refrain m.lane = none ∧ ((s.releaseHeard m).peer m.lane).holderAt = none ∧
    (m.grantTo ≠ s.lane → (s.releaseHeard m).lease.released = s.lease.released) := by
  unfold State.releaseHeard
  extract_lets w
  have hw : OnlyLease s w := s.releases_onlyLease m.lane
  split
  · next h =>
    have hlane : w.lane = s.lane := by
      rw [hw]
      rfl
    exact ⟨hw.trans (.of_modLease w _), s.releases_refrain m.lane, s.releases_holderAt m.lane, fun hne => absurd (h.1.trans hlane) hne⟩
  · exact ⟨hw, s.releases_refrain m.lane, s.releases_holderAt m.lane, fun _ => rfl⟩

/-! ## The lease that ends (R447) -/

theorem State.leaseExpired_lease {s : State} (h2 : s.lease.state = 2) (h1 : s.single = false) (ht : s.lease.timer ≤ s.now) :
    s.leaseExpired.lease = { s.lease.lost 0 with expired := true, holderExpired := true, expiries := s.lease.expiries + 1 } ∧
    KeepsCore s s.leaseExpired := by
  have hk := s.leaseLost_keepsLease 0
  simp only [State.leaseExpired, h2, h1, ht, Bool.false_eq_true, not_false_eq_true, and_self, if_true]
  refine ⟨(State.post_lease ..).trans ?_, .trans ?_ (State.post_keepsCore ..)⟩
  · rw [State.modLease, hk.lease]
    rfl
  · exact ⟨hk.core.pending, hk.core.clk, hk.core.dev, hk.core.power⟩

/-- A lane whose `OWN` is low drives nothing (R449). -/
theorem State.drives_of_notOwn {s : State} (h : s.lease.own = false) : s.drives = false := by
  simp [State.drives, h]

/-! ## The statement's clauses -/

/-- A request or a claim of a lane that may be granted is granted, and the refrain starts (R443, R444). -/
theorem does_sendGrant {c : Instr} {t k : Nat} {m : RedMsg} {s : State} (he : exec c s = onRed t 0 m k s) (hl : s.live .house t)
    (hk : m.type = k) (hu : (s.advance t).redMessage 0 m = ((s.advance t).accepts m).sendGrant m) (h0 : s.lease.state = 0) :
    Does c s (fun u =>
      Tab.find u.lease.refrain m.lane = some ((s.advance t).now + refrainNs m.l m.tR + s.lease.g * s.lease.tR * 1000) ∧
      u.lease.state = 0 ∧ u.lease.sentGrant = true ∧ (u.peer m.lane).msg = some m) := by
  have hmsg := (s.advance t).accepts_msg m
  obtain ⟨p, hp⟩ := (s.advance t).accepts_eq m
  rw [hp] at hu hmsg
  have hg := ((s.advance t).withPeers p).sendGrant_keepsLease m
  refine onRed_does he hl hk hu hg.core.pending (congrArg Clk.raw hg.core.clk) ?_
  rw [State.peer, hg.lease]
  exact ⟨Tab.find_insert_self .., h0, rfl, hmsg⟩

theorem does_grant_of_claim {t tq c : Nat} {m : RedMsg} {s : State} (hl : s.live .house t) (hh : s.hears m) (ht : m.type = 2)
    (hg : m.grantTo = s.lane) (hx : s.lease.excluded = 0) (hc : s.lease.claim = some (m.grant, tq, c)) (h1 : s.lease.state = 1) :
    Does (.grant t 0 m []) s (fun u =>
      u = { s.advance t with lease := u.lease } ∧ u.lease.state = 2 ∧ u.lease.ownAt = some (s.lease.cycle + 1) ∧
      u.lease.timer = max s.lease.timer (tq + leaseNs s.lease.l s.lease.tR) ∧ u.lease.own = s.lease.own ∧
      u.lease.taken = s.lease.taken + 1) := by
  have hm := State.redMessage_grant (State.hears_advance hh t) ht
  obtain ⟨p, hp⟩ := (s.advance t).accepts_eq m
  rw [hp, State.granted_claim (s := (s.advance t).withPeers p) hg hx hc h1] at hm
  exact does_onIsland_eq rfl hl ((if_pos ht).trans hm) rfl rfl ⟨rfl, rfl, rfl, rfl, rfl, rfl⟩

theorem does_grant_of_renewal {t : Nat} {m : RedMsg} {s : State} (hl : s.live .house t) (hh : s.hears m) (ht : m.type = 2)
    (hg : m.grantTo = s.lane) (hx : s.lease.excluded = 0) (hc : s.lease.claim = none) (h2 : s.lease.state = 2)
    (hq : s.lease.req = m.grant) (hn : s.lease.granted = false) (htm : (s.advance t).now < s.lease.timer) :
    Does (.grant t 0 m []) s (fun u =>
      u = { s.advance t with lease := u.lease } ∧ u.lease.state = 2 ∧ u.lease.granted = true ∧
      u.lease.timer = max s.lease.timer (s.lease.reqAt + leaseNs s.lease.l s.lease.tR)) := by
  have hm := State.redMessage_grant (State.hears_advance hh t) ht
  obtain ⟨p, hp⟩ := (s.advance t).accepts_eq m
  rw [hp, State.granted_renew (s := (s.advance t).withPeers p) hg hx hc h2 hq hn htm] at hm
  exact does_onIsland_eq rfl hl ((if_pos ht).trans hm) rfl rfl ⟨rfl, h2, rfl, rfl⟩

theorem does_release {t : Nat} {m : RedMsg} {s : State} (hl : s.live .house t) (hh : s.hears m) (ht : m.type = 4) :
    Does (.release t 0 m) s (fun u =>
      u = { s.advance t with lease := u.lease } ∧ Tab.find u.lease.refrain m.lane = none ∧ (u.peer m.lane).holderAt = none ∧
      (m.grantTo ≠ s.lane → u.lease.released = s.lease.released)) := by
  have hm := State.redMessage_release (State.hears_advance hh t) ht
  obtain ⟨p, hp⟩ := (s.advance t).accepts_eq m
  rw [hp] at hm
  obtain ⟨ho, hrest⟩ := ((s.advance t).withPeers p).releaseHeard_spec m
  exact onRed_does rfl hl ht hm ho.pending (congrArg Clk.raw ho.clk) ⟨ho, hrest⟩

theorem does_leaseExpired {t : Nat} {s : State} (hl : s.live .tbase t) (h2 : s.lease.state = 2) (h1 : s.single = false)
    (htm : s.lease.timer ≤ (s.advance t).now) :
    Does (.leaseExpired t) s (fun u =>
      u.lease.state = 0 ∧ u.lease.own = false ∧ u.lease.timer = 0 ∧ u.lease.expiries = s.lease.expiries + 1 ∧ u.drives = false) := by
  obtain ⟨hlease, hk⟩ := State.leaseExpired_lease (s := s.advance t) h2 h1 htm
  have hown : (s.advance t).leaseExpired.lease.own = false := by rw [hlease]; rfl
  refine does_onIsland rfl hl hk.pending (congrArg Clk.raw hk.clk) ⟨?_, hown, ?_, ?_, State.drives_of_notOwn hown⟩ <;> rw [hlease] <;> rfl

/-- A claim unanswered for 3 cycles ends (R447). -/
theorem does_claimTimeout {t q tq c : Nat} {s : State} (hl : s.live .house t) (hc : s.lease.claim = some (q, tq, c))
    (h1 : s.lease.state = 1) (hcy : c + 3 ≤ s.lease.cycle) :
    Does (.claimTimeout t) s (fun u =>
      u = { s.advance t with lease := u.lease } ∧ u.lease.state = 0 ∧ u.lease.claim = none ∧ u.lease.timer = s.lease.timer) := by
  refine does_onIsland_eq (u := (s.advance t).modLease (fun l =>
    { l with state := 0, claim := none, resyncDone := l.resyncDone || (s.advance t).holderSeen.isNone })) rfl hl ?_ rfl rfl
    ⟨rfl, rfl, rfl, rfl⟩
  simp only [State.advance_lease, hc, h1, hcy, and_self, if_true]

/-- Settles O34, clause by clause, from the lemmas on boundaries, accepted messages, grants, releases and the end of a lease above. -/
theorem leaseCommands : Obligations.LeaseCommands := by
  refine ⟨fun t s hl hu h1 h2 hn => ?_, fun t s hl hu hn => ?_, fun t m s hl hh ht hg hx => ⟨fun tq c hc h1 => ?_, fun hc h2 hq hn htm => ?_⟩,
    fun t m s hl hh h0 hx hv he hr => ?_, fun t m s hl hh ht => does_release hl hh ht, fun t s hl h2 h1 htm => does_leaseExpired hl h2 h1 htm,
    fun t s hl => does_onIsland_eq rfl hl rfl rfl rfl rfl, fun t q tq c s hl hc h1 hcy => does_claimTimeout hl hc h1 hcy⟩
  · exact does_onIsland_eq rfl hl (State.redBoundary_single (s := s.advance t) hn hu h1 h2) rfl rfl ⟨rfl, rfl, rfl⟩
  · exact does_onIsland_eq rfl hl (State.redBoundary_down (s := s.advance t) hn hu) rfl rfl rfl
  · exact does_grant_of_claim hl hh ht hg hx hc h1
  · exact does_grant_of_renewal hl hh ht hg hx hc h2 hq hn htm
  · have hh' := State.hears_advance hh t
    have hm : ((s.advance t).accepts m).mayGrant m.lane = true := State.mayGrant_standby h0 hx hr
    have hb := State.heartbeat_accepted (s := s.advance t) h0 hx hv hh.2.1 he
    refine ⟨fun ht hrole hq => ?_, fun ht hrole => ?_, fun ht hrole => ?_⟩
    · exact does_sendGrant rfl hl ht ((State.redMessage_request hh' ht).trans (hb.trans (if_pos ⟨hrole, hq, hm⟩))) h0
    · have hq := (State.redMessage_request hh' ht).trans (hb.trans (if_neg fun h => hrole h.1))
      have hmsg := (s.advance t).accepts_msg m
      have hat := (s.advance t).accepts_at m
      obtain ⟨p, hp⟩ := (s.advance t).accepts_eq m
      rw [hp] at hq hmsg hat
      exact onRed_does rfl hl ht hq rfl rfl ⟨rfl, rfl, rfl, hmsg, hat⟩
    · have hc := State.claim_accepted (s := s.advance t) h0 hm
      obtain ⟨u, hu, hfind, hst, hsent, -⟩ := does_sendGrant (c := .claim t 0 m) rfl hl ht ((State.redMessage_claim hh' ht).trans hc) h0
      exact ⟨u, hu, hfind, hst, hsent⟩

end Machine
end Sys2Proof
end

section
/-! SUPPORT. Partners (R439, R453, R455, R456): losses noted, mirror content, the end of a resync, output vectors, and the statement about
them. -/

namespace Sys2Proof
namespace Machine

/-! ## Losses (R439) -/

/-- A record of a lane changed, and an event: what each leaves (R439). -/
theorem does_notePeer {c : Instr} {ok : Bool} {t x : Nat} {s : State} {f : State → State} {g : Peer16 → Peer16} {k : Nat} {a : List EvArg}
    {P : State → Prop} (he : exec c s = onUnit ok .house t s f) (ho : ok = true) (hl : s.live .house t)
    (hf : f (s.advance t) = ((s.advance t).modPeer x g).post .house k x a) (h : ∀ u, u.peer x = g (s.peer x) → P u) : Does c s P := by
  refine does_onUnit_of_keepsCore he ho hl hf (.trans (u := (s.advance t).modPeer x g) ⟨rfl, rfl, rfl, rfl⟩ (State.post_keepsCore ..))
    (h _ ?_)
  rw [State.peer, State.post_lease]
  exact (State.modPeer_peer ..).trans (if_pos rfl)

theorem does_redPathLost {t x : Nat} {s : State} (hx : x < 3) (hl : s.live .house t) (hm : s.mates.contains x = true)
    (hj : (s.peer x).jiestLost = false) (hc : (s.peer x).jiestAt + 3 ≤ s.lease.cycle) :
    Does (.redPathLost t x 0) s (fun u => (u.peer x).jiestLost = true ∧ (u.peer x).canLost = (s.peer x).canLost ∧
      (u.peer x).msg = (s.peer x).msg) := by
  refine does_notePeer (g := fun v => { v with jiestLost := true }) rfl (by simp [hx]) hl (k := Code.redPathLost) (a := [.u8 0])
    (if_neg ?_) fun u hu => by rw [hu]; exact ⟨rfl, rfl, rfl⟩
  change ¬ (¬ s.mates.contains x = true ∨ (s.peer x).jiestLost = true ∨ (0 = 1 ∧ _) ∨ s.lease.cycle < (s.peer x).jiestAt + 3)
  simp only [hm, hj, not_true_eq_false, Bool.false_eq_true, Nat.zero_ne_one, false_and, false_or]
  omega

theorem does_redPartnerLost {t x : Nat} {s : State} (hx : x < 3) (hl : s.live .house t) (hm : s.mates.contains x = true)
    (hj : (s.peer x).silent = false) (hc : (s.peer x).at_ + 3 ≤ s.lease.cycle) :
    Does (.redPartnerLost t x) s (fun u => (u.peer x).silent = true ∧ (u.peer x).silentSince = (s.advance t).now) := by
  refine does_notePeer (g := fun v => { v with silent := true, silentSince := (s.advance t).now }) rfl (by simp [hx]) hl
    (k := Code.redPartnerLost) (a := []) (if_neg ?_) fun u hu => by rw [hu]; exact ⟨rfl, rfl⟩
  change ¬ (¬ s.mates.contains x = true ∨ (s.peer x).silent = true ∨ s.lease.cycle < (s.peer x).at_ + 3)
  simp only [hm, hj, not_true_eq_false, Bool.false_eq_true, false_or]
  omega

/-! ## Mirror content (R453, R455) -/

/-- What arrives of the holder's content (R453): what waits is appended, the rest is applied as it comes. -/
def State.mirrorArrived (s : State) (l : List MirrorItem) : State :=
  (l.filter MirrorItem.atOnce).foldl State.mirrorItem (s.modLease (fun v => { v with inbox := v.inbox ++ l.filter (fun i => !i.atOnce) }))

theorem does_mirror {t x : Nat} {l : List MirrorItem} {s : State} {P : State → Prop} (hx : x < 3) (hl : s.live .house t)
    (hm : s.mates.contains x = true) (hu : s.up = true) (h2 : s.lease.state ≠ 2) (hh : s.holderSeen = some x)
    (hp : ((s.advance t).mirrorArrived l).pending = s.pending) (hr : ((s.advance t).mirrorArrived l).clk = (s.advance t).clk)
    (h : P ((s.advance t).mirrorArrived l)) : Does (.mirror t x l) s P :=
  does_onUnit_eq (u := (s.advance t).mirrorArrived l) rfl (by simp [hx]) hl (if_pos ⟨hu, hm, h2, hh⟩) hp (congrArg Clk.raw hr) h

theorem State.mirrorArrived_waiting (s : State) {l : List MirrorItem} (h : l.all (fun i => !i.atOnce) = true) :
    s.mirrorArrived l = s.modLease (fun v => { v with inbox := v.inbox ++ l }) := by
  have hno : l.filter MirrorItem.atOnce = [] := by simpa [List.filter_eq_nil_iff] using h
  have hall : l.filter (fun i => !i.atOnce) = l := List.filter_eq_self.mpr (List.all_eq_true.mp h)
  rw [State.mirrorArrived, hno, hall]
  rfl

theorem State.mirrorApply_empty {s : State} (h : s.lease.inbox = []) : s.mirrorApply = s := by
  have hi : s.modLease (fun l => { l with inbox := [] }) = s := by
    rw [State.modLease, ← h]
  simp only [State.mirrorApply, h, hi, List.isEmpty_nil, if_true]

/-! ## Output vectors (R456) -/

theorem two_le_length_filter_ne_range (n : Nat) : 2 ≤ ((List.range 3).filter (fun x => decide (x ≠ n))).length := by
  match n with
  | 0 | 1 | 2 => decide
  | n + 3 => simp [List.range_succ]

/-- A triplex position has at least two other lanes. -/
theorem State.two_le_mates {s : State} (h2 : s.lease.cfg = 2) (h1 : s.single = false) : 2 ≤ s.mates.length := by
  rw [State.mates, h1, h2]
  exact two_le_length_filter_ne_range s.lane

theorem State.mates_nodup (s : State) : s.mates.Nodup := by
  unfold State.mates
  split
  · exact List.nodup_nil
  · exact List.nodup_range.filter _

theorem State.admittedMates_all {s : State} (h : ∀ y, s.mates.contains y = true → bitOf s.lease.excluded y = false) :
    s.admittedMates = s.mates :=
  List.filter_eq_self.mpr fun y hy => by simp [h y (List.contains_iff_mem.mpr hy)]

/-- While the third lane's vector of this cycle is missing, a vector is kept and nothing is voted on (R456). -/
theorem State.voteHeard_kept {s : State} {x : Nat} {vec : List (Nat × Int)} (h2 : s.lease.cfg = 2) (h1 : s.single = false)
    (hu : s.up = true) (hm : s.mates.contains x = true) (hx : bitOf s.lease.excluded x = false) (h3 : s.lease.state ≠ 3)
    (hd : s.lease.resyncDone = true) (hf : bitOf (s.peer x).flags 2 = true) (hv : (s.peer x).vectorAt ≠ s.lease.cycle)
    (ho : ∀ y, y ≠ x → s.mates.contains y = true → bitOf s.lease.excluded y = false ∧ (s.peer y).vectorAt ≠ s.lease.cycle) :
    s.voteHeard x vec = s.modPeer x (fun v => { v with vector := vec, vectorAt := s.lease.cycle }) := by
  unfold State.voteHeard
  rw [if_neg (by simp [h2, h1, hu, List.contains_iff_mem.mp hm, hx, h3, hd, hf, hv])]
  extract_lets v
  have hpeer : ∀ y, y ≠ x → v.peer y = s.peer y := fun y hy => (State.modPeer_peer ..).trans (if_neg hy)
  have hmates : v.admittedMates = s.mates := by
    refine State.admittedMates_all (s := v) fun y hy => ?_
    by_cases e : y = x
    · exact e ▸ hx
    · exact (ho y e hy).1
  have hlate : ∀ y, y ≠ x → s.mates.contains y = true → (v.peer y).vectorAt ≠ v.lease.cycle := fun y hy hc => by
    rw [hpeer y hy]
    exact (ho y hy hc).2
  rw [hmates]
  split
  · next a b e =>
    refine if_neg fun hab => ?_
    have hne : a ≠ b := by simpa [e] using s.mates_nodup
    have hin : x = a ∨ x = b := by simpa [e] using hm
    rcases hin with rfl | rfl
    · exact hlate b hne.symm (by simp [e]) hab.2
    · exact hlate a hne (by simp [e]) hab.1
  · next a e =>
    have := State.two_le_mates h2 h1
    simp [e] at this
  · rfl

/-- Settles O35: losses by `does_notePeer`, mirror content by `does_mirror`, votes by `State.voteHeard_kept`. -/
theorem partnerCommands : Obligations.PartnerCommands := by
  refine ⟨fun t x s hx hl hm => ⟨?_, ?_, ?_, ?_, ?_⟩, fun t s hl h1 hd hh hi => ?_⟩
  · exact fun hj hc => does_redPathLost hx hl hm hj hc
  · exact fun hj hc => does_redPartnerLost hx hl hm hj hc
  · intro l hu h2 hh hall
    have ha := (s.advance t).mirrorArrived_waiting hall
    refine does_mirror hx hl hm hu h2 hh ?_ ?_ ?_ <;> rw [ha] <;> rfl
  · intro p c hu h2 hh
    exact does_mirror hx hl hm hu h2 hh rfl rfl ⟨rfl, rfl, List.append_nil _⟩
  · intro vec h2 h1 hu hx' h3 hd hf hv ho
    refine does_onUnit_eq rfl (by simp [hx]) hl (State.voteHeard_kept (s := s.advance t) h2 h1 hu hm hx' h3 hd hf hv ho) rfl rfl ⟨rfl, ?_, ?_⟩
    · rw [State.modPeer_peer, if_pos rfl]
    · rw [State.modPeer_peer, if_pos rfl]
      rfl
  · have hcond : ¬ (s.single = true ∨ s.lease.resyncDone = true ∨ s.holderSeen.isNone = true) := by
      cases hs : s.holderSeen <;> simp_all
    refine does_onIsland_eq rfl hl (if_neg hcond) ?_ ?_ ?_ <;> rw [State.mirrorApply_empty (s := s.advance t) hi] <;> rfl

end Machine
end Sys2Proof
end

section
/-! SUPPORT. Writes of alarms, subscriptions and shed counters (R516, R517, R527): what acknowledging, resetting, a new subscription and
clearing the counters leave in the ledger, and the statement about them. -/

namespace Sys2Proof
namespace Machine

/-! ## What touches the ledger alone -/

/-- `u` differs from `s` in the ledger alone. -/
def OnlyLedger (s u : State) : Prop := u = { s with ledger := u.ledger }

namespace OnlyLedger

theorem refl (s : State) : OnlyLedger s s := rfl

theorem of_setAlmRow (s : State) (n : Nat) (r : AlmRow) : OnlyLedger s (s.setAlmRow n r) := rfl

theorem of_setSub (s : State) (n : Nat) (v : Sub) : OnlyLedger s (s.setSub n v) := rfl

theorem trans {s u w : State} (h : OnlyLedger s u) (k : OnlyLedger u w) : OnlyLedger s w := by
  obtain ⟨l, hl⟩ : ∃ l, u = { s with ledger := l } := ⟨_, h⟩
  subst hl
  exact k

theorem foldl {α : Type} {f : State → α → State} (h : ∀ s x, OnlyLedger s (f s x)) (l : List α) (s : State) : OnlyLedger s (l.foldl f s) :=
  foldl_of_step refl trans h l s

theorem keepsCore {s u : State} (h : OnlyLedger s u) : KeepsCore s u := by
  rw [h]
  exact ⟨rfl, rfl, rfl, rfl⟩

/-- What touches the ledger alone differs from the state before a change of the network part in these two parts. -/
theorem with_net {s u : State} {n m : Net} {P : Ledger → Prop} (h : OnlyLedger { s with net := n } u) (hP : P u.ledger) :
    ({ u with net := m } : State) = { s with ledger := ({ u with net := m } : State).ledger, net := m } ∧
      P ({ u with net := m } : State).ledger := by
  obtain ⟨l, hl⟩ : ∃ l, u = { s with net := n, ledger := l } := ⟨_, h⟩
  subst hl
  exact ⟨rfl, hP⟩

end OnlyLedger

/-- A write whose owner touches the ledger alone. -/
theorem does_ownerWrite_of_onlyLedger {c : Instr} {t idx sub : Nat} {a : Acc} {b : Octets} {s : State} {f : State → State}
    {P : Ledger → Prop} (he : exec c s = writeCmd true t a idx sub b s) (h : s.mayWrite t a idx sub b)
    (hd : ∀ n, State.ownerWrite { s.advance t with net := n } a.ctx idx sub b = .done (f { s.advance t with net := n }))
    (ho : ∀ v, OnlyLedger v (f v)) (hP : ∀ n, P (f { s.advance t with net := n }).ledger) :
    Does c s (fun u => u = { s.advance t with ledger := u.ledger, net := u.net } ∧ P u.ledger) :=
  does_ownerWrite_of_keepsCore he h hd (fun _ => (ho _).keepsCore) fun n _ => (ho _).with_net (hP n)

/-! ## Alarm rows (R516) -/

/-- The rows of `s`, each changed by `g`. -/
def State.mapAlmRows (s : State) (g : AlmRow → AlmRow) : State :=
  s.ledger.alarms.foldl (fun (s : State) (e : Nat × AlmRow) => s.setAlmRow e.1 (g e.2)) s

theorem State.mapAlmRows_onlyLedger (s : State) (g : AlmRow → AlmRow) : OnlyLedger s (s.mapAlmRows g) :=
  .foldl (f := fun (s : State) (e : Nat × AlmRow) => s.setAlmRow e.1 (g e.2)) (fun s e => .of_setAlmRow s e.1 (g e.2)) _ s

theorem Tab.get_of_not_mem_keys {α : Type} (d : α) {m : Tab α} {k : Nat} (h : k ∉ m.map (·.1)) : Tab.get d m k = d := by
  induction m with
  | nil => rfl
  | cons e r ih =>
    obtain ⟨i, v⟩ := e
    simp only [List.map_cons, List.mem_cons, not_or] at h
    simp only [Tab.get, Ne.symm h.1, if_false]
    exact ih h.2

/-- What `g` brings about in every row it changes holds of each row the list names, and of those of which it held before. -/
theorem almRow_foldl {P : AlmRow → Prop} {g : AlmRow → AlmRow} (hg : ∀ r, P (g r)) (l : List (Nat × AlmRow)) (s : State) {j : Nat}
    (h : j ∈ l.map (·.1) ∨ P (s.almRow j)) :
    P ((l.foldl (fun (s : State) (e : Nat × AlmRow) => s.setAlmRow e.1 (g e.2)) s).almRow j) := by
  induction l generalizing s with
  | nil => simpa using h
  | cons e r ih =>
    refine ih (s.setAlmRow e.1 (g e.2)) ?_
    rw [State.setAlmRow_almRow]
    by_cases hj : j = e.1
    · exact .inr (by rw [if_pos hj]; exact hg _)
    · rw [if_neg hj]
      simpa [hj] using h

/-- What `g` brings about, and what holds of a row never used, holds of every row. -/
theorem State.mapAlmRows_alarms {P : AlmRow → Prop} {g : AlmRow → AlmRow} (hg : ∀ r, P (g r)) (h0 : P {}) (s : State) (j : Nat) :
    P (Tab.get {} (s.mapAlmRows g).ledger.alarms j) := by
  refine almRow_foldl hg _ s ?_
  by_cases hj : j ∈ s.ledger.alarms.map (·.1)
  · exact .inl hj
  · right
    rw [State.almRow, Tab.get_of_not_mem_keys _ hj]
    exact h0

/-- The octets of an acknowledgement. -/
def ackOctets (src n : Nat) : Octets := leBytes 2 src ++ leBytes 4 n

theorem u16At_ackOctets {src : Nat} (n : Nat) (h : src < 65536) : u16At (ackOctets src n) 0 = src := by
  have hs : slice (ackOctets src n) 0 2 = leBytes 2 src := List.take_left' (leBytes_length 2 src)
  rw [u16At, hs, leNat_leBytes 2 src h]

theorem u32At_ackOctets {n : Nat} (src : Nat) (h : n < 4294967296) : u32At (ackOctets src n) 2 = n := by
  have hd : (ackOctets src n).drop 2 = leBytes 4 n := List.drop_left' (leBytes_length 2 src)
  have hs : slice (ackOctets src n) 2 4 = leBytes 4 n := by
    rw [slice, hd]
    exact List.take_of_length_le (leBytes_length 4 n).le
  rw [u32At, hs, leNat_leBytes 4 n h]

/-- A row acknowledged. -/
def AlmRow.acked (r : AlmRow) : AlmRow := { r with sticky := false }

/-- The state with the acknowledgement noted. -/
def State.noteAck (s : State) (b : Octets) : State := { s with ledger := { s.ledger with lastAck := b } }

theorem State.alarmAck_row {s : State} {src n : Nat} (hs : src < 0x1000) (hn : n < 4294967296) (hc : (s.almRow src).count = n) :
    s.alarmAck (ackOctets src n) = .done ((s.setAlmRow src (s.almRow src).acked).noteAck (ackOctets src n)) := by
  have h1 : ¬ src = 0xFFFF := by omega
  have h2 : ¬ 0x1000 ≤ src := by omega
  simp only [State.alarmAck, u16At_ackOctets n (show src < 65536 by omega), u32At_ackOctets src hn]
  rw [if_neg h1, if_neg h2, if_neg (not_not.mpr hc)]
  rfl

theorem State.alarmAck_all (s : State) : s.alarmAck (ackOctets 0xFFFF 0) = .done ((s.mapAlmRows AlmRow.acked).noteAck (ackOctets 0xFFFF 0)) := rfl

theorem State.alarmReset_row {s : State} {src : Nat} (hs : src < 0x1000) :
    s.alarmReset src = .done (s.setAlmRow src (s.almRow src).cleared) := by
  have h1 : ¬ src = 0xFFFF := by omega
  have h2 : ¬ 0x1000 ≤ src := by omega
  rw [State.alarmReset, if_neg h1, if_neg h2]

theorem State.alarmReset_all (s : State) : s.alarmReset 0xFFFF = .done (s.mapAlmRows AlmRow.cleared) := rfl

theorem State.noteAck_onlyLedger (s : State) (b : Octets) : OnlyLedger s (s.noteAck b) := rfl

theorem State.ownerWrite_alarmReset {s : State} (c : Nat) {src : Nat} (hs : src < 0x1000) :
    s.ownerWrite c 0x6C10 5 (leBytes 2 src) = .done (s.setAlmRow src (s.almRow src).cleared) := by
  have hw : s.ownerWrite c 0x6C10 5 (leBytes 2 src) = s.alarmReset (leNat (leBytes 2 src)) := rfl
  rw [hw, leNat_leBytes 2 src (by omega), State.alarmReset_row hs]

/-! ## Shed counters (R527) -/

/-- A subscription whose counters start again. -/
def Sub.shed (u : Sub) : Sub :=
  { u with sentAlarms := 0, coalesced := 0, waits := 0, logCoalesced := 0, lostLog := 0, lostTrace := 0, gaps := 0 }

theorem sub_foldl {P : Sub → Prop} {g : Sub → Sub} (hg : ∀ v, P (g v)) (l : List Nat) (s : State) {j : Nat} (h : j ∈ l ∨ P (s.sub j)) :
    P (Tab.get {} (l.foldl (fun s n => s.setSub n (g (s.sub n))) s).ledger.subs j) := by
  induction l generalizing s with
  | nil => simpa [State.sub] using h
  | cons n r ih =>
    refine ih (s.setSub n (g (s.sub n))) ?_
    rw [State.setSub_sub]
    by_cases hj : j = n
    · exact .inr (by rw [if_pos hj]; exact hg _)
    · rw [if_neg hj]
      simpa [hj] using h

theorem State.shedClear_onlyLedger (s : State) : OnlyLedger s s.shedClear :=
  .trans (u := { s with ledger := { s.ledger with evLost := 0, gapReads := 0 } }) rfl (.foldl (fun s n => .of_setSub s n _) _ _)

theorem shed_foldl_counts (g : Sub → Sub) (l : List Nat) (s : State) :
    (l.foldl (fun s n => s.setSub n (g (s.sub n))) s).ledger.evLost = s.ledger.evLost ∧
    (l.foldl (fun s n => s.setSub n (g (s.sub n))) s).ledger.gapReads = s.ledger.gapReads := by
  induction l generalizing s with
  | nil => exact ⟨rfl, rfl⟩
  | cons n r ih => exact ih (s.setSub n (g (s.sub n)))

theorem State.shedClear_counts (s : State) : s.shedClear.ledger.evLost = 0 ∧ s.shedClear.ledger.gapReads = 0 :=
  shed_foldl_counts Sub.shed _ _

theorem State.ownerWrite_shedClear (s : State) (c : Nat) : s.ownerWrite c 0x6C20 2 [1] = .done s.shedClear := rfl

theorem State.shedClear_ledger (s : State) : s.shedClear.ledger.evLost = 0 ∧ s.shedClear.ledger.gapReads = 0 ∧
    ∀ n, n < 8 → (Tab.get {} s.shedClear.ledger.subs n).coalesced = 0 ∧ (Tab.get {} s.shedClear.ledger.subs n).lostLog = 0 ∧
      (Tab.get {} s.shedClear.ledger.subs n).lostTrace = 0 ∧ (Tab.get {} s.shedClear.ledger.subs n).gaps = 0 :=
  ⟨s.shedClear_counts.1, s.shedClear_counts.2, fun _ hn =>
    sub_foldl (P := fun v => v.coalesced = 0 ∧ v.lostLog = 0 ∧ v.lostTrace = 0 ∧ v.gaps = 0) (g := Sub.shed)
      (fun _ => ⟨rfl, rfl, rfl, rfl⟩) (List.range 8) { s with ledger := { s.ledger with evLost := 0, gapReads := 0 } }
      (.inl (List.mem_range.mpr hn))⟩

/-! ## Subscriptions (R517) -/

/-- The subscription a record gives. -/
def Sub.given (u : Sub) (b : Octets) (dirty : List Nat) (now : Nat) : Sub :=
  { u with
    path := u8At b 0, content := u8At b 1, islands := u16At b 2, dest := u32At b 4, port := u16At b 8, almRate := u16At b 10,
    burst := u8At b 12, coalesce := u8At b 13, pathRate := u32At b 14, dirty := dirty, hold := none, gather := [],
    tokens := u8At b 12 * 1000000000, since := now, credit := 0, logLost := 0, logFirstLost := 0, traceLost := 0 }

theorem State.flushQ_eq (s : State) (q : QId) : ∃ n d, s.flushQ q = { s with net := n, draws := d } := ⟨_, _, rfl⟩

/-- A subscription that takes effect: its record stands, and its queues are flushed. -/
theorem State.subApply_spec (s : State) (n : Nat) (b : Octets) : KeepsCore s (s.subApply n b) ∧ (s.subApply n b).dict = s.dict ∧
    ∃ d, (s.subApply n b).sub n = (s.sub n).given b d s.now := by
  unfold State.subApply
  extract_lets u v
  obtain ⟨n₁, d₁, h₁⟩ := v.flushQ_eq (.logq n)
  obtain ⟨n₂, d₂, h₂⟩ := (v.flushQ (.logq n)).flushQ_eq (.traceq n)
  rw [h₂, h₁]
  exact ⟨⟨rfl, rfl, rfl, rfl⟩, rfl, (s.ledger.alarms.filter (fun e => e.2.sticky)).map (·.1), (State.setSub_sub s n n _).trans (if_pos rfl)⟩

theorem State.ownerWrite_subscription {s : State} (c : Nat) {n : Nat} {b : Octets} (hn : n < 8) (hb : subOk b = true) :
    s.ownerWrite c 0x6C00 (0x10 + n) b = .done ((s.store 0x6C00 (0x10 + n) b).subApply n b) := by
  have hw : s.ownerWrite c 0x6C00 (0x10 + n) b = s.logWrite c 0x6C00 (0x10 + n) b := rfl
  have h2 : ¬ 0x10 + n = 2 := by omega
  have hr : 0x10 ≤ 0x10 + n ∧ 0x10 + n < 0x18 := by omega
  have hs : s.subWrite n b = .done ((s.store 0x6C00 (0x10 + n) b).subApply n b) := if_pos hb
  have hl : s.logWrite c 0x6C00 (0x10 + n) b = s.subWrite (0x10 + n - 0x10) b := by
    unfold State.logWrite
    rw [if_pos rfl, if_neg h2, if_pos hr]
  rw [hw, hl, Nat.add_sub_cancel_left, hs]

theorem State.sub_withNet (s : State) (m : Net) (n : Nat) : State.sub { s with net := m } n = s.sub n := rfl

theorem does_subscription {t n : Nat} {v : Octets} {a : Acc} {s : State} (hn : n < 8) (h : s.mayWrite t a 0x6C00 (0x10 + n) v)
    (hv : subOk v = true) :
    Does (.subscription t a n v) s (fun u =>
      u.dict = ((s.advance t).store 0x6C00 (0x10 + n) v).dict ∧ (u.sub n).path = u8At v 0 ∧ (u.sub n).content = u8At v 1 ∧
      (u.sub n).islands = u16At v 2 ∧ (u.sub n).dest = u32At v 4 ∧ (u.sub n).almRate = u16At v 10 ∧ (u.sub n).burst = u8At v 12 ∧
      (u.sub n).tokens = u8At v 12 * 1000000000 ∧ (u.sub n).logLost = 0 ∧ (u.sub n).hold = none) := by
  refine does_ownerWrite_of_keepsCore (f := fun s => (s.store 0x6C00 (0x10 + n) v).subApply n v) (writeCmd_of_unit hn ..) h
    (fun c => State.ownerWrite_subscription a.ctx hn hv) (fun c => ?_) fun c m => ?_
  · refine .trans ?_ (State.subApply_spec ..).1
    rw [State.store_only]
    exact ⟨rfl, rfl, rfl, rfl⟩
  · obtain ⟨-, hd, d, hs⟩ := (State.store { s.advance t with net := c } 0x6C00 (0x10 + n) v).subApply_spec n v
    refine ⟨hd.trans (State.store_dict_congr (u := { s.advance t with net := c }) (v := s.advance t) rfl ..), ?_⟩
    rw [State.sub_withNet, hs]
    exact ⟨rfl, rfl, rfl, rfl, rfl, rfl, rfl, rfl, rfl⟩

/-- Settles O46: acknowledging and resetting change rows of the ledger alone (`OnlyLedger`), a subscription by `does_subscription`, the
counters by `State.shedClear_counts` and `State.shedClear_sub`. -/
theorem alarmWrites : Obligations.AlarmWrites := by
  refine ⟨fun t src n a s hs hn h hc => ?_, fun t a s h => ?_, fun t src a s hs h => ?_, fun t a s h => ?_,
    fun t n v a s hn h hv => does_subscription hn h hv, fun t a s h => ?_⟩
  · exact does_ownerWrite_of_onlyLedger (f := fun v => (v.setAlmRow src (v.almRow src).acked).noteAck (ackOctets src n))
      (P := fun l => l.lastAck = ackOctets src n ∧ Tab.get {} l.alarms src = (s.almRow src).acked ∧
        ∀ j, j ≠ src → Tab.get {} l.alarms j = s.almRow j) rfl h
      (fun m => State.alarmAck_row (s := { s.advance t with net := m }) hs hn hc)
      (fun v => (OnlyLedger.of_setAlmRow ..).trans (State.noteAck_onlyLedger ..))
      fun m => ⟨rfl, (State.setAlmRow_almRow ..).trans (if_pos rfl), fun j hj => (State.setAlmRow_almRow ..).trans (if_neg hj)⟩
  · exact does_ownerWrite_of_onlyLedger (f := fun v => (v.mapAlmRows AlmRow.acked).noteAck (ackOctets 0xFFFF 0))
      (P := fun l => ∀ j, (Tab.get {} l.alarms j).sticky = false) rfl h
      (fun m => State.alarmAck_all { s.advance t with net := m })
      (fun v => (v.mapAlmRows_onlyLedger _).trans (State.noteAck_onlyLedger ..))
      fun m j => State.mapAlmRows_alarms (P := fun r => r.sticky = false) (g := AlmRow.acked) (fun _ => rfl) rfl { s.advance t with net := m } j
  · exact does_ownerWrite_of_onlyLedger (f := fun v => v.setAlmRow src (v.almRow src).cleared)
      (P := fun l => Tab.get {} l.alarms src = (s.almRow src).cleared ∧ ∀ j, j ≠ src → Tab.get {} l.alarms j = s.almRow j) rfl h
      (fun m => State.ownerWrite_alarmReset a.ctx hs) (fun v => .of_setAlmRow ..)
      fun m => ⟨(State.setAlmRow_almRow ..).trans (if_pos rfl), fun j hj => (State.setAlmRow_almRow ..).trans (if_neg hj)⟩
  · exact does_ownerWrite_of_onlyLedger (f := fun v => v.mapAlmRows AlmRow.cleared)
      (P := fun l => ∀ j, (Tab.get {} l.alarms j).count = 0) rfl h (fun m => State.alarmReset_all { s.advance t with net := m })
      (fun v => v.mapAlmRows_onlyLedger _)
      fun m j => State.mapAlmRows_alarms (P := fun r => r.count = 0) (g := AlmRow.cleared) (fun _ => rfl) rfl { s.advance t with net := m } j
  · exact does_ownerWrite_of_onlyLedger (f := State.shedClear)
      (P := fun l => l.evLost = 0 ∧ l.gapReads = 0 ∧ ∀ n, n < 8 → (Tab.get {} l.subs n).coalesced = 0 ∧ (Tab.get {} l.subs n).lostLog = 0 ∧
        (Tab.get {} l.subs n).lostTrace = 0 ∧ (Tab.get {} l.subs n).gaps = 0) rfl h
      (fun m => State.ownerWrite_shedClear { s.advance t with net := m } a.ctx) State.shedClear_onlyLedger
      fun m => State.shedClear_ledger { s.advance t with net := m }

end Machine
end Sys2Proof
end

section
/-! SUPPORT. Export (R520–R522): an alarm that is due is sent, a log entry held is queued, and the statement about them. -/

namespace Sys2Proof
namespace Machine

/-! ## An item leaves (R519, R520) -/

/-- What an item that leaves changes of its subscription. -/
def Sub.itemLeft (u : Sub) (now size : Nat) : Sub :=
  { u with item := u.item + 1, datagram := (u.datagram + 1) % 4294967296, credit := now + (size * 1000000000 + u.pathRate - 1) / u.pathRate }

/-- An item counts in its subscription, and leaves by the network alone. -/
theorem State.sendItem_net (s : State) (n c : Nat) (b : Octets) :
    OnlyNet (s.setSub n ((s.sub n).itemLeft s.now b.length)) (s.sendItem n c b) := by
  unfold State.sendItem
  extract_lets u v p f
  change OnlyNet v _
  split
  · exact v.sendUdp_net _
  · split
    · exact v.sendCan_net ..
    · exact v.sendCan_net ..

/-- The subscription an alarm of `src` has been sent for. -/
def Sub.alarmSent (u : Sub) (src : Nat) : Sub :=
  { u with dirty := u.dirty.filter (fun x => decide (x ≠ src)), served := src, tokens := u.tokens - 1000000000, waiting := false,
           sentAlarms := u.sentAlarms + 1 }

/-- An alarm sent is no longer dirty, is the last served, is counted and took its token. -/
theorem Sub.alarmSent_spec (u : Sub) (src now size : Nat) : src ∉ ((u.alarmSent src).itemLeft now size).dirty ∧
    ((u.alarmSent src).itemLeft now size).served = src ∧ ((u.alarmSent src).itemLeft now size).sentAlarms = u.sentAlarms + 1 ∧
    ((u.alarmSent src).itemLeft now size).tokens = u.tokens - 1000000000 := by
  simp [Sub.alarmSent, Sub.itemLeft]

/-- What is left after an alarm was sent: the core, the log, and its subscription's record. -/
theorem State.sendAlarm_spec (s : State) (n src : Nat) : KeepsCore s (s.sendAlarm n src) ∧ (s.sendAlarm n src).ledger.log = s.ledger.log ∧
    ∃ size, (s.sendAlarm n src).sub n = ((s.sub n).alarmSent src).itemLeft s.now size := by
  have h := (s.setSub n ((s.sub n).alarmSent src)).sendItem_net n 4 (alarmItem src (s.almRow src))
  have hs : (s.setSub n ((s.sub n).alarmSent src)).sub n = (s.sub n).alarmSent src := (State.setSub_sub ..).trans (if_pos rfl)
  rw [hs] at h
  have hl : s.sendAlarm n src = _ := h
  obtain ⟨m, hm⟩ : ∃ m, s.sendAlarm n src = { (s.setSub n ((s.sub n).alarmSent src)).setSub n _ with net := m } := ⟨_, hl⟩
  rw [hm]
  exact ⟨⟨rfl, rfl, rfl, rfl⟩, rfl, _, (State.setSub_sub ..).trans (if_pos rfl)⟩

/-- An alarm is due and has its token: it is sent (R520, R521). -/
theorem State.exportSend_alarm {s : State} {n src : Nat} (hp : s.pathOpen ((s.sub n).refill s.now) = true)
    (hd : ((s.sub n).refill s.now).alarmDue = some src) (ht : 1000000000 ≤ ((s.sub n).refill s.now).tokens) :
    s.exportSend n = (s.setSub n ((s.sub n).refill s.now)).sendAlarm n src := by
  unfold State.exportSend
  extract_lets v u
  have hu : u = (s.sub n).refill s.now := (State.setSub_sub ..).trans (if_pos rfl)
  have hopen : v.pathOpen u = true := by
    rw [hu]
    exact hp
  have hdue : u.alarmDue = some src := hu ▸ hd
  have htok : 1000000000 ≤ u.tokens := hu ▸ ht
  simp only [hopen, hdue, htok, not_true_eq_false, if_false, decide_true]
  rfl

/-! ## A log entry held (R522) -/

theorem State.pushHold_room {s : State} {n : Nat} {h : LogHold} (hh : (s.sub n).hold = some h) (hr : s.hasRoom (.logq n) = true) :
    s.pushHold n = (s.setSub n { s.sub n with hold := none }).pushQ (.logq n) (.log h) := by
  simp only [State.pushHold, hh, hr, if_true]

theorem Sub.setBucket_sentAlarms (u : Sub) (tokens since : Nat) :
    ({ u with tokens := tokens, since := since } : Sub).sentAlarms = u.sentAlarms := rfl

/-- Through `Sub.setBucket_sentAlarms`: for `rfl` the kernel would compare the reckoned bucket with the one before. -/
theorem Sub.refill_sentAlarms (u : Sub) (now : Nat) : (u.refill now).sentAlarms = u.sentAlarms := u.setBucket_sentAlarms _ _

theorem State.advance_sub (s : State) (t n : Nat) : (s.advance t).sub n = s.sub n := rfl

/-- The subscription of an alarm that is sent. -/
theorem State.sendAlarm_sub (s : State) (n src : Nat) : src ∉ ((s.sendAlarm n src).sub n).dirty ∧
    ((s.sendAlarm n src).sub n).served = src ∧ ((s.sendAlarm n src).sub n).sentAlarms = (s.sub n).sentAlarms + 1 ∧
    ((s.sendAlarm n src).sub n).tokens = (s.sub n).tokens - 1000000000 := by
  obtain ⟨-, -, size, hs⟩ := s.sendAlarm_spec n src
  rw [hs]
  exact Sub.alarmSent_spec ..

/-- A subscription as EXPORT_SEND reckons its bucket. -/
theorem State.setSub_refill (s : State) (n : Nat) : ((s.setSub n ((s.sub n).refill s.now)).sub n) = (s.sub n).refill s.now :=
  (State.setSub_sub ..).trans (if_pos rfl)

theorem State.exportSend_sent {s : State} {n src : Nat} (hp : s.pathOpen ((s.sub n).refill s.now) = true)
    (hd : ((s.sub n).refill s.now).alarmDue = some src) (ht : 1000000000 ≤ ((s.sub n).refill s.now).tokens) :
    KeepsCore s (s.exportSend n) ∧ src ∉ ((s.exportSend n).sub n).dirty ∧ ((s.exportSend n).sub n).served = src ∧
    ((s.exportSend n).sub n).sentAlarms = (s.sub n).sentAlarms + 1 ∧
    ((s.exportSend n).sub n).tokens = ((s.sub n).refill s.now).tokens - 1000000000 ∧ (s.exportSend n).ledger.log = s.ledger.log := by
  rw [State.exportSend_alarm hp hd ht]
  have hsub := s.setSub_refill n
  obtain ⟨hdirty, hserved, hsent, htok⟩ := (s.setSub n ((s.sub n).refill s.now)).sendAlarm_sub n src
  obtain ⟨hk, hlog, -⟩ := (s.setSub n ((s.sub n).refill s.now)).sendAlarm_spec n src
  rw [hsub] at hsent htok
  rw [Sub.refill_sentAlarms] at hsent
  exact ⟨(s.setSub_keepsCore ..).trans hk, hdirty, hserved, hsent, htok, hlog⟩

theorem does_coalesceExpiry {t n : Nat} {h : LogHold} {s : State} (hn : n < 8) (hl : s.live .house t) (hh : (s.sub n).hold = some h)
    (hc : h.filled + (s.sub n).coalesce * 10000000 ≤ (s.advance t).now) (hr : (s.advance t).hasRoom (.logq n) = true) :
    Does (.coalesceExpiry t n) s (fun u =>
      (u.sub n).hold = none ∧ (u.queue (.logq n)).wp = ((s.queue (.logq n)).wp + 1) % 65536 ∧
      (u.sub n).logLost = (s.sub n).logLost ∧ u.ledger.log = s.ledger.log) := by
  rw [← s.advance_sub t n] at hh hc ⊢
  have hw := ((s.advance t).setSub n { (s.advance t).sub n with hold := none }).pushQ_wp (.logq n) (.log h) hr
  refine does_onUnit_eq (u := ((s.advance t).setSub n { (s.advance t).sub n with hold := none }).pushQ (.logq n) (.log h)) rfl
    (by simp [hn]) hl ?_ rfl rfl ?_
  · simp only [hh, hc, if_true, State.pushHold_room hh hr]
  · rw [State.pushQ_sub, State.setSub_sub, if_pos rfl]
    exact ⟨rfl, hw, rfl, rfl⟩

/-- Settles O31: an alarm by `State.exportSend_alarm`, a held entry by `State.pushHold_room`. -/
theorem exportCommands : Obligations.ExportCommands := by
  refine ⟨fun t n src s hn hl hp hd ht => ?_, fun t n h s hn hl hh hc hr => does_coalesceExpiry hn hl hh hc hr,
    fun t n h s hn hl hh hc => ?_⟩
  · rw [← s.advance_sub t n] at hp hd ht ⊢
    obtain ⟨hk, h⟩ := State.exportSend_sent hp hd ht
    exact does_onUnit_of_keepsCore rfl (by simp [hn]) hl rfl hk h
  · rw [← s.advance_sub t n] at hh hc
    refine does_onUnit_eq (u := s.advance t) rfl (by simp [hn]) hl ?_ rfl rfl rfl
    simp only [hh, Nat.not_le.mpr hc, if_false]

end Machine
end Sys2Proof
end

section
/-! SUPPORT. Integrity (R490–R504): what parts of the health record an operation leaves alone, the retirement of an element, scans, tests,
mismatches, ageing and the thermal record, and the statement about their commands. -/

namespace Sys2Proof
namespace Machine

/-! ## What leaves a part of the health record alone -/

/-- The waiting commands, the clock, the dictionary, CTRL and the part `g` of the health record of `u` are those of `s`. -/
structure KeepsHealth {α : Type} (g : Health → α) (s u : State) : Prop where
  pending : u.pending = s.pending
  clk : u.clk = s.clk
  dict : u.dict = s.dict
  ctrl : u.ctrl = s.ctrl
  part : g u.health = g s.health

namespace KeepsHealth

variable {α : Type} {g : Health → α}

theorem refl (s : State) : KeepsHealth g s s := ⟨rfl, rfl, rfl, rfl, rfl⟩

theorem trans {s u w : State} (h : KeepsHealth g s u) (k : KeepsHealth g u w) : KeepsHealth g s w :=
  ⟨k.pending.trans h.pending, k.clk.trans h.clk, k.dict.trans h.dict, k.ctrl.trans h.ctrl, k.part.trans h.part⟩

theorem ite {s u v : State} {p : Prop} [Decidable p] (hu : KeepsHealth g s u) (hv : KeepsHealth g s v) :
    KeepsHealth g s (if p then u else v) := by
  split
  · exact hu
  · exact hv

theorem foldl {β : Type} {f : State → β → State} (h : ∀ s x, KeepsHealth g s (f s x)) (l : List β) (s : State) :
    KeepsHealth g s (l.foldl f s) :=
  foldl_of_step refl trans h l s

theorem of_modHealth (s : State) {f : Health → Health} (h : ∀ x, g (f x) = g x) : KeepsHealth g s (s.modHealth f) :=
  ⟨rfl, rfl, rfl, rfl, h _⟩

theorem of_post (s : State) (i : Island) (c u : Nat) (a : List EvArg) : KeepsHealth g s (s.post i c u a) :=
  ⟨s.post_pending i c u a, s.post_clk i c u a, s.post_dict i c u a, s.post_ctrl i c u a, congrArg g (s.post_health i c u a)⟩

theorem of_setCause (s : State) (b : Nat) (o : Bool) : KeepsHealth g s (s.setCause b o) :=
  ⟨s.setCause_pending b o, s.setCause_clk b o, s.setCause_dict b o, s.setCause_ctrl b o, congrArg g (s.setCause_health b o)⟩

end KeepsHealth

/-! ## An element goes out of service for good (R494) -/

theorem State.freeCover_keepsOut (s : State) (p u : Nat) : KeepsHealth Health.out s (s.freeCover p u) := by
  unfold State.freeCover
  split
  · exact .ite (.of_modHealth s fun _ => rfl) (.refl s)
  · exact .refl s

theorem State.refuseQueued_keepsOut (s : State) (p : Nat) : KeepsHealth Health.out s (s.refuseQueued p) := by
  unfold State.refuseQueued
  split
  · exact .refl s
  · extract_lets gone v
    have hv : KeepsHealth Health.out s v := .of_modHealth s fun _ => rfl
    refine hv.trans (.foldl (fun w r => ?_) gone v)
    refine .trans ?_ (.of_post ..)
    exact .of_modHealth w fun _ => rfl

/-- The elements out of service in the health record after one more. -/
def Health.retired (h : Health) (p u l : Nat) : Health :=
  { h with out := Tab.insert h.out (poolKey p u) (insRising l (Tab.get [] h.out (poolKey p u))) }

/-- An element not yet out of service joins those that are; CTRL and the dictionary stay. -/
theorem State.retireElem_out {s : State} {p e : Nat} (why : Nat) (h : (s.poolOut p (poolUnit p e)).contains (poolLocal p e) = false) :
    KeepsHealth Health.out (s.modHealth (·.retired p (poolUnit p e) (poolLocal p e))) (s.retireElem p e why) := by
  unfold State.retireElem
  extract_lets u l v st w x
  have hv : KeepsHealth Health.out s v := .ite (s.freeCover_keepsOut p u) (.refl s)
  have hw : KeepsHealth Health.out s w := hv.trans (.of_modHealth v fun _ => rfl)
  have hx : KeepsHealth Health.out (s.modHealth (·.retired p u l)) x :=
    ⟨hw.pending, hw.clk, hw.dict, hw.ctrl, congrArg (fun o => Tab.insert o (poolKey p u) (insRising l (Tab.get [] o (poolKey p u)))) hw.part⟩
  rw [if_neg (by rw [h]; exact Bool.false_ne_true)]
  exact (hx.trans (.of_setCause ..)).trans (State.refuseQueued_keepsOut ..)

theorem State.retireElem_poolOut {s : State} {p e : Nat} (why : Nat)
    (h : (s.poolOut p (poolUnit p e)).contains (poolLocal p e) = false) :
    (s.retireElem p e why).poolOut p (poolUnit p e) = insRising (poolLocal p e) (s.poolOut p (poolUnit p e)) := by
  rw [State.poolOut, (State.retireElem_out why h).part]
  exact Tab.get_insert_self ..

/-- An element that has gone out of service is out, whatever was before. -/
theorem State.mem_poolOut_retireElem (s : State) (p e why : Nat) :
    poolLocal p e ∈ (s.retireElem p e why).poolOut p (poolUnit p e) := by
  by_cases h : (s.poolOut p (poolUnit p e)).contains (poolLocal p e) = true
  · have hs : s.retireElem p e why = s := if_pos h
    rw [hs]
    exact List.contains_iff_mem.mp h
  · rw [State.retireElem_poolOut why (Bool.eq_false_iff.mpr h)]
    exact mem_insRising ..

/-! ## Scans (R490) -/

/-- The channels and the soft-error counts. -/
def Health.scans (h : Health) : Tab CrcChan × Nat × Nat := (h.crc, h.softSubsoil, h.softKeep)

theorem State.retireRow_keepsScans (s : State) (r : Nat) : KeepsHealth Health.scans s (s.retireRow r) := by
  unfold State.retireRow
  split
  · exact .of_post ..
  · extract_lets v
    have hv : KeepsHealth Health.scans s v := .of_modHealth s fun _ => rfl
    exact .ite (hv.trans (.of_setCause ..)) hv

theorem State.dataLoss_keepsScans (s : State) (i : Island) (use addr detail : Nat) :
    KeepsHealth Health.scans s (s.dataLoss i use addr detail) :=
  .trans (.of_post s i Code.dataLoss 0 _) (State.retireRow_keepsScans ..)

/-- The soft errors of a scan counted. -/
def Health.soft (h : Health) (a b : Nat) : Health := { h with softSubsoil := h.softSubsoil + a, softKeep := h.softKeep + b }

theorem State.soft_eq (s : State) (a b : Nat) : (s.softSubsoil a).softKeep b = s.modHealth (·.soft a b) := by
  have ha : s.softSubsoil a = s.modHealth (fun h => { h with softSubsoil := h.softSubsoil + a }) := by
    unfold State.softSubsoil
    split
    · next h => subst h; rfl
    · rfl
  rw [ha]
  unfold State.softKeep
  split
  · next h => subst h; rfl
  · rfl

theorem State.scanWords_keepsScans (s : State) (lost : List (Nat × Nat)) (a b : Nat) :
    KeepsHealth Health.scans (s.modHealth (·.soft a b)) (s.scanWords lost a b) := by
  rw [State.scanWords, State.soft_eq]
  exact .foldl (fun w x => w.dataLoss_keepsScans ..) lost _

theorem State.scanWords_nil (s : State) (a b : Nat) : s.scanWords [] a b = s.modHealth (·.soft a b) := s.soft_eq a b

theorem State.crcCfg_congr {s u : State} (h : u.dict = s.dict) (c : Nat) : u.crcCfg c = s.crcCfg c := by
  rw [State.crcCfg, State.crcCfg, State.oct, State.oct, State.val, State.val, h]

theorem State.draw_crcChan (s : State) (c : Nat) : s.draw.crcChan c = s.crcChan c := rfl

theorem State.modHealth_clk (s : State) (f : Health → Health) : (s.modHealth f).clk = s.clk := rfl

/-- A channel whose scan ends with its result. -/
def CrcChan.done (v : CrcChan) (poisoned : Bool) (b d : Octets) (now : Nat) : CrcChan :=
  { v with state := 2, poisoned := poisoned, fed := d.length % 4294967296, endAt := now,
           result := crcOf (u8At b 32) (u64At b 8) (u64At b 16) (u64At b 24) (bitOf (u8At b 33) 0) (bitOf (u8At b 33) 1) d }

theorem State.crcDone_running {s : State} {c : Nat} (h : (s.crcChan c).state = 1) (p : Bool) :
    s.crcDone c p = (s.setCrc c ((s.crcChan c).done p (s.crcCfg c) (s.crcStream (s.crcCfg c)) s.clk.dev)).draw := by
  simp only [State.crcDone, h, ne_eq, not_true_eq_false, if_false]
  rfl

theorem does_crcScanDone {t c a b : Nat} {lost : List (Nat × Nat)} {s : State} (hc : c < 4) (hl : s.live .house t)
    (h1 : (s.crcChan c).state = 1) :
    Does (.crcScanDone t c lost a b) s (fun u =>
      (lost = [] → u = { s.advance t with health := u.health, draws := u.draws }) ∧ (u.crcChan c).state = 2 ∧
      (u.crcChan c).poisoned = !lost.isEmpty ∧ u.health.softSubsoil = s.health.softSubsoil + a ∧
      u.health.softKeep = s.health.softKeep + b ∧ (u.crcChan c).endAt = (s.advance t).clk.dev ∧
      (u.crcChan c).result = crcOf (u8At (s.crcCfg c) 32) (u64At (s.crcCfg c) 8) (u64At (s.crcCfg c) 16) (u64At (s.crcCfg c) 24)
        (bitOf (u8At (s.crcCfg c) 33) 0) (bitOf (u8At (s.crcCfg c) 33) 1)
        (((s.advance t).scanWords lost a b).crcStream (s.crcCfg c))) := by
  have hk := (s.advance t).scanWords_keepsScans lost a b
  have hnil : lost = [] → (s.advance t).scanWords lost a b = (s.advance t).modHealth (·.soft a b) := fun e => e ▸ State.scanWords_nil ..
  obtain ⟨v, hg⟩ : ∃ v, (s.advance t).scanWords lost a b = v := ⟨_, rfl⟩
  rw [hg] at hk hnil ⊢
  have hchan : v.crcChan c = s.crcChan c := congrArg (fun x : Tab CrcChan × Nat × Nat => Tab.get ({} : CrcChan) x.1 c) hk.part
  have hcfg : v.crcCfg c = s.crcCfg c := State.crcCfg_congr hk.dict c
  have hd := State.crcDone_running (hchan ▸ h1) (!lost.isEmpty)
  rw [hchan, hcfg, hk.clk, ← hg] at hd
  refine does_onUnit_eq rfl (by simp [hc]) hl ((if_pos h1).trans hd) ?_ ?_ ⟨fun e => ?_, ?_⟩
  · rw [hg]
    exact hk.pending
  · rw [hg]
    exact congrArg Clk.raw hk.clk
  · rw [hg, hnil e]
    rfl
  · rw [hg]
    have hu := (v.setCrc_crcChan c c ((s.crcChan c).done (!lost.isEmpty) (s.crcCfg c) (v.crcStream (s.crcCfg c)) (s.advance t).clk.dev)).trans
      (if_pos rfl)
    have hsoft : v.health.softSubsoil = s.health.softSubsoil + a ∧ v.health.softKeep = s.health.softKeep + b :=
      ⟨congrArg (fun x : Tab CrcChan × Nat × Nat => x.2.1) hk.part, congrArg (fun x : Tab CrcChan × Nat × Nat => x.2.2) hk.part⟩
    rw [State.draw_crcChan, State.modHealth_clk]
    exact ⟨congrArg CrcChan.state hu, congrArg CrcChan.poisoned hu, hsoft.1, hsoft.2, congrArg CrcChan.endAt hu, congrArg CrcChan.result hu⟩

/-! ## Tests (R498, R502, R503) -/

/-- An ageing below the warning is held and nothing more. -/
theorem State.ageNote_quiet {s : State} {age : Nat} (h : age < u16At (s.oct 0x6830 1) 0) (i : Nat) :
    s.ageNote i age = s.modHealth (fun h => { h with ageing := Tab.put 0 h.ageing i age }) := by
  simp only [State.ageNote, Nat.not_le.mpr h, false_and, if_false]

/-- A test that ended with the verdict that its element passed. -/
def TestStat.passed (v : TestStat) (elem now : Nat) : TestStat :=
  { v with run := none, elem := elem, outcome := 1, tests := v.tests + 1, endAt := now }

theorem State.selftestDone_pass {s : State} {p age : Nat} {r : TestRun} (hp : p ≠ 4) (hr : (s.poolTest p).run = some r)
    (hw : age < u16At (s.oct 0x6830 1) 0) (hx : age < u16At (s.oct 0x6830 1) 2) :
    s.selftestDone p true age = (s.modHealth (fun h => { h with ageing := Tab.put 0 h.ageing (ageIndex p r.elem) age })).setPoolTest p
      ((s.poolTest p).passed r.elem s.clk.dev) := by
  unfold State.selftestDone
  extract_lets v
  have hv : v.run = some r := hr
  have hage : ∀ w : TestStat, ¬ u16At (s.oct 0x6830 1) 2 ≤ Tab.get 0 ((s.modHealth (fun h =>
      { h with ageing := Tab.put 0 h.ageing (ageIndex p r.elem) age })).setPoolTest p w).health.ageing (ageIndex p r.elem) := by
    intro w
    have : Tab.get 0 ((s.modHealth (fun h => { h with ageing := Tab.put 0 h.ageing (ageIndex p r.elem) age })).setPoolTest p w).health.ageing
      (ageIndex p r.elem) = age := Tab.get_put_self ..
    omega
  simp only [hv, State.ageNote_quiet hw, hp, false_and, if_false, not_true_eq_false]
  exact if_neg (hage _)

theorem does_selftestDone {t p age : Nat} {r : TestRun} {s : State} (hp9 : p < 9) (hp : p ≠ 4) (hl : s.live .house t)
    (hr : (s.poolTest p).run = some r) (ha : age < 65536) (hw : age < u16At (s.oct 0x6830 1) 0) (hx : age < u16At (s.oct 0x6830 1) 2) :
    Does (.selftestDone t p true age) s (fun u =>
      u = { s.advance t with health := u.health } ∧
      u.poolTest p = { s.poolTest p with run := none, elem := r.elem, outcome := 1, tests := (s.poolTest p).tests + 1,
                                         endAt := (s.advance t).clk.dev } ∧
      u.health.out = s.health.out) := by
  have hd := State.selftestDone_pass (s := s.advance t) hp hr hw hx
  rw [← Nat.mod_eq_of_lt ha] at hd
  exact does_onUnit_eq rfl (by simp [hp9]) hl hd rfl rfl ⟨rfl, (State.setPoolTest_poolTest ..).trans (if_pos rfl), rfl⟩

/-- The test that starts on an element: a spare covers it where it is in service. -/
theorem State.startTest_covered {s : State} {p e : Nat} (h : s.inService p e = true → (s.freeSpare p (poolUnit p e)).isSome = true) :
    ∃ c, s.startTest p e false true = s.setPoolTest p { s.poolTest p with
      run := some { elem := e, cover := c, forced := false, background := true, start := s.clk.dev }, elem := e } := by
  refine ⟨if s.inService p e then s.freeSpare p (poolUnit p e) else none, ?_⟩
  have hbare : (s.inService p e && (if s.inService p e then s.freeSpare p (poolUnit p e) else none).isNone) = false := by
    cases hs : s.inService p e
    · rfl
    · have := h hs
      simp [Option.isNone_eq_false_iff.mpr this]
  simp only [State.startTest, hbare, Bool.false_and, Bool.or_false]

theorem State.bgTook_poolTest (s : State) (p q : Nat) (x : Nat × Bool) : (s.bgTook p x).poolTest q = s.poolTest q := rfl

theorem State.bgTest_turn {s : State} {p e : Nat} {new : Bool} (hp : p ≠ 4) (hr : (s.poolTest p).run = none)
    (hq : s.health.queue.find? (fun r => decide (r.pool = p)) = none) (hn : s.nat 0x6810 5 ≠ 0) (hb : s.bgNext p = some (e, new))
    (hs : s.inService p e = true → (s.freeSpare p (poolUnit p e)).isSome = true) :
    s.bgTest p = (s.startTest p e false true).bgTook p (e, new) := by
  have hfree : ¬ (s.inService p e = true ∧ (s.freeSpare p (poolUnit p e)).isNone = true) := by
    rintro ⟨h1, h2⟩
    have := hs h1
    simp [Option.isNone_iff_eq_none.mp h2] at this
  simp only [State.bgTest, hr, hq, hn, hb, hp, hfree, Option.isSome_none, Bool.false_eq_true, if_false]

theorem does_bgTest {t p e : Nat} {s : State} (hp9 : p < 9) (hp : p ≠ 4) (hl : s.live .house t) (hr : (s.poolTest p).run = none)
    (hq : s.health.queue.find? (fun r => decide (r.pool = p)) = none) (hn : s.nat 0x6810 5 ≠ 0)
    (hb : ∃ new, (s.advance t).bgNext p = some (e, new))
    (hs : s.inService p e = true → (s.freeSpare p (poolUnit p e)).isSome = true) :
    Does (.bgTest t p) s (fun u =>
      u = { s.advance t with health := u.health } ∧
      (∃ r, (u.poolTest p).run = some r ∧ r.elem = e ∧ r.background = true ∧ r.forced = false ∧ r.start = (s.advance t).clk.dev) ∧
      u.health.out = s.health.out) := by
  obtain ⟨new, hb⟩ := hb
  have hd := State.bgTest_turn (s := s.advance t) hp hr hq hn hb hs
  obtain ⟨c, hc⟩ := State.startTest_covered (s := s.advance t) hs
  rw [hc] at hd
  refine does_onUnit_eq rfl (by simp [hp9]) hl hd rfl rfl
    ⟨rfl, ⟨{ elem := e, cover := c, forced := false, background := true, start := (s.advance t).clk.dev }, ?_, rfl, rfl, rfl, rfl⟩, rfl⟩
  rw [State.bgTook_poolTest, State.setPoolTest_poolTest, if_pos rfl]

/-! ## Mismatches (R495) -/

theorem State.houseMismatch_spare {s : State} (h : 0 < s.sparesFree 8 0) (core : Nat) (again : Bool) :
    s.houseMismatch core again = s.retireElem 8 core 0 := if_pos h

/-- A mismatch without a spare: it is counted, with its moment. -/
def State.mismatched (s : State) : State := (s.countFault 8).modHealth (fun h => { h with mismatchAt := some s.now })

theorem State.houseMismatch_first {s : State} (h : s.sparesFree 8 0 = 0) (hm : s.health.mismatchAt = none) (core : Nat) :
    s.houseMismatch core false = s.mismatched := by
  simp only [State.houseMismatch, h, hm, Nat.lt_irrefl, if_false, Bool.or_self, Bool.false_eq_true]
  rfl

theorem State.houseMismatch_again {s : State} (h : s.sparesFree 8 0 = 0) (core : Nat) :
    s.houseMismatch core true = s.mismatched.holdOnset 3 := by
  simp only [State.houseMismatch, h, Nat.lt_irrefl, if_false, Bool.or_true, if_true]
  rfl

theorem State.mismatched_faults (s : State) : (s.mismatched.poolStat 8).faults = (s.poolStat 8).faults + 1 :=
  congrArg PoolStat.faults (Tab.get_put_self ({} : PoolStat) s.health.stat 8 { s.poolStat 8 with faults := (s.poolStat 8).faults + 1 })

/-- A hold cause not yet there comes: its bit is set, and an operating device is in SAFE_HOLD (R44, R47). -/
theorem State.holdOnset_spec {s : State} {c : Nat} (h : bitOf s.dev.hold c = false) :
    bitOf (s.holdOnset c).dev.hold c = true ∧ (s.operating = true → (s.holdOnset c).dev.state = .safeHold) := by
  cases ho : s.operating
  · rw [State.holdOnset_idle s c h ho]
    exact ⟨by simp, fun e => absurd e Bool.false_ne_true⟩
  · rw [State.holdOnset_operating s c h ho]
    exact ⟨by simp, fun _ => rfl⟩

theorem does_houseMismatch {t core : Nat} {again : Bool} {s : State} (hc : core < 3) (hl : s.live .house t) :
    (0 < s.sparesFree 8 0 → Does (.houseMismatch t core again) s (fun u => core ∈ u.poolOut 8 0)) ∧
    (s.sparesFree 8 0 = 0 → s.health.mismatchAt = none →
      Does (.houseMismatch t core false) s (fun u =>
        u = { s.advance t with health := u.health } ∧ u.health.mismatchAt = some (s.advance t).now ∧
        (u.poolStat 8).faults = (s.poolStat 8).faults + 1)) ∧
    (s.sparesFree 8 0 = 0 → bitOf s.dev.hold 3 = false → Does (.houseMismatch t core true) s (fun u =>
      bitOf u.dev.hold 3 = true ∧ (s.operating = true → u.dev.state = .safeHold))) := by
  have hunit : poolUnit 8 core = 0 := Nat.div_eq_of_lt hc
  have hloc : poolLocal 8 core = core := Nat.mod_eq_of_lt hc
  refine ⟨fun h => ?_, fun h hm => ?_, fun h hb => ?_⟩
  · have hk := (s.advance t).retireElem_causesRise 8 core 0
    have hmem := (s.advance t).mem_poolOut_retireElem 8 core 0
    rw [hunit, hloc] at hmem
    exact does_onUnit_eq rfl (by simp [hc]) hl (State.houseMismatch_spare (s := s.advance t) h core again) hk.pending
      (congrArg Clk.raw hk.clk) hmem
  · exact does_onUnit_eq rfl (by simp [hc]) hl (State.houseMismatch_first (s := s.advance t) h hm core) rfl rfl
      ⟨rfl, rfl, (s.advance t).mismatched_faults⟩
  · exact does_onUnit_eq rfl (by simp [hc]) hl (State.houseMismatch_again (s := s.advance t) h core) (State.holdOnset_pending ..)
      (congrArg Clk.raw (State.holdOnset_clk ..)) (State.holdOnset_spec (s := (s.advance t).mismatched) hb)

/-! ## Wear and temperature (R503, R504) -/

theorem State.ageRead_quiet {s : State} {age : Nat} (hw : age < u16At (s.oct 0x6830 1) 0) (hx : age < u16At (s.oct 0x6830 1) 2) (i : Nat) :
    s.ageRead i age = s.modHealth (fun h => { h with ageing := Tab.put 0 h.ageing i age }) := by
  simp only [State.ageRead, State.ageNote_quiet hw, Nat.not_le.mpr hx, false_and, if_false]

theorem does_wearEm {t isl : Nat} {s : State} (hi : isl < 9) (hl : s.live .house t) (hn : Tab.get 0 s.health.canaries isl < 3) :
    Does (.wearEm t isl) s (fun u => Tab.get 0 u.health.canaries isl = Tab.get 0 s.health.canaries isl + 1) := by
  refine does_onUnit_of_keepsCore (u := ((s.advance t).modHealth (fun h => { h with
    canaries := Tab.insert h.canaries isl (Tab.get 0 s.health.canaries isl + 1) })).post .house Code.wearEm 0 []) rfl (by simp [hi]) hl
    (if_neg (Nat.not_le.mpr hn)) ((State.modHealth_keepsCore ..).trans (State.post_keepsCore ..)) ?_
  rw [State.post_health]
  exact Tab.get_insert_self ..

/-- The seconds and bands of the thermal record, its highest temperature, and whether the monitors raise the refresh rate. -/
def Health.thermal (h : Health) : Nat × Tab Nat × Int × Bool := (h.seconds, h.bands, h.hottest, h.bandRaised)

theorem State.profileFlag_keepsThermal (s : State) (now k code : Nat) : KeepsHealth Health.thermal s (s.profileFlag now k code) := by
  unfold State.profileFlag
  split
  · refine .trans ?_ (.of_post ..)
    exact .of_modHealth s fun _ => rfl
  · exact .refl s

/-- The health record after a second in the band of `temp`. -/
def Health.sampled (h : Health) (temp : Int) (raised : Bool) (rows now : Nat) : Health :=
  { h with
    thermAt := some now, seconds := h.seconds + 1, bands := Tab.insert h.bands (thermBand temp) (Tab.get 0 h.bands (thermBand temp) + 1),
    hottest := max h.hottest temp, refreshBand := min 3 (refreshOf temp + b2n raised), bandRaised := raised,
    marginRows := h.marginRows + rows }

theorem State.thermalSample_keepsThermal (s : State) (temp : Int) (raised : Bool) :
    KeepsHealth Health.thermal (s.modHealth (·.sampled temp raised 0 s.now)) (s.thermalSample temp raised []) := by
  unfold State.thermalSample
  extract_lets k v w f
  change KeepsHealth Health.thermal v _
  exact ((v.profileFlag_keepsThermal f 0 _).trans (State.profileFlag_keepsThermal ..)).trans (State.profileFlag_keepsThermal ..)

theorem does_thermalSample {t : Nat} {x : Int} {raised : Bool} {s : State} (hl : s.live .house t) (hd : (s.advance t).thermDue = true) :
    Does (.thermalSample t x raised []) s (fun u =>
      u.health.seconds = s.health.seconds + 1 ∧
      Tab.get 0 u.health.bands (thermBand x) = Tab.get 0 s.health.bands (thermBand x) + 1 ∧
      u.health.hottest = max s.health.hottest x ∧ u.health.bandRaised = raised) := by
  have hk := (s.advance t).thermalSample_keepsThermal x raised
  refine does_onIsland_eq rfl hl (if_pos hd) hk.pending (congrArg Clk.raw hk.clk) ⟨?_, ?_, ?_, ?_⟩
  · exact congrArg (fun v : Nat × Tab Nat × Int × Bool => v.1) hk.part
  · exact (congrArg (fun v : Nat × Tab Nat × Int × Bool => Tab.get 0 v.2.1 (thermBand x)) hk.part).trans (Tab.get_insert_self ..)
  · exact congrArg (fun v : Nat × Tab Nat × Int × Bool => v.2.2.1) hk.part
  · exact congrArg (fun v : Nat × Tab Nat × Int × Bool => v.2.2.2) hk.part

/-- A table built from five counts gives each of them. -/
theorem Tab.get_foldl_put_five (f : Nat → Nat) {k : Nat} (h : k < 5) :
    Tab.get 0 ((List.range 5).foldl (fun (b : Tab Nat) k => Tab.put 0 b k (f k)) []) k = f k := by
  have : k = 0 ∨ k = 1 ∨ k = 2 ∨ k = 3 ∨ k = 4 := by omega
  rcases this with rfl | rfl | rfl | rfl | rfl <;> simp [List.range_succ, Tab.get_put]

theorem does_thermalHoursWrite {t wear : Nat} {s : State} (hl : s.live .mem t) (hs : 3600 ≤ s.health.seconds) :
    Does (.thermalHoursWrite t [] wear) s (fun u =>
      u = { s.advance t with health := u.health } ∧ u.health.keptSeconds = s.health.keptSeconds + s.health.seconds ∧
      u.health.seconds = 0 ∧ u.health.bands = [] ∧ u.health.wearMax = max wear s.health.wearMax ∧
      (∀ k, k < 5 → Tab.get 0 u.health.keptBands k = Tab.get 0 s.health.keptBands k + Tab.get 0 s.health.bands k)) :=
  does_onIsland_eq rfl hl (if_neg (Nat.not_lt.mpr hs)) rfl rfl ⟨rfl, rfl, rfl, rfl, rfl, fun _ hk =>
    Tab.get_foldl_put_five (fun k => Tab.get 0 s.health.keptBands k + Tab.get 0 s.health.bands k) hk⟩

/-! ## Converters (R492) -/

/-- CTRL with converter `e` at place `k`. -/
def Ctrl.withConv (c : Ctrl) (k e : Nat) : Ctrl := if k = 0 then { c with conv0 := e } else { c with conv1 := e }

/-- With both converters in service and none out, the spare takes the place of the one that fails. -/
theorem State.replaceConv_spare {s : State} {k : Nat} (hk : k < 2) (h0 : s.ctrl.conv0 = 0) (h1 : s.ctrl.conv1 = 1)
    (ho : s.poolOut 5 0 = []) :
    s.replaceConv k 0 = { s.retireElem 5 k 0 with ctrl := (s.retireElem 5 k 0).ctrl.withConv k 2 } := by
  have hfree : (List.range 3).find? (fun p => decide (p ≠ 0) && decide (p ≠ 1) && !([] : List Nat).contains p) = some 2 := by decide
  have hbad : (if k = 0 then 0 else 1) = k := by
    split <;> omega
  have h3 : ¬ k = 3 := by omega
  simp only [State.replaceConv, h0, h1, ho, hfree, hbad, h3, if_false]
  rfl

theorem does_sarConverterFault {t k : Nat} {s : State} (hk : k < 2) (hl : s.live .ctrl t) (h0 : s.ctrl.conv0 = 0)
    (h1 : s.ctrl.conv1 = 1) (ho : s.poolOut 5 0 = []) :
    Does (.sarConverterFault t k) s (fun u =>
      (if k = 0 then u.ctrl.conv0 else u.ctrl.conv1) = 2 ∧ (if k = 0 then u.ctrl.conv1 else u.ctrl.conv0) = 1 - k ∧
      u.poolOut 5 0 = [k] ∧ u.ctrl.ai = s.ctrl.ai) := by
  have hunit : poolUnit 5 k = 0 := Nat.div_eq_of_lt (show k < 3 by omega)
  have hloc : poolLocal 5 k = k := Nat.mod_eq_of_lt (show k < 3 by omega)
  have hnot : ((s.advance t).poolOut 5 (poolUnit 5 k)).contains (poolLocal 5 k) = false := by
    rw [hunit]
    exact congrArg (List.contains · (poolLocal 5 k)) ho
  have hr := State.retireElem_out 0 hnot
  have hout := State.retireElem_poolOut 0 hnot
  rw [hunit, hloc, show (s.advance t).poolOut 5 0 = [] from ho] at hout
  have hctrl : ((s.advance t).retireElem 5 k 0).ctrl = s.ctrl := hr.ctrl
  refine does_onUnit_eq rfl (by simp [hk]) hl (State.replaceConv_spare (s := s.advance t) hk h0 h1 ho) hr.pending (congrArg Clk.raw hr.clk) ?_
  rw [hctrl]
  have : k = 0 ∨ k = 1 := by omega
  rcases this with rfl | rfl
  · exact ⟨rfl, h1, hout, rfl⟩
  · exact ⟨rfl, h0, hout, rfl⟩

/-- Settles O39, command by command. -/
theorem integrityCommands : Obligations.IntegrityCommands := by
  refine ⟨fun t c a b lost s hc hl h1 => does_crcScanDone hc hl h1,
    fun t p age r s hp9 hp hl hr ha hw hx => does_selftestDone hp9 hp hl hr ha hw hx,
    fun t p e s hp9 hp hl hr hq hn hb hs => does_bgTest hp9 hp hl hr hq hn hb hs,
    fun t core again s hc hl => does_houseMismatch hc hl, fun t i age s hi hl ha hw hx => ?_,
    fun t isl s hi hl hn => does_wearEm hi hl hn, fun t isl s hi hl => ⟨?_, ?_, ?_⟩,
    fun t x raised s hl hd => does_thermalSample hl hd, fun t wear s hl hs => does_thermalHoursWrite hl hs,
    fun t k s hk hl h0 h1 ho => does_sarConverterFault hk hl h0 h1 ho⟩
  · have hd := State.ageRead_quiet (s := s.advance t) hw hx i
    rw [← Nat.mod_eq_of_lt ha] at hd
    exact does_onUnit_eq rfl (by simp [hi]) hl hd rfl rfl (by rw [Nat.mod_eq_of_lt ha]; rfl)
  · exact does_onUnit_eq rfl (by simp [hi]) hl rfl rfl rfl rfl
  · exact does_onUnit_eq rfl (by simp [hi]) hl rfl rfl rfl rfl
  · exact does_onUnit_eq rfl (by simp [hi]) hl rfl rfl rfl rfl

end Machine
end Sys2Proof
end

section
/-! SUPPORT. Writes of the CRC channels (R490): what the abort of a running scan leaves of the octets it has fed, and a state in which the
clause about it fails. -/

namespace Sys2Proof
namespace Machine

/-- A device in RUN with a trusted host port in the service role, whose CRC channel 0 scans and holds 9 octets fed, of the default
configuration, whose length is 0. -/
def scanningChannel : State :=
  { State.reset with
    dev := { state := .run }
    power := { State.reset.power with straps := { hostRole := true, hTrust := true }, started := true, trained := true, bisted := true }
    health := { State.reset.health with crc := [(0, { state := 1, fed := 9 })] } }

/-- There the host may abort the scan. -/
theorem scanningChannel_mayWrite : scanningChannel.mayWrite 0 hostAccess (0x6800 + 0) 2 [2] :=
  ⟨by decide, by decide, by decide, _, rfl, by decide, by decide, by decide, by decide, by decide⟩

/-- An abort latches the progress of the scan in place of the octets held (R490). -/
theorem does_crcAbort_fed {t : Nat} {a : Acc} {s : State} (h : s.mayWrite t a (0x6800 + 0) 2 [2]) (h1 : (s.crcChan 0).state = 1) :
    Does (.crcAbort t a 0) s (fun u => (u.crcChan 0).fed = (s.advance t).scanProgress 0) := by
  refine does_ownerWrite_of_keepsCore
    (f := fun v => v.setCrc 0 { v.crcChan 0 with state := 3, cause := 0, fed := v.scanProgress 0, endAt := v.clk.dev }) rfl h
    (fun n => ?_) (fun n => State.modHealth_keepsCore ..) fun n m => ?_
  · have hw : State.ownerWrite { s.advance t with net := n } a.ctx (0x6800 + 0) 2 [2] = State.crcCmd { s.advance t with net := n } 0 2 := rfl
    rw [hw, State.crcCmd, if_neg (by decide), if_pos rfl]
    exact congrArg WRes.done (if_pos h1)
  · exact congrArg CrcChan.fed ((State.setCrc_crcChan ..).trans (if_pos rfl))

/-- The progress of a scan of length 0 is at most what can be folded in, 8 octets (R486). -/
theorem scanningChannel_progress : (scanningChannel.advance 0).scanProgress 0 ≤ 8 := Nat.min_le_right _ _

/-- Refutes O45: its clause on aborts has every other field of the channel unchanged, the octets fed among them. The abort latches the
progress of the scan there (R490), as that of channel 0 of `scanningChannel` does, which cannot be the 9 octets held before. -/
theorem not_laneAndTestWrites : ¬ Obligations.LaneAndTestWrites := by
  unfold Obligations.LaneAndTestWrites
  rintro ⟨-, -, -, -, -, habort, -⟩
  obtain ⟨u, hu, -, hrun, -⟩ := habort 0 0 hostAccess scanningChannel (by decide) scanningChannel_mayWrite
  obtain ⟨v, hv, hfed⟩ := does_crcAbort_fed scanningChannel_mayWrite rfl
  obtain rfl : u = v := by simpa using hu.symm.trans hv
  have hnine : (u.crcChan 0).fed = 9 := congrArg CrcChan.fed (hrun rfl)
  have := scanningChannel_progress
  omega

end Machine
end Sys2Proof
end

section
/-! SUPPORT. Boot and saves (R536–R544): commands of which only what they leave matters, what initialisation leaves of the power state, the
device state and the clock, what a save leaves of the power state, and the statement about their commands. -/

namespace Sys2Proof
namespace Machine

/-- A command of an island that runs leaves the power state, the device registers and the health record that its effect leaves. -/
theorem does_onIsland_rest {c : Instr} {i : Island} {t : Nat} {s u : State} {f : State → State} {P : State → Prop}
    (he : exec c s = onIsland i t s f) (hl : s.live i t) (hu : f (s.advance t) = u)
    (h : ∀ v : State, v.power = u.power → v.dev = u.dev → v.health = u.health → P v) : Does c s P := by
  have hb : exec c s = (s.advance t).became u := by rw [he, onIsland_runs i t s f hl, hu]
  exact ⟨_, hb.trans rfl, h _ rfl rfl rfl⟩

/-! ## Firmware (R537) -/

/-- The state with both firmware slots as they are found. -/
def State.withFw (s : State) (a b : Octets) : State := { s with keep := { s.keep with fw := [{ image := a }, { image := b }] } }

/-- The device runs firmware from slot `k`, of version `v`. -/
def RunsSlot (k v : Nat) (u : State) : Prop :=
  u.dev.state = .selftest ∧ u.power.fwSlot = k ∧ u.power.fwVersion = v

theorem State.enter_state (s : State) (d : DevState) : (s.enter d).dev.state = d := by
  unfold State.enter
  split
  · assumption
  · simp

theorem State.runSlot_runs (s : State) (k : Nat) : RunsSlot k (fwVersionOf (s.fwImage k)) (s.runSlot k) := by
  refine ⟨State.enter_state .., ?_, ?_⟩ <;> rw [State.runSlot, State.enter_power] <;> rfl

theorem State.runSlot_power (s : State) (k : Nat) : ∃ v, (s.runSlot k).power = { s.power with fwSlot := k, fwVersion := v } :=
  ⟨_, State.enter_power ..⟩

/-- The choice of R537 with the straps selecting slot A. -/
theorem State.chooseFirmware_spec {s : State} (a b : Octets) (h : bitOf s.power.straps.cfg 1 = false) (hb : s.dev.state = .boot)
    (hh : s.power.halted = false) :
    (fwFailing a = 0 → RunsSlot 0 (fwVersionOf a) (s.withFw a b).chooseFirmware ∧ (s.withFw a b).chooseFirmware.power.halted = false) ∧
    (fwFailing a ≠ 0 → fwFailing b = 0 →
      RunsSlot 1 (fwVersionOf b) (s.withFw a b).chooseFirmware ∧ (s.withFw a b).chooseFirmware.power.fallback = true) ∧
    (fwFailing a ≠ 0 → fwFailing b ≠ 0 →
      (s.withFw a b).chooseFirmware.dev.state = .boot ∧ (s.withFw a b).chooseFirmware.power.halted = true) := by
  have hcfg : bitOf (s.withFw a b).power.straps.cfg 1 = false := h
  have hA : (s.withFw a b).failing 0 = fwFailing a := rfl
  generalize hv : (s.withFw a b).post .house Code.bootFallback 0 [.u8 0, .u8 (fwFailing a)] = v
  have hkeep : v.keep = (s.withFw a b).keep := by rw [← hv, State.post_keep]
  have hdev : v.dev = s.dev := by rw [← hv, State.post_dev]; rfl
  have himg : ∀ f, (v.modPower f).fwImage 1 = b := fun f => by
    change ((v.keep.fw[1]?).map (·.image)).getD [] = b
    rw [hkeep]
    rfl
  have hB : v.failing 1 = fwFailing b := congrArg fwFailing (himg id)
  refine ⟨fun h0 => ?_, fun h0 h1 => ?_, fun h0 h1 => ?_⟩
  · have hc : (s.withFw a b).chooseFirmware = (s.withFw a b).runSlot 0 := by
      simp only [State.chooseFirmware, hcfg, Bool.false_eq_true, if_false, hA, h0, if_true]
    obtain ⟨n, hp⟩ := (s.withFw a b).runSlot_power 0
    rw [hc]
    exact ⟨State.runSlot_runs .., by rw [hp]; exact hh⟩
  · have hc : (s.withFw a b).chooseFirmware = (v.modPower (fun p => { p with fallback := true })).runSlot 1 := by
      simp only [State.chooseFirmware, hcfg, Bool.false_eq_true, if_false, hA, h0, hv, hB, h1, Nat.sub_zero, if_true]
    obtain ⟨n, hp⟩ := (v.modPower (fun p => { p with fallback := true })).runSlot_power 1
    have hr := (v.modPower (fun p => { p with fallback := true })).runSlot_runs 1
    rw [himg] at hr
    rw [hc]
    exact ⟨hr, by rw [hp]; rfl⟩
  · have hc : (s.withFw a b).chooseFirmware = v.modPower (fun p => { p with halted := true }) := by
      simp only [State.chooseFirmware, hcfg, Bool.false_eq_true, if_false, hA, h0, hv, hB, h1, Nat.sub_zero]
    rw [hc]
    exact ⟨by rw [State.modPower, hdev]; exact hb, rfl⟩

theorem does_firmwareVerified {t : Nat} {a b : Octets} {s : State} (hl : s.live .house t) (hb : s.dev.state = .boot)
    (hh : s.power.halted = false) (h : bitOf s.power.straps.cfg 1 = false) :
    Does (.firmwareVerified t a b) s (fun u =>
      (fwFailing a = 0 → u.dev.state = .selftest ∧ u.power.fwSlot = 0 ∧ u.power.fwVersion = fwVersionOf a ∧ u.power.halted = false) ∧
      (fwFailing a ≠ 0 → fwFailing b = 0 →
        u.dev.state = .selftest ∧ u.power.fwSlot = 1 ∧ u.power.fwVersion = fwVersionOf b ∧ u.power.fallback = true) ∧
      (fwFailing a ≠ 0 → fwFailing b ≠ 0 → u.dev.state = .boot ∧ u.power.halted = true)) := by
  obtain ⟨hA, hB, hN⟩ := State.chooseFirmware_spec (s := s.advance t) a b h hb hh
  have hc : (s.advance t).dev.state = .boot ∧ ¬ (s.advance t).power.halted = true := ⟨hb, by rw [show (s.advance t).power = s.power from rfl, hh]; decide⟩
  refine does_onIsland_rest (u := ((s.advance t).withFw a b).chooseFirmware) rfl hl (if_pos hc) fun v hp hd _ => ?_
  rw [hp, hd]
  refine ⟨fun h0 => ?_, fun h0 h1 => ?_, fun h0 h1 => hN h0 h1⟩
  · obtain ⟨⟨hst, hslot, hver⟩, hhalt⟩ := hA h0
    exact ⟨hst, hslot, hver, hhalt⟩
  · obtain ⟨⟨hst, hslot, hver⟩, hfall⟩ := hB h0 h1
    exact ⟨hst, hslot, hver, hfall⟩

/-! ## BIST (R497) -/

theorem does_quickBistDone {t us rows : Nat} {s : State} (hl : s.live .house t) (hs : s.dev.state = .selftest)
    (hh : s.power.halted = false) (hb : s.power.bisted = false) :
    Does (.quickBistDone t [] us rows) s (fun u =>
      u.power.bisted = true ∧ u.health.bistOutcome = 1 ∧ u.health.bistUs = us ∧ u.health.fullBist = false) := by
  have hc : (s.advance t).dev.state = .selftest ∧ ¬ (s.advance t).power.halted = true ∧ ¬ (s.advance t).power.bisted = true :=
    ⟨hs, by rw [State.advance_power, hh]; decide, by rw [State.advance_power, hb]; decide⟩
  exact does_onIsland_rest rfl hl (if_pos hc) fun v hp _ hh => by
    rw [hp, hh]
    exact ⟨rfl, rfl, rfl, rfl⟩

/-! ## What initialisation leaves of the power and the device state (R536) -/

/-- The power state is that of `s`, and a device in initialisation stays in its state. -/
structure KeepsInit (s u : State) : Prop where
  power : u.power = s.power
  state : s.dev.state = .warmInit ∨ s.dev.state = .coldInit → u.dev.state = s.dev.state

namespace KeepsInit

theorem refl (s : State) : KeepsInit s s := ⟨rfl, fun _ => rfl⟩

theorem trans {s u w : State} (h : KeepsInit s u) (k : KeepsInit u w) : KeepsInit s w :=
  ⟨k.power.trans h.power, fun hs => (k.state ((h.state hs).symm ▸ hs)).trans (h.state hs)⟩

theorem ite {s u v : State} {p : Prop} [Decidable p] (hu : KeepsInit s u) (hv : KeepsInit s v) : KeepsInit s (if p then u else v) := by
  split
  · exact hu
  · exact hv

theorem foldl {α : Type} {f : State → α → State} (h : ∀ s x, KeepsInit s (f s x)) (l : List α) (s : State) : KeepsInit s (l.foldl f s) :=
  foldl_of_step refl trans h l s

theorem of_eq {s u : State} (hp : u.power = s.power) (hd : u.dev = s.dev) : KeepsInit s u := ⟨hp, fun _ => by rw [hd]⟩

theorem of_post (s : State) (i : Island) (c u : Nat) (a : List EvArg) : KeepsInit s (s.post i c u a) :=
  .of_eq (s.post_power i c u a) (s.post_dev i c u a)

theorem of_holdBit (s : State) (c : Nat) (o : Bool) : KeepsInit s (s.holdBit c o) := ⟨rfl, fun _ => rfl⟩

/-- A degraded cause moves only an operating device (R44, R46). -/
theorem of_setCause (s : State) (b : Nat) (o : Bool) : KeepsInit s (s.setCause b o) := by
  refine ⟨s.setCause_power b o, fun hs => ?_⟩
  have hr : s.dev.state ≠ .run := by rcases hs with h | h <;> rw [h] <;> decide
  have hd : s.dev.state ≠ .degraded := by rcases hs with h | h <;> rw [h] <;> decide
  simp only [State.setCause, hr, hd, false_and, if_false]
  split
  · rfl
  · rw [State.logCause_dev]

end KeepsInit

theorem State.keepLost_keepsInit (s : State) (r : Nat) : KeepsInit s (s.keepLost r) :=
  .trans (.of_post s .mem Code.keepRecordLost 0 _) (.of_setCause ..)

theorem State.setKey_keepsInit (s : State) (k : Nat) (v : Option KeySlot) : KeepsInit s (s.setKey k v) := .of_eq rfl rfl

theorem State.keysAtBoot_keepsInit (s : State) : KeepsInit s s.keysAtBoot := by
  unfold State.keysAtBoot
  extract_lets v
  have hv : KeepsInit s v := .ite (s.keepLost_keepsInit 10) (.refl s)
  exact hv.trans (.foldl (f := fun s k => s.setKey k (s.keptKey k)) (fun s k => s.setKey_keepsInit k _) _ v)

theorem State.modIv_keepsInit (s : State) (f : Interval → Interval) : KeepsInit s (s.modIv f) := .of_eq rfl rfl

theorem State.ringAtBoot_keepsInit (s : State) : KeepsInit s s.ringAtBoot := by
  unfold State.ringAtBoot
  split
  · exact s.modIv_keepsInit _
  · exact (s.keepLost_keepsInit 6).trans (State.modIv_keepsInit ..)

theorem State.leaseConfig_keepsInit (s : State) : KeepsInit s s.leaseConfig := by
  unfold State.leaseConfig
  extract_lets lane cfg bad v
  have hv : KeepsInit s v := .of_eq rfl rfl
  exact .ite (hv.trans (.of_post ..)) hv

theorem State.modelAtBoot_keepsInit (s : State) : KeepsInit s s.modelAtBoot := by
  have hnone : ∀ v : State, KeepsInit v ((v.modModel (fun m => { m with active := none, gen := 0 })).holdBit 4 true) := fun v =>
    ⟨rfl, fun _ => rfl⟩
  unfold State.modelAtBoot
  split
  · exact (s.keepLost_keepsInit 2).trans (hnone _)
  · split
    · exact hnone s
    · exact hnone s
    · exact .of_eq rfl rfl

theorem State.learnedAtBoot_keepsInit (s : State) : KeepsInit s s.learnedAtBoot := by
  unfold State.learnedAtBoot
  split
  · exact .ite (.of_eq rfl rfl) (.refl s)
  · exact .refl s

theorem State.applyCpCfg_keepsInit (s : State) (c : Nat) : KeepsInit s (s.applyCpCfg c) := by
  unfold State.applyCpCfg
  extract_lets m
  split
  exact .ite (.refl s) (.of_eq rfl rfl)

theorem State.setCp_keepsInit (s : State) (c : Nat) (v : CpMeter) : KeepsInit s (s.setCp c v) := .of_eq rfl rfl

theorem State.cpsAtBoot_keepsInit (s : State) : KeepsInit s s.cpsAtBoot :=
  .foldl (fun s c => (s.applyCpCfg_keepsInit c).trans (State.setCp_keepsInit ..)) _ s

theorem State.store_keepsInit (s : State) (i j : Nat) (b : Octets) : KeepsInit s (s.store i j b) := by
  rw [State.store_only]
  exact .of_eq rfl rfl

theorem State.setPort_keepsInit (s : State) (p : Nat) (v : CanPort) : KeepsInit s (s.setPort p v) := .of_eq rfl rfl

theorem State.zeroErr_keepsInit (s : State) (p : Nat) : KeepsInit s (s.zeroErr p) := by
  unfold State.zeroErr
  extract_lets v w
  have hw : KeepsInit s w := s.setPort_keepsInit p _
  exact .ite hw (hw.trans (.of_post ..))

/-- A port that is enabled is stored enabled and starts integrating, or is refused. -/
theorem State.portEnable_keepsInit {s u : State} {p : Nat} (h : s.portEnable p 1 = .done u) : KeepsInit s u := by
  have hstore := s.store_keepsInit (0x1200 + p) 1 [1]
  unfold State.portEnable at h
  extract_lets q at h
  rw [if_neg Nat.one_ne_zero] at h
  split at h
  · exact absurd h (by simp)
  · split at h
    · obtain rfl := WRes.done.inj h
      exact hstore
    · obtain rfl := WRes.done.inj h
      exact (hstore.trans (State.setPort_keepsInit ..)).trans (State.zeroErr_keepsInit ..)

theorem State.portsAtBoot_keepsInit (s : State) : KeepsInit s s.portsAtBoot := by
  refine .foldl (fun s p => ?_) _ s
  split
  · split
    · next h => exact State.portEnable_keepsInit h
    · exact .refl s
  · exact .refl s

theorem State.flushQ_keepsInit (s : State) (q : QId) : KeepsInit s (s.flushQ q) := .of_eq rfl rfl

theorem State.subApply_keepsInit (s : State) (n : Nat) (b : Octets) : KeepsInit s (s.subApply n b) := by
  unfold State.subApply
  extract_lets u v
  have hv : KeepsInit s v := .of_eq rfl rfl
  exact (hv.trans (v.flushQ_keepsInit _)).trans (State.flushQ_keepsInit ..)

theorem State.subsAtBoot_keepsInit (s : State) : KeepsInit s s.subsAtBoot :=
  .foldl (fun s _ => .ite (.refl s) (s.subApply_keepsInit ..)) _ s

theorem State.modSync_keepsInit (s : State) (f : Sync → Sync) : KeepsInit s (s.modSync f) := .of_eq rfl rfl

theorem State.initBegin_keepsInit (s : State) : KeepsInit s s.initBegin := by
  unfold State.initBegin
  extract_lets v
  have hv : KeepsInit s v :=
    (((((((s.keysAtBoot_keepsInit.trans (State.ringAtBoot_keepsInit _)).trans (State.leaseConfig_keepsInit _)).trans
      (State.modelAtBoot_keepsInit _)).trans (State.learnedAtBoot_keepsInit _)).trans (State.cpsAtBoot_keepsInit _)).trans
      (State.portsAtBoot_keepsInit _)).trans (State.subsAtBoot_keepsInit _))
  split
  · exact hv
  · exact hv.trans (v.modSync_keepsInit _)

/-! ## Training and the decision (R538, R539) -/

theorem State.applySaved_power (s : State) : s.applySaved.power = s.power := by
  have h1 : ∀ (v : State) (k : Nat) (x : Val), (v.applySaved1 k x).power = v.power := by
    intro v k x
    unfold State.applySaved1
    split
    · rfl
    · split
      · rfl
      · exact State.post_power ..
  have hl : ∀ (l : Tab Val) (v : State), (l.foldl (fun s e => s.applySaved1 e.1 e.2) v).power = v.power := fun l v =>
    foldl_of_step (R := fun s u => u.power = s.power) (fun _ => rfl) (fun h k => k.trans h) (fun s e => h1 s e.1 e.2) l v
  unfold State.applySaved
  extract_lets d v
  have hv : v.power = s.power := by
    change (if s.cal.valid = true then s else _).power = s.power
    split <;> rfl
  split
  · exact (v.keepLost_keepsInit 3).power.trans hv
  · next l _ =>
    extract_lets w
    have hw : w.power = s.power := (hl l v).trans hv
    split
    · exact hw
    · exact hw

theorem State.keepChecked_power (s : State) : s.keepChecked.power = s.power := by
  unfold State.keepChecked
  extract_lets v
  have hv : KeepsInit s v := .ite (s.keepLost_keepsInit 8) (.refl s)
  exact (KeepsInit.ite (hv.trans (v.keepLost_keepsInit 9)) hv).power

/-- The decision leaves the device in WARM_INIT or COLD_INIT, its request answered. -/
theorem State.decideRestart_spec (s : State) : s.decideRestart.power.trained = s.power.trained ∧ s.decideRestart.power.restartReq = 0 ∧
    (s.decideRestart.dev.state = .warmInit ∨ s.decideRestart.dev.state = .coldInit) := by
  unfold State.decideRestart
  extract_lets v w why x
  have hw : w.power = s.power := by
    have hk : KeepsInit v (if v.keep.control.read.isNone then v.keepLost 8 else v) := .ite (v.keepLost_keepsInit 8) (.refl v)
    exact ((State.keepChecked_power _).trans hk.power).trans s.applySaved_power
  have hx : x.power.trained = s.power.trained ∧ x.power.restartReq = 0 := ⟨(congrArg Power.trained hw : w.power.trained = _), rfl⟩
  have hi := (x.enter (if why = 0 then .warmInit else .coldInit)).initBegin_keepsInit
  have hst : (x.enter (if why = 0 then .warmInit else .coldInit)).dev.state = .warmInit ∨
      (x.enter (if why = 0 then .warmInit else .coldInit)).dev.state = .coldInit := by
    rw [State.enter_state]
    split
    · exact .inl rfl
    · exact .inr rfl
  rw [hi.power, State.enter_power, hi.state hst]
  exact ⟨hx.1, hx.2, hst⟩

/-- The subsoil trained, with the refresh band it gives and the slots of the keep store that fail (R538). -/
def State.trainedAt (s : State) (temp : Int) (raised : Bool) (bad : List (Nat × Nat)) : State :=
  ((s.modPower (fun p => { p with trainTries := p.trainTries + 1, trained := true })).modHealth (fun h =>
    { h with refreshBand := min 3 (refreshOf temp + b2n raised), bandRaised := raised })).keepBad bad

theorem does_subsoilTrained {t : Nat} {temp : Int} {raised : Bool} {bad : List (Nat × Nat)} {s : State} (hl : s.live .mem t)
    (hs : s.dev.state = .selftest) (hh : s.power.halted = false) (hb : s.power.bisted = true) (ht : s.power.trained = false) :
    Does (.subsoilTrained t true temp raised bad) s (fun u =>
      u.power.trained = true ∧ (u.dev.state = .warmInit ∨ u.dev.state = .coldInit) ∧ u.power.restartReq = 0) ∧
    (s.power.trainTries = 2 → Does (.subsoilTrained t false temp raised bad) s (fun u =>
      u.power.halted = true ∧ u.power.trained = false ∧ u.dev.state = .selftest)) ∧
    (s.power.trainTries < 2 → Does (.subsoilTrained t false temp raised bad) s (fun u =>
      u = { s.advance t with power := u.power } ∧ u.power.trainTries = s.power.trainTries + 1 ∧ u.power.halted = false)) := by
  have hc : (s.advance t).dev.state = .selftest ∧ (s.advance t).power.bisted = true ∧ ¬ (s.advance t).power.halted = true ∧
      ¬ (s.advance t).power.trained = true :=
    ⟨hs, hb, by rw [State.advance_power, hh]; decide, by rw [State.advance_power, ht]; decide⟩
  refine ⟨does_onIsland_rest (u := ((s.advance t).trainedAt temp raised bad).decideRestart) rfl hl ((if_pos hc).trans (if_pos rfl))
    fun v hp hd _ => ?_, fun h2 =>
    does_onIsland_rest rfl hl ((if_pos hc).trans ((if_neg Bool.false_ne_true).trans (if_neg (show ¬ s.power.trainTries + 1 < 3 by omega))))
      fun v hp hd _ => ?_,
    fun h2 => does_onIsland_eq (u := (s.advance t).modPower (fun p => { p with trainTries := p.trainTries + 1, trained := false })) rfl hl
      ((if_pos hc).trans (if_pos (show s.power.trainTries + 1 < 3 by omega))) rfl rfl ⟨rfl, rfl, hh⟩⟩
  · obtain ⟨htr, hreq, hst⟩ := ((s.advance t).trainedAt temp raised bad).decideRestart_spec
    rw [hp, hd]
    exact ⟨htr, hst, hreq⟩
  · rw [hp, hd, State.post_power, State.post_dev]
    exact ⟨rfl, rfl, hs⟩

/-! ## The end of initialisation (R536) -/

/-- The clock is that of `s`. -/
def KeepsClk (s u : State) : Prop := u.clk = s.clk

namespace KeepsClk

theorem refl (s : State) : KeepsClk s s := rfl

theorem trans {s u w : State} (h : KeepsClk s u) (k : KeepsClk u w) : KeepsClk s w := Eq.trans k h

theorem ite {s u v : State} {p : Prop} [Decidable p] (hu : KeepsClk s u) (hv : KeepsClk s v) : KeepsClk s (if p then u else v) := by
  split
  · exact hu
  · exact hv

theorem foldl {α : Type} {f : State → α → State} (h : ∀ s x, KeepsClk s (f s x)) (l : List α) (s : State) : KeepsClk s (l.foldl f s) :=
  foldl_of_step refl trans h l s

theorem of_post (s : State) (i : Island) (c u : Nat) (a : List EvArg) : KeepsClk s (s.post i c u a) := s.post_clk i c u a

theorem of_dev_keep (s : State) (d : Dev) (k : Keep) : KeepsClk s { s with dev := d, keep := k } := rfl

theorem of_keep (s : State) (k : Keep) : KeepsClk s { s with keep := k } := rfl

theorem of_heat (s : State) (h : Heat) : KeepsClk s { s with heat := h } := rfl

theorem of_modDisp (s : State) (f : Disp → Disp) : KeepsClk s (s.modDisp f) := rfl

theorem of_modLogic (s : State) (f : Logic → Logic) : KeepsClk s (s.modLogic f) := rfl

theorem of_setCp (s : State) (c : Nat) (v : CpMeter) : KeepsClk s (s.setCp c v) := rfl

end KeepsClk

theorem State.keepLost_keepsClk (s : State) (r : Nat) : KeepsClk s (s.keepLost r) :=
  .trans (.of_post s .mem Code.keepRecordLost 0 _) (State.setCause_clk ..)

theorem State.retHit_keepsClk (s : State) (l : List (Nat × Nat × Nat)) : KeepsClk s (s.retHit l) := by
  refine .foldl (fun s x => ?_) l s
  split <;> exact rfl

theorem State.critPut_keepsClk (s : State) (kind i : Nat) (b : Octets) : KeepsClk s (s.critPut kind i b) := by
  unfold State.critPut
  split
  · split
    · exact rfl
    · split <;> exact rfl
  · exact rfl
  · exact rfl
  · exact rfl
  · split <;> exact rfl
  · split <;> exact rfl

theorem State.energyLost_keepsClk (s : State) (i : Nat) : KeepsClk s (s.energyLost i) := by
  unfold State.energyLost
  extract_lets m q v
  have hv : KeepsClk s v := by
    unfold v
    split
    · exact rfl
    · split
      · exact rfl
      · split <;> exact rfl
  exact hv

theorem State.closeSession_keepsClk (s : State) (n c : Nat) : KeepsClk s (s.closeSession n c) := by
  refine .trans (u := s.freeSession n) ?_ (.of_post ..)
  unfold State.freeSession
  split <;> exact rfl

theorem State.leaseForgotten_keepsClk (s : State) : KeepsClk s s.leaseForgotten :=
  .ite (.refl s) (.trans (u := s.modLease (·.lost 0)) rfl (s.leaseLost_keepsLease 0).core.clk)

theorem State.criticalAct_keepsClk (s : State) (c : CritRead) : KeepsClk s (s.criticalAct c) := by
  unfold State.criticalAct
  split
  · exact s.energyLost_keepsClk _
  · exact rfl
  · exact s.leaseForgotten_keepsClk
  · exact .ite (s.closeSession_keepsClk ..) (.refl s)
  · exact .ite (.of_modDisp ..) (.of_modLogic ..)
  · exact .ite (.of_dev_keep ..) ((KeepsClk.of_setCp s _ _).trans (.of_keep ..))

theorem State.rebuiltCause_keepsClk (s : State) : KeepsClk s s.rebuiltCause := State.setCause_clk _ 5 true

theorem State.critReads_keepsClk (s : State) (l : List CritRead) : KeepsClk s (s.critReads l) := by
  refine .foldl (fun s c => ?_) l s
  unfold State.critRead
  split
  · exact .ite (.refl s) (s.critPut_keepsClk ..)
  · exact .trans (.trans (.of_post s .house Code.criticalLost 0 _) (State.rebuiltCause_keepsClk _)) (State.criticalAct_keepsClk ..)

theorem State.putRegs_keepsClk (s : State) (e p : Tab Nat) (r : EnergyRec) : KeepsClk s (s.putRegs e p r) := rfl

theorem State.restoreEnergy_keepsClk (s : State) : KeepsClk s s.restoreEnergy := by
  unfold State.restoreEnergy
  split
  · exact s.keepLost_keepsClk 4
  · refine .trans ?_ (.of_post ..)
    exact (s.putRegs_keepsClk ..).trans (.of_heat ..)

theorem State.startProgram_keepsClk (s : State) (w : Bool) : KeepsClk s (s.startProgram w) := by
  unfold State.startProgram
  split <;> exact rfl

theorem State.logicRestart_keepsClk (s : State) (warm : Bool) : KeepsClk s (s.logicRestart warm) := by
  unfold State.logicRestart
  split
  · extract_lets v
    have hv : KeepsClk s v := (KeepsClk.of_modLogic s _).trans (State.keepLost_keepsClk ..)
    exact .ite (hv.trans (v.keepLost_keepsClk 7)) hv
  · extract_lets p l v cold
    have hv : KeepsClk s v := .of_modLogic s _
    have hcold : ∀ w : State, KeepsClk w (cold w) := fun w => .ite (w.startProgram_keepsClk false) (.refl w)
    split
    · exact (hv.trans (v.keepLost_keepsClk 7)).trans (hcold _)
    · extract_lets w x
      have hw : KeepsClk s w := hv.trans (.of_modLogic v _)
      have hx : KeepsClk s x := hw.trans (.of_modLogic w _)
      refine .ite (hw.trans (hcold w)) (.ite ?_ (.ite (hx.trans (x.startProgram_keepsClk true)) (hx.trans (.of_modLogic x _))))
      exact (hw.trans (w.startProgram_keepsClk false)).trans (.of_post ..)

theorem State.readmitAtRestart_keepsClk (s : State) (n : Nat) : KeepsClk s (s.readmitAtRestart n) := by
  unfold State.readmitAtRestart
  extract_lets l s0 bad
  split
  · exact .refl s
  · split
    · exact rfl
    · exact .trans (u := s0) rfl (.of_post ..)

theorem State.setVal_keepsClk (s : State) (i j : Nat) (v : Val) : KeepsClk s (s.setVal i j v) := rfl

theorem State.setLoop_keepsClk (s : State) (n : Nat) (l : Loop) : KeepsClk s (s.setLoop n l) := rfl

theorem State.restoreLoop_keepsClk (s : State) (c : LoopCkpt) : KeepsClk s (s.restoreLoop c) := by
  unfold State.restoreLoop
  split
  · exact .refl s
  · exact ((s.setVal_keepsClk ..).trans (State.setLoop_keepsClk ..)).trans (State.readmitAtRestart_keepsClk ..)

theorem State.restoreLoops_keepsClk (s : State) (l : List LoopCkpt) : KeepsClk s (s.restoreLoops l) := by
  refine .foldl (fun s n => ?_) _ s
  split
  · exact s.restoreLoop_keepsClk _
  · exact .refl s

theorem State.restorePlan_keepsClk (s : State) (warm : Bool) : KeepsClk s (s.restorePlan warm) := by
  unfold State.restorePlan
  split
  · exact .refl s
  · split <;> exact rfl

theorem State.restoreControl_keepsClk (s : State) (warm : Bool) : KeepsClk s (s.restoreControl warm) := by
  unfold State.restoreControl
  extract_lets v
  have hv : KeepsClk s v := s.restorePlan_keepsClk warm
  split
  · split
    · exact hv.trans (v.restoreLoops_keepsClk _)
    · exact hv
  · exact hv

theorem State.haltCause_keepsClk (s : State) : KeepsClk s s.haltCause := .ite (.refl s) rfl

theorem State.ivAtBoot_keepsClk (s : State) : KeepsClk s s.ivAtBoot := rfl

theorem State.refrainFor_keepsClk (s : State) (x l tR : Nat) : KeepsClk s (s.refrainFor x l tR) := rfl

/-- What the lease does at the entry to RUN leaves the clock and the device registers. -/
theorem State.leaseAtRun_keeps (s : State) : s.leaseAtRun.clk = s.clk ∧ s.leaseAtRun.dev = s.dev := by
  unfold State.leaseAtRun
  split
  · exact ⟨rfl, rfl⟩
  · extract_lets v
    exact foldl_of_step (R := fun s u => u.clk = s.clk ∧ u.dev = s.dev) (f := fun s x => s.refrainFor x s.lease.l s.lease.tR)
      (fun _ => ⟨rfl, rfl⟩) (fun h k => ⟨k.1.trans h.1, k.2.trans h.2⟩) (fun s x => ⟨rfl, rfl⟩) v.mates v

/-- At the end of initialisation the causes of a hold take an operating device to SAFE_HOLD, and it is up either way (R47). -/
theorem State.holdAtRun_spec {s : State} (h : s.operating = true) : s.holdAtRun.clk = s.clk ∧ s.holdAtRun.up = true := by
  unfold State.holdAtRun
  extract_lets v
  have hv : v.clk = s.clk ∧ v.operating = true := by
    change (if bitOf s.power.straps.cfg 2 = true then s.holdBit 1 true else s).clk = _ ∧
      (if bitOf s.power.straps.cfg 2 = true then s.holdBit 1 true else s).operating = _
    split
    · exact ⟨rfl, h⟩
    · exact ⟨rfl, h⟩
  split
  · have hk := (v.enter .safeHold).ctrlHold_keepsCore
    refine ⟨hk.clk.trans ((State.enter_clk ..).trans hv.1), ?_⟩
    rw [State.up, State.operating, State.holding, hk.dev, State.enter_state]
    rfl
  · exact ⟨hv.1, by rw [State.up, hv.2, Bool.true_or]⟩

/-- READY: the device is up and its checkpoints count from this moment. -/
theorem State.runEntry_spec (s : State) : s.runEntry.up = true ∧ s.runEntry.power.checkpointAt = s.now := by
  unfold State.runEntry
  extract_lets v
  have hop : (s.enter (if s.dev.degraded = 0 then .run else .degraded)).leaseAtRun.operating = true := by
    rw [State.operating, (State.leaseAtRun_keeps _).2, State.enter_state]
    split <;> rfl
  obtain ⟨hclk, hup⟩ := State.holdAtRun_spec hop
  have hvclk : v.clk = s.clk := hclk.trans ((State.leaseAtRun_keeps _).1.trans (State.enter_clk ..))
  have hk : KeepsCore v (if v.operating then v.deliver else v) := .ite v.deliver_keepsCore (.refl v)
  refine ⟨?_, congrArg Clk.raw hvclk⟩
  change (if v.operating = true then v.deliver else v).up = true
  rw [State.up, State.operating, State.holding, hk.dev]
  exact hup

theorem State.initDone_spec (s : State) (ret : List (Nat × Nat × Nat)) (crit : List CritRead) :
    (s.initDone ret crit).up = true ∧ (s.initDone ret crit).power.checkpointAt = s.now := by
  unfold State.initDone
  extract_lets warm
  obtain ⟨hup, hat⟩ := State.runEntry_spec
    ((((((s.retHit ret).critReads crit).restoreEnergy).logicRestart warm).haltCause).restoreControl warm).ivAtBoot
  have hk : KeepsClk s ((((((s.retHit ret).critReads crit).restoreEnergy).logicRestart warm).haltCause).restoreControl warm).ivAtBoot :=
    ((((((s.retHit_keepsClk ret).trans (State.critReads_keepsClk ..)).trans (State.restoreEnergy_keepsClk _)).trans
      (State.logicRestart_keepsClk ..)).trans (State.haltCause_keepsClk _)).trans (State.restoreControl_keepsClk ..)).trans
      (State.ivAtBoot_keepsClk _)
  exact ⟨hup, hat.trans (congrArg Clk.raw hk)⟩

theorem does_initDone {t : Nat} {ret : List (Nat × Nat × Nat)} {crit : List CritRead} {s : State} (hl : s.live .house t)
    (hs : s.dev.state = .coldInit ∨ s.dev.state = .warmInit) (ho : (s.advance t).lockOver = true) :
    Does (.initDone t ret crit) s (fun u => u.ready = true ∧ u.power.checkpointAt = (s.advance t).now) := by
  have hc : ((s.advance t).dev.state = .coldInit ∨ (s.advance t).dev.state = .warmInit) ∧ (s.advance t).lockOver = true := ⟨hs, ho⟩
  exact does_onIsland_rest rfl hl (if_pos hc) fun v hp hd _ => by
    rw [hp, State.ready, State.up, State.operating, State.holding, hd]
    exact (s.advance t).initDone_spec ret crit

/-! ## Saves (R542, R544) -/

theorem State.remapSector_keepsCore (s : State) (n : Nat) : KeepsCore s (s.remapSector n) := (s.remapSector_keepsBooks n).core

theorem State.pfailRelease_power (s : State) : s.pfailRelease.power = s.power := by
  unfold State.pfailRelease
  split
  · rfl
  · next x _ =>
    extract_lets v
    have hv : v.power = s.power := (s.leaseLost_keepsLease 0).core.power
    exact (v.redSend_keepsLease _).core.power.trans hv

/-- A fall of `PFAIL_N` on a device that is up starts a save of trigger 1 at its moment. -/
theorem does_pfail {t : Nat} {remaps : List Nat} {s : State} (hl : s.live .house t) (hp : s.power.pfailN = true) (hu : s.up = true)
    (hs : s.power.saving = false) :
    Does (.pfail t remaps) s (fun u =>
      u.power.saving = true ∧ u.power.pfailN = false ∧ u.power.saveTrigger = 1 ∧ u.power.saveT0 = (s.advance t).clk.dev ∧
      u.power.jobsHeld = true) := by
  have hc : (s.advance t).power.pfailN = true ∧ ((s.advance t).modPower (fun p => { p with pfailN := false })).up = true ∧
      ¬ ((s.advance t).modPower (fun p => { p with pfailN := false })).power.saving = true :=
    ⟨hp, hu, fun h => Bool.false_ne_true (hs.symm.trans h)⟩
  have hk : KeepsCore ((s.advance t).modPower (fun p => { p with pfailN := false }))
      (remaps.foldl State.remapSector ((s.advance t).modPower (fun p => { p with pfailN := false }))) :=
    .foldl State.remapSector_keepsCore remaps _
  refine does_onIsland_rest rfl hl (if_pos hc) fun v hv _ _ => ?_
  rw [hv, State.pfailRelease_power, State.post_power, State.saveStart_power, hk.power, hk.clk]
  exact ⟨rfl, rfl, rfl, rfl, rfl⟩

/-- The power state but the count of records. -/
def Power.SameSave (p q : Power) : Prop := ∃ r, q = { p with saveRecords := r }

theorem State.saveRecord_power (s : State) (k : Nat) : s.power.SameSave (s.saveRecord k).power := by
  refine ⟨k + 1, ?_⟩
  unfold State.saveRecord
  extract_lets v
  split
  · split <;> rfl
  · rfl
  · rfl
  · rfl

theorem State.saveUpTo_power (s : State) (n : Nat) : s.power.SameSave (s.saveUpTo n).power :=
  foldl_of_step (R := fun s u => s.power.SameSave u.power) (fun s => ⟨s.power.saveRecords, rfl⟩)
    (fun ⟨_, h⟩ ⟨r, k⟩ => ⟨r, by rw [k, h]⟩) State.saveRecord_power _ s

/-- With nothing that waited, a save ends without more than its flags (R544). -/
theorem State.saveDeferred_none {s : State} (hi : s.power.deferIv = []) (hc : s.power.deferClear = false) :
    s.saveDeferred = s.modPower (fun p => { p with deferIv := [], deferClear := false }) := by
  simp only [State.saveDeferred, hi, hc, List.foldl_nil, Bool.false_eq_true, if_false]

/-- The end of a power-fail save lets the supplies go (R544). -/
theorem State.saveEnd_spec {s : State} (x : Straps) (h0 : s.power.saveThen = 0) (hp : s.power.pfailN = false)
    (hi : s.power.deferIv = []) (hd : s.power.deferClear = false) :
    (s.saveEnd x).power.saving = false ∧ (s.saveEnd x).power.saved = true := by
  obtain ⟨r, hr⟩ := s.saveUpTo_power 4
  unfold State.saveEnd
  extract_lets v y z
  have hv : v.power.saveThen = 0 ∧ v.power.pfailN = false ∧ v.power.deferIv = [] ∧ v.power.deferClear = false ∧ v.power.saving = false := by
    change (s.saveUpTo 4).power.saveThen = 0 ∧ (s.saveUpTo 4).power.pfailN = false ∧ (s.saveUpTo 4).power.deferIv = [] ∧
      (s.saveUpTo 4).power.deferClear = false ∧ false = false
    rw [hr]
    exact ⟨h0, hp, hi, hd, rfl⟩
  obtain ⟨hv0, hvp, hvi, hvd, hvs⟩ := hv
  have hy : y = v.modPower (fun p => { p with deferIv := [], deferClear := false }) := State.saveDeferred_none hvi hvd
  have hy0 : y.power.saveThen = 0 := by rw [hy]; exact hv0
  have hzp : z.power.pfailN = false := by
    change y.power.pfailN = false
    rw [hy]
    exact hvp
  rw [if_neg (by rw [hv0]; decide), if_neg (by rw [hy0]; decide), if_neg (by rw [hzp]; decide)]
  refine ⟨?_, rfl⟩
  change y.power.saving = false
  rw [hy]
  exact hvs

theorem does_saveComplete {t : Nat} {x : Straps} {s : State} (hl : s.live .house t) (hs : s.power.saving = true)
    (h0 : s.power.saveThen = 0) (hp : s.power.pfailN = false) (hi : s.power.deferIv = []) (hd : s.power.deferClear = false) :
    Does (.saveComplete t x) s (fun u => u.power.saving = false ∧ u.power.saved = true) := by
  refine does_onIsland_rest rfl hl (if_pos hs) fun u hu _ _ => ?_
  rw [hu]
  exact State.saveEnd_spec (s := s.advance t) x h0 hp hi hd

theorem does_pfailRecovered {t : Nat} {s : State} (hl : s.live .house t) (hd : s.power.saved = true) (hs : s.power.saving = false)
    (hu : s.up = true) :
    Does (.pfailRecovered t) s (fun u => u.power.pfailN = true ∧ u.power.jobsHeld = false ∧ u.power.saved = false) := by
  have hc : ((s.advance t).modPower (fun p => { p with pfailN := true })).power.saved = true ∧
      ¬ ((s.advance t).modPower (fun p => { p with pfailN := true })).power.saving = true ∧
      ((s.advance t).modPower (fun p => { p with pfailN := true })).up = true :=
    ⟨hd, fun h => Bool.false_ne_true (hs.symm.trans h), hu⟩
  refine does_onIsland_rest rfl hl (if_pos hc) fun v hv _ _ => ?_
  rw [hv, State.pfailRecover, State.post_power]
  exact ⟨rfl, rfl, rfl⟩

/-- The device with a new control record, which counts the period of the next from now. -/
def State.checkpointed (s : State) : State := s.writeControl.modPower (fun p => { p with checkpointAt := s.now })

theorem does_checkpointWrite {t : Nat} {s : State} (hl : s.live .house t) (hu : s.up = true) (hs : s.power.saving = false)
    (hc : s.power.checkpointAt + s.nat 0x5001 7 * 1000000000 ≤ (s.advance t).now) :
    Does (.checkpointWrite t) s (fun u =>
      u = { s.advance t with keep := u.keep, power := u.power } ∧
      u.keep.control = s.keep.control.write (s.advance t).controlRec ∧ u.power.checkpointAt = (s.advance t).now) := by
  have hn : (s.advance t).nat 0x5001 7 = s.nat 0x5001 7 := rfl
  rw [← hn] at hc
  refine does_onIsland_eq (u := (s.advance t).checkpointed) rfl hl (if_pos ⟨hu, fun h => Bool.false_ne_true (hs.symm.trans h), hc⟩) rfl rfl
    ⟨rfl, rfl, rfl⟩

/-- Settles O41, command by command. -/
theorem bootAndSaveCommands : Obligations.BootAndSaveCommands :=
  ⟨fun _ _ _ _ hl hb hh h => does_firmwareVerified hl hb hh h, fun _ _ _ _ hl hs hh hb => does_quickBistDone hl hs hh hb,
    fun _ _ _ _ _ hl hs hh hb ht => does_subsoilTrained hl hs hh hb ht, fun _ _ _ _ hl hs ho => does_initDone hl hs ho,
    fun _ _ _ hl hp hu hs => does_pfail hl hp hu hs, fun _ _ _ hl hs h0 hp hi hd => does_saveComplete hl hs h0 hp hi hd,
    fun _ _ hl hd hs hu => does_pfailRecovered hl hd hs hu, fun _ _ hl hu hs hc => does_checkpointWrite hl hu hs hc⟩

end Machine
end Sys2Proof
end

section
/-! SUPPORT. Pops of the capture queue (R262, R410): a poisoned trace record is lost and counted in its probe, and a state in which the
frame that the statement of the queues gives such a pop fails. -/

namespace Sys2Proof
namespace Machine

theorem State.popQ_keepsCore (s : State) (q : QId) : KeepsCore s (s.popQ q) := ⟨rfl, rfl, rfl, rfl⟩

/-- A poisoned trace record at the front of the capture queue leaves, and its probe counts it as lost (R262, R410). -/
theorem State.captureTake_poisoned {s : State} {p : Octet} {r : Octets} (h : s.frontQ .capture = some (.raw (p :: r), true)) :
    s.captureTake = (s.popQ .capture).setProbe p.toNat
      { (s.popQ .capture).probe p.toNat with lost := ((s.popQ .capture).probe p.toNat).lost + 1, gap := true } := by
  rw [State.captureTake, h]

/-- A pop of the capture queue at a poisoned record counts the record in its probe. -/
theorem does_capturePop_poisoned {t : Nat} {s : State} {p : Octet} {r : Octets} (hl : s.live .mem t)
    (h : (s.advance t).frontQ .capture = some (.raw (p :: r), true)) :
    Does (.queuePop t .capture false []) s (fun u => (u.probe p.toNat).lost = (s.probe p.toNat).lost + 1) := by
  have hsome : ¬ ((s.advance t).frontQ .capture).isNone = true := by simp [h]
  refine does_onUnit_of_keepsCore (f := fun v => if (v.frontQ .capture).isNone then v.popQ .capture else v.captureTake) rfl rfl hl
    ((if_neg hsome).trans (State.captureTake_poisoned h)) ?_ ?_
  · exact (State.popQ_keepsCore ..).trans (State.setProbe_keepsCore ..)
  · exact congrArg Probe.lost (State.setProbe_probe_self ..)

/-- A device in RUN whose capture queue holds one record, of probe 0, which a spill burst has poisoned. -/
def poisonedCapture : State :=
  { State.reset with
    dev := { state := .run }
    net := { State.reset.net with qs := [(26, { wp := 1, wpS := 1, head := [(.raw [0], true)] })] } }

/-- Its record is at the front. -/
theorem poisonedCapture_front : (poisonedCapture.advance 0).frontQ .capture = some (.raw [0], true) := by decide

/-- Refutes O30: its clause on the capture queue has a pop change the queues and the draws alone, whatever entry is at the front. Where
that entry is poisoned, as in `poisonedCapture`, the pop also counts it as lost in its probe (R262, R410). -/
theorem not_queueCommands : ¬ Obligations.QueueCommands := by
  unfold Obligations.QueueCommands
  intro h
  have hl : poisonedCapture.live .mem 0 := by decide
  obtain ⟨-, -, -, hcapture, -⟩ := h 0 .capture (.raw []) poisonedCapture rfl
  obtain ⟨u, hu, hframe, -⟩ := hcapture rfl hl (by rw [poisonedCapture_front]; rfl)
  obtain ⟨v, hv, hlost⟩ := does_capturePop_poisoned hl poisonedCapture_front
  obtain rfl : u = v := by simpa using hu.symm.trans hv
  have hctrl : u.ctrl = poisonedCapture.ctrl := (congrArg State.ctrl hframe).trans (State.advance_ctrl poisonedCapture 0)
  have hsame : u.probe 0 = poisonedCapture.probe 0 := by rw [State.probe, hctrl]; rfl
  rw [show ((0 : Octet).toNat) = 0 from rfl, hsame] at hlost
  omega

end Machine
end Sys2Proof
end

section
/-! SUPPORT. Session PDUs (R387–R390): what an event leaves of the sessions and keys, how the server comes to an OPEN, a CONFIRM or a
CLOSE, and what each makes of its context; then the statement about them. -/

namespace Sys2Proof
namespace Machine

/-! ## An event leaves the sessions -/

/-- The core, the sessions, the key slots and the health of the random numbers of `u` are those of `s`. -/
structure KeepsSessions (s u : State) : Prop where
  core : KeepsCore s u
  sess : u.net.sess = s.net.sess
  keys : u.net.keys = s.net.keys
  rng : u.net.rngFailed = s.net.rngFailed

namespace KeepsSessions

theorem refl (s : State) : KeepsSessions s s := ⟨.refl s, rfl, rfl, rfl⟩

theorem trans {s u w : State} (h : KeepsSessions s u) (k : KeepsSessions u w) : KeepsSessions s w :=
  ⟨h.core.trans k.core, k.sess.trans h.sess, k.keys.trans h.keys, k.rng.trans h.rng⟩

theorem of_ledger (s : State) (l : Ledger) : KeepsSessions s { s with ledger := l } := ⟨⟨rfl, rfl, rfl, rfl⟩, rfl, rfl, rfl⟩

theorem session {s u : State} (h : KeepsSessions s u) (n : Nat) : u.session n = s.session n :=
  congrArg (fun l => Tab.get ({} : Session) l n) h.sess

end KeepsSessions

theorem State.readLocal_keepsSessions (s : State) (i : Island) : KeepsSessions s (s.readLocal i) :=
  ⟨⟨rfl, rfl, rfl, rfl⟩, rfl, rfl, rfl⟩

theorem State.pushQ_keepsSessions (s : State) (q : QId) (x : QItem) : KeepsSessions s (s.pushQ q x) :=
  ⟨s.pushQ_keepsCore q x, rfl, rfl, rfl⟩

theorem State.pushEv_keepsSessions (s : State) (i : Island) (c u : Nat) (a : List EvArg) (e : EvEdge) :
    KeepsSessions s (s.pushEv i c u a e) := (s.readLocal_keepsSessions i).trans (State.pushQ_keepsSessions ..)

theorem State.gapEv_keepsSessions (s : State) (i : Island) : KeepsSessions s (s.gapEv i) := by
  unfold State.gapEv
  split
  · exact (s.pushEv_keepsSessions ..).trans (.of_ledger ..)
  · exact .refl s

/-- An event that is posted, or lost, leaves every session. -/
theorem State.post_keepsSessions (s : State) (i : Island) (c u : Nat) (a : List EvArg) : KeepsSessions s (s.post i c u a) := by
  refine (s.gapEv_keepsSessions i).trans ?_
  unfold State.post State.postE
  generalize s.gapEv i = v
  simp only []
  split
  · exact v.pushEv_keepsSessions ..
  · exact .of_ledger ..

/-! ## Contexts that are freed -/

theorem State.freeSession_keepsCore (s : State) (n : Nat) : KeepsCore s (s.freeSession n) := by
  unfold State.freeSession
  split <;> exact ⟨rfl, rfl, rfl, rfl⟩

/-- A context that is freed is FREE (R389). -/
theorem State.freeSession_state (s : State) (n : Nat) : ((s.freeSession n).session n).state = .free := by
  unfold State.freeSession
  split
  · next h => subst h; exact congrArg Session.state ((State.modSess_session ..).trans (if_pos rfl))
  · exact congrArg Session.state ((s.modSess_session n n fun _ => {}).trans (if_pos rfl))

theorem State.closeSession_keepsCore (s : State) (n c : Nat) : KeepsCore s (s.closeSession n c) :=
  (s.freeSession_keepsCore n).trans (State.post_keepsCore ..)

/-- A session that is closed leaves its context FREE. -/
theorem State.closeSession_state (s : State) (n c : Nat) : ((s.closeSession n c).session n).state = .free :=
  (congrArg Session.state ((State.post_keepsSessions ..).session n)).trans (s.freeSession_state n)

/-! ## What a request's way to the server leaves -/

theorem OnlyNet.keepsCore {s u : State} (h : OnlyNet s u) : KeepsCore s u := by
  rw [h]
  exact ⟨rfl, rfl, rfl, rfl⟩

/-- A state as a request finds it on its way to the server: of the device only the network part differs, of that only the buckets and the
idle time of the sessions. -/
structure Admitted (s v : State) : Prop where
  only : OnlyNet s v
  keys : v.net.keys = s.net.keys
  rng : v.net.rngFailed = s.net.rngFailed
  session : ∀ n, ∃ tk ta rr id, v.session n = { s.session n with tokens := tk, tokenAt := ta, rateRefused := rr, idleSince := id }

namespace Admitted

theorem refl (s : State) : Admitted s s := ⟨.rfl' s, rfl, rfl, fun _ => ⟨_, _, _, _, rfl⟩⟩

theorem trans {s u w : State} (h : Admitted s u) (k : Admitted u w) : Admitted s w := by
  refine ⟨h.only.trans k.only, k.keys.trans h.keys, k.rng.trans h.rng, fun n => ?_⟩
  obtain ⟨_, _, _, _, hu⟩ := h.session n
  obtain ⟨_, _, _, _, hw⟩ := k.session n
  exact ⟨_, _, _, _, by rw [hw, hu]⟩

/-- A change of the bucket or the idle time of one context. -/
theorem of_modSess (s : State) (n : Nat) {f : Session → Session}
    (h : ∀ x, ∃ tk ta rr id, f x = { x with tokens := tk, tokenAt := ta, rateRefused := rr, idleSince := id }) :
    Admitted s (s.modSess n f) := by
  refine ⟨State.modSess_net .., rfl, rfl, fun m => ?_⟩
  rw [State.modSess_session]
  split
  · next hm => subst hm; exact h _
  · exact ⟨_, _, _, _, rfl⟩

variable {s v : State} (h : Admitted s v)
include h

theorem core : KeepsCore s v := h.only.keepsCore

/-- A field that is neither of the bucket nor the idle time is as it was. -/
theorem field {β : Type} (f : Session → β) (n : Nat)
    (hf : ∀ (x : Session) (tk ta rr id : Nat), f { x with tokens := tk, tokenAt := ta, rateRefused := rr, idleSince := id } = f x := by
      intros; rfl) : f (v.session n) = f (s.session n) := by
  obtain ⟨_, _, _, _, e⟩ := h.session n
  rw [e, hf]

theorem keySlot (k : Nat) : v.keySlot k = s.keySlot k := congrArg (fun l => Tab.get none l k) h.keys

theorem slotKey (n : Nat) : v.slotKey n = s.slotKey n := by rw [State.slotKey, State.slotKey, h.field Session.slot, h.keySlot]

theorem now : v.now = s.now := congrArg Clk.raw h.core.clk

theorem pathServed (p : Peer) : v.pathServed p = s.pathServed p := by
  simp only [State.pathServed, State.booting, h.core.dev]

theorem booting : v.booting = s.booting := by simp only [State.booting, h.core.dev]

end Admitted

theorem State.takeToken_admitted (s : State) (r : Req) : Admitted s (s.takeToken r).1 := by
  unfold State.takeToken
  split
  · exact .refl s
  · simp only []
    split <;> exact .of_modSess s _ fun _ => ⟨_, _, _, _, rfl⟩

theorem State.turn_admitted (s : State) (r : Req) : Admitted s (s.turn r) :=
  (s.takeToken_admitted r).trans (.of_modSess _ _ fun _ => ⟨_, _, _, _, rfl⟩)

/-! ## The server comes to a session PDU -/

/-- The specifiers of session PDUs are served by chapter 13. -/
theorem State.serveCs_session (s : State) {r : Req} (h : 0x10 ≤ r.pdu.cs) : s.serveCs r = s.serveSession r := by
  unfold State.serveCs
  split
  case h_8 => rfl
  all_goals omega

/-- A request of a context, at the server: no repeat, so it is served, remembered and answered (R63). -/
theorem State.serveIn_new {s : State} {r : Req} {w : State} {v : Reply} (h : ((s.turn r).session r.ctx).lastReq ≠ some r)
    (hs : (s.turn r).serveCs r = ⟨w, v⟩) : (s.takeToken r).1.serveIn r = (w.remember r v).reply r v ((s.turn r).owedKey r) := by
  have ht : (s.takeToken r).1.modSess r.ctx (fun x => { x with idleSince := (s.takeToken r).1.now }) = s.turn r := by
    rw [State.turn, (s.takeToken_admitted r).now]
  simp only [State.serveIn, ht, if_neg h, hs]

/-- A request with a token, on a path that is served, comes to the server. -/
theorem State.access_served_path {s : State} {r : Req} (hp : s.pathServed r.src = true) (ht : (s.takeToken r).2 = true) :
    s.access r = if r.net then (s.takeToken r).1.serveNet r else (s.takeToken r).1.serveHost r := by
  have hq : (s.takeToken r).1.pathServed r.src = true := ((s.takeToken_admitted r).pathServed _).trans hp
  simp only [State.access, State.serveReq, hp, hq, ht, not_true_eq_false, if_false, if_true]

/-- A host request after initialisation has begun is one of context 0 (R77). -/
theorem State.access_host {s : State} {r : Req} (hsrc : r.src = .host) (hb : s.booting = false) (ht : (s.takeToken r).2 = true) :
    s.access r = (s.takeToken r).1.serveIn r := by
  have hn : r.net = false := by simp [Req.net, hsrc]
  have hq : (s.takeToken r).1.booting = false := (s.takeToken_admitted r).booting.trans hb
  rw [State.access_served_path (by rw [hsrc]; rfl) ht, hn, State.serveHost, hq]
  rfl

/-- An OPEN or CONFIRM of a network path is served outside any session (R387). -/
theorem State.access_sessionPdu {s w : State} {r : Req} {v : Reply} (hsrc : r.src ≠ .host) (hp : s.pathServed r.src = true)
    (ht : (s.takeToken r).2 = true) (hm : r.malformed = false) (hi : r.pdu.isSession = true) (hc : r.pdu.cs ≠ 0x12)
    (hs : (s.takeToken r).1.serveSession r = ⟨w, v⟩) : s.access r = w.reply r v 0 := by
  rw [State.access_served_path hp ht, if_pos (by simp [Req.net, hsrc])]
  simp [State.serveNet, hm, hi, hc, hs]

/-- A CLOSE of a network path by the session's partner belongs to the session. -/
theorem State.access_close {s : State} {r : Req} (hsrc : r.src ≠ .host) (hp : s.pathServed r.src = true)
    (ht : (s.takeToken r).2 = true) (hm : r.malformed = false) (ha : (s.takeToken r).1.authentic r = true) (hc : r.pdu.cs = 0x12)
    (hi : r.pdu.index = 0) : s.access r = (s.takeToken r).1.serveIn r := by
  have hf : (s.takeToken r).1.firstLoad r r.pdu.index r.pdu.sub = false := by simp [State.firstLoad, keyWrapped, hi]
  rw [State.access_served_path hp ht, if_pos (by simp [Req.net, hsrc])]
  simp [State.serveNet, hm, ha, hc, hf]

/-- An access that sends a reply from a state completes with that state's contexts. -/
theorem does_session {c : Instr} {t k n : Nat} {r : Req} {s w : State} {v : Reply} {P : Session → Prop}
    (he : exec c s = accessCmd t r s) (hl : s.live .house t) (hu : (s.advance t).access r = w.reply r v k)
    (hw : KeepsCore (s.advance t) w) (h : P (w.session n)) : Does c s (fun u => P (u.session n)) := by
  have hn := w.reply_net r v k
  refine does_onIsland_eq he hl hu ?_ ?_ ?_
  · rw [hn]; exact hw.pending
  · rw [hn]; exact congrArg Clk.raw hw.clk
  · rw [State.reply_session]; exact h

/-- A session PDU that belongs to a context completes with what the server made of it, but for what is remembered of it (R63). -/
theorem does_sessionIn {c : Instr} {t n : Nat} {r : Req} {s w : State} {v : Reply} {P : Session → Prop}
    (he : exec c s = accessCmd t r s) (hl : s.live .house t)
    (hu : (s.advance t).access r = ((s.advance t).takeToken r).1.serveIn r) (hnew : (((s.advance t).turn r).session r.ctx).lastReq ≠ some r)
    (hc : 0x10 ≤ r.pdu.cs) (hs : ((s.advance t).turn r).serveSession r = ⟨w, v⟩) (hw : KeepsCore ((s.advance t).turn r) w)
    (h : ∀ q b k, P { w.session n with lastReq := q, lastResp := b, accepted := k }) : Does c s (fun u => P (u.session n)) := by
  have hserve := State.serveIn_new hnew ((State.serveCs_session _ hc).trans hs)
  refine does_session he hl (hu.trans hserve) ?_ ?_
  · exact ((State.turn_admitted ..).core.trans hw).trans (State.remember_net ..).keepsCore
  · obtain ⟨q, b, k, hx⟩ := w.remember_session r v n
    rw [hx]
    exact h q b k

/-! ## An OPEN (R388–R390) -/

/-- A context in OPENING for an OPEN with octets `b`, from `src`, at the moment `now`. -/
structure Session.Entered (x : Session) (src : Peer) (b : Octets) (now : Nat) : Prop where
  state : x.state = .opening
  peer : x.peer = src
  slot : x.slot = u8At b 0
  partner : x.partner = u32At b 4
  nc : x.nc = slice b 8 16
  since : x.openingSince = now

/-- The context that an OPEN takes is closed where it is open, and freed. -/
def State.vacate (s : State) (n : Nat) : State := State.freeSession (if (s.session n).state = .opened then s.closeSession n 5 else s) n

theorem State.vacate_keepsCore (s : State) (n : Nat) : KeepsCore s (s.vacate n) :=
  (KeepsCore.ite (s.closeSession_keepsCore n 5) (.refl s)).trans (State.freeSession_keepsCore ..)

/-- What a context that enters OPENING holds (R389). -/
def State.entered (s : State) (src : Peer) (k : KeySlot) (b : Octets) (x : Session) : Session :=
  { x with
    state := .opening, peer := src, partner := u32At b 4, slot := u8At b 0, role := k.role, nc := slice b 8 16, nd := s.nonce,
    openingSince := s.now }

theorem State.enterOpening_state (s : State) (n : Nat) (src : Peer) (k : KeySlot) (b : Octets) :
    (s.enterOpening n src k b).s = ((s.vacate n).modSess n ((s.vacate n).entered src k b)).draw := rfl

/-- The context that an OPEN takes enters OPENING, and the answer is good. -/
theorem State.enterOpening_does (s : State) (n : Nat) (src : Peer) (k : KeySlot) (b : Octets) :
    (s.enterOpening n src k b).code = 0 ∧ KeepsCore s (s.enterOpening n src k b).s ∧
      ((s.enterOpening n src k b).s.session n).Entered src b s.now := by
  have hv := s.vacate_keepsCore n
  rw [s.enterOpening_state]
  generalize s.vacate n = v at hv
  refine ⟨rfl, hv.trans ⟨rfl, rfl, rfl, rfl⟩, ?_⟩
  have hx : (v.modSess n (v.entered src k b)).draw.session n = v.entered src k b (v.session n) :=
    (v.modSess_session n n (v.entered src k b)).trans (if_pos rfl)
  rw [hx]
  exact ⟨rfl, rfl, rfl, rfl, rfl, congrArg Clk.raw hv.clk⟩

theorem Ans.served_good {a : Ans} (h : a.code = 0) : a.served = ⟨a.s, .good 0 a.data⟩ := if_pos h

/-- An OPEN with a good slot, whose partner fits, enters OPENING in context 0 for the host and in the one R390 picks for a network source. -/
theorem State.openReq_good {s : State} {src : Peer} {b : Octets} {k : KeySlot} {n : Nat} (hr : s.net.rngFailed = false)
    (hb : u8At b 0 < 64) (hk : s.keySlot (u8At b 0) = some k) (hu : bitOf k.usage 0 = true)
    (hp : k.partner = 0 ∨ k.partner = u32At b 4) (hn : src = .host ∧ n = 0 ∨ src ≠ .host ∧ s.pickContext = some n) :
    s.openReq src b = s.enterOpening n src k b := by
  have hfit : ¬ (k.partner ≠ 0 ∧ k.partner ≠ u32At b 4) := by tauto
  have hb' : ¬ 63 < u8At b 0 := by omega
  simp only [State.openReq, hr, hk, hu, hfit, hb', not_true_eq_false, or_self, if_false, Bool.false_eq_true]
  rcases hn with ⟨rfl, rfl⟩ | ⟨hsrc, hpick⟩
  · rfl
  · rw [if_neg hsrc, hpick]

/-- The octets of an OPEN: key slot, partner and client nonce. -/
def openOctets (slot partner : Nat) (nonce : Octets) : Octets := leBytes 1 slot ++ zeros 3 ++ leBytes 4 partner ++ nonce

theorem openOctets_length (slot partner : Nat) {nonce : Octets} (h : nonce.length = 16) : (openOctets slot partner nonce).length = 24 := by
  simp [openOctets, leBytes_length, zeros, h]

theorem u8At_openOctets {slot : Nat} (partner : Nat) (nonce : Octets) (h : slot < 256) : u8At (openOctets slot partner nonce) 0 = slot :=
  leNat_leBytes 1 slot h

theorem u32At_openOctets (slot : Nat) {partner : Nat} (nonce : Octets) (h : partner < 4294967296) :
    u32At (openOctets slot partner nonce) 4 = partner := leNat_leBytes 4 partner h

theorem slice_openOctets (slot partner : Nat) {nonce : Octets} (h : nonce.length = 16) :
    slice (openOctets slot partner nonce) 8 16 = nonce := List.take_of_length_le (l := nonce) (le_of_eq h)

/-- The server makes of a good OPEN a context in OPENING. -/
theorem State.serveSession_open {s : State} {r : Req} {slot partner n : Nat} {nonce : Octets} {k : KeySlot} (hc : r.pdu.cs = 0x10)
    (hd : r.pdu.data = openOctets slot partner nonce) (hl : nonce.length = 16) (hslot : slot < 64) (hpartner : partner < 4294967296)
    (hr : s.net.rngFailed = false) (hk : s.keySlot slot = some k) (hu : bitOf k.usage 0 = true)
    (hp : k.partner = 0 ∨ k.partner = partner) (hn : r.src = .host ∧ n = 0 ∨ r.src ≠ .host ∧ s.pickContext = some n) :
    ∃ w v, s.serveSession r = ⟨w, v⟩ ∧ KeepsCore s w ∧ (w.session n).Entered r.src (openOctets slot partner nonce) s.now := by
  have h8 : u8At (openOctets slot partner nonce) 0 = slot := u8At_openOctets partner nonce (by omega)
  have h32 : u32At (openOctets slot partner nonce) 4 = partner := u32At_openOctets slot nonce hpartner
  have hopen : s.openReq r.src (openOctets slot partner nonce) = s.enterOpening n r.src k (openOctets slot partner nonce) :=
    State.openReq_good hr (by rw [h8]; exact hslot) (by rw [h8]; exact hk) hu (by rw [h32]; exact hp) hn
  obtain ⟨hcode, hcore, hx⟩ := s.enterOpening_does n r.src k (openOctets slot partner nonce)
  have hserve : s.serveSession r = (s.openReq r.src (openOctets slot partner nonce)).served := by
    simp [State.serveSession, hc, hd, openOctets_length slot partner hl, sessionLength]
  rw [hopen] at hserve
  exact ⟨_, _, hserve.trans (Ans.served_good hcode), hcore, hx⟩

/-! ## A CONFIRM (R388, R389) -/

/-- A CONFIRM of the context's peer with the right proof opens the session. -/
theorem State.confirmReq_good {s : State} {n : Nat} {src : Peer} {p : Pdu} {k : Octets} (hst : (s.session n).state = .opening)
    (hpeer : (s.session n).peer = src) (hk : s.slotKey n = some k)
    (hproof : p.data = trunc96 (hmac k (proofMsg "PXO2" (s.session n).nd (s.session n).nc n (s.session n).partner))) :
    s.confirmReq n src p = { s := s.opened n k p } := by
  simp only [State.confirmReq, hst, hpeer, hk, hproof, ne_eq, not_true_eq_false, if_false, if_true]

/-- The server makes of a good CONFIRM an open session. -/
theorem State.serveSession_confirm {s : State} {r : Req} {k : Octets} (hc : r.pdu.cs = 0x11) (hd : r.pdu.data.length = 12)
    (hn : r.src ≠ .host → r.pdu.session ≠ 0) (hst : (s.session r.ctx).state = .opening) (hpeer : (s.session r.ctx).peer = r.src)
    (hk : s.slotKey r.ctx = some k)
    (hproof : r.pdu.data =
      trunc96 (hmac k (proofMsg "PXO2" (s.session r.ctx).nd (s.session r.ctx).nc r.ctx (s.session r.ctx).partner))) :
    s.serveSession r = ⟨s.opened r.ctx k r.pdu, .good 0 []⟩ := by
  have hsrc : ¬ (r.net = true ∧ r.pdu.session = 0) := fun h => hn (of_decide_eq_true h.1) h.2
  have hserve : s.serveSession r = (s.confirmReq r.ctx r.src r.pdu).served := by
    simp [State.serveSession, hc, hd, sessionLength, hsrc]
  rw [hserve, State.confirmReq_good hst hpeer hk hproof]
  exact Ans.served_good rfl

/-- An open session starts at counter 0, with the key of its nonces. -/
theorem State.opened_session (s : State) (n : Nat) (k : Octets) (p : Pdu) :
    ((s.opened n k p).session n).state = .opened ∧ ((s.opened n k p).session n).counter = 0 ∧
      ((s.opened n k p).session n).key = hmac k (proofMsg "PXS1" (s.session n).nc (s.session n).nd n (s.session n).partner) := by
  rw [State.opened, State.modSess_session, if_pos rfl]
  exact ⟨rfl, rfl, rfl⟩

theorem State.opened_keepsCore (s : State) (n : Nat) (k : Octets) (p : Pdu) : KeepsCore s (s.opened n k p) := (State.modSess_net ..).keepsCore

/-! ## A CLOSE (R389) -/

/-- A trailer that passes leaves the core. -/
theorem State.trailer_keepsCore {s : State} {n cs idx sub : Nat} {p : Pdu} {b : Octets} {x : Bool}
    (h : (s.trailer n cs p idx sub b x).2 = 0) : KeepsCore s (s.trailer n cs p idx sub b x).1 := by
  unfold State.trailer at h ⊢
  split at h
  · exact .refl s
  · split_ifs at h ⊢
    exact OnlyNet.keepsCore (s.modSess_net n (fun v => { v with fails := 0, counter := _ }))

/-- The server makes of a CLOSE without data, with a good trailer, a FREE context. -/
theorem State.serveSession_close {s : State} {r : Req} (hc : r.pdu.cs = 0x12) (hd : r.pdu.data = [])
    (hn : r.src ≠ .host → s.authentic r = true) (h : (s.trailer r.ctx 0x12 r.pdu 0 0 [] true).2 = 0) :
    ∃ w v, s.serveSession r = ⟨w, v⟩ ∧ KeepsCore s w ∧ (w.session r.ctx).state = .free := by
  have hsrc : ¬ (r.net = true ∧ ¬ s.authentic r = true) := fun k => k.2 (hn (of_decide_eq_true k.1))
  have hserve : s.serveSession r = (s.closeReq r.ctx r.pdu).served := by
    rw [State.serveSession, if_pos hc, State.serveClose, if_neg hsrc]
  have hclose : s.closeReq r.ctx r.pdu = { s := (s.trailer r.ctx 0x12 r.pdu 0 0 [] true).1.closeSession r.ctx 0 } := by
    simp [State.closeReq, hd, h]
  rw [hclose] at hserve
  exact ⟨_, _, hserve.trans (Ans.served_good rfl), (State.trailer_keepsCore h).trans (State.closeSession_keepsCore ..),
    State.closeSession_state ..⟩

/-! ## The PDUs of the commands -/

/-- The request of a CAN access has the class that its PDU needs (R70). -/
theorem Acc.req_wrongClass (a : Acc) (p : Pdu) : (a.req p).wrongClass = false := by
  obtain ⟨src, session, tag, crit⟩ := a
  cases src <;> simp [Acc.req, Req.wrongClass]

/-- An OPEN as its command sends it is well formed (R387). -/
theorem open_wellFormed (src : Peer) (tag slot partner : Nat) (nonce : Octets) :
    (Acc.req { src := src, session := 0, tag := tag, crit := none }
      (Acc.pdu { src := src, session := 0, tag := tag, crit := none } 0x10 0 0 0 (openOctets slot partner nonce))).malformed = false := by
  have hz : slice (openOctets slot partner nonce) 1 3 = zeros 3 := rfl
  have hlen : min 3 ((openOctets slot partner nonce).length - 1) = 3 := by simp [openOctets, leBytes_length, zeros]
  simp [Req.malformed, Acc.req_wrongClass, Pdu.badSession, Pdu.isSession, Pdu.crit, csDefined, Acc.pdu, b2n, hz, hlen, bitOf_zero]

/-- A CONFIRM without a trailer is well formed. -/
theorem confirm_wellFormed {a : Acc} (proof : Octets) (h : a.crit = none) : (a.req (a.pdu 0x11 0 0 0 proof)).malformed = false := by
  simp [Req.malformed, Acc.req_wrongClass, Pdu.badSession, Pdu.isSession, Pdu.crit, csDefined, Acc.pdu, b2n, h, bitOf_zero]

/-! ## The commands of sessions -/

/-- A host request that is no repeat is still none when the server comes to it. -/
theorem State.turn_lastReq {s : State} {t n : Nat} {r q : Req} (h : (s.session n).lastReq ≠ some q) :
    (((s.advance t).turn r).session n).lastReq ≠ some q := by
  rw [((s.advance t).turn_admitted r).field Session.lastReq n]
  exact h

/-- An OPEN of the host with a good slot enters OPENING (R389, R390). -/
theorem does_openHost {t tag slot partner : Nat} {nonce : Octets} {a : Acc} {r : Req} {k : KeySlot} {s : State} (hl : s.live .house t)
    (ha : a = { src := .host, session := 0, tag := tag, crit := none }) (hr : r = a.req (a.pdu 0x10 0 0 0 (openOctets slot partner nonce)))
    (hb : s.booting = false) (ht : ((s.advance t).takeToken r).2 = true) (hlen : nonce.length = 16) (hslot : slot < 64)
    (hpartner : partner < 4294967296) (hrng : s.net.rngFailed = false) (hlast : (s.session 0).lastReq ≠ some r)
    (hk : s.keySlot slot = some k) (hu : bitOf k.usage 0 = true) (hp : k.partner = 0 ∨ k.partner = partner) :
    Does (.openSession t .host tag slot partner nonce) s
      (fun u => (u.session 0).Entered .host (openOctets slot partner nonce) (s.advance t).now) := by
  subst ha
  have hadm := (s.advance t).turn_admitted r
  have hsrc : r.src = .host := by rw [hr]; rfl
  have hcs : r.pdu.cs = 0x10 := by rw [hr]; rfl
  obtain ⟨w, v, hs, hw, hx⟩ := ((s.advance t).turn r).serveSession_open (r := r) (n := 0) hcs (by rw [hr]; rfl) hlen hslot
    hpartner (hadm.rng.trans hrng) ((hadm.keySlot slot).trans hk) hu hp (.inl ⟨hsrc, rfl⟩)
  have hctx : r.ctx = 0 := if_pos hsrc
  refine does_sessionIn (r := r) (n := 0) (P := fun x => x.Entered .host (openOctets slot partner nonce) (s.advance t).now) (by rw [hr]; rfl)
    hl ((s.advance t).access_host hsrc hb ht) (by rw [hctx]; exact State.turn_lastReq hlast) hcs.ge hs hw fun q b n => ?_
  rw [hsrc, hadm.now] at hx
  exact ⟨hx.state, hx.peer, hx.slot, hx.partner, hx.nc, hx.since⟩

/-- An OPEN of a network source with a good slot enters OPENING in the context that R390 picks. -/
theorem does_openNet {t tag slot partner n : Nat} {nonce : Octets} {src : Peer} {a : Acc} {r : Req} {k : KeySlot} {s : State}
    (hl : s.live .house t) (hsrc : src ≠ .host) (ha : a = { src := src, session := 0, tag := tag, crit := none })
    (hr : r = a.req (a.pdu 0x10 0 0 0 (openOctets slot partner nonce))) (hpath : s.pathServed src = true)
    (ht : ((s.advance t).takeToken r).2 = true) (hlen : nonce.length = 16) (hslot : slot < 64) (hpartner : partner < 4294967296)
    (hrng : s.net.rngFailed = false) (hk : s.keySlot slot = some k) (hu : bitOf k.usage 0 = true)
    (hp : k.partner = 0 ∨ k.partner = partner) (hpick : ((s.advance t).takeToken r).1.pickContext = some n) :
    Does (.openSession t src tag slot partner nonce) s
      (fun u => (u.session n).Entered src (openOctets slot partner nonce) (s.advance t).now) := by
  subst ha
  have hadm := (s.advance t).takeToken_admitted r
  have hrs : r.src = src := by rw [hr]; rfl
  have hcs : r.pdu.cs = 0x10 := by rw [hr]; rfl
  obtain ⟨w, v, hs, hw, hx⟩ := ((s.advance t).takeToken r).1.serveSession_open (r := r) (n := n) hcs (by rw [hr]; rfl) hlen
    hslot hpartner (hadm.rng.trans hrng) ((hadm.keySlot slot).trans hk) hu hp (.inr ⟨hrs ▸ hsrc, hpick⟩)
  have hacc := (s.advance t).access_sessionPdu (hrs ▸ hsrc) (hrs ▸ hpath) ht (by rw [hr]; exact open_wellFormed ..) (by rw [hr]; rfl)
    (by omega) hs
  rw [hrs, hadm.now] at hx
  exact does_session (r := r) (P := fun x => x.Entered src (openOctets slot partner nonce) (s.advance t).now) (by rw [hr]; rfl) hl hacc
    (hadm.core.trans hw) hx

/-- What a session is as it opens with key `k` in context `n`, which was `x` (R388). -/
structure Session.OpenedFrom (x : Session) (n : Nat) (k : Octets) (y : Session) : Prop where
  state : y.state = .opened
  counter : y.counter = 0
  key : y.key = hmac k (proofMsg "PXS1" x.nc x.nd n x.partner)

/-- A CONFIRM with the right proof opens the session (R388, R389). -/
theorem does_confirm {t : Nat} {a : Acc} {proof k : Octets} {r : Req} {s : State} (hl : s.live .house t)
    (hr : r = a.req (a.pdu 0x11 0 0 0 proof)) (hhost : a.src = .host → s.booting = false ∧ (s.session 0).lastReq ≠ some r)
    (hnet : a.src ≠ .host → s.pathServed a.src = true ∧ a.session ≠ 0 ∧ a.crit = none)
    (ht : ((s.advance t).takeToken r).2 = true) (hlen : proof.length = 12) (hst : (s.session a.ctx).state = .opening)
    (hpeer : (s.session a.ctx).peer = a.src) (hk : s.slotKey a.ctx = some k)
    (hproof : proof = trunc96 (hmac k (proofMsg "PXO2" (s.session a.ctx).nd (s.session a.ctx).nc a.ctx (s.session a.ctx).partner))) :
    Does (.confirmSession t a proof) s (fun u => (s.session a.ctx).OpenedFrom a.ctx k (u.session a.ctx)) := by
  have hctx : r.ctx = a.ctx := by rw [hr]; rfl
  have hrs : r.src = a.src := by rw [hr]; rfl
  have hcs : r.pdu.cs = 0x11 := by rw [hr]; rfl
  have he : exec (.confirmSession t a proof) s = accessCmd t r s := by rw [hr]; rfl
  have hserve : ∀ v, Admitted (s.advance t) v → v.serveSession r = ⟨v.opened r.ctx k r.pdu, .good 0 []⟩ ∧
      (s.session a.ctx).OpenedFrom a.ctx k ((v.opened r.ctx k r.pdu).session a.ctx) := by
    intro v hv
    have hnd : (v.session a.ctx).nd = (s.session a.ctx).nd := hv.field Session.nd _
    have hnc : (v.session a.ctx).nc = (s.session a.ctx).nc := hv.field Session.nc _
    have hpartner : (v.session a.ctx).partner = (s.session a.ctx).partner := hv.field Session.partner _
    refine ⟨State.serveSession_confirm hcs (by rw [hr]; exact hlen) (fun h => ?_) ?_ ?_ ?_ ?_, ?_⟩
    · rw [hr]; exact (hnet (hrs ▸ h)).2.1
    · rw [hctx]; exact (hv.field Session.state _).trans hst
    · rw [hctx, hrs]; exact (hv.field Session.peer _).trans hpeer
    · rw [hctx]; exact (hv.slotKey _).trans hk
    · rw [hctx, hnd, hnc, hpartner, ← hproof, hr]; rfl
    · rw [hctx]
      obtain ⟨hstate, hcounter, hkey⟩ := v.opened_session a.ctx k r.pdu
      exact ⟨hstate, hcounter, by rw [hkey, hnc, hnd, hpartner]⟩
  by_cases hsrc : a.src = .host
  · obtain ⟨hb, hlast⟩ := hhost hsrc
    obtain ⟨hs, hx⟩ := hserve _ (State.turn_admitted _ r)
    have hzero : r.ctx = 0 := if_pos (hrs.trans hsrc)
    exact does_sessionIn (P := (s.session a.ctx).OpenedFrom a.ctx k) he hl ((s.advance t).access_host (hrs.trans hsrc) hb ht)
      (by rw [hzero]; exact State.turn_lastReq hlast) (by omega) hs (State.opened_keepsCore ..)
      fun q b n => ⟨hx.state, hx.counter, hx.key⟩
  · obtain ⟨hpath, -, hcrit⟩ := hnet hsrc
    obtain ⟨hs, hx⟩ := hserve _ (State.takeToken_admitted _ r)
    have hacc := (s.advance t).access_sessionPdu (hrs ▸ hsrc) (hrs ▸ hpath) ht (by rw [hr]; exact confirm_wellFormed proof hcrit)
      (by rw [hr]; rfl) (by omega) hs
    exact does_session (P := (s.session a.ctx).OpenedFrom a.ctx k) he hl hacc
      ((State.takeToken_admitted ..).core.trans (State.opened_keepsCore ..)) hx

/-- A CLOSE that comes to its context with a good trailer frees it (R389). -/
theorem does_close {t : Nat} {a : Acc} {r : Req} {s : State} (hl : s.live .house t) (hr : r = a.req (a.pdu 0x12 0 0 0 []))
    (hu : (s.advance t).access r = ((s.advance t).takeToken r).1.serveIn r)
    (hnew : (((s.advance t).turn r).session r.ctx).lastReq ≠ some r)
    (hn : r.src ≠ .host → ((s.advance t).turn r).authentic r = true)
    (htr : (((s.advance t).turn r).trailer r.ctx 0x12 r.pdu 0 0 [] true).2 = 0) :
    Does (.closeSession t a) s (fun u => (u.session r.ctx).state = .free) := by
  have hcs : r.pdu.cs = 0x12 := by rw [hr]; rfl
  obtain ⟨w, v, hs, hw, hx⟩ := ((s.advance t).turn r).serveSession_close hcs (by rw [hr]; rfl) hn htr
  exact does_sessionIn (P := fun x => x.state = .free) (by rw [hr]; rfl) hl hu hnew (by omega) hs hw fun _ _ _ => hx

/-- A session of its requester is so still as its turn comes. -/
theorem State.turn_authentic {s : State} {r : Req} (h : (s.takeToken r).1.authentic r = true) : (s.turn r).authentic r = true := by
  have hadm : Admitted (s.takeToken r).1 (s.turn r) := .of_modSess _ _ fun _ => ⟨_, _, _, _, rfl⟩
  rw [State.authentic, hadm.field Session.state, hadm.field Session.peer]
  exact h

/-- Settles O9: each session PDU comes to the server with its context as it was but for bucket and idle time (`Admitted`), and what the
server makes of it is one context's change (`State.enterOpening_does`, `State.opened_session`, `State.closeSession_state`). -/
theorem sessionCommands : Obligations.SessionCommands := by
  unfold Obligations.SessionCommands
  refine ⟨?_, ?_, ?_, ?_, ?_, ?_, ?_⟩
  · intro t tag slot partner nonce a r k s hl ha hr hb ht hlen hslot hpartner hrng hlast hk hu hp
    obtain ⟨u, hu, hx⟩ := does_openHost hl ha hr hb ht hlen hslot hpartner hrng hlast hk hu hp
    exact ⟨u, hu, hx.state, hx.slot.trans (u8At_openOctets _ _ (by omega)), hx.partner.trans (u32At_openOctets _ _ hpartner),
      hx.nc.trans (slice_openOctets _ _ hlen), hx.since⟩
  · intro t tag slot partner n nonce src a r k s hl hsrc ha hr hpath ht hlen hslot hpartner hrng hk hu hp hpick
    obtain ⟨u, hu, hx⟩ := does_openNet hl hsrc ha hr hpath ht hlen hslot hpartner hrng hk hu hp hpick
    exact ⟨u, hu, hx.state, hx.peer, hx.slot.trans (u8At_openOctets _ _ (by omega)), hx.nc.trans (slice_openOctets _ _ hlen)⟩
  · intro t a proof k r s hl hr hhost hnet ht hlen hst hpeer hk hproof
    obtain ⟨u, hu, hx⟩ := does_confirm hl hr hhost hnet ht hlen hst hpeer hk hproof
    exact ⟨u, hu, hx.state, hx.counter, hx.key⟩
  · rintro t a c r s v hl hr hsrc - hb ht rfl hlast htr
    have hrs : r.src = .host := by rw [hr]; exact hsrc
    have hzero : r.ctx = 0 := if_pos hrs
    have hturn : (s.advance t).turn r = ((s.advance t).takeToken r).1.modSess 0 (fun x => { x with idleSince := (s.advance t).now }) := by
      rw [State.turn, hzero]
    rw [← hturn] at htr
    have h := does_close hl hr (State.access_host hrs hb ht) (by rw [hzero]; exact State.turn_lastReq hlast) (fun h => absurd hrs h)
      (by rw [hzero]; exact htr)
    rwa [hzero] at h
  · rintro t a r s v hl hr hsrc hpath ht hm ha rfl hlast htr
    have hrs : r.src = a.src := by rw [hr]; rfl
    have hctx : r.ctx = a.session := by rw [hr]; exact if_neg hsrc
    have h := does_close hl hr (State.access_close (hrs ▸ hsrc) (hrs ▸ hpath) ht hm ha (by rw [hr]; rfl) (by rw [hr]; rfl))
      (by rw [hctx]; exact hlast) (fun _ => State.turn_authentic ha) (by rw [hctx]; exact htr)
    rwa [hctx] at h
  · intro t n s hn hl hst htime
    exact does_onUnit_of_keepsCore rfl (decide_eq_true hn) hl (if_pos ⟨hst, htime⟩) (State.freeSession_keepsCore ..)
      (State.freeSession_state ..)
  · intro t s hl
    have hpost := State.post_keepsSessions { s.advance t with net := { (s.advance t).net with rngFailed := true } } .house Code.rngFault 0 []
    exact does_onIsland_of_keepsCore rfl hl rfl ⟨hpost.core.pending, hpost.core.clk, hpost.core.dev, hpost.core.power⟩
      ⟨hpost.rng, hpost.sess, hpost.keys⟩

end Machine
end Sys2Proof
end
